-- ==== Sys2Proof/Word.lean ====
section
/-!
DEFINITION. The word types of the package: bytes and the little-endian fields of its images, descriptors and
messages (R8). Only the plainest names stand here.
-/

namespace Sys2Proof

abbrev Byte := BitVec 8
abbrev U16 := BitVec 16
abbrev U32 := BitVec 32
abbrev U64 := BitVec 64

/-- A tile number T, 0 to 511 (R6). -/
abbrev TileNo := Fin 512
/-- A package fibre index f, 0 to 63 (R277). -/
abbrev PairNo := Fin 64
/-- An optical engine OEn, 0 to 7 (R277). -/
abbrev EngineNo := Fin 8
/-- A package coordinate in the 14-bit layout of the global address: x in bits 2:0, y in 7:3, z in 13:8 (R347, R352, R360). -/
abbrev Coord := BitVec 14

end Sys2Proof
end

