-- ==== Sys2Proof/Types.lean ====
section
/-!
DEFINITION. The data that commands carry: requests of the Object Dictionary, frame notices, fabric and twin packets,
flits, training records, time messages and submission entries, each with the fields the spec's own tables give it.
-/

set_option Elab.async false

namespace Sys2Proof

/-! ## Management requests (13, 15) -/

/-- The endpoint a management request comes from, coded as `VIA` of the audit entry (R466); host MGMT counts as its own (R461). -/
inductive Via where
  | i3cA | i3cB | vdm | mgmt
  deriving DecidableEq, Repr

/-- The roles, from lowest to highest (R448). -/
inductive Role where
  | anonymous | operator | installer | maker
  deriving DecidableEq, Repr

/-- The header of one dictionary request (R458): its endpoint, tag and session. `bad` says that the message has a reserved
`OPC`, a non-zero reserved bit, or a wrong `OD_VER` or `VID`, the cases of status MALFORMED (R459). -/
structure OdReq where
  via : Via
  tag : U16
  session : U16
  bad : Bool
  deriving DecidableEq, Repr

/-- A key certificate (R508), as the fields its acceptance rests on (R509) and its bytes. -/
structure KeyCert where
  bytes : List Byte
  deriving DecidableEq, Repr

/-! ## Notices (02) -/

/-- The 32-byte body of a frame notice (R80). `rsv` is 1 when a reserved field is non-zero. -/
structure Notice where
  typ : Byte
  ordinal : BitVec 48
  origin : Coord
  tile : U16
  code : U16
  calId : U64
  haltAt : U64
  rsv : Bool
  deriving DecidableEq, Repr

/-! ## Fabric packets (10) -/

/-- A fabric packet (R368): the common header, then the fields of every kind; a kind leaves the fields it has not at zero.
`benables` and `fenables` are the byte and field enables of a store; `aux` is the second address of a Transfer read;
`word0`, `word1` are the atomic's operand words or the old value; `epoch` is that of a release acknowledgement. -/
structure Packet where
  kind : Byte := 0
  prio : Bool := false
  poison : Bool := false
  src : Coord := 0
  srcTile : U16 := 0
  rtag : U16 := 0
  addr : U64 := 0
  len : Nat := 0
  piece : Nat := 0
  pbytes : Nat := 0
  aux : U64 := 0
  benables : BitVec 128 := 0
  fenables : BitVec 512 := 0
  aop : BitVec 4 := 0
  fmt : BitVec 4 := 0
  word0 : U32 := 0
  word1 : U32 := 0
  okind : Byte := 0
  region : Byte := 0
  epoch : U32 := 0
  data : List Byte := []
  rsv : Bool := false
  deriving DecidableEq, Repr

/-! ## Twin packets (11) -/

/-- One entry of a Keep table (R396). -/
structure KeepEntry where
  base : U64
  size : U64
  deriving DecidableEq, Repr

/-- A pairing record (R395, R400): its three parts together. -/
structure PairRec where
  serial : U64
  coord : U16
  keepValid : Bool
  keepTotal : U64
  mirrorSize : U64
  sealed : U64
  table : List KeepEntry
  /-- (model) the Keep table of the frozen copy that the sender holds for the receiver, which a restore adopts (R411); the
  spec does not say how it travels -/
  heldTable : Option (List KeepEntry)
  deriving DecidableEq, Repr

/-- A twin packet (R395). -/
inductive TwinPkt where
  | mirrorWrite (poison : Bool) (epochLow : U16) (addr : U64) (benables : BitVec 128) (data : List Byte)
  | sealMarker (c : U64)
  | sealAck (c : U64)
  | pairing (part : Fin 3) (r : PairRec)
  | rebuildData (phase poison : Bool) (page : Nat) (offset : Nat) (data : List Byte)
  | pageAck (phase : Bool) (page : Nat)
  | departure (sealed : U64)
  | unpairRelease (sealed : U64)
  | unpairKeep (sealed : U64)
  deriving DecidableEq, Repr

/-! ## Time and slice messages (09, 10) -/

/-- A time message (R343): `t1` to `t3` in units of 2^-16 ns (80-bit stamps). -/
structure TimeMsg where
  kind : Byte
  depth : Byte
  root : U16
  gen : U32
  t1 : Nat
  t2 : Nat
  t3 : Nat
  deriving DecidableEq, Repr

/-- A slice record (R357), with the mark of R528 for a package out of service. -/
structure SliceRec where
  seasonId : U64
  origin : U16
  size : U32
  splice : Bool
  coord : Coord
  outOfService : Bool
  deriving DecidableEq, Repr

/-- A link notice (R331): withdrawal, return or Intercalary; `slots` has bit s for fibre slot s; `at` is 0 for at once. -/
structure LinkNotice where
  slots : Byte
  at_ : U64
  deriving DecidableEq, Repr

/-- The kind of a link notice (R331). -/
inductive LinkNoticeKind where
  | withdrawal | return_ | intercalary
  deriving DecidableEq, Repr

/-! ## Flits (09) -/

/-- What a Data flit carries on its virtual channel (R330). -/
inductive Payload where
  | packet (p : Packet)
  | twin (p : TwinPkt)
  | notice (n : Notice)
  | link (k : LinkNoticeKind) (n : LinkNotice)
  | time (m : TimeMsg)
  | slice (r : SliceRec)
  /-- a body that the tables of its virtual channel do not allow: a reserved kind, or a reserved bit or byte that is not zero (R80, R368,
  R395) -/
  | malformed
  deriving DecidableEq, Repr

/-- The counters a Ledger flit snapshots for one virtual channel (R337). -/
structure VcSnap where
  t : Nat
  k : Nat
  c : Nat
  deriving DecidableEq, Repr

/-- The body of a Ledger flit (R337). -/
structure LedgerBody where
  epoch : U32
  phaseId : U32
  calend : U64
  n : U64
  u : U64
  vcs : List VcSnap
  deriving DecidableEq, Repr

/-- The header of a received flit (R322): the space it belongs to, its sequence number, its acknowledgement and its credit
return. `pair` is the fibre pair the flit arrives on; with `carry` the space is that of slot `home` of the same direction. -/
structure FlitHdr where
  pair : PairNo
  carry : Bool
  home : BitVec 3
  rhome : BitVec 3
  rphase : Bool
  seq : U16
  ack : U16
  crVc : Fin 6
  crCount : Byte
  deriving DecidableEq, Repr

/-- A training record (R340). -/
structure TrainRec where
  coord : Coord
  dir : Byte
  slot : BitVec 3
  fibre : Byte
  lowest : BitVec 4
  highest : BitVec 4
  epoch : U32
  serial : U64
  build : U32
  deriving DecidableEq, Repr

/-! ## Host (12) -/

/-- A submission entry's common part (R437). `reserved` says that a reserved or unused byte of the entry is non-zero. -/
structure SqHead where
  ring : Fin 32
  cid : U32
  reserved : Bool
  deriving DecidableEq, Repr

/-- One raw submission entry as Thenil reads it from the host's ring (R437): 64 bytes. -/
structure SqRaw where
  bytes : List Byte
  /-- for an MGMT entry, the request message that lies at `REQ` in host memory (R443) -/
  message : List Byte
  deriving DecidableEq, Repr

/-! ## Numbers (03) -/

/-- An exact dyadic number m * 2^e. -/
structure Dy where
  m : Int
  e : Int
  deriving DecidableEq, Repr

/-- The value of a float: NaN, an infinity with its sign, or a finite number with its sign, magnitude m * 2^e (R99, R100). -/
inductive Val where
  | nan
  | inf (neg : Bool)
  | fin (neg : Bool) (m : Nat) (e : Int)
  deriving DecidableEq, Repr

/-! ## Dies (01) -/

/-- A die announce record (R33). -/
structure AnnounceRec where
  typ : Byte
  pos : Byte
  build : U16
  serial : U64
  flags : U16
  check : U16
  deriving DecidableEq, Repr

/-- The start test's result for one bundle (R25): its bad physical lanes, and whether a clock or valid signal failed (R28). -/
structure LaneTest where
  bundle : Fin 108
  bad : BitVec 68
  clkFail : Bool
  validFail : Bool
  deriving DecidableEq, Repr

/-! ## Store (07) -/

/-- What a channel's read of one word found (R252 to R255). -/
inductive WordRead where
  | clean
  | corrected (symbols : Fin 5)
  | uncorrectable
  deriving DecidableEq, Repr

/-- What a read of a line found in the die cache that is to hold it (R246, R248): the line, without an error or with one that was
corrected; no such line, for it has left the cache; or an uncorrectable error. -/
inductive CacheRead where
  | held
  | corrected
  | missed
  | uncorrectable
  deriving DecidableEq, Repr

/-- What a read of a Store line found: in its home slice, and, where the channel is read, in the line's two words. -/
structure LineRead where
  cache : CacheRead := .held
  w0 : WordRead := .clean
  w1 : WordRead := .clean
  deriving DecidableEq, Repr

/-- What an access to several lines found, by line number within its space; a line that is not listed was held without an error. -/
abbrev LineReads := List (BitVec 27 × LineRead)

end Sys2Proof
end

