-- ==== Sys2Proof/Syntax.lean ====
section
/-!
DEFINITION. The commands of the block, one constructor for each row of the table, in the table's order, with the row's
operands. What the spec leaves to the surroundings (a measured power, a failed lane, the error of a cell) is an operand.
-/

set_option Elab.async false

namespace Sys2Proof

/-- What the calibration of one item sets (R296, R314, R315): for each of its eight rings the calibrated start and its temperature
coefficient, as heater settings and heater settings per 0.125 °C; for a group also the modulator bias, the PAM4 levels, and the
trims of the interferometers on its path, by their number of 36. -/
structure ItemCal where
  rings : List (Int × Int)
  bias : Int
  levels : List Int
  trims : List (Fin 36 × Int)
  deriving DecidableEq, Repr

/-- A ring of an engine: that of line j of receive fibre m is 8 m + j, that of line j of transmit group g is 64 + 8 g + j. -/
abbrev RingNo := Fin 136

/-- What an engine finds at bring-up (R295, R554): the line powers of LP and LS in 0.01 dBm (none: no light), the calibration of its
17 items (R312), the transmit groups whose calibration fails, the receive fibres that show light, and the rings that fail to lock. -/
structure BringUp where
  primary : Option (List Int)
  spare : Option (List Int)
  items : List ItemCal
  groupsFailed : BitVec 9
  lit : BitVec 8
  lockFailed : List RingNo
  deriving DecidableEq, Repr

/-- A marker codeword (R281, R284): the lane word decoded on each line (none: it failed its CHECK or the codeword is
uncorrectable), the own receive input's reading, the receive report's power and lane words, the own transmit-output reading, all in
0.01 dBm, and the waveguide on which the path leaves each of the nine mesh columns (R310), which the mesh's transform decides. -/
structure Marker where
  words : List (Option (BitVec 20))
  ownReceive : Int
  report : List (BitVec 20)
  reportPower : Int
  ownPower : Int
  ways : List (Fin 9)
  deriving DecidableEq, Repr

/-- The commands. -/
inductive Instr where
  /-- VIGIL_PRESENT: The input rises through 18 V, so Vigil's converter starts and the package moves from Off to Standby (R480) -/
  | vigilPresent (retentionOk : Bool)
  /-- COLD_RESET: The input falls below 18 V, which is a Cold reset, or a power cycle when the input stays below 18 V for at least 1 s (R477) -/
  | coldReset (powerCycle : Bool)
  /-- MAIN_RAILS_START: The input rises through 34.5 V, so the FSCs may start and start-up proceeds if the power target is Ready (R475) -/
  | mainRailsStart (slot : BitVec 3)
  /-- UNDERVOLTAGE_LOCKOUT: The input falls through 33.0 V while staying at or above 18 V; the main rails go off and a Warm reset occurs with fault 0x9002 (R476) -/
  | undervoltageLockout
  /-- OVER_VOLTAGE_TRIP: The input stays above 46 V for 10 µs, raising Latched fault 0x9022 and a shutdown (R475) -/
  | overVoltageTrip
  /-- INPUT_OUT_OF_RANGE: The input stays outside 36–44 V but within the running limits for 1 ms, raising Advisory fault 0x9003 once per episode (R475) -/
  | inputOutOfRange
  /-- PERST_N_LOW: PERST_N is driven low, causing a Warm reset; it is ignored in Standby and Latched (R424) -/
  | perstNLow
  /-- REFCLK_FAULT: After step 2, REFCLK is absent or more than 100 ppm off for 10 µs, raising Device-fatal fault 0xC010 (R574) -/
  | refclkFault
  /-- BOOT: Start-up step 2 begins once the diodes are valid, no die is hot and REFCLK has been good for 10 ms; the manifest is accepted and the management core image is verified and started (R552) -/
  | boot (refclk : Bool)
  /-- DISCOVERY: Start-up step 3 runs die discovery, lane test and repair, and verifies the Marshal microcode (R553) -/
  | discovery (tests : List LaneTest)
  /-- DIE_ANNOUNCE: A die announce record arrives and is checked against the manifest and the path of arrival (R35) -/
  | dieAnnounce (e : Fin 81) (r : AnnounceRec)
  /-- DIE_ANNOUNCE_TIMEOUT: An expected die has not answered within 100 ms of training its link, raising fault 0x3020 (R35) -/
  | dieAnnounceTimeout (e : Fin 81)
  /-- STORE_SELF_TEST: Once its compute die has passed discovery, a Store channel runs its self-test, which remaps rows, retires segments and zeros the Store (R260) -/
  | storeSelfTest (i : TileNo) (channelOk : Bool) (badRows : List (Fin 16 × Fin 2048)) (badSpares : List (Fin 16))
  /-- OPTICS_BRING_UP: Start-up step 5: an engine asserts its laser pins, selects an input, calibrates, sets the base mesh and locks its lit fibres (R295) -/
  | opticsBringUp (n : EngineNo) (b : BringUp)
  /-- ENGINE_INPUT_RECHECK: Every 1 s, an engine that is out of service checks for an input below threshold B and returns through bring-up if it finds one (R290) -/
  | engineInputRecheck (n : EngineNo) (b : BringUp)
  /-- RX_LIGHT_APPEAR: Light appears at an unlit or parked receive input; within 100 ms the pair's rings are locked and it trains (R555) -/
  | rxLightAppear (f : PairNo) (failed : BitVec 8)
  /-- READY: Once every Ready condition holds, the package reports Ready, posts an event and begins its first Season (R558) -/
  | readyReport
  /-- CALEND: The Almanac reaches a multiple of 2^k ns, and the frame-boundary actions of every unit take place (R50) -/
  | calend
  /-- OUTCOME_FIXED: LEAD after the completing Calend, the Calendar's outcome is fixed as completed or halted (R90) -/
  | outcomeFixed
  /-- PASS: A Pass entry issues onto an array and computes one matrix product into staging (R128) -/
  | pass (t : TileNo) (w : WordRead)
  /-- STREAM: A Stream entry issues on a Herald to load, store or perform atomics over an address pattern (R266) -/
  | stream (t : TileNo)
  /-- PROCESSION: A Procession entry issues a fixed chain of vector stages over a run of elements (R186) -/
  | procession (t : TileNo)
  /-- MASQUE_RUN: A Masque run entry issues, and its program runs once per beat with a prologue and an epilogue (R190) -/
  | masqueRun (t : TileNo)
  /-- LANTERN_OP: A Lantern op entry issues a row operation: softmax, norm, their backward forms, or a Larder declaration (R203) -/
  | lanternOp (t : TileNo)
  /-- TRANSFER: A Transfer entry issues a push, pull or local copy in pieces (R376) -/
  | transfer (t : TileNo) (reads : LineReads)
  /-- FENCE: A Fence entry records its issue ordinal and waits for earlier write tokens in its scope (R383) -/
  | fence (t : TileNo)
  /-- RELEASE: A release Fence waits for the tile's writes to the region, then sends a release packet (R372) -/
  | release (t : TileNo) (pos : BitVec 12)
  /-- ACQUIRE: An acquire Fence invalidates far-part copies of the region and reads the region's epoch (R373) -/
  | acquire (t : TileNo) (pos : BitVec 12)
  /-- WAIT: A Wait entry issues and does nothing until its NOT_BEFORE time (R65) -/
  | wait (t : TileNo)
  /-- WAIT_COMPLETE: The Almanac reaches C+4·NOT_BEFORE ns, and the Wait entry completes (R65) -/
  | waitComplete (t : TileNo) (pos : BitVec 12)
  /-- TALLY_CHECK: A vector or column Tally check of a pass completes and is judged against its tolerance (R146) -/
  | tallyCheck (t : TileNo) (a : Fin 3) (column : Bool) (i : BitVec 12) (err : Dy)
  /-- ARRAY_PARITY_ERROR: An array control parity error stops the pass with fault 0x1117, and the pass is replayed under R72 (R159) -/
  | arrayParityError (t : TileNo) (a : Fin 3)
  /-- PASS_COMMIT: After its last array cycle, a pass's staging is committed in one step, and the pass completes (R69) -/
  | passCommit (t : TileNo) (a : Fin 3)
  /-- TILE_CLOCK_CHANGE: A pending tile clock change takes effect once all three arrays are idle, and Pass issue resumes (R70) -/
  | tileClockChange (t : TileNo)
  /-- PROJECTION_EVAL: The Marshal re-evaluates its projection P, at events and at least every 256 tile cycles (R78) -/
  | projectionEval (t : TileNo)
  /-- OVERRUN_NOTICE: An overrun notice arrives; it is forwarded and may cause a leap, or raise 0x1010 or 0x1012 (R81) -/
  | overrunNotice (f : PairNo) (n : Notice)
  /-- HALT_NOTICE: A halt notice arrives; it is forwarded and sets the halting Calend, or ends a validating or armed launch (R85) -/
  | haltNotice (f : PairNo) (n : Notice)
  /-- ABORT_NOTICE: An abort notice arrives; it is forwarded and halts, or cancels, the Calendar with that CAL_ID (R93) -/
  | abortNotice (f : PairNo) (n : Notice)
  /-- MARSHAL_HALTED: A Marshal whose in-flight entries have ended reaches STATE 4, and any deferred Tile reset is applied (R92) -/
  | marshalHalted (t : TileNo)
  /-- LAUNCH: The host LAUNCH command names an image and a START, and validation begins (R87) -/
  | launch (h : SqHead) (image start : U64)
  /-- VALIDATION_COMPLETE: Validation finishes: the Calendar is armed, or the launch fails under R89 (R88) -/
  | validationComplete
  /-- STREAM_COMPLETE: A stream's last element is written, or all its acknowledgements have arrived, and the entry completes (R270) -/
  | streamComplete (t : TileNo) (h : Fin 8)
  /-- HERALD_REQUEST: A Herald issues a line request after the rights check of R362, within its DEPTH (R268) -/
  | heraldRequest (t : TileNo) (h : Fin 8) (c : CacheRead) (w : WordRead)
  /-- HERALD_LINE_RETURN: A requested line or acknowledgement returns to the Herald and is written to the near side (R268) -/
  | heraldLineReturn (r : Nat)
  /-- VECTOR_RUN_COMPLETE: Every output port of a vector run has written its last element, and the run completes (R194) -/
  | vectorRunComplete (t : TileNo)
  /-- VMODE_RELOAD_DONE: The control store reload ends 256 tile cycles into a frame whose VMODE changed, and vector entries may issue (R195) -/
  | vmodeReloadDone (t : TileNo)
  /-- VECTOR_ECC_ERROR: A read of a vector register word finds an error, which is corrected (0x1126) or stops the run (0x1127) (R197) -/
  | vectorEccError (t : TileNo) (corrected : Bool)
  /-- VECTOR_RUN_STOP: At a halting Calend, a vector run stops at the end of its current beat and releases its Heralds (R196) -/
  | vectorRunStop (t : TileNo) (beats : BitVec 24)
  /-- LANTERN_OP_COMPLETE: A Lantern op writes its last output, record or accumulator value, and completes (R221) -/
  | lanternOpComplete (t : TileNo) (rows : BitVec 12) (w lw : WordRead)
  /-- LEDGER_FETCH: An absent ledger line is fetched back from the spill area, and the waiting read proceeds (R211) -/
  | ledgerFetch (t : TileNo) (x : LineRead)
  /-- HOME_SLICE_LOAD: A load reaches the line's home slice and is served from the slice or the channel (R246) -/
  | homeSliceLoad (r : Nat) (x : LineRead)
  /-- HOME_SLICE_STORE: A store reaches the home slice, merges by field enable, invalidates far copies and produces any mirror write (R246) -/
  | homeSliceStore (r : Nat) (x : LineRead)
  /-- HOME_SLICE_ATOMIC: An atomic is performed at the home slice and returns the word's old value (R262) -/
  | homeSliceAtomic (r : Nat) (x : LineRead)
  /-- FAR_INVALIDATE_ACK: A die acknowledges the invalidation of its far copy, and the home may acknowledge the write (R46) -/
  | farInvalidateAck (line : BitVec 57) (die : EngineNo)
  /-- ROW_COPY_DONE: The row copy into the spare ends, and access to the row resumes (R256) -/
  | rowCopyDone (row : BitVec 24) (words : List (Fin 16 × WordRead))
  /-- SCRUB: A channel's scrub reads words in bulk slots and writes corrected words back (R254) -/
  | scrub (addr : BitVec 34) (w : WordRead)
  /-- ONCHIP_BLOCK_RECEIVE: An on-chip 64-byte block arrives and is checked by CRC-16, with a re-send or fault 0x2011 on failure (R253) -/
  | onchipBlockReceive (c : TileNo) (path : Fin 8) (herald : Option (TileNo × Fin 8)) (data : List Byte) (crc : U16)
  /-- BUNDLE_BLOCK_RECEIVE: A block arrives across a bundle and is checked; a mismatch asks for a re-send, and 16 failures raise 0x3011 (R21) -/
  | bundleBlockReceive (b : Fin 108) (reverse : Bool) (place : Fin 64) (block : List Byte) (err : BitVec 528)
      (herald : Option (TileNo × Fin 8))
  /-- SEGMENT_MIGRATION_DONE: The line migration after segment retirement ends, and the Season may start (R258) -/
  | segmentMigrationDone
  /-- CODEWORD_RECEIVE: A fibre codeword is decoded and corrected, or passed on uncorrected (R280) -/
  | codewordReceive (f : PairNo) (lines : List (List (BitVec 10)))
  /-- MARKER_CODEWORD: A marker codeword arrives, carrying lane words and a receive report (R281) -/
  | markerCodeword (f : PairNo) (m : Marker)
  /-- PRE_FEC_WINDOW: A 1 ms BER window ends; a fibre above the level is withdrawn and retrained, or taken out of service (R282) -/
  | preFecWindow (f : PairNo)
  /-- LASER_SAMPLE: Vigil's 1 ms laser line sample is filtered and judged against thresholds A and B (R287) -/
  | laserSample (n : EngineNo) (primary spare : List Int)
  /-- LASER_LIGHT_TIMEOUT: An input shows no light 1 s after its pin rose, raising fault 0x4006 once (R286) -/
  | laserLightTimeout (n : EngineNo) (spare : Bool)
  /-- LASER_FADE_TRIP: The threshold C comparator trips, or the error clause is met, on the selected input (R293) -/
  | laserFadeTrip (n : EngineNo)
  /-- PLANNED_SWITCHOVER: A pending planned switchover begins at the engine's Intercalary window, or after 1 s (R292) -/
  | plannedSwitchover (n : EngineNo)
  /-- SWITCHOVER_COMPLETE: Rings are relocked and lane words verified; return notices go out and traffic resumes (R293) -/
  | switchoverComplete (n : EngineNo) (failed : List RingNo)
  /-- RING_LOCK_ATTEMPT: A ring lock attempt ends locked, or is retried, or the ring is failed after three attempts (R297) -/
  | ringLockAttempt (f : PairNo) (transmit : Bool) (line : Fin 8) (heater : Int)
  /-- GROUP_FAULT: A transmit group raises a modulator fault and is replaced by the spare, or its fibres go dark (R301) -/
  | groupFault (n : EngineNo) (g : Fin 9)
  /-- MESH_CHANGE_DONE: The mesh has settled and the far ends have relocked, and the paused fibres resume traffic (R304) -/
  | meshChangeDone (n : EngineNo)
  /-- TRIMMER_UPDATE: The interferometer bias trimmers are updated from the monitors at least every 1 ms (R306) -/
  | trimmerUpdate (n : EngineNo) (readings : List (Fin 17 × Fin 81 × Int)) (trims : List (Fin 36 × Int))
  /-- INTERCALARY_WINDOW_END: IC_SPAN after its opening, the Intercalary window ends and its item's results are taken (R312) -/
  | intercalaryWindowEnd (n : EngineNo) (ok : Bool) (margin : Int) (cal : ItemCal)
  /-- ENGINE_LOST: An EIC or PIC fails in service, and its pairs are withdrawn and carried with fault 0x4050 (R333) -/
  | engineLost (n : EngineNo)
  /-- RX_LIGHT_LOSS: A receive fibre shows no light or no correctable codeword for 10 µs, and the pair is withdrawn (R333) -/
  | rxLightLoss (f : PairNo)
  /-- FLIT_SEND: A fibre slot sends its next flit by the service order, when credit allows (R330) -/
  | flitSend (f : PairNo)
  /-- FLIT_CRC_FAILURE: A flit fails its CRC or has a reserved field; it is discarded and a Nak is sent (R326) -/
  | flitCrcFailure (f : PairNo)
  /-- IDLE_FLIT: An Idle flit arrives, and its ACK is applied (R327) -/
  | idleFlit (h : FlitHdr)
  /-- DATA_FLIT: A sequenced Data flit is accepted, discarded as a duplicate, or Naked; its ACK and credit return are applied (R326) -/
  | dataFlit (h : FlitHdr) (vc : Fin 6) (p : Payload)
  /-- CREDIT_FLIT: A Credit flit is accepted, and its acknowledgement and credit counts are applied (R327) -/
  | creditFlit (h : FlitHdr) (counts : List U16)
  /-- LEDGER_FLIT: A Ledger flit is accepted and checked against the receiver's counters, with 0x5F00 on a mismatch (R337) -/
  | ledgerFlit (h : FlitHdr) (b : LedgerBody)
  /-- NAK: A Nak arrives, and the sender replays the named space from the point it gives (R328) -/
  | nakFlit (h : FlitHdr)
  /-- NAK_REPEAT: E has not advanced 2 µs after the last Nak, so the receiver repeats the Nak (R328) -/
  | nakRepeat (f : PairNo) (phase : Bool)
  /-- REPLAY_TIMEOUT: U has not advanced for 20 µs with flits outstanding, so the sender replays on its own (R328) -/
  | replayTimeout (f : PairNo) (phase : Bool)
  /-- CREDIT_FLIT_DUE: Pending acknowledgements or credits with no sequenced flit to carry them force a Credit flit within 64 slots (R327) -/
  | creditFlitDue (f : PairNo)
  /-- PHASE_FLIT: A Phase flit of a split is accepted in its phase space and acknowledged with RPHASE (R334) -/
  | phaseFlit (h : FlitHdr) (phaseId : U32) (p : Packet) (reads : LineReads)
  /-- TRAIN_FLIT: Train flits carrying the training record are exchanged; identity is checked, the level chosen and the epoch set (R340) -/
  | trainFlit (f : PairNo) (r : TrainRec)
  /-- RESUME_FLIT: A Resume flit reports the far end's expected counts, and replay restarts from them (R329) -/
  | resumeFlit (f : PairNo) (expected : List U16)
  /-- WITHDRAWAL_NOTICE: A withdrawal link notice arrives, and the far end stops sending on the named slots (R291) -/
  | withdrawalNotice (f : PairNo) (n : LinkNotice)
  /-- RETURN_NOTICE: A return link notice arrives, and native sending resumes once carried flits are acknowledged (R332) -/
  | returnNotice (f : PairNo) (n : LinkNotice)
  /-- INTERCALARY_NOTICE: An Intercalary notice arrives, announcing the withdrawal of a pair for receive calibration (R315) -/
  | intercalaryNotice (f : PairNo) (n : LinkNotice)
  /-- TIME_REQUEST_TICK: Every 64 µs a package sends a time request on the lowest in-service slot of each direction (R344) -/
  | timeRequestTick
  /-- TIME_REQUEST: A time request arrives and is answered with T2 and T3 (R344) -/
  | timeRequest (f : PairNo) (m : TimeMsg) (arrived sent : Nat)
  /-- TIME_RESPONSE: A time response arrives; the offset and delay are computed, and the rate and lock state are updated (R344) -/
  | timeResponse (f : PairNo) (m : TimeMsg) (arrived : Nat)
  /-- BEACON_TICK: Every 64 µs the root sends a beacon (R343) -/
  | beaconTick
  /-- BEACON: A beacon arrives; it is forwarded with added depth and may change the parent (R343) -/
  | beacon (f : PairNo) (m : TimeMsg)
  /-- CLAIM: A root claim arrives and is resolved by generation and rank (R347) -/
  | claim (f : PairNo) (m : TimeMsg)
  /-- ROOT_CLAIM: With no beacon for 1 ms + 100 µs × r, a package claims rootship with GEN + 1 (R347) -/
  | rootClaim
  /-- HOLDOVER_ENTRY: With no valid parent response for 256 µs, the package enters holdover with fault 0xC002 (R346) -/
  | holdoverEntry
  /-- HOLDOVER_TIMEOUT: Holdover outlasts HOLDOVER_MAX, raising Job-fatal fault 0xC003 (R346) -/
  | holdoverTimeout
  /-- SLICE_RECORD: A neighbour's slice record arrives at a Season reset and is compared with the package's own settings (R357) -/
  | sliceRecord (f : PairNo) (r : SliceRec)
  /-- LOAD: A load packet arrives; it is forwarded under the egress filter, or performed at its home (R370) -/
  | loadPacket (f : PairNo) (p : Packet) (x : LineRead)
  /-- STORE: A store packet arrives; it is forwarded, or merged at its home by byte and field enables and acknowledged (R368) -/
  | storePacket (f : PairNo) (p : Packet) (x : LineRead)
  /-- ATOMIC: An atomic packet arrives; it is forwarded, or performed at its home and answered with atomic data (R261) -/
  | atomicPacket (f : PairNo) (p : Packet) (x : LineRead)
  /-- LOAD_DATA: Load data returns to the requester and resolves the load (R368) -/
  | loadData (f : PairNo) (p : Packet)
  /-- WRITE_ACKNOWLEDGEMENT: A write acknowledgement resolves a write token, or is discarded if the token is not outstanding (R383) -/
  | writeAcknowledgement (f : PairNo) (p : Packet)
  /-- ATOMIC_DATA: Atomic data returns an old value and completes the atomic (R371) -/
  | atomicData (f : PairNo) (p : Packet)
  /-- TRANSFER_DATA: Transfer data is written at its target, and the piece is acknowledged when complete (R377) -/
  | transferData (f : PairNo) (p : Packet) (reads : LineReads)
  /-- TRANSFER_READ: A Transfer read of a pull arrives; the data is read and sent back (R376) -/
  | transferRead (f : PairNo) (p : Packet) (reads : LineReads)
  /-- TRANSFER_READ_DATA: Pull data returns and is written locally, and the initiator counts the piece's bytes (R377) -/
  | transferReadData (f : PairNo) (p : Packet) (reads : LineReads)
  /-- PIECE_ACKNOWLEDGEMENT: A piece acknowledgement marks a Transfer piece done (R377) -/
  | pieceAcknowledgement (f : PairNo) (p : Packet)
  /-- UNDELIVERABLE: An Undeliverable packet fails a piece or a request, with poison or an undeliverable token (R385) -/
  | undeliverable (f : PairNo) (p : Packet)
  /-- RELEASE_PACKET: A release packet increments the region's epoch at the home, which answers with an acknowledgement (R372) -/
  | releasePacket (f : PairNo) (p : Packet)
  /-- RELEASE_ACKNOWLEDGEMENT: A release acknowledgement carries the new epoch back to the releasing Fence (R372) -/
  | releaseAcknowledgement (f : PairNo) (p : Packet)
  /-- TRANSFER_COMPLETE: Every piece is done or failed, so the Transfer status is written and the entry completes (R378) -/
  | transferComplete (t : TileNo) (pos : BitVec 12)
  /-- FENCE_COMPLETE: Every token below the Fence's ordinal has resolved, or an acquire's work is done, so the Fence completes (R383) -/
  | fenceComplete (t : TileNo) (pos : BitVec 12)
  /-- DEAD_TARGET_TIMEOUT: A request's DEAD_TIMEOUT expires, and it resolves with poison, an undeliverable token or a failed piece (R389) -/
  | deadTargetTimeout (r : Nat)
  /-- HALT_REQUEST_RESOLVE: Requests still without a response 2 µs after a halting Calend resolve at once (R390) -/
  | haltRequestResolve
  /-- MIRROR_WRITE: A mirror write arrives at the holder and is recorded in the journal (R403) -/
  | mirrorWrite (f : PairNo) (poison : Bool) (epochLow : U16) (addr : U64) (benables : BitVec 128) (data : List Byte)
  /-- SEAL_MARKER: A seal marker for epoch c is accepted in one twin space (R405) -/
  | sealMarker (f : PairNo) (c : U64)
  /-- SEAL_COMMIT: With markers in all eight spaces and the writes journalled, the holder commits the epoch, acknowledges and applies it (R405) -/
  | sealCommit
  /-- SEAL_ACKNOWLEDGEMENT: A seal acknowledgement advances the owner's sealed index (R405) -/
  | sealAcknowledgement (f : PairNo) (c : U64)
  /-- PAIRING_RECORD: A pairing record arrives and decides whether the pair continues, recopies or rebuilds (R400) -/
  | pairingRecord (f : PairNo) (r : PairRec)
  /-- REBUILD_SEND: The source sends the pages of a rebuild phase in ascending order as VC4 room allows (R412) -/
  | rebuildSend
  /-- REBUILD_DATA: Rebuild data arrives and is written, and the page is acknowledged once complete (R412) -/
  | rebuildData (f : PairNo) (protect poison : Bool) (page : BitVec 11) (offset : BitVec 21) (data : List Byte)
  /-- PAGE_ACKNOWLEDGEMENT: A page acknowledgement clears the page's bitmap bit and may end the phase (R413) -/
  | pageAcknowledgement (f : PairNo) (protect : Bool) (page : BitVec 11)
  /-- DEPARTURE_NOTICE: A departure notice arrives, and the partner is found lost (R407) -/
  | departureNotice (f : PairNo) (c : U64)
  /-- UNPAIR_RELEASE_NOTICE: An unpair-and-release notice arrives; the partner discards its copy and enters Solo (R418) -/
  | unpairReleaseNotice (f : PairNo) (c : U64)
  /-- UNPAIR_KEEP_NOTICE: An unpair-and-keep notice arrives; the partner freezes its copy and enters Orphan (R418) -/
  | unpairKeepNotice (f : PairNo) (c : U64)
  /-- PARTNER_LOSS_TIMEOUT: No Twin flit has been accepted for LOSS_TIME, so the partner is found lost (R407) -/
  | partnerLossTimeout
  /-- PCIE_LINK_DOWN: The PCIe link goes down with fault 0x8040, and host Transfers fail (R424) -/
  | pcieLinkDown
  /-- PCIE_LINK_UP: The link trains again, and the steps of an FLR follow (R424) -/
  | pcieLinkUp (gen : BitVec 3) (width : BitVec 5)
  /-- FUNCTION_LEVEL_RESET: An FLR disables the rings, clears MSI-X and makes in-transfer pages torn (R424) -/
  | functionLevelReset
  /-- PCIE_CORRECTABLE_ERROR: AER reports a correctable error, which is counted as 0x8002 (R446) -/
  | pcieCorrectableError
  /-- HOST_READ: A host read through BAR2 returns data and marks a non-host-owned page unstable (R428) -/
  | hostRead (addr : BitVec 34) (len : BitVec 13) (reads : LineReads)
  /-- HOST_WRITE: A host write through BAR2 is performed on a host-owned page and dropped otherwise (R429) -/
  | hostWrite (addr : BitVec 34) (data : List Byte) (enables : List Bool) (reads : LineReads)
  /-- UNSTABLE_READ_CLEAR: A write of 1s clears bits of the unstable-read bitmap (R428) -/
  | unstableReadClear (byte : Fin 1024) (bits : Byte)
  /-- REGISTER_WRITE: A write to a BAR0 register with no row of its own, such as a ring base or an MSI-X entry (R425) -/
  | registerWrite (device : Bool) (addr : U64) (val : U64) (wide : Bool)
  /-- RING_ENABLE: EN = 1 is written: the ring is enabled, or left disabled with ERR on a bad configuration (R433) -/
  | ringEnable (i : Fin 32) (ctl : U32)
  /-- RING_DISABLE: EN = 0 is written: SQ reading stops and outstanding commands are aborted (R436) -/
  | ringDisable (i : Fin 32) (ctl : U32)
  /-- RING_IDLE: Every record of a disabled ring has been written, and IDLE is set (R436) -/
  | ringIdle (i : Fin 32)
  /-- SQ_DOORBELL: An SQ_TAIL write makes Thenil read the new entries, or stops the ring if the value is out of range (R434) -/
  | sqDoorbell (i : Fin 32) (tail : U32) (entries : List SqRaw)
  /-- CQ_DOORBELL: A CQ_HEAD write frees CQ slots and releases held records (R435) -/
  | cqDoorbell (i : Fin 32) (head : U32)
  /-- TRANSFER_IN: The host command to copy from host memory to Store; host-owned pages become in transfer (R441) -/
  | transferIn (h : SqHead) (host store len : U64) (pshift : Byte)
  /-- TRANSFER_OUT: The host command to copy from Store to host memory (R441) -/
  | transferOut (h : SqHead) (host store len : U64) (pshift : Byte)
  /-- HOST_TRANSFER_COMPLETE: A host Transfer's pieces are final; its pages are reflagged and the record is written (R441) -/
  | hostTransferComplete (cid : U32)
  /-- HOST_MEMORY_TIMEOUT: A host-memory completion times out after 50 ms, and the piece fails with fault 0x8030 (R441) -/
  | hostMemoryTimeout (cid : U32) (piece : Fin 64) (wrote : List (Nat × Byte)) (reads : LineReads)
  /-- OWN_GIVE: The OWN GIVE command hands pages to the device in one step (R442) -/
  | ownGive (h : SqHead) (first count : U16)
  /-- OWN_TAKE: The OWN TAKE command takes pages for the host, or is refused (R442) -/
  | ownTake (h : SqHead) (first count : U16)
  /-- ABORT: An ABORT command is read and waits for earlier doorbelled entries (R444) -/
  | abortCommand (h : SqHead) (target : U32)
  /-- ABORT_EVALUATE: The abort is evaluated as NOT_FOUND, TOO_LATE or ABORTED and acts on its target (R444) -/
  | abortEvaluate (cid : U32)
  /-- MGMT: A host MGMT command passes an Object Dictionary request to the management core (R443) -/
  | mgmt (h : SqHead) (reqAddr : U64) (reqLen : U16) (rspAddr : U64) (rspLen : U16) (message : List Byte)
  /-- MSIX_COALESCE_TIMER: The oldest unsignalled record of a ring reaches the RING_COAL time, and its vector is signalled (R445) -/
  | msixCoalesceTimer (i : Fin 32)
  /-- SET_ENDPOINT_ID: The MCTP control message that assigns the endpoint ID (R453) -/
  | setEndpointId (v : Via) (eid : Byte)
  /-- GET_ENDPOINT_ID: The MCTP control message that returns the endpoint ID (R453) -/
  | getEndpointId (v : Via)
  /-- GET_MCTP_VERSION_SUPPORT: The MCTP control message that returns the supported versions (R453) -/
  | getMctpVersionSupport (v : Via) (typ : Byte)
  /-- GET_MESSAGE_TYPE_SUPPORT: The MCTP control message that returns the supported message types (R453) -/
  | getMessageTypeSupport (v : Via)
  /-- GET_VENDOR_DEFINED_MESSAGE_SUPPORT: The MCTP control message that returns vendor-defined message support (R453) -/
  | getVendorDefinedMessageSupport (v : Via) (selector : Byte)
  /-- ENTDAA: I3C dynamic address assignment by ENTDAA (R454) -/
  | entdaa (portB : Bool) (addr : BitVec 7)
  /-- SETDASA: I3C dynamic address assignment from the static address by SETDASA (R454) -/
  | setdasa (portB : Bool) (static addr : BitVec 7)
  /-- READ: The dictionary READ operation returns bytes of an entry (R458) -/
  | readEntry (q : OdReq) (index : U16) (sub : Byte) (active : Bool) (offset length : U32)
  /-- WRITE: The dictionary WRITE to an entry with no row of its own; it is checked, audited if privileged, and applied (R450) -/
  | writeEntry (q : OdReq) (index : U16) (sub : Byte) (offset : U32) (data : List Byte)
  /-- INFO: The dictionary INFO operation returns an entry's type, roles, apply rule and range (R458) -/
  | infoEntry (q : OdReq) (index : U16) (sub : Byte)
  /-- LIST: The dictionary LIST operation returns readable entry names (R458) -/
  | listEntries (q : OdReq) (start : BitVec 24)
  /-- EVENT_READ: The dictionary EVENT_READ operation returns event records from a sequence number (R464) -/
  | eventRead (q : OdReq) (start : U32)
  /-- BEGIN: The session BEGIN operation opens a provisional session and returns a nonce (R517) -/
  | beginSession (q : OdReq) (role : Byte) (keyFp : List Byte)
  /-- PROVE: The session PROVE operation checks the signature and opens the session in its role (R518) -/
  | prove (q : OdReq) (sig cert : List Byte)
  /-- END: The session END operation closes the session (R517) -/
  | endSession (q : OdReq)
  /-- ATTEST: The ATTEST operation returns a signed attestation report (R516) -/
  | attest (q : OdReq) (nonce : List Byte)
  /-- SESSION_IDLE_TIMEOUT: A session idle for SESSION_IDLE seconds closes (R461) -/
  | sessionIdleTimeout (num : U16)
  /-- PROVISIONAL_SESSION_EXPIRY: A provisional session that is unproven 10 s after BEGIN expires (R518) -/
  | provisionalSessionExpiry (num : U16)
  /-- LOCKOUT_END: The 60 s BEGIN lockout of an endpoint ends (R518) -/
  | lockoutEnd (v : Via)
  /-- MIRROR_REFRESH: At least every 10 ms the core refreshes the counters and status values of the BAR0 mirror (R465) -/
  | mirrorRefresh
  /-- QUERY_DEVICE_IDENTIFIERS: The PLDM firmware update command that returns the device identifiers (R470) -/
  | queryDeviceIdentifiers (v : Via)
  /-- GET_FIRMWARE_PARAMETERS: The PLDM command that returns the firmware parameters (R470) -/
  | getFirmwareParameters (v : Via)
  /-- GET_STATUS: The PLDM command that returns the update status (R470) -/
  | getStatus (v : Via)
  /-- REQUEST_UPDATE: The PLDM command that enters update mode, from an Installer or Maker session only (R470) -/
  | requestUpdate (v : Via)
  /-- PASS_COMPONENT_TABLE: The PLDM command that passes the component table (R470) -/
  | passComponentTable (v : Via) (components : List U16)
  /-- UPDATE_COMPONENT: The PLDM command that starts a component download into the inactive slot (R470) -/
  | updateComponent (v : Via) (component : U16) (size : U32)
  /-- REQUEST_FIRMWARE_DATA: Firmware data for the device's request arrives; after the last, the component is verified (R470) -/
  | requestFirmwareData (v : Via) (data : List Byte)
  /-- ACTIVATE_FIRMWARE: The PLDM command that activates the core live, or marks the Marshal microcode pending (R520) -/
  | activateFirmware (v : Via)
  /-- CANCEL_UPDATE_COMPONENT: The PLDM command that cancels the component update (R470) -/
  | cancelUpdateComponent (v : Via)
  /-- CANCEL_UPDATE: The PLDM command that cancels the update (R470) -/
  | cancelUpdate (v : Via)
  /-- FW_UPDATE_TIMEOUT: The update agent has sent nothing for 60 s, so the update is cancelled with fault 0xB004 (R470) -/
  | fwUpdateTimeout
  /-- MC_LIVE: The new or restarted core rebuilds the mirror, posts held events and sets OD_LIVE (R520) -/
  | mcLive
  /-- LIVE_ACTIVATION_REVERT: OD_LIVE is not set by t0 + 900 ms, so Vigil reverts to the previous slot with fault 0xA031 (R521) -/
  | liveActivationRevert
  /-- LANE_MAP_COMMIT: A Maker write that commits the lane maps in use of bundles with MAP_DIFF to the manifest (R38) -/
  | laneMapCommit (q : OdReq) (v : Byte)
  /-- RETIRE_CLEAR: A Maker write that clears a run-time array retirement from the next Season (R155) -/
  | retireClear (q : OdReq) (a : U16)
  /-- COMMISSION: An Installer write that records the baselines of the named laser inputs and monitors (R288) -/
  | commission (q : OdReq) (inputs : U16)
  /-- LASER_RETURN: An Installer write that returns an engine to its other input by a planned switchover (R294) -/
  | laserReturn (q : OdReq) (v : Byte)
  /-- LASER_RELEASE: An Installer write that releases one laser input and deasserts its pin (R294) -/
  | laserRelease (q : OdReq) (v : Byte)
  /-- LASER_RESTORE: An Installer write that reasserts a laser pin and records a new baseline (R294) -/
  | laserRestore (q : OdReq) (v : Byte)
  /-- FIBRE_PARK: An Installer write that parks a fibre pair, withdrawing it (R291) -/
  | fibrePark (q : OdReq) (v : Byte)
  /-- FIBRE_UNPARK: An Installer write that unparks a fibre pair, which then retrains and is measured (R563) -/
  | fibreUnpark (q : OdReq) (v : Byte)
  /-- ALMANAC_SET: An Installer write that sets the Almanac while the package is free-running (R342) -/
  | almanacSet (q : OdReq) (v : U64)
  /-- COORD: An Installer write of the coordinate; if none was held, it passes start-up step 6 at once (R556) -/
  | coordWrite (q : OdReq) (v : U16)
  /-- TILE_CLOCK: An Operator write of the DVFS setting that makes a tile clock change pending (R70) -/
  | tileClock (q : OdReq) (v : Byte)
  /-- CURRENT_LIMIT: An Installer write of I_set, after which L is recomputed at once (R483) -/
  | currentLimit (q : OdReq) (v : Byte)
  /-- UNPAIR_RELEASE: An Installer write that detaches the package and tells the partner to release its copy (R418) -/
  | unpairRelease (q : OdReq)
  /-- UNPAIR_KEEP: An Installer write that detaches the package and tells the partner to keep a frozen copy (R418) -/
  | unpairKeep (q : OdReq)
  /-- LOST_CLEAR: An Installer write that takes the package out of state Lost into Solo (R416) -/
  | lostClear (q : OdReq) (v : Byte)
  /-- FW_ACTIVATE: An Installer write that activates ready firmware components, as ActivateFirmware would (R471) -/
  | fwActivate (q : OdReq) (v : Byte)
  /-- KEY_ENROLMENT: A write of an Installer or Operator key entry that enrols or removes a key (R519) -/
  | keyEnrolment (q : OdReq) (installer : Bool) (sub : Byte) (data : List Byte)
  /-- CERT_FLOOR: A Maker write that raises the certificate floor, revoking older maker certificates (R524) -/
  | certFloor (q : OdReq) (v : U32)
  /-- POWER_TARGET_STANDBY: A write of POWER_TARGET = 1 that moves the package to Standby, or stops a start-up (R480) -/
  | powerTargetStandby (q : OdReq)
  /-- POWER_TARGET_READY: A write of POWER_TARGET = 2 that starts start-up from Standby (R480) -/
  | powerTargetReady (q : OdReq)
  /-- SEASON_RESET: An Operator write that runs a Season reset: retirements, deferred writes, queue discard and slice exchange (R540) -/
  | seasonReset (q : OdReq) (v : Byte)
  /-- WARM_RESET: An Installer write that starts a Warm reset with fault 0xD020 (R539) -/
  | warmReset (q : OdReq) (v : Byte)
  /-- TILE_RESET: An Operator write that requests a Tile reset, which is deferred with fault 0x1015 during a Calendar (R95) -/
  | tileReset (q : OdReq) (v : U16)
  /-- PROBATION: An Operator write of the probation hours; writing 0 ends probation and raises the band fault (R547) -/
  | probationWrite (q : OdReq) (v : U16)
  /-- GOVERNOR_TICK: Every 100 µs the governor judges the filtered input current and steps f_cap down or up (R484) -/
  | governorTick (current voltage : Nat)
  /-- OVER_CURRENT_STRETCH: The over-current comparator trips; the tile clocks are stretched to half and f_cap falls one step (R486) -/
  | overCurrentStretch
  /-- STRETCH_RELEASE: After 2 µs with the current at or below L, the stretch is released (R486) -/
  | stretchRelease
  /-- OVER_CURRENT_TRIP: A stretch lasting 1 ms, or a current above 80 A for 10 µs, latches fault 0x9021 and a shutdown (R487) -/
  | overCurrentTrip
  /-- DIODE_SAMPLE: Vigil samples and filters the die diodes and judges the sampling period, throttling, shutdown and the NV window (R489) -/
  | diodeSample (readings : List Int)
  /-- SHUTDOWN_DEADLINE: At the shutdown deadlines, Vigil drops the lasers and PCIe and turns the rails off, and the package is Latched (R494) -/
  | shutdownDeadline
  /-- THROTTLE_STEP_UP: While any die is hot, n rises by one every 1 ms (R491) -/
  | throttleStepUp
  /-- THROTTLE_STEP_DOWN: While every die is 3 °C below its throttle start, n falls by one every 100 ms (R491) -/
  | throttleStepDown
  /-- CONVERTER_STATUS_READ: Vigil reads each converter's status every 1 ms and handles converter faults (R492) -/
  | converterStatusRead (flags : List (BitVec 4))
  /-- NV_RECORD_WRITE: While the window is open, the next pending journal record is written to the NV store (R500) -/
  | nvRecordWrite
  /-- MANIFEST_COMMIT: A manifest commit writes over the older copy, reads it back and releases its journal records (R512) -/
  | manifestCommit (verified : Bool)
  /-- MC_WATCHDOG: After 200 ms without a heartbeat, Vigil restarts the management core with fault 0xD001 (R534) -/
  | mcWatchdog
  /-- MARSHAL_WATCHDOG: The Marshal heartbeat timer fires after 65,536 cycles, raising Job-fatal fault 0xD002 (R536) -/
  | marshalWatchdog (t : TileNo)
  /-- VIGIL_WATCHDOG: Vigil's island timer fires after 50 ms without service, and Vigil restarts from ROM (R537) -/
  | vigilWatchdog
  /-- RECKONING_UPDATE: Every 1 s Vigil decays and updates the penalty P, computes S and judges the bands (R545) -/
  | reckoningUpdate
  /-- PROBATION_COUNTDOWN: Each hour the probation value counts down by 1 (R547) -/
  | probationCountdown
  /-- PENALTY_SAVE: Once per hour Vigil writes P to the NV store through the journal (R548) -/
  | penaltySave
  /-- TRAINING_FAILED: A training attempt of a fibre pair ends without success, and after three failures in a row the pair goes out of service with fault 0x5004 (R329) -/
  | trainingFailed (f : PairNo)
  /-- PERST_N_RELEASE: PERST_N rises, and the port's configuration space becomes ready within 1 s (R424) -/
  | perstNRelease
  /-- CONFIGURATION_REQUEST: A PCIe configuration request arrives and is answered with Request Retry Status until the configuration space is ready (R424) -/
  | configurationRequest
  /-- HOST_MEMORY_COMPLETION: A completion from host memory for a host Transfer arrives; data advances the piece, while an Unsupported Request or Completer Abort fails it with fault 0x8030 (R441) -/
  | hostMemoryCompletion (cid : U32) (offset : BitVec 35) (ok : Bool) (data : List Byte) (reads : LineReads)
  /-- IN_BAND_INTERRUPT_ACKNOWLEDGE: The I3C controller acknowledges a raised In-Band Interrupt, so the next posted event may raise another (R463) -/
  | inBandInterruptAcknowledge (portB : Bool)
  /-- IN_BAND_INTERRUPT_ENABLE: The I3C controller enables or disables in-band interrupts on a port, which is reflected in OD 0x1100.04 (R463) -/
  | inBandInterruptEnable (portB : Bool) (on : Bool)
  deriving DecidableEq, Repr

end Sys2Proof
end

