-- ==== Sys2Proof/Config.lean ====
section
/-!
DEFINITION. What an implementation fixes and what the spec leaves open. The `opaque` constants have no body: nothing in
Lean can evaluate one or prove a value of one, so a claim that holds, holds whatever they are.
-/

set_option Elab.async false

namespace Sys2Proof.Config

/-! ## Free values: fresh ones are applied to the counter that the state holds, and an operand or an address -/

/-- A byte whose content the spec calls undefined: of a tile buffer after a reset or a discarded pass (R140, R237), of the
rest of an interrupted stream, run or Lantern op (R196, R221, R270), or of a Keep region after an unfinished restore (R416). -/
opaque openByte (gen addr : Nat) : Byte
/-- Where in its permitted band an approximate result falls (R119, R206), and what an undefined Lantern word holds. -/
opaque openNat (gen key : Nat) : Nat
/-- The 32 random bytes of a session nonce (R517). -/
opaque nonce (gen : Nat) : List Byte
/-- The bytes of a slice record in its Data flit, whose layout the spec does not give (R357). -/
opaque sliceBytes (r : SliceRec) : List Byte
/-- How the decay of the penalty P rounds (R545): added to the exact floor, taken modulo 2. -/
opaque decayRound (gen : Nat) : Nat

/-! ## Keys and hashes (R506 to R516), uninterpreted -/

/-- SHA3-256 (FIPS 202). -/
opaque sha3 (bytes : List Byte) : List Byte
/-- ML-DSA-44 verification (FIPS 204): public key, message, signature. -/
opaque mldsaVerify (key msg sig : List Byte) : Bool
/-- ML-DSA-44 signing with the key generated from a seed. -/
opaque mldsaSign (seed msg : List Byte) : List Byte
/-- The public key that FIPS 204 key generation yields from a seed. -/
opaque mldsaPublic (seed : List Byte) : List Byte
/-- `CSEQ` of the certificate that Vigil issues for the attestation key of these measurements (R508, R515): its issuer chooses it. -/
opaque akCseq (measurements : List Byte) : Nat
/-- The unique device secret that the PUF yields (R507). -/
opaque uds : List Byte

/-! ## Fixed at manufacture -/

/-- The maker root public key (R510), whose fingerprint is in mask ROM (R506). -/
opaque rootKey : List Byte
/-- The maker signing key's certificate (R510). -/
opaque makerSignCert : List Byte
/-- The DIK certificate (R510). -/
opaque dikCert : List Byte
/-- The maker section of the manifest as bytes, for its measurement (R515). -/
opaque makerSection : List Byte
/-- The measurement of the Vigil ROM (R515). -/
opaque measureRom : List Byte
/-- The version of the Vigil ROM (OD 0x1000.0E). -/
opaque vigilRomVersion : U32

end Sys2Proof.Config
end

