-- ==== Sys2Proof/Machine/OdTable.lean ====
section
/-!
DEFINITION. The Object Dictionary's entries (R447, R452), chapter by chapter as their owners list them: name, type, roles,
apply rule, default and range. BLOB and STR entries have default and range 0 here; their contents have definitions of
their own.
-/

set_option Elab.async false

namespace Sys2Proof.Machine

/-- One entry: its index and subindex, type code (R447), size in bytes, read and write role (R448), whether it is
write-only, its apply rule (0 at once, 1 next Season, 2 next training; R449), default, and least and greatest value. -/
structure OdRow where
  index : Nat
  sub : Nat
  typ : Nat
  size : Nat
  rd : Role
  wr : Option Role
  wo : Bool
  apply : Nat
  dflt : Nat
  lo : Nat
  hi : Nat
  deriving DecidableEq, Repr

/-- The key under which the state holds an entry. -/
def OdRow.key (r : OdRow) : Nat := r.index * 256 + r.sub

/-- Entries 0x1xxx (part 1): `VENDOR_ID`, `DEVICE_ID`, `ORDERING_CODE`, `SERIAL`, `MANIFEST_VERSION`, `DIE_MAP`, `SLOT`, `I3C_PID_A`, `I3C_PID_B`, `MC_FW_VERSION`, `MC_FW_SLOT`, `MARSHAL_VERSION`, `MARSHAL_SLOT`, `VIGIL_ROM_VERSION`, `OD_VERSION`, `BOOT_FAIL`, `EID_I3C_A`, `EID_I3C_B`, `EID_PCIE`, `I3C_STATE`. -/
def odRowsManagement1 : List OdRow :=
  [ ⟨0x1000, 0x01, 3, 2, .anonymous, none, false, 0, 8011, 8011, 8011⟩,
    ⟨0x1000, 0x02, 3, 2, .anonymous, none, false, 0, 0, 32280, 32281⟩,
    ⟨0x1000, 0x03, 8, 8, .anonymous, none, false, 0, 0, 0, 0⟩,
    ⟨0x1000, 0x04, 5, 8, .anonymous, none, false, 0, 0, 0, 18446744073709551615⟩,
    ⟨0x1000, 0x05, 4, 4, .anonymous, none, false, 0, 0, 0, 4294967295⟩,
    ⟨0x1000, 0x06, 9, 1296, .anonymous, none, false, 0, 0, 0, 0⟩,
    ⟨0x1000, 0x07, 2, 1, .anonymous, none, false, 0, 0, 0, 7⟩,
    ⟨0x1000, 0x08, 5, 8, .anonymous, none, false, 0, 0, 0, 281474976710655⟩,
    ⟨0x1000, 0x09, 5, 8, .anonymous, none, false, 0, 0, 0, 281474976710655⟩,
    ⟨0x1000, 0x0A, 4, 4, .anonymous, none, false, 0, 0, 0, 4294967295⟩,
    ⟨0x1000, 0x0B, 2, 1, .anonymous, none, false, 0, 0, 0, 1⟩,
    ⟨0x1000, 0x0C, 4, 4, .anonymous, none, false, 0, 0, 0, 4294967295⟩,
    ⟨0x1000, 0x0D, 2, 1, .anonymous, none, false, 0, 0, 0, 1⟩,
    ⟨0x1000, 0x0E, 4, 4, .anonymous, none, false, 0, 0, 0, 4294967295⟩,
    ⟨0x1000, 0x0F, 3, 2, .anonymous, none, false, 0, 256, 256, 256⟩,
    ⟨0x1000, 0x10, 3, 2, .anonymous, none, false, 0, 0, 0, 65535⟩,
    ⟨0x1100, 0x01, 2, 1, .operator, none, false, 0, 0, 0, 255⟩,
    ⟨0x1100, 0x02, 2, 1, .operator, none, false, 0, 0, 0, 255⟩,
    ⟨0x1100, 0x03, 2, 1, .operator, none, false, 0, 0, 0, 255⟩,
    ⟨0x1100, 0x04, 2, 1, .operator, none, false, 0, 0, 0, 15⟩ ]

/-- Entries 0x1xxx (part 2): `MCTP_ERRORS`, `PCIE_CORRECTABLE`, `FLR_COUNT`, `LINK_DOWNS`, `HOST_DROPPED`, `HOST_COMMANDS`, `UNSTABLE_READS`, `CQ_STALLS`, `SESSIONS_OPEN`, `SESSION_IDLE`, `AUDIT_SEQ`, `AUDIT_LOG`, `AUDIT_ANCHOR`, `AUDIT_PENDING`, `AUDIT_REFUSED`, `EVENT_SEQ`, `EVENT_MASK`, `FWUP_STATE`, `FWUP_PROGRESS`, `FW_ACTIVATE`. -/
def odRowsManagement2 : List OdRow :=
  [ ⟨0x1100, 0x05, 5, 8, .operator, none, false, 0, 0, 0, 18446744073709551615⟩,
    ⟨0x1101, 0x01, 5, 8, .operator, none, false, 0, 0, 0, 18446744073709551615⟩,
    ⟨0x1101, 0x02, 4, 4, .operator, none, false, 0, 0, 0, 4294967295⟩,
    ⟨0x1101, 0x03, 4, 4, .operator, none, false, 0, 0, 0, 4294967295⟩,
    ⟨0x1101, 0x04, 5, 8, .operator, none, false, 0, 0, 0, 18446744073709551615⟩,
    ⟨0x1101, 0x05, 5, 8, .operator, none, false, 0, 0, 0, 18446744073709551615⟩,
    ⟨0x1101, 0x06, 5, 8, .operator, none, false, 0, 0, 0, 18446744073709551615⟩,
    ⟨0x1101, 0x07, 4, 4, .operator, none, false, 0, 0, 0, 4294967295⟩,
    ⟨0x1102, 0x01, 2, 1, .operator, none, false, 0, 0, 0, 16⟩,
    ⟨0x1102, 0x02, 3, 2, .operator, some .installer, false, 0, 600, 10, 3600⟩,
    ⟨0x1103, 0x01, 5, 8, .operator, none, false, 0, 0, 0, 18446744073709551615⟩,
    ⟨0x1103, 0x02, 9, 524288, .operator, none, false, 0, 0, 0, 0⟩,
    ⟨0x1103, 0x03, 9, 32, .operator, none, false, 0, 0, 0, 0⟩,
    ⟨0x1103, 0x04, 2, 1, .operator, none, false, 0, 0, 0, 64⟩,
    ⟨0x1103, 0x05, 4, 4, .operator, none, false, 0, 0, 0, 4294967295⟩,
    ⟨0x1104, 0x01, 5, 8, .operator, none, false, 0, 0, 0, 18446744073709551615⟩,
    ⟨0x1104, 0x02, 2, 1, .operator, some .operator, false, 0, 31, 0, 31⟩,
    ⟨0x1105, 0x01, 2, 1, .operator, none, false, 0, 0, 0, 6⟩,
    ⟨0x1105, 0x02, 4, 4, .operator, none, false, 0, 0, 0, 4294967295⟩,
    ⟨0x1105, 0x03, 1, 1, .operator, some .installer, true, 0, 0, 0, 1⟩ ]

/-- Entries 0x1xxx (part 3): `LANE_MAPS`, `LANE_MAPS_MANIFEST`, `LANE_MAP_COMMIT`, `LANE_MAP_DIFFS`, `D2D_RESENDS`. -/
def odRowsManagement3 : List OdRow :=
  [ ⟨0x1200, 0x01, 9, 6912, .operator, none, false, 0, 0, 0, 0⟩,
    ⟨0x1200, 0x02, 9, 6912, .operator, none, false, 0, 0, 0, 0⟩,
    ⟨0x1200, 0x03, 1, 1, .operator, some .maker, true, 0, 0, 0, 1⟩,
    ⟨0x1200, 0x04, 2, 1, .operator, none, false, 0, 0, 0, 108⟩,
    ⟨0x1200, 0x05, 5, 8, .operator, none, false, 0, 0, 0, 18446744073709551615⟩ ]

/-- Entries 0x2xxx (part 1): `POWER_STATE`, `POWER_TARGET`, `POWER_ON_TARGET`, `LATCH_CAUSE`, `CURRENT_LIMIT`, `CURRENT_LIMIT_MAX`, `LIMIT_IN_FORCE`, `THROTTLE_STEPS`, `CLOCK_CAP`, `FSC_IN_SERVICE`, `INPUT_VOLTAGE`, `INPUT_CURRENT`, `INPUT_POWER`, `DIE_TEMPS`, `ENERGY`, `STRETCHES`, `THROTTLE_TIME`, `PEAK_TEMPS`, `NV_WINDOW`, `NV_PENDING`. -/
def odRowsPower1 : List OdRow :=
  [ ⟨0x2000, 0x01, 2, 1, .operator, none, false, 0, 0, 1, 4⟩,
    ⟨0x2000, 0x02, 2, 1, .operator, some .operator, false, 0, 2, 1, 2⟩,
    ⟨0x2000, 0x03, 2, 1, .operator, some .installer, false, 0, 2, 1, 2⟩,
    ⟨0x2000, 0x04, 3, 2, .operator, none, false, 0, 0, 0, 65535⟩,
    ⟨0x2001, 0x01, 2, 1, .operator, some .installer, false, 0, 60, 20, 70⟩,
    ⟨0x2001, 0x02, 2, 1, .operator, some .maker, false, 0, 70, 20, 70⟩,
    ⟨0x2001, 0x03, 2, 1, .operator, none, false, 0, 60, 6, 70⟩,
    ⟨0x2001, 0x04, 2, 1, .operator, none, false, 0, 0, 0, 32⟩,
    ⟨0x2001, 0x05, 2, 1, .operator, none, false, 0, 16, 4, 16⟩,
    ⟨0x2001, 0x06, 2, 1, .operator, none, false, 0, 255, 0, 255⟩,
    ⟨0x2002, 0x01, 3, 2, .operator, none, false, 0, 0, 0, 65535⟩,
    ⟨0x2002, 0x02, 3, 2, .operator, none, false, 0, 0, 0, 65535⟩,
    ⟨0x2002, 0x03, 3, 2, .operator, none, false, 0, 0, 0, 65535⟩,
    ⟨0x2002, 0x04, 9, 50, .operator, none, false, 0, 0, 0, 0⟩,
    ⟨0x2002, 0x05, 5, 8, .operator, none, false, 0, 0, 0, 18446744073709551615⟩,
    ⟨0x2003, 0x01, 5, 8, .operator, none, false, 0, 0, 0, 18446744073709551615⟩,
    ⟨0x2003, 0x02, 5, 8, .operator, none, false, 0, 0, 0, 18446744073709551615⟩,
    ⟨0x2003, 0x03, 9, 50, .operator, none, false, 0, 0, 0, 0⟩,
    ⟨0x2004, 0x01, 1, 1, .operator, none, false, 0, 0, 0, 1⟩,
    ⟨0x2004, 0x02, 2, 1, .operator, none, false, 0, 0, 0, 64⟩ ]

/-- Entries 0x2xxx (part 2): `NV_LOST`, `NV_DROPPED`. -/
def odRowsPower2 : List OdRow :=
  [ ⟨0x2004, 0x03, 4, 4, .operator, none, false, 0, 0, 0, 4294967295⟩,
    ⟨0x2004, 0x04, 4, 4, .operator, none, false, 0, 0, 0, 4294967295⟩ ]

/-- Entries 0x3xxx (part 1): `ENGINES_IN_SERVICE`, `ENGINE_STATES`, `LASER_SELECT`, `FIBRE_STATES`, `FIBRE_CLASSES`, `FIBRE_MARGINS`, `OPTICAL_BW`, `FADE_A`, `FADE_B`, `FADE_C`, `FADE_C_MAX`, `COMMISSION`, `LASER_RETURN`, `LASER_RELEASE`, `LASER_RESTORE`, `FIBRE_PARK`, `IC_EVERY`, `IC_SPAN`, `IC_ENABLE`, `IC_EVERY_IN_FORCE`. -/
def odRowsOptics1 : List OdRow :=
  [ ⟨0x3000, 0x01, 2, 1, .operator, none, false, 0, 0, 0, 255⟩,
    ⟨0x3000, 0x02, 9, 8, .operator, none, false, 0, 0, 0, 0⟩,
    ⟨0x3000, 0x03, 2, 1, .operator, none, false, 0, 0, 0, 255⟩,
    ⟨0x3000, 0x04, 9, 64, .operator, none, false, 0, 0, 0, 0⟩,
    ⟨0x3000, 0x05, 9, 64, .operator, none, false, 0, 0, 0, 0⟩,
    ⟨0x3000, 0x06, 9, 128, .operator, none, false, 0, 0, 0, 0⟩,
    ⟨0x3000, 0x07, 4, 4, .operator, none, false, 0, 0, 0, 102400⟩,
    ⟨0x3001, 0x01, 2, 1, .operator, some .installer, false, 0, 15, 5, 100⟩,
    ⟨0x3001, 0x02, 2, 1, .operator, some .installer, false, 0, 30, 10, 150⟩,
    ⟨0x3001, 0x03, 2, 1, .operator, some .installer, false, 0, 45, 15, 200⟩,
    ⟨0x3001, 0x04, 2, 1, .operator, some .maker, false, 0, 60, 15, 200⟩,
    ⟨0x3001, 0x05, 3, 2, .operator, some .installer, true, 0, 0, 0, 65535⟩,
    ⟨0x3001, 0x06, 2, 1, .operator, some .installer, true, 0, 0, 0, 7⟩,
    ⟨0x3001, 0x07, 2, 1, .operator, some .installer, true, 0, 0, 0, 15⟩,
    ⟨0x3001, 0x08, 2, 1, .operator, some .installer, true, 0, 0, 0, 15⟩,
    ⟨0x3001, 0x09, 2, 1, .operator, some .installer, true, 0, 0, 0, 191⟩,
    ⟨0x3002, 0x01, 4, 4, .operator, some .installer, false, 1, 4096, 256, 1048576⟩,
    ⟨0x3002, 0x02, 3, 2, .operator, some .installer, false, 1, 1000, 200, 5000⟩,
    ⟨0x3002, 0x03, 1, 1, .operator, some .installer, false, 1, 1, 0, 1⟩,
    ⟨0x3002, 0x04, 4, 4, .operator, none, false, 0, 4096, 0, 4294967295⟩ ]

/-- Entries 0x3xxx (part 2): `FEC_CORRECTED`, `FEC_UNCORRECTABLE`, `PRE_FEC_WORST`, `SWITCHOVERS`, `WRONG_LINE`, `WITHDRAWALS`, `LOSS_LOCATIONS`, `LASER_POWER`, `LASER_DROP`. -/
def odRowsOptics2 : List OdRow :=
  [ ⟨0x3003, 0x01, 5, 8, .operator, none, false, 0, 0, 0, 18446744073709551615⟩,
    ⟨0x3003, 0x02, 5, 8, .operator, none, false, 0, 0, 0, 18446744073709551615⟩,
    ⟨0x3003, 0x03, 7, 4, .operator, none, false, 0, 0, 4286578687, 2139095039⟩,
    ⟨0x3003, 0x04, 4, 4, .operator, none, false, 0, 0, 0, 4294967295⟩,
    ⟨0x3003, 0x05, 5, 8, .operator, none, false, 0, 0, 0, 18446744073709551615⟩,
    ⟨0x3003, 0x06, 5, 8, .operator, none, false, 0, 0, 0, 18446744073709551615⟩,
    ⟨0x3003, 0x07, 9, 256, .operator, none, false, 0, 0, 0, 0⟩,
    ⟨0x3004, 0x01, 9, 256, .operator, none, false, 0, 0, 0, 0⟩,
    ⟨0x3004, 0x02, 9, 256, .operator, none, false, 0, 0, 0, 0⟩ ]

/-- Entries 0x4xxx (part 1): `COORD`, `MACHINE_LY`, `MACHINE_LZ`, `SEASON_ID`, `SLICE_ORIGIN`, `SLICE_SIZE`, `Z_SPLICE`, `EGRESS`, `SKIP_UNUSED`, `RWT_MODE`, `RWT`, `DEAD_TIMEOUT`, `REMOTE_LOADS`, `REMOTE_WRITES`, `TRANSFER_BYTES`, `DEAD_TIMEOUTS`, `UNDELIVERABLE`, `LATE_RESPONSES`, `RWT_REFUSALS`, `TORN_FLAGGED`. -/
def odRowsFabric1 : List OdRow :=
  [ ⟨0x4000, 0x01, 3, 2, .anonymous, some .installer, false, 0, 65535, 0, 16383⟩,
    ⟨0x4000, 0x02, 2, 1, .operator, some .installer, false, 1, 32, 2, 32⟩,
    ⟨0x4000, 0x03, 2, 1, .operator, some .installer, false, 1, 64, 1, 64⟩,
    ⟨0x4001, 0x01, 5, 8, .operator, some .operator, false, 1, 0, 0, 18446744073709551615⟩,
    ⟨0x4001, 0x02, 3, 2, .operator, some .operator, false, 1, 0, 0, 16383⟩,
    ⟨0x4001, 0x03, 4, 4, .operator, some .operator, false, 1, 0, 0, 4202504⟩,
    ⟨0x4001, 0x04, 1, 1, .operator, some .operator, false, 1, 0, 0, 1⟩,
    ⟨0x4001, 0x05, 3, 2, .operator, none, false, 0, 0, 0, 2047⟩,
    ⟨0x4001, 0x06, 2, 1, .operator, none, false, 0, 0, 0, 3⟩,
    ⟨0x4002, 0x01, 2, 1, .operator, some .operator, false, 1, 0, 0, 1⟩,
    ⟨0x4002, 0x02, 9, 2048, .operator, some .operator, false, 1, 0, 0, 0⟩,
    ⟨0x4003, 0x01, 3, 2, .operator, some .operator, false, 1, 64, 16, 1024⟩,
    ⟨0x4004, 0x01, 5, 8, .operator, none, false, 0, 0, 0, 18446744073709551615⟩,
    ⟨0x4004, 0x02, 5, 8, .operator, none, false, 0, 0, 0, 18446744073709551615⟩,
    ⟨0x4004, 0x03, 5, 8, .operator, none, false, 0, 0, 0, 18446744073709551615⟩,
    ⟨0x4004, 0x04, 5, 8, .operator, none, false, 0, 0, 0, 18446744073709551615⟩,
    ⟨0x4004, 0x05, 5, 8, .operator, none, false, 0, 0, 0, 18446744073709551615⟩,
    ⟨0x4004, 0x06, 5, 8, .operator, none, false, 0, 0, 0, 18446744073709551615⟩,
    ⟨0x4004, 0x07, 5, 8, .operator, none, false, 0, 0, 0, 18446744073709551615⟩,
    ⟨0x4004, 0x08, 4, 4, .operator, none, false, 0, 0, 0, 4294967295⟩ ]

/-- Entries 0x4xxx (part 2): `LINK_LEVELS`, `REPLAYS`, `RETRAINS`, `LEDGERS_CHECKED`, `CONSERVATION_LATCH`, `EPOCHS`, `UNDELIVERABLE`, `LINK_LEVEL_MAX`. -/
def odRowsFabric2 : List OdRow :=
  [ ⟨0x4100, 0x01, 9, 64, .operator, none, false, 0, 0, 0, 0⟩,
    ⟨0x4100, 0x02, 5, 8, .operator, none, false, 0, 0, 0, 18446744073709551615⟩,
    ⟨0x4100, 0x03, 5, 8, .operator, none, false, 0, 0, 0, 18446744073709551615⟩,
    ⟨0x4100, 0x04, 5, 8, .operator, none, false, 0, 0, 0, 18446744073709551615⟩,
    ⟨0x4100, 0x05, 5, 8, .operator, none, false, 0, 0, 0, 18446744073709551615⟩,
    ⟨0x4100, 0x06, 9, 256, .operator, none, false, 0, 0, 0, 0⟩,
    ⟨0x4100, 0x07, 5, 8, .operator, none, false, 0, 0, 0, 18446744073709551615⟩,
    ⟨0x4101, 0x01, 2, 1, .operator, some .installer, false, 2, 3, 2, 3⟩ ]

/-- Entries 0x5xxx: `STORE_CAPACITY`, `SEGMENTS_RETIRED`, `SEGMENTS_MARKED`, `SEGMENT_MAP`, `ROW_REMAPS`, `REMAP_PENDING`, `FAR_PART`, `SCRUB_PERIOD`, `STORE_CORRECTED`, `POISON_READS`, `ONCHIP_RESENDS`, `LOCAL_CORRECTED`, `ATOMICS`, `LC_CAPPED`. -/
def odRowsMemory : List OdRow :=
  [ ⟨0x5000, 0x01, 5, 8, .operator, none, false, 0, 17179869184, 16106127360, 17179869184⟩,
    ⟨0x5000, 0x02, 3, 2, .operator, none, false, 0, 0, 0, 128⟩,
    ⟨0x5000, 0x03, 3, 2, .operator, none, false, 0, 0, 0, 128⟩,
    ⟨0x5000, 0x04, 9, 512, .operator, none, false, 0, 0, 0, 0⟩,
    ⟨0x5000, 0x05, 4, 4, .operator, none, false, 0, 0, 0, 524288⟩,
    ⟨0x5000, 0x06, 3, 2, .operator, none, false, 0, 0, 0, 64⟩,
    ⟨0x5001, 0x01, 2, 1, .operator, some .operator, false, 1, 16, 0, 16⟩,
    ⟨0x5001, 0x02, 3, 2, .operator, some .installer, false, 0, 8, 1, 168⟩,
    ⟨0x5002, 0x01, 5, 8, .operator, none, false, 0, 0, 0, 18446744073709551615⟩,
    ⟨0x5002, 0x02, 5, 8, .operator, none, false, 0, 0, 0, 18446744073709551615⟩,
    ⟨0x5002, 0x03, 5, 8, .operator, none, false, 0, 0, 0, 18446744073709551615⟩,
    ⟨0x5002, 0x04, 5, 8, .operator, none, false, 0, 0, 0, 18446744073709551615⟩,
    ⟨0x5002, 0x05, 5, 8, .operator, none, false, 0, 0, 0, 18446744073709551615⟩,
    ⟨0x5002, 0x06, 5, 8, .operator, none, false, 0, 0, 0, 18446744073709551615⟩ ]

/-- Entries 0x6xxx (part 1): `CAL_STATE`, `CAL_ID`, `FRAME_ORDINAL`, `RECORD`, `LEAPS`, `REPLAYS`, `NOTICE_BOUND`, `SEASON_K`, `K_MIN`, `K_MAX`, `TILE_CLOCK`, `TILE_CLOCK_MIN`, `GRADE`, `ARRAYS_ENABLED`, `ARRAY_MAP`, `ARRAY_STATES`, `ARRAYS_FACTORY_OFF`, `ARRAYS_RETIRED`, `RETIRE_CLEAR`, `RETIRE_PENDING`. -/
def odRowsCompute1 : List OdRow :=
  [ ⟨0x6000, 0x01, 2, 1, .operator, none, false, 0, 0, 0, 5⟩,
    ⟨0x6000, 0x02, 5, 8, .operator, none, false, 0, 0, 0, 18446744073709551615⟩,
    ⟨0x6000, 0x03, 5, 8, .operator, none, false, 0, 0, 0, 18446744073709551615⟩,
    ⟨0x6000, 0x04, 4, 4, .operator, none, false, 0, 0, 0, 1048575⟩,
    ⟨0x6000, 0x05, 5, 8, .operator, none, false, 0, 0, 0, 18446744073709551615⟩,
    ⟨0x6000, 0x06, 5, 8, .operator, none, false, 0, 0, 0, 18446744073709551615⟩,
    ⟨0x6000, 0x07, 4, 4, .operator, none, false, 0, 400, 0, 4294967295⟩,
    ⟨0x6001, 0x01, 2, 1, .operator, some .operator, false, 1, 13, 10, 16⟩,
    ⟨0x6001, 0x02, 2, 1, .operator, some .installer, false, 0, 10, 10, 16⟩,
    ⟨0x6001, 0x03, 2, 1, .operator, some .installer, false, 0, 16, 10, 16⟩,
    ⟨0x6001, 0x04, 2, 1, .operator, some .operator, false, 0, 16, 4, 16⟩,
    ⟨0x6001, 0x05, 2, 1, .operator, some .installer, false, 0, 4, 4, 16⟩,
    ⟨0x6010, 0x01, 2, 1, .anonymous, none, false, 0, 0, 0, 1⟩,
    ⟨0x6010, 0x02, 3, 2, .anonymous, none, false, 0, 0, 0, 1536⟩,
    ⟨0x6010, 0x03, 9, 192, .anonymous, none, false, 0, 0, 0, 0⟩,
    ⟨0x6010, 0x04, 9, 384, .operator, none, false, 0, 0, 0, 0⟩,
    ⟨0x6010, 0x05, 3, 2, .operator, none, false, 0, 0, 0, 192⟩,
    ⟨0x6010, 0x06, 3, 2, .operator, none, false, 0, 0, 0, 1536⟩,
    ⟨0x6010, 0x07, 3, 2, .operator, some .maker, true, 1, 0, 0, 1535⟩,
    ⟨0x6010, 0x08, 3, 2, .operator, none, false, 0, 0, 0, 64⟩ ]

/-- Entries 0x6xxx (part 2): `TALLY_MISMATCHES`, `TALLY_SKIPS`, `ARRAYS_SUSPECT`, `MAC_WS`, `MAC_IS`, `PROCESSION_RUNS`, `MASQUE_RUNS`, `VEC_BUSY`, `VEC_BOUND_FRAMES`, `EMPTY_REDUCTIONS`, `VEC_ECC_CORR`, `VEC_BOUND_LAST`, `LANTERN_OPS`, `LANTERN_EMPTY_ROWS`, `LEDGER_SPILLS`, `LEDGER_FETCHES`, `LEDGER_ECC_CORR`, `LARDER_POLICY`, `LARDER_CAP`, `LARDER_EFFECTIVE`. -/
def odRowsCompute2 : List OdRow :=
  [ ⟨0x6011, 0x01, 5, 8, .operator, none, false, 0, 0, 0, 18446744073709551615⟩,
    ⟨0x6011, 0x02, 5, 8, .operator, none, false, 0, 0, 0, 18446744073709551615⟩,
    ⟨0x6011, 0x03, 3, 2, .operator, none, false, 0, 0, 0, 1536⟩,
    ⟨0x6011, 0x04, 5, 8, .operator, none, false, 0, 0, 0, 18446744073709551615⟩,
    ⟨0x6011, 0x05, 5, 8, .operator, none, false, 0, 0, 0, 18446744073709551615⟩,
    ⟨0x6020, 0x01, 5, 8, .operator, none, false, 0, 0, 0, 18446744073709551615⟩,
    ⟨0x6020, 0x02, 5, 8, .operator, none, false, 0, 0, 0, 18446744073709551615⟩,
    ⟨0x6020, 0x03, 5, 8, .operator, none, false, 0, 0, 0, 18446744073709551615⟩,
    ⟨0x6020, 0x04, 5, 8, .operator, none, false, 0, 0, 0, 18446744073709551615⟩,
    ⟨0x6020, 0x05, 5, 8, .operator, none, false, 0, 0, 0, 18446744073709551615⟩,
    ⟨0x6020, 0x06, 5, 8, .operator, none, false, 0, 0, 0, 18446744073709551615⟩,
    ⟨0x6020, 0x07, 3, 2, .operator, none, false, 0, 0, 0, 512⟩,
    ⟨0x6030, 0x01, 5, 8, .operator, none, false, 0, 0, 0, 18446744073709551615⟩,
    ⟨0x6030, 0x02, 5, 8, .operator, none, false, 0, 0, 0, 18446744073709551615⟩,
    ⟨0x6030, 0x03, 5, 8, .operator, none, false, 0, 0, 0, 18446744073709551615⟩,
    ⟨0x6030, 0x04, 5, 8, .operator, none, false, 0, 0, 0, 18446744073709551615⟩,
    ⟨0x6030, 0x05, 5, 8, .operator, none, false, 0, 0, 0, 18446744073709551615⟩,
    ⟨0x6031, 0x01, 2, 1, .operator, some .operator, false, 1, 0, 0, 2⟩,
    ⟨0x6031, 0x02, 5, 8, .operator, some .operator, false, 1, 17179869184, 0, 17179869184⟩,
    ⟨0x6031, 0x03, 5, 8, .operator, none, false, 0, 0, 0, 18446744073709551615⟩ ]

/-- Entries 0x6xxx (part 3): `LARDER_FIRST_OVER`, `LARDER_PLAN`. -/
def odRowsCompute3 : List OdRow :=
  [ ⟨0x6031, 0x04, 3, 2, .operator, none, false, 0, 256, 0, 256⟩,
    ⟨0x6031, 0x05, 2, 1, .operator, none, false, 0, 0, 0, 2⟩ ]

/-- Entries 0x7xxx (part 1): `ROOT_HASH`, `DIK_PUBLIC`, `DIK_CERT`, `ROOT_KEY`, `AK_CERT`, `MAKER_SIGN_CERT`, `MEASUREMENTS`, `BOOT_FLAGS`, `INSTALLER_KEY`, `OPERATOR_KEY`. -/
def odRowsSecurity1 : List OdRow :=
  [ ⟨0x7000, 0x01, 9, 32, .anonymous, none, false, 0, 0, 0, 0⟩,
    ⟨0x7000, 0x02, 9, 1312, .anonymous, none, false, 0, 0, 0, 0⟩,
    ⟨0x7000, 0x03, 9, 3812, .anonymous, none, false, 0, 0, 0, 0⟩,
    ⟨0x7000, 0x04, 9, 1312, .anonymous, none, false, 0, 0, 0, 0⟩,
    ⟨0x7000, 0x05, 9, 3812, .anonymous, none, false, 0, 0, 0, 0⟩,
    ⟨0x7000, 0x06, 9, 3812, .anonymous, none, false, 0, 0, 0, 0⟩,
    ⟨0x7000, 0x07, 9, 128, .operator, none, false, 0, 0, 0, 0⟩,
    ⟨0x7000, 0x08, 2, 1, .operator, none, false, 0, 0, 0, 7⟩,
    ⟨0x7001, 0x01, 9, 1344, .operator, some .installer, false, 0, 0, 0, 0⟩,
    ⟨0x7001, 0x02, 9, 1344, .operator, some .installer, false, 0, 0, 0, 0⟩,
    ⟨0x7001, 0x03, 9, 1344, .operator, some .installer, false, 0, 0, 0, 0⟩,
    ⟨0x7001, 0x04, 9, 1344, .operator, some .installer, false, 0, 0, 0, 0⟩,
    ⟨0x7001, 0x05, 9, 1344, .operator, some .installer, false, 0, 0, 0, 0⟩,
    ⟨0x7001, 0x06, 9, 1344, .operator, some .installer, false, 0, 0, 0, 0⟩,
    ⟨0x7001, 0x07, 9, 1344, .operator, some .installer, false, 0, 0, 0, 0⟩,
    ⟨0x7001, 0x08, 9, 1344, .operator, some .installer, false, 0, 0, 0, 0⟩,
    ⟨0x7002, 0x01, 9, 1344, .operator, some .installer, false, 0, 0, 0, 0⟩,
    ⟨0x7002, 0x02, 9, 1344, .operator, some .installer, false, 0, 0, 0, 0⟩,
    ⟨0x7002, 0x03, 9, 1344, .operator, some .installer, false, 0, 0, 0, 0⟩,
    ⟨0x7002, 0x04, 9, 1344, .operator, some .installer, false, 0, 0, 0, 0⟩ ]

/-- Entries 0x7xxx (part 2): `OPERATOR_KEY`. -/
def odRowsSecurity2 : List OdRow :=
  [ ⟨0x7002, 0x05, 9, 1344, .operator, some .installer, false, 0, 0, 0, 0⟩,
    ⟨0x7002, 0x06, 9, 1344, .operator, some .installer, false, 0, 0, 0, 0⟩,
    ⟨0x7002, 0x07, 9, 1344, .operator, some .installer, false, 0, 0, 0, 0⟩,
    ⟨0x7002, 0x08, 9, 1344, .operator, some .installer, false, 0, 0, 0, 0⟩,
    ⟨0x7002, 0x09, 9, 1344, .operator, some .installer, false, 0, 0, 0, 0⟩,
    ⟨0x7002, 0x0A, 9, 1344, .operator, some .installer, false, 0, 0, 0, 0⟩,
    ⟨0x7002, 0x0B, 9, 1344, .operator, some .installer, false, 0, 0, 0, 0⟩,
    ⟨0x7002, 0x0C, 9, 1344, .operator, some .installer, false, 0, 0, 0, 0⟩,
    ⟨0x7002, 0x0D, 9, 1344, .operator, some .installer, false, 0, 0, 0, 0⟩,
    ⟨0x7002, 0x0E, 9, 1344, .operator, some .installer, false, 0, 0, 0, 0⟩,
    ⟨0x7002, 0x0F, 9, 1344, .operator, some .installer, false, 0, 0, 0, 0⟩,
    ⟨0x7002, 0x10, 9, 1344, .operator, some .installer, false, 0, 0, 0, 0⟩,
    ⟨0x7002, 0x11, 9, 1344, .operator, some .installer, false, 0, 0, 0, 0⟩,
    ⟨0x7002, 0x12, 9, 1344, .operator, some .installer, false, 0, 0, 0, 0⟩,
    ⟨0x7002, 0x13, 9, 1344, .operator, some .installer, false, 0, 0, 0, 0⟩,
    ⟨0x7002, 0x14, 9, 1344, .operator, some .installer, false, 0, 0, 0, 0⟩,
    ⟨0x7002, 0x15, 9, 1344, .operator, some .installer, false, 0, 0, 0, 0⟩,
    ⟨0x7002, 0x16, 9, 1344, .operator, some .installer, false, 0, 0, 0, 0⟩,
    ⟨0x7002, 0x17, 9, 1344, .operator, some .installer, false, 0, 0, 0, 0⟩,
    ⟨0x7002, 0x18, 9, 1344, .operator, some .installer, false, 0, 0, 0, 0⟩ ]

/-- Entries 0x7xxx (part 3): `OPERATOR_KEY`, `SVN_FLOOR_MC`, `SVN_FLOOR_MARSHAL`, `CERT_FLOOR`, `AUTH_FAILURES`, `LOCKOUTS`, `LIVE_ACTIVATIONS`. -/
def odRowsSecurity3 : List OdRow :=
  [ ⟨0x7002, 0x19, 9, 1344, .operator, some .installer, false, 0, 0, 0, 0⟩,
    ⟨0x7002, 0x1A, 9, 1344, .operator, some .installer, false, 0, 0, 0, 0⟩,
    ⟨0x7002, 0x1B, 9, 1344, .operator, some .installer, false, 0, 0, 0, 0⟩,
    ⟨0x7002, 0x1C, 9, 1344, .operator, some .installer, false, 0, 0, 0, 0⟩,
    ⟨0x7002, 0x1D, 9, 1344, .operator, some .installer, false, 0, 0, 0, 0⟩,
    ⟨0x7002, 0x1E, 9, 1344, .operator, some .installer, false, 0, 0, 0, 0⟩,
    ⟨0x7002, 0x1F, 9, 1344, .operator, some .installer, false, 0, 0, 0, 0⟩,
    ⟨0x7002, 0x20, 9, 1344, .operator, some .installer, false, 0, 0, 0, 0⟩,
    ⟨0x7003, 0x01, 4, 4, .operator, none, false, 0, 0, 0, 4294967295⟩,
    ⟨0x7003, 0x02, 4, 4, .operator, none, false, 0, 0, 0, 4294967295⟩,
    ⟨0x7003, 0x03, 4, 4, .operator, some .maker, false, 0, 0, 0, 4294967295⟩,
    ⟨0x7004, 0x01, 5, 8, .operator, none, false, 0, 0, 0, 18446744073709551615⟩,
    ⟨0x7004, 0x02, 4, 4, .operator, none, false, 0, 0, 0, 4294967295⟩,
    ⟨0x7004, 0x03, 4, 4, .operator, none, false, 0, 0, 0, 4294967295⟩ ]

/-- Entries 0x8xxx: `FAULTS_LOGGED`, `FAULT_LOG`, `FAULT_SEQ`, `FAULT_PERSIST`, `CORRECTED_COUNTS`, `SEASON_RESET`, `WARM_RESET`, `TILE_RESET`, `LAST_RESET`, `RESET_COUNTS`, `MC_WD_RESTARTS`, `MARSHAL_WD`, `VIGIL_WD`, `RECKONING`, `RECKONING_BAND`, `RECKONING_PENALTY`, `HALF_LIFE`, `RECKONING_WEIGHTS`, `RECKONING_INPUTS`, `PROBATION`. -/
def odRowsHealth : List OdRow :=
  [ ⟨0x8000, 0x01, 5, 8, .operator, none, false, 0, 0, 0, 18446744073709551615⟩,
    ⟨0x8000, 0x02, 9, 32768, .operator, none, false, 0, 0, 0, 0⟩,
    ⟨0x8000, 0x03, 5, 8, .operator, none, false, 0, 0, 0, 18446744073709551615⟩,
    ⟨0x8000, 0x04, 9, 2048, .operator, none, false, 0, 0, 0, 0⟩,
    ⟨0x8000, 0x05, 9, 1024, .operator, none, false, 0, 0, 0, 0⟩,
    ⟨0x8001, 0x01, 1, 1, .operator, some .operator, true, 0, 0, 0, 1⟩,
    ⟨0x8001, 0x02, 1, 1, .operator, some .installer, true, 0, 0, 0, 1⟩,
    ⟨0x8001, 0x03, 3, 2, .operator, some .operator, true, 0, 0, 0, 511⟩,
    ⟨0x8001, 0x04, 2, 1, .operator, none, false, 0, 0, 1, 6⟩,
    ⟨0x8001, 0x05, 9, 24, .operator, none, false, 0, 0, 0, 0⟩,
    ⟨0x8002, 0x01, 4, 4, .operator, none, false, 0, 0, 0, 4294967295⟩,
    ⟨0x8002, 0x02, 4, 4, .operator, none, false, 0, 0, 0, 4294967295⟩,
    ⟨0x8002, 0x03, 4, 4, .operator, none, false, 0, 0, 0, 4294967295⟩,
    ⟨0x8003, 0x01, 3, 2, .operator, none, false, 0, 1000, 0, 1000⟩,
    ⟨0x8003, 0x02, 2, 1, .operator, none, false, 0, 0, 0, 2⟩,
    ⟨0x8003, 0x03, 4, 4, .operator, none, false, 0, 0, 0, 4294967295⟩,
    ⟨0x8003, 0x04, 3, 2, .operator, some .installer, false, 0, 24, 1, 720⟩,
    ⟨0x8003, 0x05, 9, 64, .operator, some .maker, false, 0, 0, 0, 0⟩,
    ⟨0x8003, 0x06, 9, 128, .operator, none, false, 0, 0, 0, 0⟩,
    ⟨0x8003, 0x07, 3, 2, .operator, some .operator, false, 0, 0, 0, 720⟩ ]

/-- Entries 0x9xxx: `TWIN_STATE`, `PARTNER_SERIAL`, `KEEP_SEALED`, `MIRROR_SEALED`, `REBUILD_PHASE`, `REBUILD_DIRTY`, `REBUILD_BITMAPS`, `KEEP_TABLE`, `KEEP_TOTAL`, `MIRROR_BASE`, `MIRROR_SIZE`, `SOLO_POLICY`, `LOSS_TIME`, `UNPAIR`, `LOST_CLEAR`, `MIRROR_WRITES`, `SEALS`, `REBUILDS`, `STALL_TIME`. -/
def odRowsTwin : List OdRow :=
  [ ⟨0x9000, 0x01, 2, 1, .operator, none, false, 0, 0, 0, 4⟩,
    ⟨0x9000, 0x02, 5, 8, .operator, none, false, 0, 0, 0, 18446744073709551615⟩,
    ⟨0x9000, 0x03, 5, 8, .operator, none, false, 0, 0, 0, 18446744073709551615⟩,
    ⟨0x9000, 0x04, 5, 8, .operator, none, false, 0, 0, 0, 18446744073709551615⟩,
    ⟨0x9000, 0x05, 2, 1, .operator, none, false, 0, 0, 0, 2⟩,
    ⟨0x9000, 0x06, 3, 2, .operator, none, false, 0, 0, 0, 2048⟩,
    ⟨0x9000, 0x07, 9, 512, .operator, none, false, 0, 0, 0, 0⟩,
    ⟨0x9001, 0x01, 9, 256, .operator, some .operator, false, 1, 0, 0, 0⟩,
    ⟨0x9001, 0x02, 5, 8, .operator, none, false, 0, 0, 0, 4294967296⟩,
    ⟨0x9002, 0x01, 5, 8, .operator, some .installer, false, 1, 0, 0, 17177772032⟩,
    ⟨0x9002, 0x02, 5, 8, .operator, some .installer, false, 1, 4294967296, 0, 4294967296⟩,
    ⟨0x9002, 0x03, 2, 1, .operator, some .installer, false, 0, 0, 0, 1⟩,
    ⟨0x9002, 0x04, 3, 2, .operator, some .installer, false, 0, 1000, 100, 10000⟩,
    ⟨0x9003, 0x01, 2, 1, .operator, some .installer, true, 0, 0, 0, 1⟩,
    ⟨0x9003, 0x02, 1, 1, .operator, some .installer, true, 0, 0, 0, 1⟩,
    ⟨0x9004, 0x01, 5, 8, .operator, none, false, 0, 0, 0, 18446744073709551615⟩,
    ⟨0x9004, 0x02, 5, 8, .operator, none, false, 0, 0, 0, 18446744073709551615⟩,
    ⟨0x9004, 0x03, 4, 4, .operator, none, false, 0, 0, 0, 4294967295⟩,
    ⟨0x9004, 0x04, 5, 8, .operator, none, false, 0, 0, 0, 18446744073709551615⟩ ]

/-- Entries 0xAxxx: `ALMANAC`, `ROOT_DESIGNATED`, `ROOT_CURRENT`, `ROOT_GEN`, `TIME_STATE`, `PARENT_DIR`, `DEPTH`, `OFFSET`, `LINK_DELAYS`, `HOLDOVER_MAX`, `BEACON_AGE`, `ALMANAC_SET`, `ASYM`. -/
def odRowsTiming : List OdRow :=
  [ ⟨0xA000, 0x01, 5, 8, .operator, none, false, 0, 0, 0, 18446744073709551615⟩,
    ⟨0xA000, 0x02, 3, 2, .operator, some .installer, false, 0, 0, 0, 16383⟩,
    ⟨0xA000, 0x03, 3, 2, .operator, none, false, 0, 0, 0, 16383⟩,
    ⟨0xA000, 0x04, 4, 4, .operator, none, false, 0, 0, 0, 4294967295⟩,
    ⟨0xA000, 0x05, 2, 1, .operator, none, false, 0, 0, 0, 4⟩,
    ⟨0xA000, 0x06, 2, 1, .operator, none, false, 0, 255, 0, 255⟩,
    ⟨0xA000, 0x07, 2, 1, .operator, none, false, 0, 0, 0, 255⟩,
    ⟨0xA000, 0x08, 6, 4, .operator, none, false, 0, 0, 2147483648, 2147483647⟩,
    ⟨0xA000, 0x09, 9, 44, .operator, none, false, 0, 0, 0, 0⟩,
    ⟨0xA000, 0x0A, 3, 2, .operator, some .installer, false, 0, 20, 1, 100⟩,
    ⟨0xA000, 0x0B, 4, 4, .operator, none, false, 0, 0, 0, 4294967295⟩,
    ⟨0xA000, 0x0C, 5, 8, .operator, some .installer, true, 0, 0, 0, 18446744073709551615⟩,
    ⟨0xA001, 0x01, 9, 128, .operator, some .installer, false, 0, 0, 0, 0⟩ ]

/-- Every entry of the dictionary, in ascending order of (index, sub), subindex 0 apart. -/
def odRows : List OdRow :=
  odRowsManagement1 ++ odRowsManagement2 ++ odRowsManagement3 ++
  odRowsPower1 ++ odRowsPower2 ++
  odRowsOptics1 ++ odRowsOptics2 ++
  odRowsFabric1 ++ odRowsFabric2 ++
  odRowsMemory ++
  odRowsCompute1 ++ odRowsCompute2 ++ odRowsCompute3 ++
  odRowsSecurity1 ++ odRowsSecurity2 ++ odRowsSecurity3 ++
  odRowsHealth ++
  odRowsTwin ++
  odRowsTiming

/-- The entry of a name, subindex 0 apart. -/
def odFind (index sub : Nat) : Option OdRow := odRows.find? (fun r => decide (r.index = index) && decide (r.sub = sub))

/-- The highest subindex in use at an index: subindex 0's value (R447). -/
def odTop (index : Nat) : Option Nat :=
  match odRows.filter (fun r => decide (r.index = index)) with
  | [] => none
  | r :: rs => some (rs.foldl (fun m x => max m x.sub) r.sub)

/-- The row of any name: subindex 0 is a U8 (R447), readable as R448 says of every entry: anonymously from 0x1000 to 0x10FF. -/
def odRow (index sub : Nat) : Option OdRow :=
  if sub = 0 then
    match odTop index with
    | none => none
    | some top =>
      some ⟨index, 0, 2, 1, if index / 256 = 0x10 then .anonymous else .operator, none, false, 0, top, top, top⟩
  else odFind index sub

end Sys2Proof.Machine
end

