-- ==== Sys2Proof/Machine/Sparse.lean ====
section
/-!
DEFINITION. Sparse tables: lists of (key, value) pairs with strictly rising keys in which no entry equals what an
unlisted key reads as. Every table of the state that has one entry for each tile, array, fibre, page, ring or address is
held in this form, so that equal tables are equal data.
-/

set_option Elab.async false

namespace Sys2Proof.Machine

/-- A table from numbers to values. -/
abbrev SMap (α : Type) := List (Nat × α)

/-- What key `k` reads as: its entry, or `d` when it is not listed. -/
def mget {α : Type} (d : α) : SMap α → Nat → α
  | [], _ => d
  | (k, v) :: r, a => if a = k then v else mget d r a

/-- The table without key `a`. -/
def mdel {α : Type} : SMap α → Nat → SMap α
  | [], _ => []
  | (k, v) :: r, a => if a = k then r else if a < k then (k, v) :: r else (k, v) :: mdel r a

/-- The table with key `a` listed as `v`, whatever an unlisted key reads as. -/
def mput {α : Type} : SMap α → Nat → α → SMap α
  | [], a, w => [(a, w)]
  | (k, v) :: r, a, w =>
    if a = k then (k, w) :: r else if a < k then (a, w) :: (k, v) :: r else (k, v) :: mput r a w

/-- The table with key `a` reading as `v`: an entry equal to the default is removed. -/
def mset {α : Type} [DecidableEq α] (d : α) (m : SMap α) (a : Nat) (v : α) : SMap α :=
  if v = d then mdel m a else mput m a v

/-- Change the value at key `a`. -/
def mmod {α : Type} [DecidableEq α] (d : α) (m : SMap α) (a : Nat) (f : α → α) : SMap α :=
  mset d m a (f (mget d m a))

/-- Change every listed value; entries that become the default are removed. -/
def mmapv {α : Type} [DecidableEq α] (d : α) (f : α → α) (m : SMap α) : SMap α :=
  (m.map (fun x => (x.1, f x.2))).filter (fun x => decide (x.2 ≠ d))

/-- The entry listed at key `a`, if there is one. -/
def mfind {α : Type} : SMap α → Nat → Option α
  | [], _ => none
  | (k, v) :: r, a => if a = k then some v else mfind r a

/-- The keys are strictly rising, all at least `lo`, and no entry is the default: the canonical form. -/
def mwfFrom {α : Type} [DecidableEq α] (d : α) : Nat → SMap α → Bool
  | _, [] => true
  | lo, (k, v) :: r => decide (lo ≤ k) && decide (v ≠ d) && mwfFrom d (k + 1) r

/-- The canonical form of a table. -/
def mwf {α : Type} [DecidableEq α] (d : α) (m : SMap α) : Bool := mwfFrom d 0 m

/-- The numbers listed in a set held as a table of flags. -/
def mkeys {α : Type} (m : SMap α) : List Nat := m.map Prod.fst

end Sys2Proof.Machine
end

