-- ==== Sys2Proof/Machine/State.lean ====
section
/-!
DEFINITION. The state of the block: every register, buffer, table, queue, counter, mode and pin the spec gives it, as
plain data, in one structure per chapter; the reasons a step can stop; and the state right after reset. Each field's
default value is its value at `State.reset`. A field marked (model) is the model's own, not the spec's.
-/

set_option Elab.async false

namespace Sys2Proof.Machine

/-! ## Power, sensing, journal (14) -/

/-- The power states (R479); Off is the state with the input below 18 V. -/
inductive PState where
  | off | standby | ready | run | latched
  deriving DecidableEq, Repr

/-- A filter of R497: the latest samples (newest first, at most three) and the filtered value y. -/
structure Filter where
  raw : List Int := []
  y : Dy := ⟨0, 0⟩
  deriving DecidableEq, Repr

/-- One temperature diode (R488 to R490), in units of 0.125 °C. -/
structure Diode where
  f : Filter := {}
  /-- the previous valid sample -/
  lastValid : Option Int := none
  /-- valid samples taken, at most 3 (R551); invalid samples in a row (R490) -/
  valid : Nat := 0
  bad : Nat := 0
  failed : Bool := false
  /-- highest filtered reading since Cold reset, floor (OD 0x2003.03) -/
  peak : Option Int := none
  deriving DecidableEq, Repr

/-- One laser input line (R287): filter in 0.01 dBm. -/
structure Line where
  f : Filter := {}
  baseline : Option Int := none
  deriving DecidableEq, Repr

/-- What an audit entry holds before it is written (R466). -/
structure Audit where
  time : U64
  index : Nat
  sub : Nat
  role : Nat
  status : Nat
  via : Via
  keyFp : List Byte
  value : List Byte
  deriving DecidableEq, Repr

/-- A written audit entry (R466): its sequence number, its content and its chain value. -/
structure AuditEntry where
  seq : Nat
  body : List Byte
  chain : List Byte
  deriving DecidableEq, Repr

/-- A fault record (R531). -/
structure FaultRec where
  code : U16
  sev : Nat
  byVigil : Bool
  persist : Bool
  seq : Nat
  time : U64
  ordinal : Option Nat
  tile : Option Nat
  context : Nat
  /-- (model) what else its chapter logs it with; the 32 bytes of the record have no place for it -/
  also : List Nat := []
  deriving DecidableEq, Repr

/-- What a pending journal record is for (R500). -/
inductive JKind where
  /-- a run-time retirement of an array (R153) -/
  | retire (a : Nat)
  /-- removal of a retirement record (R155) -/
  | unretire (a : Nat)
  /-- a row remap with the row's new failure count (R256, R257) -/
  | remap (row count : Nat)
  /-- segments retired at a Season reset (R258) -/
  | segments (segs : List Nat)
  /-- baselines of a laser input's eight lines, with 16 + n of engine n's fibre monitors, or with 24 + n of its others (R288, R310) -/
  | baseline (input : Nat) (vals : List (Option Int))
  /-- a stored object value (R585) -/
  | stored (key : Nat) (val : List Byte)
  /-- lane maps committed by a Maker (R38) -/
  | laneMaps (maps : List (Nat × List Byte))
  /-- activation of a firmware slot with its floor (R520, R522) -/
  | activate (component : Nat) (slot : Bool) (floor : U32)
  /-- a Device-fatal or Latched fault for the persistent log (R533) -/
  | fault (r : FaultRec)
  /-- the penalty P (R548) -/
  | penalty (p : Nat)
  /-- an audit entry alone -/
  | auditOnly
  deriving DecidableEq, Repr

/-- A pending journal record (R500), with its audit entry when it has one not yet written. -/
structure JRec where
  kind : JKind
  audit : Option Audit := none
  deriving DecidableEq, Repr

/-- Power, temperature, Vigil's filters and the pending journal (14). -/
structure Power where
  state : PState := .off
  /-- the input has risen through 34.5 V and not fallen through 33.0 V since (R475) -/
  railsOk : Bool := false
  /-- 0x9003 was raised in the present episode (R475) -/
  outOfRange : Bool := false
  /-- throttle steps n (R483) -/
  steps : Nat := 0
  /-- f_cap in 100 MHz units (R484) -/
  cap : Nat := 16
  /-- an over-current stretch is in force (R486); (model) since which Almanac value, and for how long, in ns, earlier ones were -/
  stretch : Bool := false
  stretchAt : Nat := 0
  stretched : Nat := 0
  /-- FSCs in service (R492) -/
  fscMap : BitVec 8 := 0xFF
  /-- 0x9001 was raised in the present episode (R491) -/
  hotEpisode : Bool := false
  /-- filtered input current, mA -/
  current : Filter := {}
  /-- filtered input voltage, mV -/
  voltage : Filter := {}
  /-- diodes 0 to 24: CD0-CD7, HD, EIC0-EIC7, FSC0-FSC7 -/
  diodes : SMap Diode := []
  /-- flags of each converter's previous read, FSC0-7 then PLS0-15 -/
  conv : SMap (BitVec 4) := []
  /-- governor periods in a row with I at or below L - 3 A since the latest change of f_cap (R484) -/
  lowRun : Nat := 0
  /-- governor periods in a row at 0.4 GHz with I above L (R485) -/
  overRun : Nat := 0
  /-- rows of the shutdown sequence done: 0 none begun, 1 begun, 2 notices sent, 3 lasers and PCIe dropped, 4 rails off (R494) -/
  shutdown : Nat := 0
  /-- code of the latest shutdown (OD 0x2000.04) -/
  latchCause : U16 := 0
  /-- the NV write window is open (R499) -/
  nvOpen : Bool := false
  /-- 0x9040 was raised for the present closing (R500) -/
  nvAdvised : Bool := false
  /-- the pending journal, oldest first, at most 64 records (R500) -/
  journal : List JRec := []
  /-- records lost at the latest power cycle (OD 0x2004.03) -/
  nvLost : Nat := 0
  /-- input energy since Cold reset in units of 10^-10 J (OD 0x2002.05) -/
  energy : Nat := 0
  deriving DecidableEq, Repr

/-! ## The NV store: manifest, firmware, audit and persistent logs (13, 15, 16) -/

/-- A firmware image in a slot, with what its verification rests on (R513). -/
structure Image where
  component : U16 := 0
  version : U32 := 0
  svn : U32 := 0
  svnFloor : U32 := 0
  /-- the signer certificate verifies with USE 0x04 and the header signature verifies under it -/
  sigOk : Bool := false
  /-- CSEQ of the signer certificate -/
  cseq : U32 := 0
  /-- the body's hash equals BODY_HASH and the sizes keep their bounds -/
  bodyOk : Bool := false
  /-- SHA3-256 of header bytes 0 to 6,295 -/
  measure : List Byte := []
  /-- verified and ready to activate (R471) -/
  ready : Bool := false
  /-- marked invalid (R471, R521, R522) -/
  invalid : Bool := false
  deriving DecidableEq, Repr

/-- One manifest copy as the checks of R511 find it. -/
structure ManCopy where
  blank : Bool := true
  /-- checks 1 and 2 pass -/
  makerOk : Bool := false
  /-- UDS can be reconstructed from its helper data (R507) -/
  pufOk : Bool := false
  /-- check 3 passes -/
  dikOk : Bool := false
  /-- check 4 passes -/
  commitOk : Bool := false
  counter : Nat := 0
  deriving DecidableEq, Repr

/-- The NV store. -/
structure Nv where
  copyA : ManCopy := { blank := false, makerOk := true, pufOk := true, dikOk := true, commitOk := true, counter := 1 }
  copyB : ManCopy := {}
  /-- a commit is being written over the copy with the lower counter (R512) -/
  committing : Bool := false
  serial : U64 := 0
  /-- grade GV-TN8-S (R1, OD 0x6010.01) -/
  gradeS : Bool := false
  /-- factory-disabled arrays (R2) -/
  factoryOff : SMap Bool := []
  /-- run-time retirement records (R153) -/
  retired : SMap Bool := []
  /-- lane maps of the manifest; an unlisted bundle has the identity map (R24) -/
  laneMaps : SMap (List Byte) := []
  /-- build identity and serial the manifest lists for each die-map entry (R35) -/
  dieBuild : SMap U16 := []
  dieSerial : SMap U64 := []
  /-- die-map entries the manifest does not list (R35) -/
  unlisted : SMap Bool := []
  /-- failure counts of logical rows (R257) -/
  rowFails : SMap Nat := []
  /-- retired segments (R258) -/
  segRetired : SMap Bool := []
  /-- baselines in 0.01 dBm: of input 2 n + s its eight lines, and under 16 + n of engine n's fibres their transmit outputs and
  far receive inputs, and under 24 + n its other monitors in the order of `monKeys` (R288, R310) -/
  baselines : SMap (List (Option Int)) := []
  /-- stored object values (R585), keyed INDEX * 256 + SUB -/
  stored : SMap (List Byte) := []
  svnFloorMc : U32 := 0
  svnFloorMsh : U32 := 0
  /-- active slots: false A, true B (R510) -/
  slotMc : Bool := false
  slotMsh : Bool := false
  mcA : Image := { component := 1, sigOk := true, bodyOk := true }
  mcB : Image := {}
  mshA : Image := { component := 2, sigOk := true, bodyOk := true }
  mshB : Image := {}
  /-- the audit log, oldest first, at most 4,096 entries (R466) -/
  audit : List AuditEntry := []
  auditSeq : Nat := 0
  /-- CHAIN of the latest entry written, and of the entry before the oldest retained (R467) -/
  auditChain : List Byte := List.replicate 32 0
  auditAnchor : List Byte := List.replicate 32 0
  /-- the persistent fault log, at most 64 records (R533) -/
  persist : List FaultRec := []
  /-- Cold, Warm and Season resets over the package's life (OD 0x8001.05) -/
  resetCold : Nat := 0
  resetWarm : Nat := 0
  resetSeason : Nat := 0
  /-- P as last written (R548) -/
  penalty : Nat := 0
  /-- the loss record: pending records of each kind counted at the fall of the input (R502), how many of them carried an audit entry, and
  the records that a full journal had dropped before a power cycle (R501) -/
  lossRecord : List Nat := []
  lossAudit : Nat := 0
  lossDropped : Nat := 0
  deriving DecidableEq, Repr

/-! ## Start-up and the management core (15, 17) -/

/-- A fault record or an event that waits for the management core (R520, R521). -/
inductive Held where
  | fault (r : FaultRec)
  | event (kind sev code index sub : Nat) (time : U64)
  deriving DecidableEq, Repr

/-- Start-up (17), the management core, its live activation and its watchdogs (15, 16). -/
structure Boot where
  /-- START_STAT.STEP (R569) -/
  step : Nat := 1
  blocked : Bool := false
  waiting : Bool := false
  engOut : BitVec 8 := 0
  fail : U16 := 0
  /-- the start-up runs (R551) -/
  starting : Bool := false
  /-- Boot-blocked (R514), with the code OD 0x1000.10 reports -/
  bootBlocked : Bool := false
  bootFail : U16 := 0
  /-- the SLOT strap sampled at the Cold reset (R455) -/
  slot : BitVec 3 := 0
  slotTaken : Bool := false
  /-- a manifest copy has been accepted (R511) -/
  manifestOk : Bool := false
  /-- slots in force: false A, true B (R514) -/
  mcSlot : Bool := false
  mshSlot : Bool := false
  /-- BOOT_FLAGS (OD 0x7000.08) -/
  fallback : Bool := false
  liveSince : Bool := false
  mshPending : Bool := false
  /-- the management core answers (R456) -/
  mcRuns : Bool := false
  /-- HOST_STAT.OD_LIVE (R425) -/
  odLive : Bool := false
  /-- a live activation, a revert or a restart of the core runs (R520, R521, R534), and the slot being activated -/
  activating : Bool := false
  actSlot : Option Bool := none
  /-- the core is stopped for good until a reset (R535) -/
  mcStopped : Bool := false
  /-- the hub outside the Vigil island is powered and runs (R481, R552) -/
  hub : Bool := false
  /-- faults and events held while the core is down, oldest first, at most 256, and whether one was lost (R520, R521) -/
  held : List Held := []
  heldLost : Bool := false
  /-- Almanac times of the recent core and Vigil restarts, latest first (R535, R537) -/
  mcRestarts : List Nat := []
  vigilRestarts : List Nat := []
  /-- step 8 was entered at this Almanac value (R557) -/
  step8 : Option Nat := none
  /-- 1 Cold, 2 power cycle, 3 PERST_N, 4 command, 5 undervoltage, 6 Season (OD 0x8001.04) -/
  lastReset : Nat := 1
  /-- HOST_STAT.READY (R558) -/
  ready : Bool := false
  /-- out of service, with the code of the fault (R528) -/
  outOfService : Option U16 := none
  /-- a Season reset has passed since the package left service (R528) -/
  oosSeason : Bool := false
  /-- Latched records kept until a Cold reset (R529) -/
  latched : List U16 := []
  deriving DecidableEq, Repr

/-! ## Sessions, endpoints, firmware update (13, 15) -/

/-- A session (R461, R517, R518). -/
structure Sess where
  num : Nat
  via : Via
  role : Role
  proven : Bool
  nonce : List Byte
  keyFp : List Byte
  /-- served by Vigil (R457) -/
  byVigil : Bool
  deriving DecidableEq, Repr

/-- An event record (R462). -/
structure Event where
  seq : Nat
  time : U64
  kind : Nat
  sev : Nat
  code : Nat
  index : Nat
  sub : Nat
  deriving DecidableEq, Repr

/-- A response to a dictionary request (R458). -/
structure OdResp where
  via : Via
  tag : U16
  session : U16
  status : Nat
  overrun : Bool
  /-- LENGTH of the response -/
  length : Nat
  data : List Byte
  deriving DecidableEq, Repr

/-- A response to an MCTP control or PLDM message (R453, R470): its completion code and data. -/
structure CtlResp where
  via : Via
  code : Nat
  data : List Byte
  deriving DecidableEq, Repr

/-- The firmware update in progress (R470). -/
structure FwUp where
  /-- OD 0x1105.01 -/
  state : Nat := 0
  /-- bytes received of the component in progress (OD 0x1105.02) -/
  progress : Nat := 0
  via : Option Via := none
  session : Nat := 0
  /-- component being downloaded, its size and its bytes so far -/
  component : Nat := 0
  size : Nat := 0
  bytes : List Byte := []
  /-- components of the table passed (R470) -/
  table : List Nat := []
  deriving DecidableEq, Repr

/-- The dictionary, its sessions, events and transports (13, 15). -/
structure Mgmt where
  /-- latest accepted values of the writable entries, keyed INDEX * 256 + SUB; an unlisted entry holds its default (R449) -/
  latest : SMap (List Byte) := []
  /-- values in force, where a deferred write waits (R449) -/
  inForce : SMap (List Byte) := []
  sessions : List Sess := []
  nextSession : Nat := 1
  /-- Almanac times of the failed PROVEs of each endpoint in the last 60 s (R518) -/
  failures : SMap (List Nat) := []
  /-- endpoints in lockout (R518), numbered as VIA -/
  lockout : SMap Bool := []
  /-- endpoint IDs: I3C-A, I3C-B, PCIe VDM (R453) -/
  eidA : Byte := 0
  eidB : Byte := 0
  eidPcie : Byte := 0
  /-- dynamic addresses and in-band interrupt enables of the I3C ports (R454, R463) -/
  dynA : Option Byte := none
  dynB : Option Byte := none
  ibiA : Bool := false
  ibiB : Bool := false
  /-- an In-Band Interrupt is raised and not acknowledged (R463) -/
  ibiPendA : Bool := false
  ibiPendB : Bool := false
  /-- the latest 256 events, oldest first, and the next number (R462) -/
  events : List Event := []
  eventSeq : Nat := 0
  /-- generation and refresh time of the BAR0 mirror, and the values it shows (R465) -/
  mirrorGen : U32 := 0
  mirrorTime : U64 := 0
  mirror : SMap (List Byte) := []
  /-- writes refused with NV_BUSY since Cold reset (OD 0x1103.05) -/
  auditRefused : Nat := 0
  fw : FwUp := {}
  /-- a lane-map commit waits in the journal (R38); it stays so over every reset that keeps the journal -/
  laneCommit : Bool := false
  deriving DecidableEq, Repr

/-! ## Dies and bundles (01) -/

/-- A block in the sender's retry buffer (R21): as it was sent first, the sends in a row that failed its check, and, once a send
has passed it, the bytes received, which wait for the blocks before them. -/
structure Block where
  data : List Byte
  fails : Nat := 0
  got : Option (List Byte) := none
  deriving DecidableEq, Repr

/-- One die-to-die bundle (R20 to R32). Before the first start test the spec gives `D2D_STAT` no value; the model then shows a
bundle of 68 good lanes at full width with the identity map (DESIGN CHOICE, log entry 25). -/
structure Bundle where
  good : Nat := 68
  /-- D2D_STAT.WIDTH: 0 full, 1 half, 2 out of service -/
  width : Nat := 0
  mapDiff : Bool := false
  clkFail : Bool := false
  validFail : Bool := false
  /-- D2D_STAT.RESEND, saturating at 0xFFFF -/
  resend : Nat := 0
  /-- lane map in use; [] stands for the identity map -/
  map : List Byte := []
  /-- the retry buffer of each direction, oldest block first, at most 64 (R21): the blocks not yet delivered -/
  retry0 : List Block := []
  retry1 : List Block := []
  /-- (model) the blocks delivered in each direction, oldest first -/
  out0 : List (List Byte) := []
  out1 : List (List Byte) := []
  /-- Almanac values of the latest 4,097 re-sends, latest first (R31) -/
  sends : List Nat := []
  /-- 0x3004 was raised this Season (R31) -/
  advised : Bool := false
  deriving DecidableEq, Repr

/-- One die-map entry (R33, R34). -/
structure Die where
  rec_ : AnnounceRec := ⟨0, 0, 0, 0, 0, 0⟩
  answered : Bool := false
  /-- tries whose CHECK failed (R35) -/
  badChecks : Nat := 0
  /-- the entry has reported an outcome (R35) -/
  reported : Bool := false
  deriving DecidableEq, Repr

/-- The die set (01). -/
structure Dies where
  bundles : SMap Bundle := []
  map : SMap Die := []
  /-- lane test done since the latest Warm or Cold reset (R25) -/
  tested : Bool := false
  deriving DecidableEq, Repr

/-! ## Store, die caches, channels (07) -/

/-- A Store channel (R238, R274). -/
structure Chan where
  /-- self-test passed since the latest Warm or Cold reset (R260) -/
  tested : Bool := false
  failed : Bool := false
  corr : Nat := 0
  /-- failed sends in a row of an on-chip block on each path that ends at this channel's tile router (R253): 0 to 3 from the routers to
  the east, west, north and south, 4 from the die-cache slice, 5 from the channel interface, 6 from the tile -/
  fails : SMap Nat := []
  /-- the slots granted lately, latest first, at most 1,600: the Almanac value and whether the request was latency-critical (R250) -/
  grants : List (Nat × Bool) := []
  deriving DecidableEq, Repr

/-- A write whose acknowledgement waits for far copies to go (R46): the request, or the packet that asked, and the dies still to answer. -/
structure InvWait where
  line : Nat
  dies : List Nat
  /-- request to resolve, when the writer is a Herald of this package -/
  req : Option Nat
  /-- acknowledgement to send, when the writer is another package -/
  ack : Option Packet
  deriving DecidableEq, Repr

/-- The Store and the die caches (07). -/
structure Store where
  /-- bytes of the Store by package-local address; an unlisted byte reads as zero (R240) -/
  cells : List Host.Cell := []
  /-- poisoned lines (R252) -/
  poison : SMap Bool := []
  chans : SMap Chan := []
  /-- corrected words of each physical row since the latest Warm reset (R255) -/
  rowCorr : SMap Nat := []
  /-- spare rows used in each bank (R256) -/
  spares : SMap Nat := []
  /-- rows whose copy runs (R256) -/
  copying : SMap Bool := []
  /-- segments whose retirement is in force (R258) -/
  segRetired : SMap Bool := []
  /-- segments marked for retirement (R257) -/
  segMarked : SMap Bool := []
  /-- a migration runs (R258) -/
  migrating : Bool := false
  /-- lines written in their home slices and not yet written back to their channels (R246, R248) -/
  dirty : SMap Bool := []
  /-- copies in far parts, keyed 8 * (global line number) + die: the line's 128 bytes (R45, R245, R369) -/
  far : SMap (List Byte) := []
  /-- writes waiting for invalidations (R46) -/
  waits : List InvWait := []
  /-- release counts of the 256 regions (R374) -/
  epochs : SMap U32 := []
  /-- (model) which undefined content the tile buffers hold since the latest reset of all of them -/
  bufGen : Nat := 0
  deriving DecidableEq, Repr

/-! ## Tiles (02 to 07, 10) -/

/-- A scoreboard slot: the position of an issued entry that has not completed (R64), with its issue time, kind and cost (R78). -/
structure Slot where
  pos : Nat
  kind : Nat
  cost : Nat
  /-- the tile's cycle count at issue, in units of 1/20 cycle (`cycleUnits`) -/
  at_ : Nat
  /-- R65 event of a Wait: its NOT_BEFORE in units of 4 ns -/
  notBefore : Nat
  deriving DecidableEq, Repr

/-- One Tally check of a pass in flight (R146): skipped, integer, or float with D's exact Y - T and the exact M. -/
inductive Tally where
  | skip
  | int (diff : Int)
  | flt (diff : Dy) (m : Dy)
  deriving DecidableEq, Repr

/-- A pass in flight on an array (R130, R140). -/
structure PassRun where
  pos : Nat
  /-- image offset of its descriptor -/
  desc : Nat
  /-- its staged output bytes, by tile-buffer address -/
  out : List Host.Cell
  /-- first and last tile-buffer line (128 bytes) of its output extent (R140) -/
  line0 : Nat
  line1 : Nat
  vchecks : List Tally
  cchecks : List Tally
  /-- τ is 2^-tau (R147) -/
  tau : Nat
  /-- multiply-accumulates, and the mode they are counted in -/
  macs : Nat
  is_ : Bool
  /-- array cycles C (R129) -/
  cycles : Nat
  /-- this is the replay (R72); a code that stopped the first attempt -/
  replay : Bool
  code : U16
  /-- stopped, staging discarded, replay due (R156) -/
  stopped : Bool
  deriving DecidableEq, Repr

/-- One array: its state and mismatch history (R150, R151). -/
structure Arr where
  /-- 0 in service, 1 suspect, 2 factory-disabled, 3 retired -/
  state : Nat := 0
  prior : Bool := false
  p : Nat := 0
  /-- RETIRE_CLEAR waits for the next Season (R155) -/
  clear : Bool := false
  deriving DecidableEq, Repr

/-- A parsed Stream descriptor (R265). -/
structure StreamD where
  dir : Nat := 0
  prio : Bool := false
  transpose : Bool := false
  cvtEn : Bool := false
  fetch : Bool := false
  nofar : Bool := false
  fmt : Nat := 0
  aop : Nat := 0
  cvt : Nat := 0
  depth : Nat := 1
  herald : Nat := 0
  addr : Nat := 0
  counts : List Nat := [1, 1, 1, 1]
  strides : List Int := [0, 0, 0, 0]
  nearAddr : Nat := 0
  nearPitch : Nat := 0
  fetchAddr : Nat := 0
  deriving DecidableEq, Repr

/-- A Herald (R264, R273). -/
structure Herald where
  busy : Bool := false
  /-- false: a Stream entry; true: a vector port -/
  user : Bool := false
  dir : Nat := 0
  pos : Nat := 0
  port : Nat := 0
  d : StreamD := {}
  /-- elements the stream moves; for a port, R178's count -/
  total : Nat := 0
  /-- next element to be requested, and elements finished; `half` is the line that the rest of an element which crosses a
  line's end is still to be requested from -/
  next : Nat := 0
  half : Option Nat := none
  done : Nat := 0
  inflight : Nat := 0
  /-- elements delivered to a vector port, or waiting to leave it: run index and encoding -/
  elems : SMap Nat := []
  /-- an output port's elements have been handed over -/
  loaded : Bool := false
  resend : Nat := 0
  deriving DecidableEq, Repr

/-- A vector run in flight (R194): false Procession, true Masque. -/
structure VecRun where
  masque : Bool
  pos : Nat
  desc : Nat
  /-- Heralds held, by port -/
  ports : List (Nat × Nat)
  computed : Bool
  /-- (model) once computed: the generator and the free-value counter it started from, and the flags and the empty reductions
  that take effect when it completes or stops -/
  gen0 : U64 := 0
  draws0 : List U16 := []
  fresh0 : Nat := 0
  flags : Nat := 0
  empties : Nat := 0
  deriving DecidableEq, Repr

/-- A Lantern op in flight (R221): outputs are written row by row. -/
structure LanRun where
  pos : Nat
  desc : Nat
  /-- next row to run -/
  row : Nat
  /-- logical ledger line a read waits for (R211) -/
  waitLine : Option Nat
  deriving DecidableEq, Repr

/-- One piece of a Transfer (R377). -/
structure Piece where
  /-- bytes finished, out of the piece's size -/
  got : Nat := 0
  /-- members that have acknowledged it (R386) -/
  acks : Nat := 0
  done : Bool := false
  failed : Bool := false
  deriving DecidableEq, Repr

/-- A Transfer in flight (R376 to R379). -/
structure Xfer where
  pos : Nat
  tag : Nat
  /-- 0 push, 1 pull, 2 local, 3 refused at the sender -/
  way : Nat
  bytes : Nat
  pshift : Nat
  status : Nat
  pieces : SMap Piece
  /-- acknowledgements each piece needs: 1, or the members of the split -/
  need : Nat
  code : U16
  deriving DecidableEq, Repr

/-- A Fence in flight (R382, R383). -/
structure FenceRun where
  pos : Nat
  op : Nat
  scope : Bool
  target : Coord
  region : Nat
  status : Nat
  /-- the issue ordinal recorded -/
  ordinal : Nat
  /-- tokens it waited for that resolved undeliverable -/
  undelivered : Nat
  /-- the release packet or epoch read has been sent -/
  sent : Bool
  /-- acknowledgement or epoch has come -/
  answered : Bool
  epoch : U32
  deriving DecidableEq, Repr

/-- Write-token counts to one destination (R384). -/
structure Tok where
  i : Nat := 0
  k : Nat := 0
  x : Nat := 0
  o : Nat := 0
  deriving DecidableEq, Repr

/-- Everything of one tile that a Tile reset resets, and its buffer. -/
structure Tile where
  /-- MSH_STAT.STATE (R68) -/
  st : Nat := 0
  leaped : Bool := false
  vmode : Bool := false
  pos : Nat := 0
  record : Nat := 0
  /-- frame ordinal, opening Calend (ns) and pass list (image offset, COUNT) of the frame it runs (R66) -/
  ordinal : Nat := 0
  opened : Nat := 0
  list : Option (Nat × Nat) := none
  board : List Slot := []
  /-- its frame was incomplete at its closing Calend (R586) -/
  stuck : Bool := false
  /-- it has declared overrun in this frame (R79) -/
  declared : Bool := false
  /-- it has raised 0x1011 in this frame (R84) -/
  second : Bool := false
  /-- its watchdog fired: a Tile reset follows at the halting Calend (R536) -/
  hung : Bool := false
  /-- frame ordinal and position of a Pass that 0x1116 has stopped from issuing (R141) -/
  refusedAt : Option (Nat × Nat) := none
  /-- a Tile reset waits for STATE 4 (R95) -/
  resetDue : Bool := false
  /-- passes in flight on F, G0, G1 -/
  runs : SMap PassRun := []
  /-- arrays idle: committed entries wait for nothing; busy cycles of this frame for R199, arrays then vector unit -/
  busy : SMap Nat := []
  /-- generator state and unused draws of its last output (R110) -/
  gen : U64 := 0
  draws : List U16 := []
  /-- ARITH_FLAGS (R120) -/
  flags : BitVec 8 := 0
  /-- vector unit: the run in flight; V0 to V31 and P0 to P7 by element of the group, as the latest Masque run left them, and the
  stage latches of the latest Procession (R166) -/
  vec : Option VecRun := none
  vregs : List (List Nat) := []
  pregs : List (List Bool) := []
  latches : List (List Nat) := []
  vecKind : Bool := false
  /-- vector mode its control store holds, and whether it reloads (R195) -/
  vecMode : Bool := false
  reload : Bool := false
  /-- Lantern and its ledger: valid records by logical index, lines present (most recently used first), MISSES -/
  lan : Option LanRun := none
  ledger : SMap U64 := []
  lines : List Nat := []
  misses : Nat := 0
  her : SMap Herald := []
  xfers : List Xfer := []
  fences : List FenceRun := []
  /-- issue ordinal of the next write token (R383) -/
  nextOrd : Nat := 0
  toks : SMap Tok := []
  deriving DecidableEq, Repr

/-- What of a tile a Tile reset keeps, and its buffer's content. -/
structure TileKeep where
  /-- tile clock in force, 100 MHz units (R70) -/
  clock : Nat := 16
  /-- (model) units of 1/20 tile cycle that had elapsed at the latest change of the clock, and that change's time in units of
  1/2 ns of an unstretched clock (R78) -/
  cycles : Nat := 0
  cyclesAt : Nat := 0
  /-- tile-buffer bytes written since the buffer's content last became undefined; an unlisted byte is undefined (R237) -/
  buf : List Host.Cell := []
  /-- (model) which undefined content it holds -/
  bufGen : Nat := 0
  /-- ARR_STAT.MISMATCH (R162) and VEC_STAT.ECC_CORR (R200) -/
  mismatch : Nat := 0
  eccCorr : Nat := 0
  deriving DecidableEq, Repr

/-! ## Requests that await a response (10) -/

/-- What a request asks for. -/
inductive ReqKind where
  | load | store | atomic | pull | piece | release | epochRead
  deriving DecidableEq, Repr

/-- A request issued and not yet consumed at its source: a Herald's line request, a Transfer's read or piece, a release, an
acquire's epoch read (R268, R371, R377, R383). -/
structure Req where
  kind : ReqKind
  tile : Nat
  /-- Herald, or Transfer tag, or Fence position -/
  unit : Nat
  /-- destination coordinate and die (R371) -/
  dest : Coord
  die : Nat
  remote : Bool
  /-- global address and bytes -/
  addr : U64
  len : Nat
  prio : Bool
  nofar : Bool
  /-- elements n0 to n0 + cnt - 1 of the stream -/
  n0 : Nat
  cnt : Nat
  piece : Nat
  /-- a store's bytes, each with the mask of its written bits; an atomic's operands -/
  wr : List (Byte × Byte)
  aop : Nat
  fmt : Nat
  word0 : U32
  word1 : U32
  /-- token's issue ordinal, when it holds a write token (R383) -/
  token : Option Nat
  /-- Almanac value of its first sending -/
  sent : Nat
  /-- answered: with its data, with poison, or as undeliverable -/
  answered : Bool
  poison : Bool
  undeliverable : Bool
  data : List Byte
  deriving DecidableEq, Repr

/-! ## Calendars (02) -/

/-- The fields of a Calendar image's header (R54) and its section table. -/
structure Hdr where
  k : Nat := 0
  fclk : Nat := 0
  lead : Nat := 0
  size : Nat := 0
  frames : Nat := 0
  seed : U64 := 0
  calId : U64 := 0
  minLink : Nat := 0
  tileMap : BitVec 512 := 0
  deriving DecidableEq, Repr

/-- The Larder plan of a launch (R225, R226): substituted list sets by record. -/
structure Larder where
  effective : Nat := 0
  firstOver : Nat := 256
  plan : Nat := 0
  subst : SMap Nat := []
  ledgerSpill : Nat := 0
  ledgerRecords : Nat := 32768
  deriving DecidableEq, Repr

/-- A launch: its image, START, and the command it answers (R87, R440). -/
structure Cal where
  addr : Nat
  start : Nat
  cid : U32
  ring : Nat
  slot : Nat
  hdr : Hdr
  /-- Almanac value at which the command was read (R88) -/
  readAt : Nat
  /-- armed; false while validating -/
  armed : Bool
  larder : Larder
  deriving DecidableEq, Repr

/-- A running Calendar (R90, R91). -/
structure Run where
  cal : Cal
  /-- ordinal and record of the current frame, its opening Calend index, whether it has leaped -/
  ordinal : Nat
  record : Nat
  openC : Nat
  leaped : Bool
  /-- remaining[i] of R58 where it is set -/
  remaining : SMap Nat
  /-- ordinals of the latest leaps, latest first, and whether 0x1002 was raised (R86) -/
  leapOrds : List Nat
  leapAdvised : Bool
  /-- halting Calend index, when a halt is known (R91); the first halt code; whether it came by an abort; the origin key of a peer's abort -/
  haltAt : Option Nat
  haltCode : U16
  aborted : Bool
  abortFrom : U16
  /-- a halt known to the package was raised before the completing Calend (R90) -/
  halted : Bool
  /-- Almanac value of the completing Calend, once passed (R90) -/
  completed : Option Nat
  /-- the halting Calend has passed: Almanac value (R92) -/
  halting : Option Nat
  /-- frames executed -/
  executed : Nat
  deriving DecidableEq, Repr

/-- Frames and Calendars of the package (02). -/
structure Frames where
  /-- validating or armed -/
  held : Option Cal := none
  run : Option Run := none
  /-- CAL_STATE 5 until a Season reset (R87) -/
  haltedHeld : Bool := false
  /-- CAL_ID, ordinal, record, leaps, replays of the running or last Calendar (OD 0x6000) -/
  calId : U64 := 0
  ordinal : Nat := 0
  record : Nat := 0
  leaps : Nat := 0
  replays : Nat := 0
  /-- notice bound B (R77) -/
  bound : Nat := 400
  /-- notices seen, by (TYPE, ORDINAL, ORIGIN) (R80) -/
  seen : List (Nat × Nat × Nat) := []
  /-- halt and abort notices kept for a later launch (R85) -/
  kept : List Notice := []
  /-- Larder of the latest launch (R225) -/
  larder : Larder := {}
  /-- vector-paced tiles of the latest completed frame (OD 0x6020.07) -/
  vecPaced : Nat := 0
  /-- refusal of every launch until the next Season reset: 0x6014 or 0x7004 (R587) -/
  refuse : Option U16 := none
  /-- Season's k in force (R51) -/
  k : Nat := 13
  /-- (model) index of the next Calend to fall (R50); 0 before the first Season -/
  calDue : Nat := 0
  deriving DecidableEq, Repr

/-! ## Optics (08) -/

/-- A resonator ring (R296 to R299). -/
structure Reso where
  /-- calibrated start, its temperature coefficient, and the EIC temperature at its calibration in 0.125 °C (R296) -/
  start : Int := 0
  coeff : Int := 0
  temp : Int := 0
  /-- heater setting in force -/
  heater : Int := 0
  /-- its control loop is closed on a line that has been verified -/
  locked : Bool := false
  /-- it failed three attempts (R297) -/
  failed : Bool := false
  /-- attempts of the lock in progress that have failed -/
  attempts : Nat := 0
  /-- matching lane words in a row, at most 4, and wrong ones in a row (R298, R299) -/
  ok : Nat := 0
  bad : Nat := 0
  deriving DecidableEq, Repr

/-- What calibration sets for a transmit group (R314). -/
structure GroupCal where
  bias : Int := 0
  levels : List Int := []
  deriving DecidableEq, Repr

/-- A power monitor (R310): its latest reading and its baseline, 0.01 dBm. -/
structure Mon where
  read : Option Int := none
  base : Option Int := none
  deriving DecidableEq, Repr

/-- An optical engine (R277, R318). -/
structure Eng where
  /-- rings: 8 m + j of line j of receive fibre m, 64 + 8 g + j of line j of transmit group g -/
  rings : SMap Reso := []
  /-- calibrated groups, and the bias trimmers of the 36 interferometers (R306, R314) -/
  groups : SMap GroupCal := []
  trims : SMap Int := []
  /-- power monitors of stages 0x02 to 0x0D, 0x0F and 0x10, keyed 256 * stage + number within the stage (R310) -/
  mons : SMap Mon := []
  /-- LASER_SEL: on LS -/
  sel : Bool := false
  reqP : Bool := false
  reqS : Bool := false
  /-- 0 in service, 1 fibres withdrawn, 2 out of service, 3 bring-up -/
  state : Nat := 3
  /-- logical group the spare stands for; 15 none -/
  spareFor : Nat := 15
  icActive : Bool := false
  icItem : Nat := 0
  switchPend : Bool := false
  /-- the planned switchover is a return or release (R294): release the input when done -/
  releaseAfter : Option Bool := none
  /-- a switchover runs: true when it was planned (R292, R293) -/
  switching : Option Bool := none
  /-- Almanac value of the crossing that a planned switchover waits from (R292) -/
  pendSince : Nat := 0
  /-- per input (LP, LS): past A, past B raised; samples below each by 0.5 dB in a row; 0x4006 raised for this rise; released -/
  pastAP : Bool := false
  pastAS : Bool := false
  pastBP : Bool := false
  pastBS : Bool := false
  clearAP : Nat := 0
  clearAS : Nat := 0
  clearBP : Nat := 0
  clearBS : Nat := 0
  noLightP : Bool := false
  noLightS : Bool := false
  lightP : Bool := false
  lightS : Bool := false
  /-- a new baseline is to be recorded at the next light (R294) -/
  rebaseP : Bool := false
  rebaseS : Bool := false
  /-- physical groups failed, bit g (R301) -/
  grpFail : BitVec 9 := 0
  /-- setting in force per fibre: SRC, MCAST, MCAST_RX; and the identity of its phase stream (R307) -/
  src : List Nat := [0, 1, 2, 3, 4, 5, 6, 7]
  mcast : BitVec 8 := 0
  mcastRx : BitVec 8 := 0
  phaseId : U32 := 0
  /-- a Phase descriptor held while the fibres are withdrawn: its image bytes' address (R305) -/
  heldPhase : Option Nat := none
  /-- the fibres pause for a mesh change (R304) -/
  paused : Bool := false
  /-- next item to calibrate (R312); item carried over as skipped -/
  nextItem : Nat := 0
  /-- logical group that the spare is to stand for from the next Calend; 15 none (R301) -/
  spareDue : Nat := 15
  /-- the open window is that of a planned switchover, whose notices have been sent (R292, R316) -/
  icSwitch : Bool := false
  icSent : Bool := false
  /-- the spare substitutes for a window's item only; the substitution ends at the next Calend (R314) -/
  icSub : Bool := false
  icSubEnd : Bool := false
  /-- fibre of a receive item, and its return at the next Calend (R315) -/
  icReturn : Bool := false
  /-- lost in service (0x4050) -/
  lost : Bool := false
  /-- 0x4005 raised and not yet returned to service (R290) -/
  noInput : Bool := false
  deriving DecidableEq, Repr

/-- A fibre pair's optical side (R319); its `STATE` follows from these fields and the pair's. -/
structure Fib where
  cls : Nat := 0
  margin : Int := 0
  uncorr : Nat := 0
  /-- its receive input is lit; its receive rings and those of its group have locked -/
  lit : Bool := false
  locked : Bool := false
  /-- failed ring lock, pre-FEC withdrawal and retraining once (R282, R297) -/
  failed : Bool := false
  fecRetry : Bool := false
  fecOver : Bool := false
  parked : Bool := false
  /-- Almanac value at which its receive light went (R563) -/
  darkAt : Option Nat := none
  /-- the lane word last decoded on each line, 0 if none, and the power at the receive input: the receive report (R284) -/
  heard : List (BitVec 20) := []
  rxPower : Option Int := none
  /-- latest readings of its transmit output and far receive input, and their baselines, 0.01 dBm (R284, R310) -/
  powTx : Option Int := none
  powRx : Option Int := none
  baseTx : Option Int := none
  baseRx : Option Int := none
  /-- its class has been measured; a new measurement is due (R284); its present loss has been located (R311) -/
  measured : Bool := false
  measureDue : Bool := false
  lossSeen : Bool := false
  /-- its receive side: the slot of the marker period that comes next, the message symbols of the group of four codewords in progress, and
  the five flits of the latest group, each with whether it fails (R280, R323) -/
  slot : Nat := 0
  group : List Nat := []
  flits : List (List Byte × Bool) := []
  /-- of the present 1 ms window: codewords received, those that could not be corrected, and bits corrected in the others; and the
  estimate of the latest window, bits in error and bits received (R282) -/
  words : Nat := 0
  badWords : Nat := 0
  fixedBits : Nat := 0
  est : Nat × Nat := (0, 1)
  /-- since the setting in force was applied: a Phase flit has arrived (R308), and anything of its phase space has (R334) -/
  phaseSeen : Bool := false
  phaseOpen : Bool := false
  /-- an Intercalary notice from the far end names its slot (R315) -/
  icFar : Bool := false
  /-- withdrawn by a notice of the far end; the Calend index at which such a notice takes effect (R331) -/
  farWithdrawn : Bool := false
  farAt : Option Nat := none
  deriving DecidableEq, Repr

/-- The optics (08). -/
structure Optics where
  engs : SMap Eng := []
  fibs : SMap Fib := []
  /-- laser lines: 16 * engine + 8 * input + line -/
  lines : SMap Line := []
  /-- the 16 latest loss locations, latest first (R311), each its 16 bytes' fields -/
  losses : List (List Nat) := []
  /-- window period in force E (R313), and whether windows open -/
  icEvery : Nat := 4096
  deriving DecidableEq, Repr

/-! ## Links (09) -/

/-- A flit first sent and not yet acknowledged: its virtual channel and payload, or a Credit or Ledger flit (R325). -/
inductive TxBody where
  | data (vc : Nat) (p : Payload)
  | credit (counts : List Nat)
  | ledger (b : LedgerBody)
  deriving DecidableEq, Repr

/-- A sequenced flit as it stands in the replay buffer: its body and the credit return in its header, which a replay
repeats (R327, R328). -/
structure TxFlit where
  body : TxBody
  rhome : Nat
  crVc : Nat
  crCount : Nat
  deriving DecidableEq, Repr

/-- The link state of one fibre pair's space (R325 to R340). -/
structure Pair where
  /-- LEVEL: 0, 2 or 3 (R341) -/
  level : Nat := 0
  epoch : U32 := 0
  parked : Bool := false
  /-- parked by 0x5020 until an offer of levels changes (R341) -/
  levelPark : Bool := false
  /-- parked by 0x5F00 until a Cold reset (R338) -/
  latched : Bool := false
  outOfService : Bool := false
  /-- adopted fibre slot, when it differs from the pair's own (R562) -/
  slot : Option Nat := none
  /-- sender's N and U, receiver's E (R325) -/
  n : Nat := 0
  u : Nat := 0
  e : Nat := 0
  /-- per VC: flits first sent T, credits applied K, credits held c (R336); unlisted c is B -/
  t : SMap Nat := []
  k : SMap Nat := []
  spent : SMap Nat := []
  /-- per VC: accepted A, freed D, placed G, occupancy b (R336) -/
  a : SMap Nat := []
  d : SMap Nat := []
  g : SMap Nat := []
  b : SMap Nat := []
  /-- per VC: payloads waiting for their first sending, each with whether it enters a ring and so needs two credits (R366) -/
  q : SMap (List (Bool × Payload)) := []
  /-- the replay buffer: flits U to N - 1 (R325), and how many of them are still to be re-sent -/
  replay : List TxFlit := []
  resend : Nat := 0
  /-- a Ledger is due first (R330) -/
  ledgerDue : Option Nat := none
  /-- the last Ledger sent: its count, and whether the space has had a fibre in service since (R338) -/
  ledgerSeq : Option Nat := none
  pathWhole : Bool := true
  /-- unsent acknowledgement; last ACK applied; round robin place (R327, R330) -/
  ackDue : Bool := false
  rr : Nat := 0
  /-- last Nak sent was for this E, or for this phase space and its E (R328, R334) -/
  nakFor : Option Nat := none
  nakPhase : Option (Nat × Nat) := none
  /-- replays in a row with no advance of U (R329); LNK_STAT.REPLAYS -/
  stuckReplays : Nat := 0
  replays : Nat := 0
  trainFails : Nat := 0
  /-- training runs; Train flits in a row received; waits for a Resume (R329, R340) -/
  training : Bool := false
  trainGood : Nat := 0
  needResume : Bool := false
  /-- the epoch that its training records carry: the one in which the training began (R339, R340) -/
  trainFrom : U32 := 0
  /-- a withdrawal is in force: the space is carried (R332); a return notice was sent -/
  withdrawn : Bool := true
  returning : Bool := false
  /-- identity of the far end at training (R340) -/
  farCoord : Option Coord := none
  farSerial : U64 := 0
  /-- the phase spaces received on this pair: E by `PHASE_ID` (R334), and the one whose acknowledgement is due -/
  rxPhase : SMap Nat := []
  rphaseId : Nat := 0
  /-- phase acknowledgement due -/
  rphaseDue : Bool := false
  deriving DecidableEq, Repr

/-- A flit that left the package on a fibre (model: the output log): its header fields (R322) and its body. -/
structure Sent where
  pair : Nat
  /-- TYPE of R323 -/
  typ : Nat
  vc : Nat := 0
  carry : Bool := false
  home : Nat
  rhome : Nat
  rphase : Bool := false
  seq : Nat := 0
  ack : Nat
  crVc : Nat := 0
  crCount : Nat := 0
  payload : Option Payload := none
  /-- `PHASE_ID` of a Phase flit -/
  phaseId : U32 := 0
  ledger : Option LedgerBody := none
  /-- counts of a Credit flit, or the expected counts of a Resume flit -/
  counts : List Nat := []
  train : Option TrainRec := none
  deriving DecidableEq, Repr

/-- A marker codeword that left the package on a fibre (model: the output log): its lane words and its receive report (R281, R284). -/
structure SentMarker where
  pair : Nat
  words : List (BitVec 20)
  power : Option Int
  report : List (BitVec 20)
  deriving DecidableEq, Repr

/-- A split's phase space (R303, R334, R335). -/
structure Split where
  engine : Nat
  group : Nat
  phaseId : U32
  members : List Nat
  /-- members that the split's light reaches; the others are served by unicast copies (R305) -/
  lit : List Nat
  /-- flits acknowledged by all members and freed; the buffer holds the flits from this count on, oldest first (R334) -/
  base : Nat
  buf : List TxBody
  /-- per member: flits acknowledged, and flits sent to it so far (a replay steps back) -/
  acked : SMap Nat
  sent : SMap Nat
  /-- packets waiting for their first sending -/
  queue : List Packet
  ledgerDue : Option Nat
  /-- the setting that made the split has ended (R335) -/
  ended : Bool
  deriving DecidableEq, Repr

/-- The links (09). -/
structure Links where
  pairs : SMap Pair := []
  splits : List Split := []
  deriving DecidableEq, Repr

/-! ## The Almanac (09) -/

/-- Time keeping (R342 to R347). -/
structure Time where
  /-- the Almanac, ns -/
  alm : U64 := 0
  /-- TIME_STATE: 0 free-running, 1 acquiring, 2 locked, 3 holdover, 4 root -/
  state : Nat := 0
  gen : U32 := 0
  root : U16 := 0
  parent : Option Nat := none
  depth : Nat := 0
  /-- the latest eight θ of the exchanges with the parent, latest first, in units of 2^-17 ps, so that the
  compensation in ps is exact (R344) -/
  thetas : List Int := []
  /-- exchanges in a row with |θ| at most 1 ns (R345) -/
  goods : Nat := 0
  /-- one-way delay by direction, ns (R344) -/
  delays : SMap Nat := []
  /-- depth last heard on each direction, of the current generation, plus one (R343) -/
  heard : SMap Nat := []
  /-- Almanac values of the last parent response, of the last beacon, and of entering holdover -/
  lastResp : Nat := 0
  lastBeacon : Nat := 0
  holdSince : Nat := 0
  /-- the package's Almanac has been stepped once since Ready was last left (R342) -/
  stepped : Bool := false
  /-- the package's own claim's rank, when it claimed (R347) -/
  myRank : Option Nat := none
  /-- a write of ROOT_DESIGNATED waits for the next Season reset (R347) -/
  claimDue : Bool := false
  /-- key of the root that the present generation succeeded (R347) -/
  lostRoot : U16 := 0
  /-- 0xC006, 0xC004, 0xC005 and 0xC003 raised in the present episode (model) -/
  deepAdvised : Bool := false
  offAdvised : Bool := false
  offFatal : Bool := false
  holdRaised : Bool := false
  deriving DecidableEq, Repr

/-! ## The fabric (10) -/

/-- A Transfer piece open at this package (R379): its initiator, tag and number, the bytes still to come, the direction they
come by, the pages written, and the tile buffers it writes. -/
structure OpenPiece where
  src : Nat
  tag : Nat
  piece : Nat
  left : Nat
  dir : Nat
  pages : List Nat
  deriving DecidableEq, Repr

/-- Slice, routes and requests (10). -/
structure Fabric where
  /-- coordinate in force (R352) -/
  coord : Option Coord := none
  /-- EGRESS: bit d passes VC0 to VC3 on direction d (R358); SKIP_UNUSED (R367) -/
  egress : BitVec 11 := 0
  skipUnused : BitVec 2 := 0
  /-- settings in force: machine lengths and slice, taken at the Season reset (R355) -/
  ly : Nat := 32
  lz : Nat := 64
  origin : Coord := 0
  size : U32 := 0
  splice : Bool := false
  seasonId : U64 := 0
  rwtMode : Bool := false
  deadTimeout : Nat := 64
  reqs : SMap (Option Req) := []
  nextReq : Nat := 0
  nextTag : Nat := 0
  /-- pieces open at this package (R379) -/
  openPieces : List OpenPiece := []
  deriving DecidableEq, Repr

/-! ## The twin (11) -/

/-- A journalled mirror write (R403). -/
structure MWrite where
  slot : Nat
  epochLow : Nat
  poison : Bool
  addr : Nat
  benables : BitVec 128
  data : List Byte
  deriving DecidableEq, Repr

/-- Twin pairing (11). -/
structure Twin where
  /-- TWIN_STAT.STATE: 0 Solo, 1 Syncing, 2 Paired, 3 Orphan, 4 Lost -/
  state : Nat := 0
  ownProt : Bool := false
  held : Bool := false
  /-- 0 none, 1 restore, 2 protect -/
  phase : Nat := 0
  stall : Bool := false
  lag : Bool := false
  lagAdvised : Bool := false
  /-- bits still set in the restore and the protect bitmap, and pages sent whose acknowledgement waits (R413) -/
  dirtyR : SMap Bool := []
  dirtyP : SMap Bool := []
  flying : SMap Bool := []
  /-- the package is the source of the phase in progress, or its receiver -/
  source : Bool := false
  receiver : Bool := false
  partnerSerial : U64 := 0
  partnerCoord : Option Coord := none
  partnerTable : List KeepEntry := []
  /-- own sealed index; index committed for the partner; frozen copy (R405, R408) -/
  keepSealed : Nat := 0
  mirrorSealed : Nat := 0
  frozen : Bool := false
  /-- KEEP_VALID (R400) -/
  keepValid : Bool := false
  /-- own Keep regions are mirrored this Season; detached until re-paired (R400, R418) -/
  mirrored : Bool := false
  detached : Bool := false
  /-- detach in progress: seal first; true keep (R418) -/
  detaching : Option Bool := none
  /-- the holder's journal, oldest first (R403) -/
  journal : List MWrite := []
  /-- markers accepted per twin slot: the Calend index (R405) -/
  markers : SMap Nat := []
  /-- the partner was found lost by LOSS_TIME alone (R409) -/
  lossByTime : Bool := false
  /-- a new epoch has begun and its pairing record has not come yet (R400, R407) -/
  newEpoch : Bool := false
  /-- serial and Keep table of the pairing record sent last -/
  sentRec : Option (U64 × List KeepEntry) := none
  /-- Almanac value of the last Twin flit accepted (R407) -/
  lastFlit : Nat := 0
  /-- Keep table and Mirror area in force (R396, R398) -/
  keep : List KeepEntry := []
  mirrorBase : Nat := 0
  mirrorSize : Nat := 4294967296
  /-- bytes of each rebuild page received, pages acknowledged in the phase, and poisoned lines carried (R412) -/
  rbGot : SMap Nat := []
  rbDone : SMap Bool := []
  rbPoison : Nat := 0
  /-- Almanac value at which STALL was set -/
  stallSince : Nat := 0
  deriving DecidableEq, Repr

/-! ## The host port (12) -/

/-- A completion record (R438). -/
structure HRec where
  cid : U32
  sqHead : Nat
  status : Nat
  phase : Bool
  unstable : Bool
  code : U16
  slot : Nat
  detail0 : Nat
  detail1 : Nat
  deriving DecidableEq, Repr

/-- A ring pair (R433). -/
structure Ring where
  sqBase : U64 := 0
  cqBase : U64 := 0
  sqLog : Nat := 0
  cqLog : Nat := 0
  en : Bool := false
  err : Bool := false
  stall : Bool := false
  idle : Bool := true
  /-- no further entry is read until `EN` is written 0 and then 1 (R434) -/
  stopped : Bool := false
  /-- RING_COAL: count and time -/
  coalCount : Nat := 0
  coalTime : Nat := 0
  sqHead : Nat := 0
  sqTail : Nat := 0
  cqTail : Nat := 0
  cqHead : Nat := 0
  /-- PHASE of the records of the present pass -/
  phase : Bool := true
  /-- records held because the CQ is full, oldest first (R435) -/
  held : List HRec := []
  /-- records written and not signalled (R445) -/
  unsignalled : Nat := 0
  deriving DecidableEq, Repr

/-- One piece of a host Transfer (R441). -/
structure HPiece where
  got : Nat := 0
  failed : Bool := false
  /-- pages it wrote any byte to -/
  wrote : List Nat := []
  deriving DecidableEq, Repr

/-- An outstanding command (R437 to R444). -/
inductive CmdKind where
  | launch
  | xin (host store len pshift : Nat)
  | xout (host store len pshift : Nat)
  /-- with the entries of other rings that are still to be read before it is evaluated: ring and count -/
  | abort (target : U32) (left : List (Nat × Nat))
  | mgmt (message : List Byte) (rsp rspLen : Nat)
  deriving DecidableEq, Repr

/-- An outstanding command with the ring and slot it came from. -/
structure Cmd where
  cid : U32
  ring : Nat
  slot : Nat
  kind : CmdKind
  pieces : SMap HPiece
  unstable : Bool
  /-- aborted: no further packet is issued (R444) -/
  aborted : Bool
  /-- fault code of the first failed piece -/
  code : U16
  deriving DecidableEq, Repr

/-- The host port (12). -/
structure HostPort where
  linkUp : Bool := false
  /-- HOST_STAT.GEN and WIDTH -/
  gen : Nat := 0
  width : Nat := 0
  perst : Bool := true
  cfgReady : Bool := false
  /-- the steps of an FLR wait for the link (R424) -/
  flrDue : Bool := false
  faultLast : U16 := 0
  faultSev : Nat := 0
  faultTime : U64 := 0
  dropped : Nat := 0
  /-- page ownership flags (R427), unstable bits (R428), pages whose dropped write was logged (R429), withdrawn pages reported (R430) -/
  pages : SMap (BitVec 2) := []
  unstable : SMap Bool := []
  dropLogged : SMap Bool := []
  goneLogged : SMap Bool := []
  /-- the MSI-X table, 16 bytes an entry, and its pending bits (R425, R445) -/
  msix : SMap (BitVec 128) := []
  pba : BitVec 64 := 0
  rings : SMap Ring := []
  cmds : List Cmd := []
  /-- launch records that wait for `OD_LIVE`, with their rings (R521) -/
  waitLive : List (Nat × HRec) := []
  /-- CIDs of the latest 1,024 completed commands, latest first, each with whether it was an ABORT (R444) -/
  done : List (U32 × Bool) := []
  deriving DecidableEq, Repr

/-! ## Faults and health (16) -/

/-- Fault log, counters and Reckoning (16). -/
structure Health where
  /-- the latest 1,024 fault records, oldest first, and the next number (R531) -/
  log : List FaultRec := []
  seq : Nat := 0
  /-- counts of Corrected faults by code since Cold reset (R532), and codes logged since the Season reset -/
  corr : SMap Nat := []
  corrLogged : SMap Bool := []
  /-- counters "since Cold reset", keyed INDEX * 256 + SUB of the entry that reports each (R541) -/
  cnt : SMap Nat := []
  /-- counts of the Advisory, Job-fatal and Latched codes that feed Reckoning (R544), by code -/
  evt : SMap Nat := []
  /-- Reckoning: P, the counts at the last update, the band (R545, R546) -/
  p : Nat := 0
  atLast : List Nat := List.replicate 16 0
  band : Nat := 0
  deriving DecidableEq, Repr

/-! ## What left the block -/

/-- What the host saw: records written, data written, read completions and messages. -/
inductive HostOut where
  | record (ring slot : Nat) (r : HRec)
  | write (bus : Nat) (data : List Byte)
  | read (offset : Nat) (data : List Byte)
  | config (ready : Bool)
  | msix (vector : Nat)
  deriving DecidableEq, Repr

/-- (model) Everything the block has sent, oldest last: flits, host traffic, dictionary responses, control and PLDM responses. -/
structure Out where
  wire : List Sent := []
  markers : List SentMarker := []
  host : List HostOut := []
  od : List OdResp := []
  ctl : List CtlResp := []
  deriving DecidableEq, Repr

/-- The state of the block. -/
structure State where
  pow : Power
  nv : Nv
  boot : Boot
  mgmt : Mgmt
  dies : Dies
  store : Store
  tiles : SMap Tile
  tkeep : SMap TileKeep
  arrs : SMap Arr
  frames : Frames
  optics : Optics
  links : Links
  time : Time
  fabric : Fabric
  twin : Twin
  host : HostPort
  health : Health
  out : Out
  /-- (model) the counter that free values are applied to -/
  fresh : Nat
  /-- the commands that wait, first in first out -/
  pending : List Instr
  deriving DecidableEq, Repr

/-- Why a step faults: no meaning of this model does, so there is no reason. -/
inductive Fault where
  deriving DecidableEq, Repr

/-- Why a step is refused. -/
inductive Refusal where
  /-- raised by the dispatch for a command that has no meaning yet; safe, because the run ends there -/
  | notModelled (mnemonic : String)
  deriving DecidableEq, Repr

/-- The block right after reset: no input, in state Off, with the NV store as it leaves the factory and an empty queue. -/
def State.reset : State where
  pow := {}
  nv := {}
  boot := {}
  mgmt := {}
  dies := {}
  store := {}
  tiles := []
  tkeep := []
  arrs := []
  frames := {}
  optics := {}
  links := {}
  time := {}
  fabric := {}
  twin := {}
  host := {}
  health := {}
  out := {}
  fresh := 0
  pending := []

end Sys2Proof.Machine
end

