-- ==== Sys2Proof/Machine/Flags.lean ====
section
/-!
DEFINITION. Severities of fault codes, ranks of roles, and the predicates of the state that several chapters use: which
parts run, the value in force of a dictionary entry, the fibre pairs of a direction.
-/

set_option Elab.async false

namespace Sys2Proof.Machine

/-! ## Severities (R525, R527): 0 Advisory, 1 Corrected, 2 Job-fatal, 3 Device-fatal, 4 Latched -/

/-- The Corrected codes in ascending order: the slots of OD 0x8000.05 (R532). -/
def correctedCodes : List Nat :=
  [0x1006, 0x1110, 0x1117, 0x1126, 0x1137, 0x2001, 0x2007, 0x2008, 0x3003, 0x4010, 0x4020, 0x4021, 0x5001, 0x8002,
   0x9005]

/-- The Job-fatal codes that are not launch checks. -/
def jobFatalCodes : List Nat :=
  [0x1003, 0x1004, 0x1010, 0x1011, 0x1012, 0x1013, 0x1014, 0x1015, 0x1016, 0x1112, 0x1116, 0x1127, 0x1134, 0x1135,
   0x1136, 0x1138, 0x2010, 0x2012, 0x2013, 0x4033, 0x5011, 0x6010, 0x6011, 0x6012, 0x6013, 0x6014, 0x7004, 0x7012,
   0x7013, 0x7F01, 0x8023, 0x9012, 0xC003, 0xC005, 0xD002]

/-- The Job-fatal codes that a launch check raises (R88, R89). -/
def launchCodes : List Nat :=
  [0x1020, 0x1021, 0x1022, 0x1023, 0x1024, 0x1025, 0x1026, 0x1027, 0x1028, 0x1029, 0x102A, 0x102B, 0x102C, 0x1101,
   0x1102, 0x1103, 0x1113, 0x1114, 0x1115, 0x1120, 0x1121, 0x1122, 0x1123, 0x1124, 0x1125, 0x1130, 0x1131, 0x1132,
   0x1133, 0x113A, 0x2020, 0x2021, 0x2022, 0x2023, 0x2024, 0x4030, 0x4031, 0x6020, 0x6021, 0x6022, 0x6023, 0x6024,
   0x6025]

/-- The Device-fatal codes. -/
def deviceFatalCodes : List Nat :=
  [0x2011, 0x2014, 0x2015, 0x3010, 0x3011, 0x3020, 0x3021, 0x3022, 0x3023, 0x9030, 0xA010, 0xA011, 0xA012, 0xA013,
   0xC010, 0xD010, 0xD011]

/-- The Latched codes. -/
def latchedCodes : List Nat := [0x5F00, 0x9020, 0x9021, 0x9022, 0x9023]

/-- The one severity of a code (R525); every code of no other list is Advisory. -/
def sevOf (code : Nat) : Nat :=
  if correctedCodes.contains code then 1
  else if jobFatalCodes.contains code || launchCodes.contains code then 2
  else if deviceFatalCodes.contains code then 3
  else if latchedCodes.contains code then 4 else 0

/-! ## Roles and endpoints -/

/-- Rank of a role, and its code in audit entries (R448, R466). -/
def roleRank : Role → Nat
  | .anonymous => 0
  | .operator => 1
  | .installer => 2
  | .maker => 3

/-- `VIA` of an endpoint (R466). -/
def viaCode : Via → Nat
  | .i3cA => 0
  | .i3cB => 1
  | .vdm => 2
  | .mgmt => 3

/-! ## Values of the dictionary (R449) -/

/-- The key of an entry. -/
def odKey (index sub : Nat) : Nat := index * 256 + sub

/-- The latest accepted value of a numeric entry; `d` is its default. -/
def odLatest (s : State) (key d : Nat) : Nat :=
  match mget [] s.mgmt.latest key with
  | [] => d
  | v => leNat v

/-- The value in force of a numeric entry; `d` is its default. -/
def odNum (s : State) (key d : Nat) : Nat :=
  match mget [] s.mgmt.inForce key with
  | [] => odLatest s key d
  | v => leNat v

/-- The value in force of a BLOB of `n` bytes whose default is zeros. -/
def odBlob (s : State) (key n : Nat) : List Byte :=
  match mget [] s.mgmt.inForce key with
  | [] => match mget [] s.mgmt.latest key with
    | [] => List.replicate n 0
    | v => v
  | v => v

/-! ## Time -/

/-- The Almanac in nanoseconds (R342). -/
def now (s : State) : Nat := s.time.alm.toNat

/-- The index of the first Calend at or after an Almanac value (R50, R91). -/
def calendAt (k t : Nat) : Nat := (t + 2 ^ k - 1) / 2 ^ k

/-! ## Tiles and arrays -/

/-- Tile `t`. -/
def tileOf (s : State) (t : Nat) : Tile := mget {} s.tiles t
/-- What of tile `t` a Tile reset keeps. -/
def keepOf (s : State) (t : Nat) : TileKeep := mget {} s.tkeep t
/-- Array `a`, numbered 3 T + 0 for F, 1 for G0, 2 for G1 (R151). -/
def arrOf (s : State) (a : Nat) : Arr := mget {} s.arrs a
/-- Herald `h` of tile `t`. -/
def herOf (s : State) (t h : Nat) : Herald := mget {} (tileOf s t).her h

/-! ## Fibre pairs (R353) -/

/-- The direction code (R340) of package fibre index `f` = 8 n + m. -/
def dirOf (f : Nat) : Nat :=
  let n := f / 8
  match f % 8 with
  | 0 => 0
  | 1 => 1
  | 2 => 2
  | 3 => 3
  | 4 => if n < 4 then 4 else 6
  | 5 => if n < 4 then 5 else 7
  | 6 => if n % 2 = 0 then 8 else 9
  | _ => 10

/-- The fibre slot of package fibre index `f` by the allocation of R353. -/
def ownSlot (f : Nat) : Nat :=
  match f % 8 with
  | 4 | 5 => f / 8 % 4
  | 6 => f / 8 / 2
  | _ => f / 8

/-- The opposite direction; Twin is its own (R561). -/
def oppDir (d : Nat) : Nat := if d = 10 then 10 else if d % 2 = 0 then d + 1 else d - 1

/-- Fibre pair `f`. -/
def pairOf (s : State) (f : Nat) : Pair := mget {} s.links.pairs f
/-- The optical side of pair `f`. -/
def fibOf (s : State) (f : Nat) : Fib := mget {} s.optics.fibs f
/-- Engine `n`. -/
def engOf (s : State) (n : Nat) : Eng := mget {} s.optics.engs n

/-- The slot of pair `f`: the adopted one where it has one (R562). -/
def slotOf (s : State) (f : Nat) : Nat := (pairOf s f).slot.getD (ownSlot f)

/-- The pairs of a direction in ascending package fibre index (R325). -/
def dirPairs (d : Nat) : List Nat := (List.range 64).filter (fun f => decide (dirOf f = d))

/-- The number of slots of a direction (R353). -/
def dirSlots (d : Nat) : Nat := if d < 4 || d = 10 then 8 else 4

/-- The pair that holds a slot of a direction. -/
def slotPair (s : State) (d slot : Nat) : Option Nat := (dirPairs d).find? (fun f => decide (slotOf s f = slot))

/-- The fibre of a pair is in service: trained, not withdrawn, parked or out of service. -/
def fibreUp (s : State) (f : Nat) : Bool :=
  let p := pairOf s f
  decide (p.level ≠ 0) && !p.withdrawn && !p.parked && !p.outOfService && !p.training

/-- The pairs of a direction whose fibre is in service, in ascending slot (R332). -/
def upPairs (s : State) (d : Nat) : List Nat :=
  ((List.range 8).filterMap (fun k => slotPair s d k)).filter (fun f => fibreUp s f)

/-- A direction passes VC0 to VC3 this Season (R358). -/
def dirInside (s : State) (d : Nat) : Bool := s.fabric.egress.toNat / 2 ^ d % 2 = 1

/-- The directions of the slice's links. -/
def sliceDirs (s : State) : List Nat := (List.range 10).filter (dirInside s)

/-- The coordinate key of the package, zero while none is held. -/
def ownKey (s : State) : Nat := (s.fabric.coord.getD 0).toNat

/-! ## Tile cycles (R71, R78) -/

/-- The time that tile cycles follow, in units of 1/2 ns of an unstretched clock: a stretch halves the clocks (R71). -/
def cycleTime (s : State) : Nat :=
  2 * now s - s.pow.stretched - (if s.pow.stretch then now s - s.pow.stretchAt else 0)

/-- The tile cycles that have elapsed on a tile, in units of 1/20 cycle. -/
def cycleUnits (s : State) (t : Nat) : Nat :=
  let k := keepOf s t
  k.cycles + k.clock * (cycleTime s - k.cyclesAt)

/-! ## Calendars (R97) -/

/-- `CAL_STATE` (OD 0x6000.01); a halted Calendar holds it at 5 until a Season reset, also while a launch is read (R87). -/
def calState (s : State) : Nat :=
  match s.frames.run, s.frames.held with
  | some r, _ => if r.haltAt.isSome || r.halted then 4 else 3
  | none, some c => if s.frames.haltedHeld then 5 else if c.armed then 2 else 1
  | none, none => if s.frames.haltedHeld then 5 else 0

/-- A Calendar is validating, armed, running or halting (R480, R539). -/
def calBusy (s : State) : Bool := s.frames.run.isSome || s.frames.held.isSome

/-! ## Power (R483) -/

/-- FSCs in service. -/
def fscCount (s : State) : Nat := ((List.range 8).filter (fun i => s.pow.fscMap.toNat / 2 ^ i % 2 = 1)).length

/-- The current limit L in force, in amperes (R483). -/
def limitAmps (s : State) : Nat :=
  max 6 (min (odNum s 0x200101 60) (875 * fscCount s / 100) - 2 * s.pow.steps)

/-- The NV window is open for a new write (R499). -/
def nvWindow (s : State) : Bool := s.pow.nvOpen

/-! ## Segments and capacity (R258) -/

/-- Retired segments in force. -/
def segsRetired (s : State) : Nat := s.store.segRetired.length

/-- The Store's capacity in bytes. -/
def capacity (s : State) : Nat := 2 ^ 34 - 2 ^ 23 * segsRetired s

/-- A page of the shared window holds only withdrawn addresses (R430). -/
def pageGone (s : State) (p : Nat) : Bool := decide (capacity s ≤ p * 2 ^ 21)

/-- The flag of a page (R427); a withdrawn page reads device-owned (R430). -/
def pageFlag (s : State) (p : Nat) : Nat := if pageGone s p then 0 else (mget 0 s.host.pages p).toNat

/-! ## Store and tile buffers -/

/-- One byte of the Store. -/
def storeByte (s : State) (a : Nat) : Byte := mget 0 s.store.cells a

/-- Bytes of the Store from an address. -/
def storeBytes (s : State) (a n : Nat) : List Byte := (List.range n).map (fun i => storeByte s (a + i))

/-- A line of the Store is poisoned (R252). -/
def poisoned (s : State) (line : Nat) : Bool := mget false s.store.poison line

/-- One byte of tile `t`'s buffer; what nothing has written since the content became undefined is open (R237). -/
def bufByte (s : State) (t a : Nat) : Byte :=
  match mfind (keepOf s t).buf a with
  | some b => b
  | none => Config.openByte (((keepOf s t).bufGen + s.store.bufGen) * 512 + t) a

/-- Bytes of tile `t`'s buffer. -/
def bufBytes (s : State) (t a n : Nat) : List Byte := (List.range n).map (fun i => bufByte s t (a + i))

end Sys2Proof.Machine
end

