-- ==== Sys2Proof/Machine/Ops.lean ====
section
/-!
DEFINITION. The named operations over the state: tables and memories, counters, events, interrupts, completion records,
the fault log and the effects of a severity, the pending journal, notices and halts. Only `storeSetByte`, `storeZero`
and `storeKeep` change the content of the Store.
-/

set_option Elab.async false

namespace Sys2Proof.Machine

/-! ## Tables -/

def modTile (t : Nat) (f : Tile → Tile) (s : State) : State := { s with tiles := mmod {} s.tiles t f }
def modKeep (t : Nat) (f : TileKeep → TileKeep) (s : State) : State := { s with tkeep := mmod {} s.tkeep t f }
def modArr (a : Nat) (f : Arr → Arr) (s : State) : State := { s with arrs := mmod {} s.arrs a f }
def modPair (f : Nat) (g : Pair → Pair) (s : State) : State :=
  { s with links := { s.links with pairs := mmod {} s.links.pairs f g } }
def modFib (f : Nat) (g : Fib → Fib) (s : State) : State :=
  { s with optics := { s.optics with fibs := mmod {} s.optics.fibs f g } }
def modEng (n : Nat) (g : Eng → Eng) (s : State) : State :=
  { s with optics := { s.optics with engs := mmod {} s.optics.engs n g } }
def modHer (t h : Nat) (g : Herald → Herald) (s : State) : State :=
  modTile t (fun x => { x with her := mmod {} x.her h g }) s
def modRing (i : Nat) (g : Ring → Ring) (s : State) : State :=
  { s with host := { s.host with rings := mmod {} s.host.rings i g } }
def modBundle (b : Nat) (g : Bundle → Bundle) (s : State) : State :=
  { s with dies := { s.dies with bundles := mmod {} s.dies.bundles b g } }
def modChan (i : Nat) (g : Chan → Chan) (s : State) : State :=
  { s with store := { s.store with chans := mmod {} s.store.chans i g } }
def ringOf (s : State) (i : Nat) : Ring := mget {} s.host.rings i
def bundleOf (s : State) (b : Nat) : Bundle := mget {} s.dies.bundles b
def chanOf (s : State) (i : Nat) : Chan := mget {} s.store.chans i

/-- Run an operation for each entry of a list, in order. -/
def forEach {α : Type} (l : List α) (f : α → State → State) (s : State) : State := l.foldl (fun s a => f a s) s

/-- Run an operation when a condition holds. -/
def onlyIf (c : Bool) (f : State → State) (s : State) : State := if c then f s else s

/-- Advance the counter that free values are applied to. -/
def freshen (s : State) : State := { s with fresh := s.fresh + 1 }

/-! ## Store and tile buffers -/

/-- Write one byte of the Store. -/
def storeSetByte (a : Nat) (b : Byte) (s : State) : State :=
  { s with store := { s.store with cells := mset 0 s.store.cells a b } }

/-- Zero the Store (R240, R260). -/
def storeZero (s : State) : State := { s with store := { s.store with cells := [] } }

/-- Zero every byte of the Store whose address is not kept. -/
def storeKeep (keep : Nat → Bool) (s : State) : State :=
  { s with store := { s.store with cells := s.store.cells.filter (fun c => keep c.1) } }

/-- Write bytes of the Store from an address up. -/
def storeWrite : Nat → List Byte → State → State
  | _, [], s => s
  | a, b :: r, s => storeWrite (a + 1) r (storeSetByte a b s)

/-- Write the bits of bytes that their masks select (R246). -/
def storeWriteMasked : Nat → List (Byte × Byte) → State → State
  | _, [], s => s
  | a, (b, m) :: r, s =>
    storeWriteMasked (a + 1) r (if m = 0 then s else storeSetByte a ((storeByte s a &&& ~~~m) ||| (b &&& m)) s)

/-- Bytes whose content becomes open: fresh free values. -/
def openBytes (s : State) (a n : Nat) : List Byte := (List.range n).map (fun i => Config.openByte s.fresh (a + i))

/-- Make `n` bytes of the Store open. -/
def storeOpen (a n : Nat) (s : State) : State := freshen (storeWrite a (openBytes s a n) s)

/-- Set or clear the poison of a line. -/
def setPoison (line : Nat) (p : Bool) (s : State) : State :=
  { s with store := { s.store with poison := mset false s.store.poison line p } }

/-- The 128 bytes that a read of a line returns, 0xFF for a poisoned one (R252). -/
def readLine (s : State) (line : Nat) : List Byte :=
  if poisoned s line then List.replicate 128 0xFF else storeBytes s (line * 128) 128

/-- Bytes as reads return them, poisoned lines as 0xFF. -/
def readStore (s : State) (a n : Nat) : List Byte :=
  (List.range n).map (fun i => if poisoned s ((a + i) / 128) then 0xFF else storeByte s (a + i))

/-- The lines that `n` bytes from `a` touch. -/
def linesOf (a n : Nat) : List Nat := if n = 0 then [] else List.range' (a / 128) ((a + n - 1) / 128 + 1 - a / 128)

/-- Write one byte of a tile buffer. -/
def bufSet (t a : Nat) (b : Byte) (s : State) : State := modKeep t (fun k => { k with buf := mput k.buf a b }) s

/-- Write bytes of a tile buffer from an address up. -/
def bufWrite (t : Nat) (a : Nat) (l : List Byte) (s : State) : State :=
  modKeep t (fun k => { k with buf := (l.zipIdx).foldl (fun m x => mput m (a + x.2) x.1) k.buf }) s

/-- Write listed bytes of a tile buffer. -/
def bufWriteCells (t : Nat) (l : List Host.Cell) (s : State) : State :=
  modKeep t (fun k => { k with buf := l.foldl (fun m x => mput m x.1 x.2) k.buf }) s

/-- Make `n` bytes of a tile buffer open. -/
def bufOpen (t a n : Nat) (s : State) : State := freshen (bufWrite t a (openBytes s (2 ^ 40 + a) n) s)

/-- Make a whole tile buffer's content undefined (R237). -/
def bufLose (t : Nat) (s : State) : State :=
  freshen (modKeep t (fun k => { k with buf := [], bufGen := s.fresh + 1 }) s)

/-! ## Counters (R541) -/

/-- Add to the counter that an entry reports. -/
def bump (key n : Nat) (s : State) : State :=
  { s with health := { s.health with cnt := mmod 0 s.health.cnt key (fun c => c + n) } }

/-- The counter that an entry reports. -/
def cntOf (s : State) (key : Nat) : Nat := mget 0 s.health.cnt key

/-! ## Interrupts and events (R445, R462, R463) -/

/-- Send something to the host. -/
def hostOut (o : HostOut) (s : State) : State := { s with out := { s.out with host := s.out.host ++ [o] } }

/-- Signal an MSI-X vector: a masked vector sets its pending bit (R445). -/
def msix (v : Nat) (s : State) : State :=
  if (mget 0 s.host.msix v).toNat / 2 ^ 96 % 2 = 1 then
    { s with host := { s.host with pba := s.host.pba ||| (1 <<< v) } }
  else if s.host.linkUp then hostOut (.msix v) s else s

/-- Raise one In-Band Interrupt on each I3C port that has them enabled and none unacknowledged (R463). -/
def raiseIbis (s : State) : State :=
  { s with mgmt := { s.mgmt with
      ibiPendA := s.mgmt.ibiPendA || s.mgmt.ibiA
      ibiPendB := s.mgmt.ibiPendB || s.mgmt.ibiB } }

/-- Append an event record (R462) and signal it (R463). -/
def appendEvent (kind sev code index sub : Nat) (time : U64) (s : State) : State :=
  if bit (odNum s 0x110402 0x1F) (kind - 1) then
    let e : Event := ⟨s.mgmt.eventSeq, time, kind, sev, code, index, sub⟩
    raiseIbis (msix 0 { s with mgmt := { s.mgmt with
      events := lastN 256 (s.mgmt.events ++ [e]), eventSeq := s.mgmt.eventSeq + 1 } })
  else s

/-- Hold a record while the management core is down: at most 256, the oldest lost first (R520, R521). -/
def holdRec (h : Held) (s : State) : State :=
  { s with boot := { s.boot with
      held := lastN 256 (s.boot.held ++ [h])
      heldLost := s.boot.heldLost || decide (256 ≤ s.boot.held.length) } }

/-- Post an event, or hold it while the core is down. -/
def postEvent (kind sev code index sub : Nat) (s : State) : State :=
  if s.boot.mcRuns then appendEvent kind sev code index sub s.time.alm s
  else holdRec (.event kind sev code index sub s.time.alm) s

/-- Change the power state, with its event (R462, R480). -/
def setPower (p : PState) (s : State) : State :=
  if s.pow.state = p then s
  else
    let code := match p with
      | .off => 0
      | .standby => 1
      | .ready => 2
      | .run => 3
      | .latched => 4
    postEvent 2 0 code 0 0 { s with pow := { s.pow with state := p } }

/-! ## The fault log (R531, R532) -/

/-- A fault of these codes signals vector 1 (R445). -/
def faultSignals (code : Nat) : Bool := decide (2 ≤ sevOf code) || (decide (code / 4096 = 8) && decide (sevOf code ≠ 1))

/-- Append a fault record to the log, post its event and signal vector 1 where R445 says so. -/
def appendFault (r : FaultRec) (s : State) : State :=
  let s := bump 0x800001 1 { s with health := { s.health with
    log := lastN 1024 (s.health.log ++ [{ r with seq := s.health.seq }]), seq := s.health.seq + 1 } }
  let s := appendEvent 1 r.sev r.code.toNat 0 0 s.time.alm s
  if faultSignals r.code.toNat then
    msix 1 { s with host := { s.host with faultLast := r.code, faultSev := r.sev, faultTime := r.time } }
  else s

/-- The frame ordinal that a fault concerns (R96, R531): of the running Calendar, but of its own old frame for a tile that is
stuck in one (R586). -/
def faultOrdinal (tile : Option Nat) (s : State) : Option Nat :=
  s.frames.run.map (fun r => match tile with
    | some t => if (tileOf s t).stuck then (tileOf s t).ordinal else r.ordinal
    | none => r.ordinal)

/-- The record of a fault detected now (R531). -/
def faultRec (code : Nat) (byVigil : Bool) (tile : Option Nat) (ctx : Nat) (s : State) : FaultRec :=
  { code := BitVec.ofNat 16 code, sev := sevOf code, byVigil := byVigil || !s.boot.mcRuns
    persist := decide (3 ≤ sevOf code), seq := 0, time := s.time.alm, ordinal := faultOrdinal tile s
    tile := tile, context := ctx }

/-- Log a record: to the ring, or to the hardware buffer while the core is down (R520, R531). -/
def logRec (r : FaultRec) (s : State) : State :=
  let s := { s with health := { s.health with evt := mmod 0 s.health.evt r.code.toNat (fun c => c + 1) } }
  if s.boot.mcRuns then appendFault r s else holdRec (.fault r) s

/-- Log a fault with what else its chapter names. -/
def logWith (code : Nat) (tile : Option Nat) (ctx : Nat) (also : List Nat) (s : State) : State :=
  logRec { faultRec code (decide (code = 0xD003)) tile ctx s with also := also } s

/-- Log a fault. -/
def logFault (code : Nat) (tile : Option Nat) (ctx : Nat) (s : State) : State := logWith code tile ctx [] s

/-- The held faults and events are posted in order. -/
def postHeld (s : State) : State :=
  forEach s.boot.held (fun h s => match h with
    | .fault r => appendFault r s
    | .event kind sev code index sub time => appendEvent kind sev code index sub time s)
    { s with boot := { s.boot with held := [] } }

/-- Count a Corrected fault; log it when it is the first of its code since the latest Season reset (R532). -/
def correctedWith (code : Nat) (tile : Option Nat) (ctx : Nat) (also : List Nat) (s : State) : State :=
  let first := !mget false s.health.corrLogged code
  let s := { s with health := { s.health with
    corr := mmod 0 s.health.corr code (fun c => c + 1), corrLogged := mset false s.health.corrLogged code true } }
  onlyIf first (logWith code tile ctx also) s

/-- A Corrected fault with nothing else to name. -/
def corrected (code : Nat) (tile : Option Nat) (ctx : Nat) (s : State) : State := correctedWith code tile ctx [] s

/-! ## The pending journal (R500, R501) -/

/-- Records that need no manifest commit. -/
def jDirect : JKind → Bool
  | .fault _ | .penalty _ | .auditOnly => true
  | _ => false

/-- Bytes 0 to 95 of an audit entry (R466). -/
def auditBody (seq : Nat) (a : Audit) : List Byte :=
  leBytes 8 seq ++ leBytes 8 a.time.toNat ++ leBytes 2 a.index ++ leBytes 1 a.sub ++ leBytes 1 a.role ++
    leBytes 1 a.status ++ leBytes 1 (viaCode a.via) ++ leBytes 2 0 ++ a.keyFp ++ a.value ++ leBytes 8 0

/-- Write an audit entry to the NV store: it takes its `SEQ` and `CHAIN` now (R466, R467). -/
def auditWrite (a : Audit) (s : State) : State :=
  let seq := s.nv.auditSeq + 1
  let body := auditBody seq a
  let chain := Config.sha3 (s.nv.auditChain ++ body)
  let log := s.nv.audit ++ [⟨seq, body, chain⟩]
  { s with nv := { s.nv with
      auditSeq := seq, auditChain := chain, audit := lastN 4096 log
      auditAnchor := if 4096 < log.length then (log.head?.map (·.chain)).getD s.nv.auditAnchor else s.nv.auditAnchor } }

/-- What a record's content changes in the NV store once it is written (R500). -/
def nvApply (k : JKind) (s : State) : State :=
  match k with
  | .retire a => { s with nv := { s.nv with retired := mset false s.nv.retired a true } }
  | .unretire a => { s with nv := { s.nv with retired := mset false s.nv.retired a false } }
  | .remap row c => { s with nv := { s.nv with rowFails := mset 0 s.nv.rowFails row c } }
  | .segments l =>
    { s with nv := { s.nv with segRetired := l.foldl (fun m q => mset false m q true) s.nv.segRetired } }
  | .baseline i v => { s with nv := { s.nv with baselines := mset [] s.nv.baselines i v } }
  | .stored k v => { s with nv := { s.nv with stored := mset [] s.nv.stored k v } }
  | .laneMaps l =>
    { s with
      nv := { s.nv with laneMaps := l.foldl (fun m x => mset [] m x.1 x.2) s.nv.laneMaps }
      mgmt := { s.mgmt with laneCommit := false } }
  | .activate c slot floor =>
    if c = 1 then { s with nv := { s.nv with slotMc := slot, svnFloorMc := floor } }
    else { s with nv := { s.nv with slotMsh := slot, svnFloorMsh := floor } }
  | .fault r => { s with nv := { s.nv with persist := lastN 64 (s.nv.persist ++ [r]) } }
  | .penalty p => { s with nv := { s.nv with penalty := p } }
  | .auditOnly => s

/-- Write the audit part of a record, if it has one left. -/
def writeAudit (a : Option Audit) (s : State) : State :=
  match a with
  | some a => auditWrite a s
  | none => s

/-- Hand a record to the NV store (R500): written at once while the window is open and the journal empty, otherwise queued;
a full journal drops a hardware record (R501). A record of the manifest waits in the journal for its commit (R512). -/
def journalPut (r : JRec) (s : State) : State :=
  let atOnce := s.pow.nvOpen && s.pow.journal.isEmpty
  if atOnce && jDirect r.kind then nvApply r.kind (writeAudit r.audit s)
  else if s.pow.journal.length < 64 then
    let s := onlyIf atOnce (writeAudit r.audit) s
    let s := { s with
      pow := { s.pow with journal := s.pow.journal ++ [if atOnce then { r with audit := none } else r] }
      nv := { s.nv with committing := s.nv.committing || atOnce } }
    if !s.pow.nvOpen && !s.pow.nvAdvised then
      logFault 0x9040 none 0 { s with pow := { s.pow with nvAdvised := true } }
    else s
  else bump 0x200404 1 (logFault 0x9042 none 0 s)

/-- The journal has room for an audited write, or the entry can be written at once (R468). -/
def journalRoom (s : State) : Bool := decide (s.pow.journal.length < 64)

/-! ## Sending on the links -/

/-- Queue a payload on a virtual channel of a pair, for its first sending. -/
def enqueue (f vc : Nat) (p : Payload) (s : State) : State :=
  modPair f (fun x => { x with q := mmod [] x.q vc (fun l => l ++ [(false, p)]) }) s

/-- The pair of a direction on which a message of the link or of the management travels: the lowest slot in service, or
slot 0 while none is (DESIGN CHOICE, log entry 9). -/
def leadPair (s : State) (d : Nat) : Nat := ((upPairs s d).head?).getD ((slotPair s d 0).getD 0)

/-- Queue a payload once on a direction. -/
def sendDir (d vc : Nat) (p : Payload) (s : State) : State := enqueue (leadPair s d) vc p s

/-- A queued payload is a frame notice. -/
def isNotice (x : Bool × Payload) : Bool :=
  match x.2 with
  | .notice _ => true
  | _ => false

/-- Queue a frame notice on a direction, ahead of other VC3 traffic (R80). -/
def queueNotice (d : Nat) (n : Notice) (s : State) : State :=
  modPair (leadPair s d) (fun x => { x with q := mmod [] x.q 3 (fun l =>
    l.takeWhile isNotice ++ (false, .notice n) :: l.dropWhile isNotice) }) s

/-- Send a frame notice on every slice link except the one it came by (R80). -/
def sendNotice (n : Notice) (except : Option Nat) (s : State) : State :=
  forEach ((sliceDirs s).filter (fun d => decide (some d ≠ except))) (fun d => queueNotice d n) s

/-- A notice of this package (R80). -/
def ownNotice (s : State) (typ ordinal code haltAt : Nat) (tile : Nat) (calId : U64) : Notice :=
  { typ := BitVec.ofNat 8 typ, ordinal := BitVec.ofNat 48 ordinal, origin := s.fabric.coord.getD 0
    tile := BitVec.ofNat 16 tile, code := BitVec.ofNat 16 code, calId := calId, haltAt := BitVec.ofNat 64 haltAt
    rsv := false }

/-- A notice that this package raises goes out on every slice link; its key is remembered, so that a copy that comes back is a
later one (R80). -/
def sendOwn (n : Notice) (s : State) : State :=
  let key := (n.typ.toNat, n.ordinal.toNat, n.origin.toNat)
  sendNotice n none { s with frames := { s.frames with
    seen := if s.frames.seen.contains key then s.frames.seen else key :: s.frames.seen } }

/-- Send the departure notice to the twin on every Twin fibre in service (R407, R481, R494). -/
def departTwin (s : State) : State :=
  forEach (upPairs s 10) (fun f => enqueue f 4 (.twin (.departure (BitVec.ofNat 64 s.twin.keepSealed)))) s

/-! ## Completion records (R435, R438, R445) -/

/-- Signal a completion ring's vector when its count is reached or its time is 0 (R445). -/
def ringSignal (i : Nat) (s : State) : State :=
  let r := ringOf s i
  if r.unsignalled ≠ 0 ∧ (r.coalTime = 0 ∨ max 1 r.coalCount ≤ r.unsignalled) then
    msix (i + 2) (modRing i (fun r => { r with unsignalled := 0 }) s)
  else s

/-- A completion ring is full (R435). -/
def cqFull (r : Ring) : Bool := decide ((r.cqTail + 1) % 2 ^ r.cqLog = r.cqHead)

/-- Write one record into its ring. -/
def writeRecord (i : Nat) (x : HRec) (s : State) : State :=
  let r := ringOf s i
  let x := { x with sqHead := r.sqHead, phase := r.phase }
  let next := (r.cqTail + 1) % 2 ^ r.cqLog
  ringSignal i (hostOut (.record i r.cqTail x) (modRing i (fun r => { r with
    cqTail := next, phase := if next = 0 then !r.phase else r.phase, unsignalled := r.unsignalled + 1 }) s))

/-- Complete with a record: written, or held in completion order while the ring is full (R435). -/
def pushRecord (i : Nat) (x : HRec) (s : State) : State :=
  let r := ringOf s i
  if r.held.isEmpty && !cqFull r then writeRecord i x s
  else
    let s := modRing i (fun r => { r with held := r.held ++ [x], stall := true }) s
    if r.stall then s else bump 0x110107 1 (logFault 0x8022 none i s)

/-- Write held records while there is room (R435). -/
def releaseHeld (i : Nat) : Nat → State → State
  | 0, s => s
  | k + 1, s =>
    let r := ringOf s i
    match r.held with
    | [] => modRing i (fun r => { r with stall := false }) s
    | x :: rest =>
      if cqFull r then s
      else releaseHeld i k (writeRecord i x (modRing i (fun r => { r with held := rest }) s))

/-- The command is an ABORT. -/
def isAbort (k : CmdKind) : Bool :=
  match k with
  | .abort _ _ => true
  | _ => false

/-- End an outstanding command with its record; nothing is written when a reset has dropped the command (R424, R481). -/
def finishCmd (cid : U32) (status code d0 d1 : Nat) (s : State) : State :=
  match s.host.cmds.find? (fun c => decide (c.cid = cid)) with
  | none => s
  | some c =>
    let s := { s with host := { s.host with
      cmds := s.host.cmds.filter (fun x => decide (x.cid ≠ cid))
      done := ((cid, isAbort c.kind) :: s.host.done).take 1024 } }
    pushRecord c.ring { cid := cid, sqHead := 0, status := status, phase := false, unstable := c.unstable
                        code := BitVec.ofNat 16 code, slot := c.slot, detail0 := d0, detail1 := d1 } s

/-! ## Launch ends and halts (R89 to R94, R440) -/

/-- Run becomes Ready once no Calendar is validating, armed, running or halting (R480). -/
def settlePower (s : State) : State := if s.pow.state = .run ∧ !calBusy s then setPower .ready s else s

/-- Write a launch's record; while the core is being activated it waits for `OD_LIVE` (R521). -/
def endLaunch (c : Cal) (status code d0 d1 : Nat) (s : State) : State :=
  let s := if s.boot.activating then
      { s with host := { s.host with waitLive := s.host.waitLive ++
        [(c.ring, { cid := c.cid, sqHead := 0, status := status, phase := false, unstable := false
                    code := BitVec.ofNat 16 code, slot := c.slot, detail0 := d0, detail1 := d1 })] } }
    else finishCmd c.cid status code d0 d1 s
  settlePower s

/-- The launch that is validating or armed ends with a record and no notice (R85). -/
def dropHeld (status code d0 d1 : Nat) (s : State) : State :=
  match s.frames.held with
  | none => s
  | some c => endLaunch c status code d0 d1 { s with frames := { s.frames with held := none } }

/-- A failed launch (R89): a halt or abort notice with its `CAL_ID` and `HALT_AT` 0, and its record. -/
def failHeld (status code d0 : Nat) (typ : Nat) (s : State) : State :=
  match s.frames.held with
  | none => s
  | some c => dropHeld status code d0 0 (sendOwn (ownNotice s typ 0 code 0 0xFFFF c.hdr.calId) s)

/-- The run's halting Calend is set to a Calend index, or stays at an earlier one (R91, R94). -/
def runHalt (code : Nat) (aborted : Bool) (origin : Nat) (h : Nat) (r : Run) : Run :=
  match r.haltAt with
  | some h' => { r with haltAt := some (min h h') }
  | none => { r with
      haltAt := some h, halted := true
      haltCode := BitVec.ofNat 16 code, aborted := aborted, abortFrom := BitVec.ofNat 16 origin }

/-- Raise a halt on this package (R91): of the running Calendar, with its notice, or of the launch held. After the halting
Calend the notice still goes out, and the Calendar's halting Calend stays the earliest (R94). -/
def raiseHalt (code : Nat) (tile : Option Nat) (s : State) : State :=
  match s.frames.run with
  | some r =>
    if r.completed.isNone then
      let h := calendAt r.cal.hdr.k (now s + r.cal.hdr.lead)
      let s := if r.halting.isSome then s
        else { s with frames := { s.frames with run := some (runHalt code false 0 h r) } }
      sendOwn (ownNotice s 2 r.ordinal code h (tile.getD 0xFFFF) r.cal.hdr.calId) s
    else failHeld 2 code 0 2 s
  | none => failHeld 2 code 0 2 s

/-- The package refuses every launch until the next Season reset (R587): with the code of the state that it entered first, though
being out of service names its own code over the others (DESIGN CHOICE, log entry 26). -/
def refuseLaunches (code : Nat) (s : State) : State :=
  if s.frames.refuse.isSome then s else { s with frames := { s.frames with refuse := some (BitVec.ofNat 16 code) } }

/-- Leave service (R528): launches are refused, and the twin is told. -/
def leaveService (code : Nat) (s : State) : State :=
  match s.boot.outOfService with
  | some _ => s
  | none =>
    departTwin { s with
      boot := { s.boot with outOfService := some (BitVec.ofNat 16 code), oosSeason := false }
      frames := { s.frames with refuse := some (BitVec.ofNat 16 code) } }

/-- A fault at start leaves the package Ready-blocked (R36, R528, R566); the core that runs answers. -/
def blockStart (code : Nat) (s : State) : State :=
  { s with boot := { s.boot with
      blocked := true, waiting := false
      fail := if s.boot.blocked then s.boot.fail else BitVec.ofNat 16 code
      odLive := s.boot.odLive || s.boot.mcRuns } }

/-- The number that the record logged last has, or will have once the held ones are posted. -/
def latestSeq (s : State) : Nat :=
  s.health.seq + (s.boot.held.filter (fun h => match h with
    | .fault _ => true
    | _ => false)).length - 1

/-- What a Device-fatal fault does beside its log record (R527, R528, R533). -/
def deviceFatal (code : Nat) (tile : Option Nat) (ctx : Nat) (also : List Nat) (s : State) : State :=
  let s := journalPut { kind := .fault { faultRec code false tile ctx s with also := also, seq := latestSeq s } } s
  let s := raiseHalt code tile s
  if s.boot.ready then leaveService code s else blockStart code s

/-- Raise a fault with everything its severity brings (R525 to R533). -/
def raiseWith (code : Nat) (tile : Option Nat) (ctx : Nat) (also : List Nat) (s : State) : State :=
  match sevOf code with
  | 0 => logWith code tile ctx also s
  | 1 => correctedWith code tile ctx also s
  | 2 => raiseHalt code tile (logWith code tile ctx also s)
  | 3 => deviceFatal code tile ctx also (logWith code tile ctx also s)
  | _ =>
    let s := deviceFatal code tile ctx also (logWith code tile ctx also s)
    { s with boot := { s.boot with latched := BitVec.ofNat 16 code :: s.boot.latched } }

/-- Raise a fault with nothing else to name. -/
def raiseFault (code : Nat) (tile : Option Nat) (ctx : Nat) (s : State) : State := raiseWith code tile ctx [] s

/-- Raise a fault of the package. -/
def raise (code ctx : Nat) (s : State) : State := raiseFault code none ctx s

/-- Raise a fault of a tile. -/
def raiseTile (code t ctx : Nat) (s : State) : State := raiseFault code (some t) ctx s

/-- Raise a Job-fatal fault of the package that concerns a given frame and tile (R96). -/
def raiseOf (code ordinal : Nat) (tile : Option Nat) (ctx : Nat) (s : State) : State :=
  raiseHalt code none (logRec { faultRec code false tile ctx s with ordinal := some ordinal } s)

/-- A word of a tile's buffer that one of its units read (R237): corrected and counted, or uncorrectable, which raises 0x2012. -/
def bufWord (t : Nat) (w : WordRead) (s : State) : State :=
  match w with
  | .clean => s
  | .corrected k => if k.val = 0 then s else raiseTile 0x2008 t t (bump 0x500204 1 s)
  | .uncorrectable => raiseTile 0x2012 t t s

/-! ## Time -/

/-- One nanosecond passes (DESIGN CHOICE, log entry 2): the Almanac counts while the hub runs (R342). -/
def idleTick (s : State) : State :=
  if s.boot.hub then { s with time := { s.time with alm := s.time.alm + 1 } } else s

/-- Time has reached at least this Almanac value. -/
def timeAtLeast (t : Nat) (s : State) : State :=
  if now s < t then { s with time := { s.time with alm := BitVec.ofNat 64 t } } else s

/-- The Almanac has been set, or a Season begins: the next Calend is the next multiple of its period (R50). -/
def resumeCalends (s : State) : State := { s with frames := { s.frames with calDue := now s / 2 ^ s.frames.k + 1 } }

/-- A session event (R462). -/
def sessionEvent (n : Nat) (s : State) : State := postEvent 5 0 n 0 0 s

end Sys2Proof.Machine
end

