-- ==== Sys2Proof/Machine/HostOps.lean ====
section
/-!
DEFINITION. Submission entries (12): how Thenil reads the next entry of a ring, checks it and answers it (R434, R437 to R439).
-/

set_option Elab.async false

namespace Sys2Proof.Machine

/-- Thenil reads entries of a ring: enabled, not stopped, and at most 64 records held (R434, R435). -/
def ringReads (s : State) (i : Nat) : Bool :=
  let r := ringOf s i
  s.host.linkUp && r.en && !r.stopped && decide (r.held.length ≤ 64)

/-- A record that answers an entry at once. -/
def directRecord (cid : U32) (slot status code d0 d1 : Nat) : HRec :=
  { cid := cid, sqHead := 0, status := status, phase := false, unstable := false, code := BitVec.ofNat 16 code, slot := slot
    detail0 := d0, detail1 := d1 }

/-- An entry is answered at once under its own `CID`, which counts among the completed commands (R444). -/
def answer (i slot : Nat) (cid : U32) (status code d0 d1 : Nat) (s : State) : State :=
  pushRecord i (directRecord cid slot status code d0 d1)
    { s with host := { s.host with done := ((cid, false) :: s.host.done).take 1024 } }

/-- A command with this `CID` is outstanding. -/
def cmdOutstanding (s : State) (cid : U32) : Bool := s.host.cmds.any (fun c => decide (c.cid = cid))

/-- Keep a command outstanding. -/
def holdCmd (c : Cmd) (s : State) : State := { s with host := { s.host with cmds := s.host.cmds ++ [c] } }

/-- An entry of a ring has been read: an ABORT that waits for it waits for one less (R444). -/
def countRead (i : Nat) (c : Cmd) : Cmd :=
  match c.kind with
  | .abort t left => { c with kind := .abort t (left.map (fun x => if x.1 = i then (x.1, x.2 - 1) else x)) }
  | _ => c

/-- Thenil reads the ring's next entry and checks it in the order of R439: its `CID`, its form, then the package's state; `act`
is run with the entry's slot when it passes. The doorbell that made an entry known comes with it where none is waiting. -/
def submit (i : Nat) (cid : U32) (formOk early : Bool) (act : Nat → State → State) (s : State) : State :=
  if ringReads s i then
    let slot := (ringOf s i).sqHead
    let next := (slot + 1) % 2 ^ (ringOf s i).sqLog
    let s := bump 0x110105 1 (modRing i (fun r => { r with
      sqHead := next, sqTail := if r.sqTail = slot then next else r.sqTail }) s)
    let s := { s with host := { s.host with cmds := s.host.cmds.map (countRead i) } }
    if cid = 0xFFFFFFFF then pushRecord i (directRecord 0xFFFFFFFF slot 9 0x8020 0 0) (logWith 0x8020 none i [cid.toNat] s)
    else if cmdOutstanding s cid then pushRecord i (directRecord 0xFFFFFFFF slot 10 0x8020 0 0) (logWith 0x8020 none i [cid.toNat] s)
    else if formOk = false then answer i slot cid 9 0 0 0 s
    else if early = false ∧ s.boot.ready = false then answer i slot cid 11 0 0 0 s
    else act slot s
  else s

end Sys2Proof.Machine
end

