-- ==== Sys2Proof/Machine/Fec.lean ====
section
/-!
DEFINITION. The codewords of a fibre (R279, R280): RS(272,256) over GF(2^10), and five flits in the message bits of four codewords.
The spec does not say which of a codeword's symbols carry the message or how a byte's bits lie in a symbol's: here the message symbols
come first and the most significant bit of a byte first (DESIGN CHOICE, log entry 28).
-/

set_option Elab.async false

namespace Sys2Proof.Machine

/-! ## The field: x^10 + x^3 + 1 -/

/-- Times x. -/
def gfTwice (a : Nat) : Nat := (2 * a) ^^^ (a / 512 * 0x409)

/-- A product in GF(2^10). -/
def gfMul (a b : Nat) : Nat := (List.range 10).foldl (fun r i => gfTwice r ^^^ (b / 2 ^ (9 - i) % 2 * a)) 0

/-- The inverse of a non-zero element: its 1022nd power. -/
def gfInv (a : Nat) : Nat := ((List.range 9).foldl (fun (x : Nat × Nat) _ => (gfMul x.1 x.1, gfMul x.2 (gfMul x.1 x.1))) (a, 1)).2

/-- α^n, α being x, whose 1023rd power is 1. -/
def gfAlpha (n : Nat) : Nat :=
  (List.range 10).foldl (fun r i => if bit (n % 1023) (9 - i) then gfTwice (gfMul r r) else gfMul r r) 1

/-- The value of a polynomial, lowest coefficient first. -/
def gfEval (x : Nat) (p : List Nat) : Nat := p.foldr (fun c r => c ^^^ gfMul x r) 0

/-- A sum of polynomials. -/
def gfAdd (p q : List Nat) : List Nat := (List.range (max p.length q.length)).map (fun i => p.getD i 0 ^^^ q.getD i 0)

/-- A coefficient of a product of polynomials. -/
def gfCoeff (p q : List Nat) (k : Nat) : Nat :=
  (List.range (k + 1)).foldl (fun r i => r ^^^ gfMul (p.getD i 0) (q.getD (k - i) 0)) 0

/-! ## The code: generator roots α^0 to α^15 -/

/-- The 16 syndromes of a word in transmission order, its first symbol being the coefficient of x^271. -/
def syndromes (w : List Nat) : List Nat := (List.range 16).map (fun i => gfEval (gfAlpha i) w.reverse)

/-- A word of the code. -/
def inCode (w : List Nat) : Bool := (syndromes w).all (fun x => decide (x = 0))

/-- The state of the search for the error locator (Berlekamp and Massey): the locator, the previous one, their lengths' bookkeeping and
the previous discrepancy. -/
structure Search where
  loc : List Nat
  prev : List Nat
  len : Nat
  gap : Nat
  last : Nat
  deriving DecidableEq, Repr

/-- Step `n` of the search. -/
def searchStep (syn : List Nat) (x : Search) (n : Nat) : Search :=
  let d := gfCoeff x.loc (syn.take (n + 1)) n
  if d = 0 then { x with gap := x.gap + 1 }
  else
    let c := gfMul d (gfInv x.last)
    let loc := gfAdd x.loc (List.replicate x.gap 0 ++ x.prev.map (gfMul c))
    if 2 * x.len ≤ n then ⟨loc, x.loc, n + 1 - x.len, 1, d⟩ else { x with loc := loc, gap := x.gap + 1 }

/-- The error locator of 16 syndromes and its degree. -/
def locator (syn : List Nat) : Search := (List.range 16).foldl (searchStep syn) ⟨[1], [1], 0, 1, 1⟩

/-- `n` powers in a row, each α times the one before. -/
def gfPowers (a : Nat) : Nat → List Nat
  | 0 => []
  | n + 1 => a :: gfPowers (gfTwice a) n

/-- The word with its errors taken out at the places the locator names; each error value by Forney's rule. The place of the symbol
that is the coefficient of x^e is a root when the locator is 0 at α^-e; the first symbol's e is 271, and α^-271 is α^752. -/
def takeOut (w syn loc : List Nat) : List Nat :=
  let omega := (List.range 16).map (gfCoeff syn loc)
  let slope := (List.range loc.length).map (fun i => if i % 2 = 0 then loc.getD (i + 1) 0 else 0)
  (w.zip (gfPowers (gfAlpha 752) 272)).map (fun y =>
    if gfEval y.2 loc = 0 then y.1 ^^^ gfMul (gfInv y.2) (gfMul (gfEval y.2 omega) (gfInv (gfEval y.2 slope))) else y.1)

/-- The symbols in which two words differ. -/
def symbolErrors (v w : List Nat) : Nat := ((v.zip w).filter (fun x => decide (x.1 ≠ x.2))).length

/-- The bits in which two words differ. -/
def bitErrors (v w : List Nat) : Nat :=
  (v.zip w).foldl (fun n x => n + count ((List.range 10).map (fun i => bit x.1 i != bit x.2 i))) 0

/-- The codeword that differs from a received word in at most 8 symbols, if the decoder finds one (R279). -/
def fecDecode (w : List Nat) : Option (List Nat) :=
  let syn := syndromes w
  let v := takeOut w syn (locator syn).loc
  if inCode w then some w else if inCode v && decide (symbolErrors v w ≤ 8) then some v else none

/-- The 272 symbols of a received codeword, in transmission order, from the 34 that each line has carried: symbol s comes on line
s mod 8 (R279). -/
def codeSymbols (lines : List (List (BitVec 10))) : List Nat :=
  (List.range 272).map (fun i => ((lines.getD (i % 8) []).getD (i / 8) 0).toNat)

/-! ## Flits in codewords (R280) -/

/-- The bits of message symbols, the most significant of each first. -/
def symbolBits (l : List Nat) : List Bool := l.flatMap (fun v => (List.range 10).map (fun i => bit v (9 - i)))

/-- The number that bits spell, the most significant first. -/
def bitsNat (l : List Bool) : Nat := l.foldl (fun v b => 2 * v + flag b) 0

/-- The five flits in the 1,024 message symbols of four codewords: flit f is in bits 2,048 f to 2,048 f + 2,047. -/
def groupFlits (l : List Nat) : List (List Byte) :=
  let bits := symbolBits l
  (List.range 5).map (fun f => (List.range 256).map (fun i => BitVec.ofNat 8 (bitsNat ((bits.drop (2048 * f + 8 * i)).take 8))))

end Sys2Proof.Machine
end

