-- ==== Sys2Proof/Machine/Flit.lean ====
section
/-!
DEFINITION. The 256 bytes of a flit (R322 to R324): its header, its body by the layouts of R80, R323, R331, R337, R340, R343, R368 and
R395, and its CRC-32C; and which received flits fail (R323).
-/

set_option Elab.async false

namespace Sys2Proof.Machine

/-- Bytes followed by zeros up to a length. -/
def padTo (n : Nat) (l : List Byte) : List Byte := l.take n ++ List.replicate (n - l.length) 0

/-- A frame notice (R80). -/
def noticeBytes (n : Notice) : List Byte :=
  [n.typ, 0] ++ leBytes 6 n.ordinal.toNat ++ leBytes 2 n.origin.toNat ++ leBytes 2 n.tile.toNat ++ leBytes 2 n.code.toNat ++ [0, 0] ++
    leBytes 8 n.calId.toNat ++ leBytes 8 n.haltAt.toNat

/-- A link notice (R331). -/
def linkBytes (k : LinkNoticeKind) (n : LinkNotice) : List Byte :=
  let kind : Byte := match k with
    | .withdrawal => 0x10
    | .return_ => 0x11
    | .intercalary => 0x12
  [kind, n.slots, 0, 0, 0, 0, 0, 0] ++ leBytes 8 n.at_.toNat

/-- A time message (R343); its stamps are the Almanac and then the fraction. -/
def timeBytes (m : TimeMsg) : List Byte :=
  let stamp (t : Nat) : List Byte := leBytes 8 (t / 65536) ++ leBytes 2 (t % 65536)
  [m.kind, m.depth] ++ leBytes 2 m.root.toNat ++ leBytes 4 m.gen.toNat ++ stamp m.t1 ++ stamp m.t2 ++ stamp m.t3

/-- What a fabric packet holds from flit byte 24 on, by its kind (R368). -/
def packetTail (p : Packet) : List Byte :=
  let line := padTo 128 p.data
  let piece : List Byte := [BitVec.ofNat 8 p.piece, 0] ++ leBytes 2 p.len
  match p.kind.toNat with
  | 1 => leBytes 2 p.len
  | 2 => leBytes 16 p.benables.toNat ++ line ++ leBytes 64 p.fenables.toNat
  | 3 => [p.aop.setWidth 8, p.fmt.setWidth 8, 0, 0, 0, 0, 0, 0] ++ leBytes 4 p.word0.toNat ++ leBytes 4 p.word1.toNat
  | 4 => List.replicate 16 0 ++ line
  | 6 => List.replicate 8 0 ++ leBytes 4 p.word0.toNat
  | 7 | 9 => piece ++ leBytes 4 p.pbytes ++ p.data
  | 8 => piece ++ leBytes 8 p.aux.toNat
  | 10 => [BitVec.ofNat 8 p.piece]
  | 11 => [p.okind, BitVec.ofNat 8 p.piece]
  | 12 => [p.region]
  | 13 => [p.region, 0, 0, 0] ++ leBytes 4 p.epoch.toNat
  | _ => []

/-- A fabric packet (R368). -/
def packetBytes (p : Packet) : List Byte :=
  [p.kind, BitVec.ofNat 8 (flag p.prio + 2 * flag p.poison)] ++ leBytes 2 p.src.toNat ++ leBytes 2 p.srcTile.toNat ++
    leBytes 2 p.rtag.toNat ++ leBytes 8 p.addr.toNat ++ packetTail p

/-- A part of a pairing record: 0 its identity, 1 and 2 eight Keep entries each (R395). -/
def pairingBytes (part : Nat) (r : PairRec) : List Byte :=
  let entry (e : KeepEntry) : List Byte := leBytes 8 e.base.toNat ++ leBytes 8 e.size.toNat
  [0x83, 0, BitVec.ofNat 8 part, 0, 0, 0, 0, 0] ++
    (if part = 0 then
      leBytes 8 r.serial.toNat ++ leBytes 2 r.coord.toNat ++ [BitVec.ofNat 8 (flag r.keepValid), 0, 0, 0, 0, 0] ++
        leBytes 8 r.keepTotal.toNat ++ leBytes 8 r.mirrorSize.toNat ++ leBytes 8 r.sealed.toNat
    else ((r.table.drop (8 * (part - 1))).take 8).flatMap entry)

/-- A twin packet (R395). -/
def twinBytes (p : TwinPkt) : List Byte :=
  let index (kind : Byte) (c : Nat) : List Byte := [kind, 0, 0, 0, 0, 0, 0, 0] ++ leBytes 8 c
  let notice (k : Byte) (c : Nat) : List Byte := [0x86, k, 0, 0, 0, 0, 0, 0] ++ leBytes 8 c
  match p with
  | .mirrorWrite poison e a be d =>
    [0x80, BitVec.ofNat 8 (flag poison)] ++ leBytes 2 e.toNat ++ [0, 0, 0, 0] ++ leBytes 8 a.toNat ++ leBytes 16 be.toNat ++ padTo 128 d
  | .sealMarker c => index 0x81 c.toNat
  | .sealAck c => index 0x82 c.toNat
  | .pairing part r => pairingBytes part.val r
  | .rebuildData phase poison page o d =>
    [0x84, BitVec.ofNat 8 (flag phase + 2 * flag poison), 0, 0] ++ leBytes 2 page ++ leBytes 2 d.length ++ leBytes 4 o ++
      List.replicate 12 0 ++ d
  | .pageAck phase page => [0x85, BitVec.ofNat 8 (flag phase), 0, 0] ++ leBytes 2 page
  | .departure c => notice 1 c.toNat
  | .unpairRelease c => notice 2 c.toNat
  | .unpairKeep c => notice 3 c.toNat

/-- The body of a Data flit, from flit byte 8 on. The layout of a slice record is not given (R357): its bytes are free. -/
def payloadBytes (p : Payload) : List Byte :=
  match p with
  | .packet p => packetBytes p
  | .twin p => twinBytes p
  | .notice n => noticeBytes n
  | .link k n => linkBytes k n
  | .time m => timeBytes m
  | .slice r => Config.sliceBytes r
  | .malformed => []

/-- The body of a Ledger (R337). -/
def ledgerBytes (b : LedgerBody) : List Byte :=
  leBytes 4 b.epoch.toNat ++ leBytes 4 b.phaseId.toNat ++ leBytes 8 b.calend.toNat ++ leBytes 8 b.n.toNat ++ leBytes 8 b.u.toNat ++
    b.vcs.flatMap (fun v => leBytes 8 v.t ++ leBytes 8 v.k ++ leBytes 2 v.c ++ [0, 0])

/-- A training record (R340). -/
def trainBytes (r : TrainRec) : List Byte :=
  leBytes 2 r.coord.toNat ++ [r.dir, r.slot.setWidth 8, r.fibre, BitVec.ofNat 8 (r.lowest.toNat + 16 * r.highest.toNat), 0, 0] ++
    leBytes 4 r.epoch.toNat ++ leBytes 8 r.serial.toNat ++ leBytes 4 r.build.toNat

/-- The body of a flit, by its type (R323). -/
def bodyBytes (x : Sent) : List Byte :=
  match x.typ with
  | 1 => (x.payload.map payloadBytes).getD []
  | 2 => x.counts.flatMap (leBytes 2)
  | 3 => (x.ledger.map ledgerBytes).getD []
  | 5 => leBytes 4 x.phaseId.toNat ++ ((x.payload.map payloadBytes).getD []).take 240
  | 6 => (x.train.map trainBytes).getD []
  | 7 => x.counts.map (BitVec.ofNat 8) ++ x.counts.flatMap (leBytes 2)
  | _ => []

/-- The header of a flit (R322). -/
def headerBytes (x : Sent) : List Byte :=
  [BitVec.ofNat 8 (x.typ + 16 * x.vc + 128 * flag x.carry), BitVec.ofNat 8 (x.home + 8 * x.rhome + 64 * flag x.rphase)] ++
    leBytes 2 x.seq ++ leBytes 2 x.ack ++ [BitVec.ofNat 8 x.crVc, BitVec.ofNat 8 x.crCount]

/-- The 256 bytes of a flit, the last four its CRC-32C over the others (R322, R324). -/
def flitBytes (x : Sent) : List Byte :=
  let l := headerBytes x ++ padTo 244 (bodyBytes x)
  l ++ leBytes 4 (crc32c l)

/-- A received flit fails (R323, R326): its CRC is wrong, or its `TYPE`, its `VC` or a reserved bit of its header is. -/
def flitFails (l : List Byte) : Bool :=
  decide (crc32c (l.take 252) ≠ fieldAt l 252 4) || decide (8 ≤ fieldAt l 0 1 % 16) || decide (6 ≤ fieldAt l 0 1 / 16 % 8) ||
    bit (fieldAt l 1 1) 7 || decide (8 ≤ fieldAt l 6 1)

end Sys2Proof.Machine
end

