-- ==== Sys2Proof/Machine/Dyadic.lean ====
section
/-!
DEFINITION. Exact arithmetic on dyadic numbers m * 2^e: the values of filters, tallies and sums before any rounding.
-/

set_option Elab.async false

namespace Sys2Proof.Machine

/-- Halve while even, at most `k` times. -/
def dyTrim : Nat → Int → Int → Dy
  | 0, m, e => ⟨m, e⟩
  | k + 1, m, e => if m % 2 = 0 then dyTrim k (m / 2) (e + 1) else ⟨m, e⟩

/-- The one form of a value: an odd mantissa, or 0 * 2^0. -/
def dyNorm (x : Dy) : Dy := if x.m = 0 then ⟨0, 0⟩ else dyTrim (x.m.natAbs.log2 + 1) x.m x.e

/-- An integer. -/
def dyInt (i : Int) : Dy := dyNorm ⟨i, 0⟩

/-- The mantissa of a value at a lower exponent. -/
def dyAt (x : Dy) (e : Int) : Int := x.m * 2 ^ (x.e - e).toNat

def dyAdd (x y : Dy) : Dy := let e := min x.e y.e; dyNorm ⟨dyAt x e + dyAt y e, e⟩
def dyNeg (x : Dy) : Dy := ⟨-x.m, x.e⟩
def dySub (x y : Dy) : Dy := dyAdd x (dyNeg y)
def dyMul (x y : Dy) : Dy := dyNorm ⟨x.m * y.m, x.e + y.e⟩
/-- x * 2^k. -/
def dyScale (x : Dy) (k : Int) : Dy := if x.m = 0 then ⟨0, 0⟩ else ⟨x.m, x.e + k⟩
def dyLe (x y : Dy) : Bool := let e := min x.e y.e; decide (dyAt x e ≤ dyAt y e)
def dyLt (x y : Dy) : Bool := let e := min x.e y.e; decide (dyAt x e < dyAt y e)
def dyAbs (x : Dy) : Dy := ⟨x.m.natAbs, x.e⟩
/-- Equality of values. -/
def dyEq (x y : Dy) : Bool := dyLe x y && dyLe y x
/-- ⌊x⌋. -/
def dyFloor (x : Dy) : Int := if 0 ≤ x.e then x.m * 2 ^ x.e.toNat else x.m.fdiv (2 ^ (-x.e).toNat)
/-- The sum of a list, exact. -/
def dySum (l : List Dy) : Dy := l.foldl dyAdd ⟨0, 0⟩

end Sys2Proof.Machine
end

