-- ==== Sys2Proof/Machine/Operands.lean ====
section
/-!
DEFINITION. The operand forms of addresses: global addresses (R360), the place of a Store address (R238, R241) with
retirement replacements (R258), tile-buffer addresses (R236), coordinates and slice offsets (R347, R355).
-/

set_option Elab.async false

namespace Sys2Proof.Machine

/-! ## Global addresses (R360) -/

/-- The coordinate key of a global address: its top 14 bits. -/
def gaKey (a : Nat) : Nat := a / 2 ^ 50
/-- The space of a global address. -/
def gaSpace (a : Nat) : Nat := a / 2 ^ 48 % 4
/-- The local address of a global address. -/
def gaLocal (a : Nat) : Nat := a % 2 ^ 48
/-- A global address from its parts. -/
def gaMake (key space loc : Nat) : Nat := key * 2 ^ 50 + space * 2 ^ 48 + loc

/-- x, y and z of a coordinate key (R347). -/
def keyX (k : Nat) : Nat := k % 8
def keyY (k : Nat) : Nat := k / 8 % 32
def keyZ (k : Nat) : Nat := k / 256 % 64
/-- The coordinate key of (x, y, z). -/
def mkKey (x y z : Nat) : Nat := 256 * z + 8 * y + x

/-! ## Store places (R238, R241) -/

/-- Die of a Store address: A[33:31] XOR A[23:21]. -/
def storeDie (a : Nat) : Nat := field a 33 31 ^^^ field a 23 21
/-- Channel within the die: A[12:7] XOR A[20:15] XOR A[26:21]. -/
def storeChanInDie (a : Nat) : Nat := field a 12 7 ^^^ field a 20 15 ^^^ field a 26 21
/-- Channel index i = 64 d + channel within the die. -/
def storeChan (a : Nat) : Nat := 64 * storeDie a + storeChanInDie a
/-- Segment q within the channel: A[30:29]. -/
def storeSeg (a : Nat) : Nat := field a 30 29
/-- Bank 4 q + (A[14:13] XOR A[16:15]). -/
def storeBank (a : Nat) : Nat := 4 * storeSeg a + (field a 14 13 ^^^ field a 16 15)
/-- Line within the bank: A[28:15]. -/
def storeLineInBank (a : Nat) : Nat := field a 28 15
/-- Segment number 4 i + q, 0 to 2,047. -/
def storeSegNo (a : Nat) : Nat := 4 * storeChan a + storeSeg a
/-- The logical row of a place: channel, bank and row within the bank as one 24-bit number. -/
def storeRowNo (a : Nat) : Nat := storeChan a * 2 ^ 15 + storeBank a * 2 ^ 11 + storeLineInBank a / 8
/-- The segment number of a row. -/
def rowSegNo (row : Nat) : Nat := 4 * (row / 2 ^ 15) + row / 2 ^ 11 % 16 / 4
/-- The bank of a row, over the package. -/
def rowBank (row : Nat) : Nat := row / 2 ^ 11

/-- A line's own place lies in a retired segment. -/
def lineRetired (s : State) (line : Nat) : Bool := mget false s.store.segRetired (storeSegNo (line * 128))

/-- The address whose place holds a line: its own, or that of the withdrawn line that replaces it (R258). -/
def heldAt (s : State) (line : Nat) : Nat :=
  if lineRetired s line then
    let cap := capacity s / 128
    let m := ((List.range (min line cap)).filter (lineRetired s)).length
    (((List.range' cap (2 ^ 27 - cap)).filter (fun l => !lineRetired s l)).getD m line) * 128
  else line * 128

/-- The physical row of a Store address. -/
def physRow (s : State) (a : Nat) : Nat := storeRowNo (heldAt s (a / 128))
/-- The channel that holds a Store address. -/
def physChan (s : State) (a : Nat) : Nat := storeChan (heldAt s (a / 128))

/-! ## Tiles (R6, R39) -/

/-- The compute die of a tile. -/
def tileDie (t : Nat) : Nat := t / 64

/-- The last byte address of a tile buffer plus one (R235). -/
def bufSize : Nat := 0x280000

/-- Tile and byte that a space 0b01 local address names; none where it is reserved (R236). -/
def bufPlace (loc : Nat) : Option (Nat × Nat) :=
  if loc < 2 ^ 31 ∧ loc % 2 ^ 22 < bufSize then some (loc / 2 ^ 22, loc % 2 ^ 22) else none

/-! ## The slice (R355) -/

/-- The offset of a coordinate along an axis of length `m` from an origin. -/
def axisOffset (c o m : Nat) : Nat := (c + m - o % m) % m

/-- The settings in force: size along x, y, z. -/
def sliceX (s : State) : Nat := s.fabric.size.toNat % 256
def sliceY (s : State) : Nat := s.fabric.size.toNat / 256 % 256
def sliceZ (s : State) : Nat := s.fabric.size.toNat / 65536 % 256

/-- Offsets of a coordinate key in the slice. -/
def offX (s : State) (k : Nat) : Nat := axisOffset (keyX k) (keyX s.fabric.origin.toNat) 8
def offY (s : State) (k : Nat) : Nat := axisOffset (keyY k) (keyY s.fabric.origin.toNat) s.fabric.ly
def offZ (s : State) (k : Nat) : Nat := axisOffset (keyZ k) (keyZ s.fabric.origin.toNat) s.fabric.lz

/-- A coordinate is a member of the slice (R355). -/
def inSlice (s : State) (k : Nat) : Bool :=
  decide (offX s k < sliceX s) && decide (offY s k < sliceY s) && decide (offZ s k < sliceZ s) &&
    decide (keyY k < s.fabric.ly) && decide (keyZ k < s.fabric.lz)

/-- The axis is a ring (R355): whole, or spliced. -/
def ringX (s : State) : Bool := decide (sliceX s = 8)
def ringY (s : State) : Bool := decide (sliceY s = s.fabric.ly)
def ringZ (s : State) : Bool := decide (sliceZ s = s.fabric.lz) || (s.fabric.splice && decide (sliceZ s < s.fabric.lz))

/-- The neighbour of a coordinate in a direction (R354); ±Z by the base setting, or by the splice of the slice. -/
def neighbour (s : State) (k d : Nat) : Nat :=
  let x := keyX k
  let y := keyY k
  let z := keyZ k
  let ly := s.fabric.ly
  let lz := s.fabric.lz
  match d with
  | 0 => mkKey ((x + 1) % 8) y z
  | 1 => mkKey ((x + 7) % 8) y z
  | 2 => mkKey x ((y + 1) % ly) z
  | 3 => mkKey x ((y + ly - 1) % ly) z
  | 4 => mkKey ((x + 2) % 8) y z
  | 5 => mkKey ((x + 6) % 8) y z
  | 6 => mkKey x ((y + 2) % ly) z
  | 7 => mkKey x ((y + ly - 2) % ly) z
  | 8 =>
    if ringZ s && inSlice s k && decide (offZ s k = sliceZ s - 1) then mkKey x y (keyZ s.fabric.origin.toNat)
    else mkKey x y ((z + 1) % lz)
  | 9 =>
    if ringZ s && inSlice s k && decide (offZ s k = 0) then
      mkKey x y ((keyZ s.fabric.origin.toNat + sliceZ s - 1) % lz)
    else mkKey x y ((z + lz - 1) % lz)
  | _ => mkKey x (y ^^^ 1) z

/-- A link of a direction is inside the slice (R356): on a ring both ends are members, on a line the offsets do not wrap. -/
def linkInside (s : State) (k d : Nat) : Bool :=
  let line (u size : Nat) (step : Int) : Bool := decide (0 ≤ (u : Int) + step ∧ (u : Int) + step < size)
  inSlice s k && (match d with
    | 0 => ringX s || line (offX s k) (sliceX s) 1
    | 1 => ringX s || line (offX s k) (sliceX s) (-1)
    | 2 => ringY s || line (offY s k) (sliceY s) 1
    | 3 => ringY s || line (offY s k) (sliceY s) (-1)
    | 4 => ringX s || line (offX s k) (sliceX s) 2
    | 5 => ringX s || line (offX s k) (sliceX s) (-2)
    | 6 => ringY s || line (offY s k) (sliceY s) 2
    | 7 => ringY s || line (offY s k) (sliceY s) (-2)
    | 8 => ringZ s || line (offZ s k) (sliceZ s) 1
    | 9 => ringZ s || line (offZ s k) (sliceZ s) (-1)
    | _ => false)

end Sys2Proof.Machine
end

