-- ==== Sys2Proof/Machine/FabricOps.lean ====
section
/-!
DEFINITION. Fabric operations (10): routes, slots, packets, write tokens and the ways a request resolves.
-/

set_option Elab.async false

namespace Sys2Proof.Machine

/-! ## Routes (R364 to R367) -/

/-- The step along one axis: direction codes for +1, -1, +2, -2 given the own and target offsets, the ring length when the
axis is a ring, and whether skip links are used (R364, R367). -/
def axisStep (u v : Nat) (ring : Option Nat) (skip : Bool) (p1 m1 p2 m2 : Nat) : Option Nat :=
  if u = v then none
  else
    let plus := match ring with
      | some n => let f := (v + n - u) % n; decide (f ≤ n - f)
      | none => decide (u < v)
    let dist := match ring with
      | some n => let f := (v + n - u) % n; min f (n - f)
      | none => if u < v then v - u else u - v
    some (if skip && decide (2 ≤ dist) then (if plus then p2 else m2) else (if plus then p1 else m1))

/-- The direction of the next hop toward a coordinate (R364): X, then Y, then Z; none when it is the package's own. -/
def nextDir (s : State) (dest : Nat) : Option Nat :=
  let own := ownKey s
  let skipX := s.fabric.skipUnused.toNat % 2 = 0
  let skipY := s.fabric.skipUnused.toNat / 2 = 0
  match axisStep (offX s own) (offX s dest) (if ringX s then some 8 else none) skipX 0 1 4 5 with
  | some d => some d
  | none =>
    match axisStep (offY s own) (offY s dest) (if ringY s then some (sliceY s) else none) skipY 2 3 6 7 with
    | some d => some d
    | none => axisStep (offZ s own) (offZ s dest) (if ringZ s then some (sliceZ s) else none) false 8 9 8 9

/-- The axis of a direction is a ring (R366). -/
def dirRing (s : State) (d : Nat) : Bool :=
  match d with
  | 0 | 1 | 4 | 5 => ringX s
  | 2 | 3 | 6 | 7 => ringY s
  | 8 | 9 => ringZ s
  | _ => false

/-- H of R365 on a local address. -/
def slotHash (a : Nat) : Nat :=
  field a 9 7 ^^^ field a 12 10 ^^^ field a 15 13 ^^^ field a 18 16 ^^^ field a 21 19 ^^^ field a 24 22

/-- The virtual channel of a packet kind (R368). -/
def kindVc (k : Nat) : Option Nat :=
  if k = 1 ∨ k = 2 ∨ k = 3 ∨ k = 8 ∨ k = 0x0C then some 0
  else if k = 4 ∨ k = 5 ∨ k = 6 ∨ k = 0x0A ∨ k = 0x0B ∨ k = 0x0D then some 1
  else if k = 7 ∨ k = 9 then some 2 else none

/-- The coordinate a packet travels to: a request to the home of its address, a response to its requester. -/
def packetDest (p : Packet) : Nat :=
  let k := p.kind.toNat
  if k = 1 ∨ k = 2 ∨ k = 3 ∨ k = 7 ∨ k = 8 ∨ k = 0x0C then gaKey p.addr.toNat else p.src.toNat

/-- Put a packet into the slot of a direction that its address hashes to (R365); `enters` says that it enters the ring. -/
def queuePacket (d vc : Nat) (enters : Bool) (p : Packet) (s : State) : State :=
  let slot := slotHash (gaLocal p.addr.toNat) % dirSlots d
  let f := (slotPair s d slot).getD (leadPair s d)
  modPair f (fun x => { x with q := mmod [] x.q vc (fun l => l ++ [(enters && dirRing s d, .packet p)]) }) s

/-- The Undeliverable packet for a request (R385). -/
def undeliverableOf (p : Packet) : Packet :=
  { kind := 0x0B, prio := p.prio, src := p.src, srcTile := p.srcTile, rtag := p.rtag, addr := p.addr, okind := p.kind
    piece := p.piece }

/-- A fabric fault that a packet brings about (R391): with the tile where it is one of this package, and the destination coordinate, the
requester, the tag and the piece. -/
def packetFault (code : Nat) (p : Packet) (s : State) : State :=
  let own := decide (p.src = s.fabric.coord.getD 0)
  raiseWith code (if own then some p.srcTile.toNat else none) p.addr.toNat
    [packetDest p, p.src.toNat, p.srcTile.toNat, p.rtag.toNat, p.piece] s

/-- Send a packet along its route (R364, R365). Where the egress filter blocks the way the packet is dropped with 0x6013, and
a VC0 or VC2 packet is answered with an Undeliverable (R358); `fuel` bounds that answer's own sending. `from_` is the
direction of travel of a packet being forwarded. -/
def sendPacketGo : Nat → Option Nat → Packet → State → State
  | 0, _, _, s => s
  | fuel + 1, from_, p, s =>
    match kindVc p.kind.toNat, nextDir s (packetDest p) with
    | some vc, some d =>
      if dirInside s d then queuePacket d vc (decide (from_ ≠ some d)) p s
      else
        let s := packetFault 0x6013 p s
        if vc = 1 ∨ p.src = s.fabric.coord.getD 0 then s else sendPacketGo fuel none (undeliverableOf p) s
    | _, _ => s

/-- Send a packet of this package. -/
def sendPacket (p : Packet) (s : State) : State := sendPacketGo 2 none p s

/-- Forward a packet that came along direction of travel `d`. -/
def forwardPacket (d : Nat) (p : Packet) (s : State) : State := sendPacketGo 2 (some d) p s

/-! ## Write tokens (R383, R384) -/

/-- Issue a write token to a destination: its issue ordinal. -/
def tokenIssue (t dest : Nat) (s : State) : Nat × State :=
  ((tileOf s t).nextOrd, bump 0x400402 1 (modTile t (fun x => { x with
    nextOrd := x.nextOrd + 1
    toks := mmod {} x.toks dest (fun k => { k with i := k.i + 1, o := k.o + 1 }) }) s))

/-- A token resolves, acknowledged or undeliverable. -/
def tokenResolve (t dest : Nat) (acked : Bool) (s : State) : State :=
  modTile t (fun x => { x with toks := mmod {} x.toks dest (fun k =>
    if acked then { k with k := k.k + 1, o := k.o - 1 } else { k with x := k.x + 1, o := k.o - 1 }) }) s

/-! ## Requests (R268, R371) -/

/-- Request `r`. -/
def reqOf (s : State) (r : Nat) : Option Req := mget none s.fabric.reqs r

/-- Replace request `r`. -/
def setReq (r : Nat) (q : Option Req) (s : State) : State :=
  { s with fabric := { s.fabric with reqs := mset none s.fabric.reqs r q } }

/-- Add a request; its number. -/
def addReq (q : Req) (s : State) : Nat × State :=
  (s.fabric.nextReq,
   { s with fabric := { s.fabric with
      reqs := mset none s.fabric.reqs s.fabric.nextReq (some q), nextReq := s.fabric.nextReq + 1 } })

/-- The requests outstanding, with their numbers. -/
def reqList (s : State) : List (Nat × Req) := s.fabric.reqs.filterMap (fun x => x.2.map (fun q => (x.1, q)))

/-- Resolve a request's token, if it still holds one. -/
def reqToken (q : Req) (acked : Bool) (s : State) : State :=
  match q.token with
  | some _ => tokenResolve q.tile q.dest.toNat acked s
  | none => s

/-- Change a Transfer of a tile. -/
def modXfer (t tag : Nat) (f : Xfer → Xfer) (s : State) : State :=
  modTile t (fun x => { x with xfers := x.xfers.map (fun y => if y.tag = tag then f y else y) }) s

/-- Change a Fence of a tile. -/
def modFence (t pos : Nat) (f : FenceRun → FenceRun) (s : State) : State :=
  modTile t (fun x => { x with fences := x.fences.map (fun y => if y.pos = pos then f y else y) }) s

/-- Bytes of a request lie in a 64 MiB region of the Store that holds them (R372). -/
def inRegion (q : Req) (r : Nat) : Bool :=
  let a := gaLocal q.addr.toNat
  decide (gaSpace q.addr.toNat = 0) && decide (a < (r + 1) * 2 ^ 26) && decide (r * 2 ^ 26 < a + q.len)

/-- The position of the entry that sent a request, while that entry runs. -/
def senderPos (s : State) (q : Req) : Option Nat :=
  let x := tileOf s q.tile
  match q.kind with
  | .piece => (x.xfers.find? (fun y => decide (y.tag = q.unit))).map (fun y => y.pos)
  | .release => some q.unit
  | _ => (x.her.find? (fun h => decide (h.1 = q.unit) && h.2.busy)).map (fun h => h.2.pos)

/-- A Fence waits for a write token (R372, R383): below its ordinal, or sent later by an entry issued before it; of a
destination in its scope, and for a release of its region. -/
def fenceWaits (s : State) (y : FenceRun) (q : Req) : Bool :=
  match q.token with
  | none => false
  | some o =>
    (decide (o < y.ordinal) || (match senderPos s q with
      | some p => decide (p < y.pos)
      | none => false)) && (!y.scope || decide (y.target = q.dest)) && decide (y.op < 2) &&
      (decide (y.op = 0) || inRegion q y.region)

/-- A Fence that waits for a token counts it when it resolves as undeliverable (R383). -/
def countUndelivered (q : Req) (s : State) : State :=
  modTile q.tile (fun x => { x with fences := x.fences.map (fun y =>
    if fenceWaits s y q then { y with undelivered := y.undelivered + 1 } else y) }) s

/-- A piece of a Transfer fails with a code (R377). -/
def failPiece (t tag piece code : Nat) (s : State) : State :=
  modXfer t tag (fun x => { x with
    code := if x.code = 0 then BitVec.ofNat 16 code else x.code
    pieces := mmod {} x.pieces piece (fun p => if p.done then p else { p with failed := true }) }) s

/-- A request resolves without a response (R385, R389): a load, an atomic, a pull's read or an epoch read with poison and
0x6011, a write token as undeliverable with 0x6012, a piece as failed. `quiet` leaves the fault out (R390). -/
def resolveLost (quiet : Bool) (r : Nat) (s : State) : State :=
  match reqOf s r with
  | none => s
  | some q =>
    if q.answered then s
    else
      let write := match q.kind with
        | .store | .atomic | .piece | .release => true
        | _ => false
      let code := match q.kind with
        | .load | .atomic | .pull | .epochRead => 0x6011
        | _ => 0x6012
      let s := onlyIf (!quiet) (raiseWith code (some q.tile) q.addr.toNat [q.dest.toNat, q.unit, q.piece]) s
      let s := onlyIf write (reqToken q false) (countUndelivered q s)
      match q.kind with
      | .piece => setReq r none (failPiece q.tile q.unit q.piece 0x6012 s)
      | .pull => setReq r none (failPiece q.tile q.unit q.piece 0x6011 s)
      | .release | .epochRead =>
        setReq r none (modFence q.tile q.unit (fun y => { y with
          answered := true, undelivered := y.undelivered + flag write }) s)
      | _ => setReq r (some { q with answered := true, poison := true, undeliverable := true, token := none }) s

/-- A request is answered with data (R371). -/
def answerReq (r : Nat) (data : List Byte) (poison : Bool) (s : State) : State :=
  match reqOf s r with
  | none => s
  | some q =>
    if q.answered then s
    else setReq r (some { q with answered := true, poison := poison, data := data, token := none }) (reqToken q true s)

/-- A response whose request is not outstanding is discarded and counted, with Advisory 0x6001 (R384, R389, R391). -/
def lateResponse (p : Packet) (s : State) : State := packetFault 0x6001 p (bump 0x400406 1 s)

/-- The outstanding request that a response names by tile and tag. -/
def reqByTag (s : State) (p : Packet) (kinds : List ReqKind) : Option Nat :=
  ((reqList s).find? (fun x => decide (x.2.tile = p.srcTile.toNat) && decide (x.1 % 65536 = p.rtag.toNat) &&
    kinds.contains x.2.kind && !x.2.answered && x.2.remote)).map Prod.fst

/-- An Undeliverable packet reaches its requester (R385). -/
def takeUndeliverable (p : Packet) (s : State) : State :=
  let lost := fun r s => bump 0x400405 1 (resolveLost false r s)
  if p.okind = 7 ∨ p.okind = 8 then
    match (reqList s).find? (fun x => decide (x.2.tile = p.srcTile.toNat) && decide (x.2.unit = p.rtag.toNat) &&
        decide (x.2.piece = p.piece) && decide (x.2.kind = if p.okind = 7 then .piece else .pull) &&
        decide (p.okind = 8 ∨ x.2.dest.toNat = gaKey p.addr.toNat)) with
    | some x => lost x.1 s
    | none => lateResponse p s
  else
    match reqByTag s p [.load, .store, .atomic, .release, .epochRead] with
    | some r => lost r s
    | none => lateResponse p s

/-- Give up a packet on its way (R385): a VC0 or VC2 request is answered with an Undeliverable, locally when it is this
package's own. -/
def giveUpPacket (p : Packet) (s : State) : State :=
  match kindVc p.kind.toNat with
  | some 1 | none => s
  | some _ =>
    if p.src = s.fabric.coord.getD 0 then takeUndeliverable (undeliverableOf p) s
    else sendPacket (undeliverableOf p) s

end Sys2Proof.Machine
end

