-- ==== Sys2Proof/Machine/LinkOps.lean ====
section
/-!
DEFINITION. Link operations (09): credits and counts, acknowledgement and replay, withdrawal and return, carried spaces,
retraining, epochs, and the notice bound (R77).
-/

set_option Elab.async false

namespace Sys2Proof.Machine

/-- Credits B of a virtual channel per fibre pair (R330). -/
def vcCredits (v : Nat) : Nat :=
  match v with
  | 0 | 1 => 128
  | 2 => 768
  | 3 | 5 => 32
  | 4 => 192
  | _ => 0

/-- Credits c of a virtual channel that the sender holds (R336). -/
def creditsHeld (p : Pair) (v : Nat) : Nat := vcCredits v - mget 0 p.spent v

/-- The physical group that feeds a fibre (R301, R319); 15 none. -/
def groupOf (s : State) (f : Nat) : Nat :=
  let e := engOf s (f / 8)
  let g := e.src.getD (f % 8) 15
  if g = 15 then 15 else if e.spareFor = g then 8 else g

/-- No working group feeds the fibre: `SRC` 0xF (R307), or its group has failed (R301). -/
def fibDark (s : State) (f : Nat) : Bool :=
  let g := groupOf s f
  decide (g = 15) || bit (engOf s (f / 8)).grpFail.toNat g

/-- The space's own transmit stream is suspended by the mesh setting: a split member or a dark fibre (R303, R308). -/
def suspended (s : State) (f : Nat) : Bool := bit (engOf s (f / 8)).mcast.toNat (f % 8) || fibDark s f

/-- `FIB_STAT.STATE` (R319): 0 in service, 1 withdrawn, 2 dark, 3 out of service. -/
def fibState (s : State) (f : Nat) : Nat :=
  let x := fibOf s f
  let p := pairOf s f
  let e := engOf s (f / 8)
  if e.lost || x.failed || x.fecOver || p.outOfService || (x.measured && decide (x.cls = 0)) then 3
  else if decide (e.state ≠ 3) && fibDark s f then 2
  else if fibreUp s f then 0 else 1

/-- A fibre can send its own traffic now. -/
def txUp (s : State) (f : Nat) : Bool := fibreUp s f && !suspended s f

/-- The space of a pair is carried (R332): withdrawn or never trained, suspended, or returned with carried flits still
unacknowledged. -/
def carried (s : State) (f : Nat) : Bool :=
  let p := pairOf s f
  !p.latched && (p.withdrawn || p.parked || p.training || p.outOfService || p.returning || suspended s f)

/-- The in-service fibre of a direction with the lowest slot that sends (R332). -/
def carrierOf (s : State) (d : Nat) : Option Nat :=
  ((List.range 8).filterMap (fun k => slotPair s d k)).find? (fun f => txUp s f && !(pairOf s f).returning)

/-- This fibre carries another slot's space. -/
def carrying (s : State) (f : Nat) : Bool :=
  decide (carrierOf s (dirOf f) = some f) && (dirPairs (dirOf f)).any (fun h => decide (h ≠ f) && carried s h)

/-- An acknowledgement by the low 16 bits of a count (R327): U advances to it when it lies ahead. -/
def applyAck (ack : Nat) (p : Pair) : Pair :=
  let adv := (ack + 1 + 65536 - p.u % 65536) % 65536
  if adv ≠ 0 ∧ adv ≤ p.replay.length then
    let rest := p.replay.drop adv
    { p with u := p.u + adv, replay := rest, resend := min p.resend rest.length, stuckReplays := 0
             returning := p.returning && !rest.isEmpty }
  else p

/-- A credit return is applied (R327, R336). -/
def applyCredit (v n : Nat) (p : Pair) : Pair :=
  { p with k := mmod 0 p.k v (fun k => k + n), spent := mmod 0 p.spent v (fun x => x - n) }

/-- A buffer slot of a virtual channel is freed (R330). -/
def freeSlot (f v : Nat) (s : State) : State :=
  if mget 0 (pairOf s f).b v = 0 then s
  else modPair f (fun p => { p with
    b := mmod 0 p.b v (fun x => x - 1), d := mmod 0 p.d v (fun x => x + 1), ackDue := true }) s

/-- A flit leaves on a fibre. -/
def wire (x : Sent) (s : State) : State := { s with out := { s.out with wire := s.out.wire ++ [x] } }

/-- A flit with no sequence number and no payload. -/
def bareFlit (s : State) (f typ ack rhome : Nat) : Sent :=
  { pair := f, typ := typ, home := slotOf s f, rhome := rhome, ack := ack }

/-- The credit return that a sequenced flit carries for a pair: the lowest virtual channel with slots freed and not yet
returned. -/
def creditReturn (p : Pair) : Nat × Nat :=
  match (List.range 6).find? (fun v => decide (mget 0 p.g v < mget 0 p.d v)) with
  | none => (0, 0)
  | some v => (v, min 255 (mget 0 p.d v - mget 0 p.g v))

/-- The acknowledgement has been sent; what credits remain keep the pair due. -/
def ackSent (rphase : Bool) (p : Pair) : Pair :=
  let left := decide ((creditReturn p).2 ≠ 0)
  if rphase then { p with rphaseDue := false } else { p with ackDue := left }

/-- The `ACK` for the space received on a pair: the last flit accepted in order (R322). -/
def ackValue (p : Pair) : Nat := (p.e + 65535) % 65536

/-- The fibre that carries what concerns the receive side of a pair: its own, or the lowest in service of its direction. -/
def nakFibre (s : State) (g : Nat) : Nat := if fibreUp s g then g else leadPair s (dirOf g)

/-- Send a Nak for the space of a pair (R326). -/
def sendNak (g : Nat) (s : State) : State :=
  let p := pairOf s g
  wire (bareFlit s (nakFibre s g) 4 (ackValue p) (slotOf s g)) (modPair g (fun p => { ackSent false p with nakFor := some p.e }) s)

/-- Send a Nak for a phase space received on a pair, which has accepted its flits below `e` (R334). -/
def sendPhaseNak (g id e : Nat) (s : State) : State :=
  wire { bareFlit s (nakFibre s g) 4 ((e + 65535) % 65536) (slotOf s g) with rphase := true }
    (modPair g (fun p => { p with nakPhase := some (id, e) }) s)

/-! ## The notice bound (R77) -/

/-- Hops of the slice's diameter: X and Y by skip links. -/
def sliceDiameter (s : State) : Nat :=
  let span (n : Nat) (ring : Bool) : Nat := if ring then n / 2 else n - 1
  ceilDiv (span (sliceX s) (ringX s)) 2 + ceilDiv (span (sliceY s) (ringY s)) 2 + span (sliceZ s) (ringZ s)

/-- The largest one-way delay measured on a slice link, in ns. -/
def worstLink (s : State) : Nat := (sliceDirs s).foldl (fun m d => max m (mget 0 s.time.delays d)) 0

/-- B is computed (R77), as at each Season start. -/
def computeBound (s : State) : State :=
  { s with frames := { s.frames with bound := sliceDiameter s * (worstLink s + 100) + 400 } }

/-- The `LEAD`s that B is held against: of the running Calendar and of one that is armed. -/
def leadsHeld (s : State) : List Nat :=
  (s.frames.run.toList.map (fun r => r.cal.hdr.lead)) ++
    (s.frames.held.toList.filter (fun c => c.armed)).map (fun c => c.hdr.lead)

/-- B is computed again after a reroute; above a `LEAD` it raises 0x1005 (R77). -/
def updateBound (s : State) : State :=
  let s := computeBound s
  onlyIf ((leadsHeld s).any (fun l => decide (l < s.frames.bound))) (raise 0x1005 s.frames.bound) s

/-! ## Withdrawal and return (R291, R331, R332) -/

/-- Send a link notice about a pair on another fibre of its direction. -/
def sendLinkNotice (k : LinkNoticeKind) (vc f at_ : Nat) (s : State) : State :=
  let d := dirOf f
  let other := ((upPairs s d).filter (fun g => decide (g / 8 ≠ f / 8))).head?
  enqueue (other.getD (leadPair s d)) vc
    (.link k { slots := BitVec.ofNat 8 (2 ^ slotOf s f), at_ := BitVec.ofNat 64 at_ }) s

/-- The flits of a space are to be sent again from U: all that are unacknowledged. -/
def resendAll (p : Pair) : Pair := { p with resend := p.replay.length }

/-- A fault of the optics (R320): logged with the engine, and with its input, group, fibre, line or stage. -/
def optFault (code n : Nat) (also : List Nat) (s : State) : State := raiseWith code none n also s

/-- A split member that its group's light no longer serves gets unicast copies from now on (R305). -/
def splitDrop (f : Nat) (s : State) : State :=
  if s.links.splits.any (fun x => x.lit.contains f && !x.ended) then
    optFault 0x4032 (f / 8) [f % 8] { s with links := { s.links with
      splits := s.links.splits.map (fun x => if x.lit.contains f then { x with
        lit := x.lit.filter (fun g => decide (g ≠ f)), sent := mset 0 x.sent f (mget 0 x.acked f) } else x) } }
  else s

/-- Withdraw a pair on this side (R291): its unacknowledged flits are replayed on the carrier. -/
def withdrawQuiet (f : Nat) (s : State) : State :=
  if (pairOf s f).withdrawn then s
  else
    let s := modPair f (fun p => resendAll { p with withdrawn := true, returning := false }) s
    let s := if (upPairs s (dirOf f)).isEmpty then
        forEach (dirPairs (dirOf f)) (fun g => modPair g (fun p => { p with pathWhole := false })) s
      else s
    updateBound (bump 0x300306 1 (splitDrop f s))

/-- Withdraw a pair with its notice (R291). -/
def withdraw (f : Nat) (s : State) : State :=
  if (pairOf s f).withdrawn then s else withdrawQuiet f (sendLinkNotice .withdrawal 3 f 0 s)

/-- A receive item holds the pair: from its window's opening Calend to the Calend after the window (R315). -/
def inWindow (s : State) (f : Nat) : Bool :=
  let e := engOf s (f / 8)
  (e.icActive || e.icReturn) && decide (e.icItem = 9 + f % 8)

/-- A pair may carry traffic: trained, lit, locked and with a class above 0, its engine in service, nothing keeping it out. -/
def mayReturn (s : State) (f : Nat) : Bool :=
  let p := pairOf s f
  let x := fibOf s f
  decide (p.level ≠ 0) && !p.parked && !p.outOfService && !p.training && !p.needResume && !x.failed && !x.fecOver && !x.parked &&
    !x.farWithdrawn && x.locked && decide (1 ≤ x.cls) && decide ((engOf s (f / 8)).state = 0) && !inWindow s f

/-- A pair returns with its notice (R332): native sending resumes once the carried flits are acknowledged. -/
def returnPair (f : Nat) (s : State) : State :=
  if (pairOf s f).withdrawn && mayReturn s f then
    let s := sendLinkNotice .return_ 3 f 0 s
    let s := modPair f (fun p => { p with withdrawn := false, returning := !p.replay.isEmpty }) s
    updateBound s
  else s

/-- A training begins: the latest accepted `LINK_LEVEL_MAX` is in force from the first training on (R449; one value stands for every pair,
DESIGN CHOICE, log entry 29). -/
def takeLevel (s : State) : State := { s with mgmt := { s.mgmt with inForce := mset [] s.mgmt.inForce 0x410101 [] } }

/-- Retrain a pair (R329): it is withdrawn, and its counts, buffers and credits are kept. -/
def retrain (f : Nat) (s : State) : State :=
  takeLevel <| bump 0x410003 1
    (modPair f (fun p => { p with training := true, trainGood := 0, needResume := true, trainFrom := p.epoch }) (withdraw f s))

/-- One replay of a space is counted (R328); the 16th in a row with no advance retrains the pair (R329). -/
def countReplay (f : Nat) (s : State) : State :=
  let s := modPair f (fun p => { p with replays := min 0xFFFF (p.replays + 1), stuckReplays := p.stuckReplays + 1 }) s
  let s := raise 0x5001 f (bump 0x410002 1 s)
  if 16 ≤ (pairOf s f).stuckReplays then
    retrain f (raise 0x5003 f (modPair f (fun p => { p with stuckReplays := 0 }) s))
  else s

/-! ## Epochs (R339, R385) -/

/-- What becomes of a payload whose flit was not acknowledged when its epoch closed (R385). -/
def giveUp (x : TxBody) (s : State) : State :=
  match x with
  | .data _ (.packet p) => giveUpPacket p s
  | _ => s

/-- Pages that an open piece has written become torn (R379, R431). -/
def tearPages (l : List Nat) (s : State) : State :=
  let fresh := l.eraseDups.filter (fun p => decide (mget 0 s.host.pages p ≠ 3))
  bump 0x400408 fresh.length { s with host := { s.host with
    pages := fresh.foldl (fun m p => mset 0 m p 3) s.host.pages
    dropLogged := fresh.foldl (fun m p => mset false m p false) s.host.dropLogged } }

/-- Close the old epoch of a pair (R339): its unacknowledged flits are completed as undeliverable and counted, and open
pieces whose bytes came that way are torn (R379). -/
def closeEpoch (f : Nat) (s : State) : State :=
  let p := pairOf s f
  let flits := p.replay
  let torn := s.fabric.openPieces.filter (fun o => decide (o.dir = dirOf f))
  let s := { s with fabric := { s.fabric with
    openPieces := s.fabric.openPieces.filter (fun o => decide (o.dir ≠ dirOf f)) } }
  let s := tearPages (torn.flatMap (·.pages)) s
  let s := raiseWith 0x5012 none f [flits.length] (bump 0x410007 flits.length s)
  forEach flits (fun x => giveUp x.body) s

/-- Every space of a pair starts again in a new epoch (R339): all counts at 0 and c = B; what waited for its first sending
goes on waiting. -/
def newEpoch (f : Nat) (e : U32) (s : State) : State :=
  modPair f (fun p => { p with
    epoch := e, n := 0, u := 0, e := 0, t := [], k := [], spent := [], a := [], d := [], g := [], b := [], replay := []
    resend := 0, ledgerDue := none, ledgerSeq := none, ackDue := false, nakFor := none, nakPhase := none, stuckReplays := 0
    returning := false, rxPhase := [] }) s

end Sys2Proof.Machine
end

