-- ==== Sys2Proof/Machine/MeshOps.lean ====
section
/-!
DEFINITION. The Maypole mesh (08): settings and Phase descriptors, splits and their ends, budget classes, the spare group,
Intercalary windows at their Calends.
-/

set_option Elab.async false

namespace Sys2Proof.Machine

/-! ## Settings (R300 to R308) -/

/-- The setting of one engine, as a Phase descriptor gives it (R307). -/
structure Setting where
  src : List Nat
  mcast : Nat
  mcastRx : Nat
  phaseId : Nat
  deriving DecidableEq, Repr

/-- The base setting (R305). -/
def baseSetting : Setting := ⟨[0, 1, 2, 3, 4, 5, 6, 7], 0, 0, 0⟩

/-- The bits of eight flags. -/
def flagBits (l : List Bool) : Nat := (l.zipIdx).foldl (fun a x => a + flag x.1 * 2 ^ x.2) 0

/-- The setting that a 64-byte Phase descriptor names (R307). -/
def settingOf (d : List Byte) : Setting :=
  if bit (fieldAt d 1 1) 3 then baseSetting
  else
    { src := (List.range 8).map (fun m => fieldAt d (16 + 4 * m) 1 % 16)
      mcast := flagBits ((List.range 8).map (fun m => bit (fieldAt d (17 + 4 * m) 1) 0))
      mcastRx := flagBits ((List.range 8).map (fun m => bit (fieldAt d (48 + 2 * m) 1) 0))
      phaseId := fieldAt d 4 4 }

/-- The setting in force of an engine. -/
def settingNow (e : Eng) : Setting := ⟨e.src, e.mcast.toNat, e.mcastRx.toNat, e.phaseId.toNat⟩

/-- The members of a setting's split of group `g`, as fibres 0 to 7 (R308). -/
def splitMembers (x : Setting) (g : Nat) : List Nat :=
  (List.range 8).filter (fun m => bit x.mcast m && decide (x.src.getD m 15 = g))

/-- A member fibre can take a split of `k` (R284, R305). -/
def takesSplit (s : State) (f k : Nat) : Bool :=
  decide ((engOf s (f / 8)).state = 0) && decide (k ≤ (fibOf s f).cls) && decide ((pairOf s f).level = 3) &&
    !(pairOf s f).withdrawn && !(fibDark s f)

/-- A phase stream that a receive fibre was set for and that never came: Job-fatal 0x4033 (R308). -/
def missingPhase (n : Nat) (s : State) : State :=
  forEach ((List.range 8).filter (fun m => bit (engOf s n).mcastRx.toNat m && !(fibOf s (8 * n + m)).phaseSeen))
    (fun m => optFault 0x4033 n [m]) s

/-- A new split starts with all counts at 0 (R334); members that its light cannot serve get unicast copies (R305). -/
def openSplit (n : Nat) (x : Setting) (g : Nat) (s : State) : State :=
  let members := (splitMembers x g).map (fun m => 8 * n + m)
  if members = [] then s
  else
    let lit := members.filter (fun f => takesSplit s f members.length)
    let isIt (y : Split) : Bool := decide (y.engine = n) && decide (y.group = g) && decide (y.phaseId.toNat = x.phaseId) &&
      decide (y.members = members) && !y.ended
    let fresh : Split :=
      { engine := n, group := g, phaseId := BitVec.ofNat 32 x.phaseId, members := members, lit := lit, base := 0
        buf := [], acked := [], sent := [], queue := [], ledgerDue := none, ended := false }
    let splits := if s.links.splits.any isIt then s.links.splits.map (fun y => if isIt y then { y with lit := lit } else y)
      else s.links.splits ++ [fresh]
    let s := { s with links := { s.links with splits := splits } }
    forEach (members.filter (fun f => !lit.contains f)) (fun f => optFault 0x4032 (f / 8) [f % 8]) s

/-- The splits of an engine end (R335): what a member has not acknowledged goes on as unicast copies; an empty phase space
closes. -/
def endSplits (n : Nat) (s : State) : State :=
  { s with links := { s.links with splits := (s.links.splits.map (fun x =>
      if x.engine = n then { x with ended := true, lit := [], sent := x.acked } else x)).filter (fun x =>
        !(x.ended && x.buf.isEmpty && x.queue.isEmpty && x.ledgerDue.isNone)) } }

/-- The fibres of an engine in service pause for a mesh change (R304). -/
def pauseEngine (n : Nat) (s : State) : State :=
  modEng n (fun e => { e with paused := e.paused || decide (e.state = 0) }) s

/-- Put a setting into force (R304, R305): one that leaves the engine as it is changes nothing. -/
def applySetting (n : Nat) (x : Setting) (s : State) : State :=
  if settingNow (engOf s n) = x then s
  else
    let s := endSplits n (missingPhase n s)
    let s := modEng n (fun e => { e with
      src := x.src, mcast := BitVec.ofNat 8 x.mcast, mcastRx := BitVec.ofNat 8 x.mcastRx
      phaseId := BitVec.ofNat 32 x.phaseId }) s
    let s := forEach (List.range 8) (fun m => modFib (8 * n + m) (fun y => { y with phaseSeen := false, phaseOpen := false })) s
    pauseEngine n (forEach (List.range 8) (fun g => openSplit n x g) s)

/-- A Phase descriptor at a Store address falls due (R304, R305): held while the engine's fibres are withdrawn. -/
def applyPhase (addr : Nat) (s : State) : State :=
  let d := storeBytes s addr 64
  let n := fieldAt d 1 1 % 8
  if (engOf s n).state = 1 then modEng n (fun e => { e with heldPhase := some addr }) s
  else applySetting n (settingOf d) s

/-- The fibres of an engine are back: the latest Phase descriptor held applies (R305). -/
def applyHeld (n : Nat) (s : State) : State :=
  match (engOf s n).heldPhase with
  | none => s
  | some a => applySetting n (settingOf (storeBytes s a 64)) (modEng n (fun e => { e with heldPhase := none }) s)

/-- Every engine returns to its base setting (R305). -/
def baseEngines (s : State) : State :=
  forEach (List.range 8) (fun n s => applySetting n baseSetting (modEng n (fun e => { e with heldPhase := none }) s)) s

/-! ## Budget classes (R284) -/

/-- The class of a margin in 0.01 dB. -/
def classOf (margin : Int) : Nat :=
  if margin < 50 then 0 else if margin < 351 then 1 else if margin < 527 then 2 else if margin < 652 then 3 else 4

/-- A fibre's class is measured (R284): a change raises 0x4015, class 0 takes it out of service, and a split that it can no
longer take goes on by copies (R305). -/
def setClass (f : Nat) (margin : Int) (s : State) : State :=
  let x := fibOf s f
  let c := classOf margin
  let s := modFib f (fun x => { x with cls := c, margin := margin, measured := true, measureDue := false }) s
  let s := onlyIf (x.measured && decide (x.cls ≠ c)) (optFault 0x4015 (f / 8) [f % 8]) s
  let s := onlyIf (s.links.splits.any (fun y => y.lit.contains f && decide (c < y.members.length))) (splitDrop f) s
  if c = 0 then withdraw f s else returnPair f s

/-- The margin by the latest readings of the transmit output and the far receive input, in 0.01 dB (R284). -/
def marginOf (x : Fib) : Option Int :=
  match x.powTx, x.powRx with
  | some t, some r => some (900 - (t - r))
  | _, _ => none

/-- Measure a class afresh from the latest readings, where there are any. -/
def remeasure (f : Nat) (s : State) : State :=
  match marginOf (fibOf s f) with
  | some m => setClass f m s
  | none => s

/-! ## Rings (R296 to R299) -/

/-- A ring of an engine. -/
def resoOf (s : State) (n k : Nat) : Reso := mget {} (engOf s n).rings k
/-- Change a ring of an engine. -/
def modReso (n k : Nat) (g : Reso → Reso) (s : State) : State := modEng n (fun e => { e with rings := mmod {} e.rings k g }) s

/-- The receive rings of a fibre, and the rings of the group that feeds it. -/
def rxRings (f : Nat) : List Nat := List.range' (8 * (f % 8)) 8
def txRings (s : State) (f : Nat) : List Nat := let g := groupOf s f; if g = 15 then [] else List.range' (64 + 8 * g) 8
/-- Every ring that a fibre needs. -/
def ringsOf (s : State) (f : Nat) : List Nat := rxRings f ++ txRings s f

/-- The temperature of engine `n`'s EIC in 0.125 °C: the filtered reading of its diode (R488). -/
def eicTemp (s : State) (n : Nat) : Int := dyFloor (mget {} s.pow.diodes (9 + n)).f.y

/-- A ring's calibrated start, corrected for the EIC temperature (R296). -/
def ringStart (s : State) (n k : Nat) : Int :=
  let r := resoOf s n k
  r.start + r.coeff * (eicTemp s n - r.temp)

/-- Calibration records the start of a ring and its coefficient (R296). -/
def calibrateRing (n k : Nat) (c : Int × Int) (s : State) : State :=
  let t := eicTemp s n
  modReso n k (fun r => { r with start := c.1, coeff := c.2, temp := t }) s

/-- The first ring of a calibration item: groups 0 to 8, then receive channels (R312). -/
def itemRings (item : Nat) : Nat := if item < 9 then 64 + 8 * item else 8 * (item - 9)

/-- What the calibration of an item sets (R314, R315). -/
def recordItem (n item : Nat) (c : ItemCal) (s : State) : State :=
  let s := forEach ((c.rings.take 8).zipIdx) (fun x => calibrateRing n (itemRings item + x.2) x.1) s
  if item < 9 then
    modEng n (fun e => { e with
      groups := mset {} e.groups item ⟨c.bias, c.levels⟩
      trims := c.trims.foldl (fun m x => mset 0 m x.1.val x.2) e.trims }) s
  else s

/-- A ring has locked from its calibrated start (R297). -/
def lockRing (n k : Nat) (s : State) : State :=
  let h := ringStart s n k
  modReso n k (fun r => { r with heater := h, locked := true, failed := false, attempts := 0, ok := 4, bad := 0 }) s

/-- A ring has failed three attempts (R297): 0x4011, with its fibre or group and its line. -/
def failRing (n k : Nat) (s : State) : State :=
  optFault 0x4011 n [k / 8, k % 8] (modReso n k (fun r => { r with locked := false, failed := true, attempts := 0, ok := 0, bad := 0 }) s)

/-- A ring's control loop is opened (R297). -/
def openRing (n k : Nat) (s : State) : State :=
  let h := ringStart s n k
  modReso n k (fun r => { r with heater := h, locked := false, failed := false, attempts := 0, ok := 0, bad := 0 }) s

/-- Every ring of a fibre has locked. -/
def ringsLocked (s : State) (f : Nat) : Bool := (ringsOf s f).all (fun k => (resoOf s (f / 8) k).locked)

/-- A ring of a fibre has failed. -/
def ringsFailed (s : State) (f : Nat) : Bool := (ringsOf s f).any (fun k => (resoOf s (f / 8) k).failed)

/-- A fibre stands as its rings do: locked with all of them, out of service with a failed one (R297). -/
def settleRings (f : Nat) (s : State) : State :=
  let locked := ringsLocked s f
  let failed := ringsFailed s f
  modFib f (fun x => { x with locked := x.lit && locked, failed := failed }) s

/-- Rings go through their lock; those in `failed` fail. -/
def lockRings (n : Nat) (failed : List Nat) (ks : List Nat) (s : State) : State :=
  forEach ks (fun k s => if failed.contains k then failRing n k s else lockRing n k s) s

/-! ## The spare group (R301) -/

/-- A physical group fails (R301): the spare stands for it from the next Calend with 0x4012, or, when the spare is in use or
has failed, its fibres are dark with 0x4013. One for which the spare stands in a calibration window keeps it. -/
def groupFails (n g : Nat) (s : State) : State :=
  let e := engOf s n
  if bit e.grpFail.toNat g then s
  else
    let s := modEng n (fun e => { e with grpFail := e.grpFail ||| BitVec.ofNat 9 (2 ^ g) }) s
    let used := decide (e.spareFor ≠ 15) || decide (e.spareDue ≠ 15)
    let fed := (List.range 8).filter (fun m => decide (groupOf s (8 * n + m) = g))
    let dark (s : State) : State := forEach fed (fun m s => withdraw (8 * n + m) s) (optFault 0x4013 n [g] s)
    if g = 8 then if used then dark s else s
    else if e.spareFor = g then
      onlyIf (e.icSub || e.icSubEnd)
        (fun s => optFault 0x4012 n [g] (modEng n (fun e => { e with icSub := false, icSubEnd := false }) s)) s
    else if used || bit e.grpFail.toNat 8 then dark s
    else optFault 0x4012 n [g] (modEng n (fun e => { e with spareDue := g }) s)

/-- A substitution that is due takes effect at a Calend, through a mesh change (R301, R304). -/
def applySpare (n : Nat) (s : State) : State :=
  let e := engOf s n
  if e.spareDue = 15 then s
  else pauseEngine n (modEng n (fun e => { e with spareFor := e.spareDue, spareDue := 15 }) s)

/-! ## Intercalary windows (R312 to R316) -/

/-- The window of an engine ends early, with its item left for its next turn (R316). -/
def endWindow (n : Nat) (s : State) : State :=
  modEng n (fun e => if e.icActive then { e with
    icActive := false, icSwitch := false, icSubEnd := e.icSubEnd || e.icSub, icSub := false
    icReturn := e.icReturn || (decide (9 ≤ e.icItem) && !e.icSwitch) } else e) s

/-- The logical group that a physical group serves, when a fibre names it. -/
def logicalInUse (e : Eng) (g : Nat) : Option Nat :=
  let l := if g = 8 then e.spareFor else g
  if l = 15 ∨ (g ≠ 8 ∧ e.spareFor = g) then none else if e.src.contains l then some l else none

/-- Some other pair of the direction would still be in service without this one. -/
def directionKept (s : State) (f : Nat) : Bool := (upPairs s (dirOf f)).any (fun g => decide (g ≠ f))

/-- A window's item is skipped and stays first (R315): 0x4040. -/
def skipItem (n : Nat) (s : State) : State := optFault 0x4040 n [(engOf s n).nextItem] s

/-- The window of engine `n` opens on its next item (R312, R314, R315); a planned switchover that waits takes its place
(R316). -/
def openWindow (n : Nat) (s : State) : State :=
  let e := engOf s n
  let item := e.nextItem
  let start := modEng n (fun e => { e with icActive := true, icItem := item })
  if e.state ≠ 0 then s
  else if e.switchPend then modEng n (fun e => { e with icSwitch := true }) (start s)
  else if item < 9 then
    match logicalInUse e item with
    | none => start s
    | some l =>
      if item = 8 then start s
      else if e.spareFor ≠ 15 ∨ e.spareDue ≠ 15 ∨ bit e.grpFail.toNat 8 then skipItem n s
      else pauseEngine n (start (modEng n (fun e => { e with spareFor := l, icSub := true }) s))
  else
    let f := 8 * n + (item - 9)
    let busy := (dirPairs (dirOf f)).any (fun g => (fibOf s g).icFar)
    if fibreUp s f ∧ (directionKept s f = false ∨ busy) then skipItem n s
    else withdrawQuiet f (start s)

/-- The engine whose window opens at a Calend index (R312), with the period E in force. -/
def windowOf (s : State) (c : Nat) : Option Nat :=
  let e := s.optics.icEvery
  if odNum s 0x300203 1 = 0 then none
  else (List.range 8).find? (fun n => decide (c % e = n * e / 8))

/-- The Calend before a window: the notices of a planned switchover (R292) or of a receive item (R315) go out. -/
def announceWindow (c n : Nat) (s : State) : State :=
  let e := engOf s n
  if e.state ≠ 0 then s
  else if e.switchPend then
    modEng n (fun e => { e with icSent := true }) (forEach ((List.range 8).filter (fun m => fibreUp s (8 * n + m)))
      (fun m => sendLinkNotice .withdrawal 3 (8 * n + m) (c + 1)) s)
  else if 9 ≤ e.nextItem ∧ fibreUp s (8 * n + (e.nextItem - 9)) then
    sendLinkNotice .intercalary 5 (8 * n + (e.nextItem - 9)) (c + 1) s
  else s

/-- What the Calend after a window does for an engine (R314, R315). -/
def closeWindow (n : Nat) (s : State) : State :=
  let e := engOf s n
  let s := if e.icSubEnd then
      pauseEngine n (modEng n (fun e => { e with icSubEnd := false, spareFor := 15 }) s)
    else s
  if e.icReturn then returnPair (8 * n + (e.icItem - 9)) (modEng n (fun e => { e with icReturn := false }) s) else s

/-- The windows and substitutions at the Calend of index `c` (R301, R312 to R315). -/
def calendOptics (c : Nat) (s : State) : State :=
  let s := forEach (List.range 8) (fun n s => applySpare n (closeWindow n s)) s
  let s := match windowOf s c with
    | some n => openWindow n s
    | none => s
  match windowOf s (c + 1) with
  | some n => announceWindow c n s
  | none => s

end Sys2Proof.Machine
end

