-- ==== Sys2Proof/Machine/Resets.lean ====
section
/-!
DEFINITION. What the larger resets keep and clear (R541), entering and leaving the powered states (R480, R481), shutdowns
(R493, R494), and the filters of Vigil (R497).
-/

set_option Elab.async false

namespace Sys2Proof.Machine

/-! ## Filters (R497) -/

/-- The median of three samples. -/
def median3 (a b c : Int) : Int := max (min a b) (min (max a b) c)

/-- m: the median of the latest three samples, or the latest until there are three. -/
def filterMedian (f : Filter) : Int :=
  match f.raw with
  | [a, b, c] => median3 a b c
  | a :: _ => a
  | [] => 0

/-- One sample into a filter of shift `a`: y becomes y + (m - y) / 2^a, or m until there are three samples. -/
def filterStep (a : Nat) (x : Int) (f : Filter) : Filter :=
  let raw := (x :: f.raw).take 3
  let m := dyInt (filterMedian { f with raw := raw })
  { raw := raw, y := if raw.length < 3 then m else dyAdd f.y (dyScale (dySub m f.y) (-(a : Int))) }

/-! ## The host port -/

/-- What an FLR leaves of a ring (R424, R433): the bases and `RING_COAL`, which no FLR resets. -/
def flrRing (r : Ring) : Ring := { sqBase := r.sqBase, cqBase := r.cqBase, coalCount := r.coalCount, coalTime := r.coalTime }

/-- A launch whose command an FLR has dropped goes on and answers none: its `CID` is the reserved one, which no command has (R439). -/
def orphanCal (c : Cal) : Cal := { c with cid := 0xFFFFFFFF }

/-- Disable every ring without records, and clear the MSI-X table: the steps of an FLR (R424); in-transfer pages are torn, and
Calendars are kept. -/
def hostInterfaceReset (s : State) : State :=
  { s with
    frames := { s.frames with
      held := s.frames.held.map orphanCal, run := s.frames.run.map (fun r => { r with cal := orphanCal r.cal }) }
    host := { s.host with
      rings := mmapv {} flrRing s.host.rings, cmds := [], waitLive := [], msix := [], pba := 0, dropped := 0
      pages := mmapv 0 (fun v => if v = 2 then 3 else v) s.host.pages
      dropLogged := s.host.dropLogged.filter (fun x => decide (mget 0 s.host.pages x.1 ≠ 2)) } }

/-- The PCIe link goes down (R424): fault 0x8040, and host Transfers in flight fail at their unfinished pieces. -/
def pcieDown (s : State) : State :=
  if s.host.linkUp then
    bump 0x110103 1 (logFault 0x8040 none 0 { s with host := { s.host with linkUp := false, gen := 0, width := 0 } })
  else s

/-- The PCIe port stops (R481, R494): a link-down, in-transfer pages torn, rings disabled, no records. -/
def pcieStop (s : State) : State :=
  let s := hostInterfaceReset (pcieDown s)
  { s with host := { s.host with cfgReady := false, flrDue := false } }

/-! ## Resets -/

/-- The keys of entries that only the Operator role and above may write (R585). -/
def operatorKeys : List Nat := (odRows.filter (fun r => decide (r.wr = some .operator) && !r.wo)).map OdRow.key

/-- The stored values as they are kept through resets: the NV store's, then those still in the journal (R585). -/
def storedValues (s : State) : SMap (List Byte) :=
  s.pow.journal.foldl (fun m r => match r.kind with
    | .stored k v => mset [] m k v
    | _ => m) s.nv.stored

/-- The copy of the manifest that a commit in progress writes over is left unaccepted by a reset (R512). -/
def tearCommit (s : State) : State :=
  if s.nv.committing then
    if s.nv.copyA.counter ≤ s.nv.copyB.counter then
      { s with nv := { s.nv with committing := false, copyA := { s.nv.copyA with blank := false, commitOk := false } } }
    else
      { s with nv := { s.nv with committing := false, copyB := { s.nv.copyB with blank := false, commitOk := false } } }
  else s

/-- The active slot of a component (R510): by its latest activation in the journal, or as the manifest names it. -/
def activeSlot (s : State) (component : Nat) : Bool :=
  s.pow.journal.foldl (fun b r => match r.kind with
    | .activate c slot _ => if c = component then slot else b
    | _ => b) (if component = 1 then s.nv.slotMc else s.nv.slotMsh)

/-- Change the image in a slot of a component: `slotB` names slot B. -/
def modImage (component : Nat) (slotB : Bool) (f : Image → Image) (s : State) : State :=
  if component = 1 then
    if slotB then { s with nv := { s.nv with mcB := f s.nv.mcB } } else { s with nv := { s.nv with mcA := f s.nv.mcA } }
  else
    if slotB then { s with nv := { s.nv with mshB := f s.nv.mshB } } else { s with nv := { s.nv with mshA := f s.nv.mshA } }

/-- The inactive slot of a component being downloaded or verified is marked invalid by a reset (R471). -/
def tearUpdate (s : State) : State :=
  let c := s.mgmt.fw.component
  if s.mgmt.fw.state = 2 ∨ s.mgmt.fw.state = 3 then
    modImage c (!activeSlot s c) (fun i => { i with invalid := true, ready := false }) s
  else s

/-- The link state of a pair after its end has lost it; a pair parked by 0x5F00 stays so (R338, R541). -/
def lostPair (p : Pair) : Pair := if p.latched then { latched := true, parked := true } else {}

/-- Everything outside the Vigil island loses its state: the hub is reset or loses its power (R481, R541). -/
def clearVolatile (s : State) : State :=
  let s := tearUpdate (tearCommit s)
  freshen { s with
    boot := { s.boot with
      step := 2, blocked := false, waiting := false, engOut := 0, fail := 0, starting := false, bootBlocked := false
      bootFail := 0, manifestOk := false, fallback := false, liveSince := false, mshPending := false
      hub := false, mcRuns := false, odLive := false, activating := false, actSlot := none, mcStopped := false, step8 := none
      ready := false, outOfService := if s.boot.latched = [] then none else s.boot.outOfService, oosSeason := false }
    mgmt := { s.mgmt with sessions := [], eidPcie := 0, fw := {}, mirror := [] }
    dies := {}
    store := { s.store with
      poison := [], chans := [], rowCorr := [], spares := [], copying := [], segRetired := [], segMarked := []
      migrating := false, dirty := [], far := [], waits := [], epochs := [], bufGen := s.fresh + 1 }
    tiles := []
    tkeep := mmapv {} (fun k => { k with buf := [], bufGen := 0, clock := 16, mismatch := 0, eccCorr := 0 }) s.tkeep
    arrs := []
    frames := {}
    optics := {}
    links := { pairs := mmapv {} lostPair s.links.pairs, splits := [] }
    time := { alm := s.time.alm }
    fabric := {}
    twin := {}
    host := { perst := s.host.perst }
    health := { s.health with corrLogged := [] } }

/-- Operator-writable entries return to their defaults, stored entries keep their values, and every value is in force
(R585). -/
def resetValues (s : State) : State :=
  { s with mgmt := { s.mgmt with latest := storedValues s, inForce := [] } }

/-- Start-up begins (R551): in step 1 after a Cold reset, in step 2 otherwise. -/
def beginStart (s : State) : State :=
  { s with boot := { s.boot with starting := true, waiting := false, blocked := false, fail := 0 } }

/-- P is saved at an entry to Standby from a powered state (R548). -/
def savePenalty (s : State) : State :=
  onlyIf (decide (s.pow.state = .ready ∨ s.pow.state = .run)) (journalPut { kind := .penalty s.health.p }) s

/-- A Warm reset (R539, R541), by its code of OD 0x8001.04; the start follows at once, but after an undervoltage lockout
only once the main rails start again (R476, R480). A sensor that had failed is judged afresh (R490). -/
def warmReset (cause : Nat) (s : State) : State :=
  let s := resetValues (clearVolatile (savePenalty s))
  let s := { s with
    nv := { s.nv with resetWarm := s.nv.resetWarm + 1 }
    boot := { s.boot with lastReset := cause }
    pow := { s.pow with steps := 0, cap := 16, stretch := false, stretchAt := 0, stretched := 0, hotEpisode := false, current := {}, lowRun := 0
                        overRun := 0, shutdown := 0
                        diodes := mmapv {} (fun d => { d with bad := 0, failed := false }) s.pow.diodes } }
  let s := setPower .standby s
  onlyIf (decide (cause ≠ 5) && s.pow.railsOk) beginStart s

/-! ## Shutdown (R493, R494) -/

/-- A shutdown begins: the stretch, the fault with its halt and departure notices, and the cause. The halt notice goes out where no
Calendar runs either (R494). -/
def beginShutdown (code ctx : Nat) (also : List Nat) (s : State) : State :=
  if s.pow.state = .off ∨ s.pow.state = .latched ∨ s.pow.shutdown ≠ 0 then s
  else
    let halts := s.frames.held.isSome || s.frames.run.any (fun r => r.completed.isNone)
    let s := onlyIf (!halts && s.boot.ready) (fun s => sendOwn (ownNotice s 2 0 code 0 0xFFFF 0) s) s
    raiseWith code none ctx also { s with pow := { s.pow with
      stretch := true, stretchAt := if s.pow.stretch then s.pow.stretchAt else now s
      shutdown := 1, latchCause := BitVec.ofNat 16 code } }

end Sys2Proof.Machine
end

