-- ==== Sys2Proof/Machine/Watch.lean ====
section
/-!
DEFINITION. Watchdogs and Reckoning (16).
-/

set_option Elab.async false

namespace Sys2Proof.Machine

/-! ## Reckoning (R544 to R548) -/

/-- Count of a Corrected code since Cold reset. -/
def corrOf (s : State) (code : Nat) : Nat := mget 0 s.health.corr code
/-- Count of another code since Cold reset. -/
def evtOf (s : State) (code : Nat) : Nat := mget 0 s.health.evt code

/-- The 16 inputs' counts (R544). -/
def reckInputs (s : State) : List Nat :=
  [corrOf s 0x2001, corrOf s 0x2008 + corrOf s 0x1126 + corrOf s 0x1137, corrOf s 0x2007 + corrOf s 0x3003,
   evtOf s 0x2002 + evtOf s 0x2003, evtOf s 0x2004, cntOf s 0x601101, evtOf s 0x1111, evtOf s 0x1112,
   corrOf s 0x5001, corrOf s 0x4021, evtOf s 0x5003, corrOf s 0x4010, evtOf s 0x4001,
   evtOf s 0x4002 + evtOf s 0x4003, evtOf s 0xD001, evtOf s 0xD002 + evtOf s 0xD003]

/-- The default weights in milli-points (R544). -/
def reckDefault : List Nat :=
  [1, 100, 10, 20000, 100000, 20000, 100000, 200000, 2, 50, 5000, 2000, 10000, 30000, 50000, 50000]

/-- The weights in force (OD 0x8003.05). -/
def reckWeights (s : State) : List Nat :=
  match mget [] s.mgmt.latest 0x800305 with
  | [] => reckDefault
  | v => (List.range 16).map (fun i => fieldAt v (4 * i) 4)

/-- The greatest q with 2 q^n ≤ p^n, by bits: ⌊p 2^(-1/n)⌋. -/
def decayGo (p n : Nat) : Nat → Nat → Nat
  | 0, q => q
  | k + 1, q => decayGo p n k (if 2 * (q + 2 ^ k) ^ n ≤ p ^ n then q + 2 ^ k else q)

/-- ⌊P 2^(-1/(3600 H))⌋ (R545). -/
def decayFloor (p h : Nat) : Nat := if p = 0 then 0 else decayGo p (3600 * h) 32 0

/-- The score S (R545). -/
def score (p : Nat) : Nat := 1000 - ceilDiv p 1000

/-- The band that a score leads to (R546). -/
def nextBand (band sc : Nat) : Nat :=
  if sc < 500 then 2
  else
    match band with
    | 0 => if sc < 800 then 1 else 0
    | 1 => if 820 ≤ sc then 0 else 1
    | _ => if 520 ≤ sc then 1 else 2

/-- The fault of entering a band (R546). -/
def bandFault (b : Nat) (s : State) : State :=
  if b = 1 then raise 0xD030 0 s else if b = 2 then raise 0xD031 0 s else s

/-- The probation value (OD 0x8003.07). -/
def probation (s : State) : Nat := odNum s 0x800307 0

/-- RECKONING_UPDATE: every 1 s P decays and takes the weighted rises, and the bands are judged (R545, R546). How the decay
rounds is open: the floor, or one more while P is not 0. -/
def execReckoningUpdate (s : State) : Host.Outcome State Fault Refusal :=
  .next (
    if s.pow.state = .off then s
    else
      let inputs := reckInputs s
      let rises := (inputs.zip s.health.atLast).map (fun x => x.1 - x.2)
      let gain := ((rises.zip (reckWeights s)).map (fun x => x.1 * x.2)).foldl (fun a b => a + b) 0
      let r := if s.health.p = 0 then 0 else Config.decayRound s.fresh % 2
      let p := min (2 ^ 32 - 1) (decayFloor s.health.p (odNum s 0x800304 24) + r + gain)
      let b := nextBand s.health.band (score p)
      let entered := decide (b ≠ s.health.band)
      let s := freshen { s with health := { s.health with p := p, atLast := inputs, band := b } }
      onlyIf (entered && decide (probation s = 0)) (bandFault b) s)

/-- Set the probation value; when it ends, the band's fault is raised at once (R547). -/
def setProbation (v : Nat) (s : State) : State :=
  let was := probation s
  let s := { s with mgmt := { s.mgmt with latest := mset [] s.mgmt.latest 0x800307 (leBytes 2 v) } }
  onlyIf (decide (was ≠ 0) && decide (v = 0)) (bandFault s.health.band) s

/-- PROBATION_COUNTDOWN: each hour the value falls by 1 (R547). -/
def execProbationCountdown (s : State) : Host.Outcome State Fault Refusal :=
  .next (if probation s = 0 then s else setProbation (probation s - 1) s)

/-! ## Watchdogs (R534 to R537) -/

/-- Close every session (R520); each closing is an event (R462). -/
def closeSessions (p : Sess → Bool) (s : State) : State :=
  let gone := s.mgmt.sessions.filter p
  forEach gone (fun x s => onlyIf x.proven (sessionEvent x.num) s)
    { s with mgmt := { s.mgmt with sessions := s.mgmt.sessions.filter (fun x => !p x) } }

/-- The core stops answering (R520): `OD_LIVE` is cleared and every session closes. -/
def stopCore (s : State) : State :=
  let s := closeSessions (fun _ => true) s
  { s with boot := { s.boot with mcRuns := false, odLive := false, activating := true } }

/-- The recent restarts of a list of Almanac times, within a window. -/
def recent (t window : Nat) (l : List Nat) : List Nat := l.filter (fun x => decide (t < x + window))

/-- MC_WATCHDOG: 200 ms without a heartbeat, so Vigil restarts the core with 0xD001 (R534); a third restart within 1 h
raises 0xD010 and stops it (R535). -/
def execMcWatchdog (s : State) : Host.Outcome State Fault Refusal :=
  .next (
    if s.boot.hub ∧ s.boot.mcRuns then
      let times := now s :: recent (now s) 3600000000000 s.boot.mcRestarts
      let s := stopCore s
      let s := bump 0x800201 1 { s with boot := { s.boot with mcRestarts := times } }
      let s := raise 0xD001 0 s
      if 3 ≤ times.length then
        raise 0xD010 0 { s with boot := { s.boot with mcStopped := true, activating := false } }
      else s
    else s)

/-- MARSHAL_WATCHDOG: 65,536 tile cycles without a heartbeat, Job-fatal 0xD002; the tile is reset at the halting Calend
(R536). -/
def execMarshalWatchdog (t : TileNo) (s : State) : Host.Outcome State Fault Refusal :=
  .next (
    if (tileOf s t.val).st = 1 ∨ (tileOf s t.val).st = 2 ∨ (tileOf s t.val).st = 3 then
      raiseTile 0xD002 t.val 0 (bump 0x800202 1 (modTile t.val (fun x => { x with hung := true }) s))
    else s)

/-- VIGIL_WATCHDOG: Vigil restarts from ROM with 0xD003 (R537): its filters begin again and its sessions are gone; a third
restart within 10 minutes raises 0xD011. -/
def execVigilWatchdog (s : State) : Host.Outcome State Fault Refusal :=
  .next (
    if s.pow.state = .off then s
    else
      let times := now s :: recent (now s) 600000000000 s.boot.vigilRestarts
      let s := closeSessions (fun x => x.byVigil) s
      let s := bump 0x800203 1 { s with
        boot := { s.boot with vigilRestarts := times }
        pow := { s.pow with
          current := {}, voltage := {}, conv := []
          diodes := mmapv {} (fun d => { d with f := {}, lastValid := none, bad := 0 }) s.pow.diodes }
        optics := { s.optics with lines := mmapv {} (fun l => { l with f := {} }) s.optics.lines } }
      let s := raise 0xD003 0 s
      onlyIf (decide (3 ≤ times.length)) (raise 0xD011 0) s)

end Sys2Proof.Machine
end

