-- ==== Sys2Proof/Machine/StartUp.lean ====
section
/-!
DEFINITION. The input, the resets it causes, and start-up steps 1 to 4 (14, 15, 17): Vigil, the manifest and the core, the
dies and their lanes, the Store's self-test.
-/

set_option Elab.async false

namespace Sys2Proof.Machine

/-! ## The input (R475 to R477, R480) -/

/-- An audit entry that states how many were lost (R466, R468). -/
def gapAudit (s : State) (n : Nat) : Audit :=
  { time := s.time.alm, index := 0, sub := 0, role := 0, status := 0xFF, via := .i3cA
    keyFp := List.replicate 32 0, value := leBytes 8 n ++ List.replicate 24 0 }

/-- The place of a record's kind in the counts of the loss record: the kinds of *Journal record kinds* in their order, then all others
(R500, R502). -/
def jClass (k : JKind) : Nat :=
  match k with
  | .retire _ | .unretire _ => 0
  | .remap _ _ => 1
  | .segments _ => 2
  | .baseline _ _ => 3
  | .stored _ _ => 4
  | .laneMaps _ => 5
  | _ => 6

/-- The counts of pending records of each kind (R502). -/
def lossCounts (l : List JRec) : List Nat := (List.range 7).map (fun c => (l.filter (fun r => decide (jClass r.kind = c))).length)

/-- The loss record of a journal, with how many of its records carry an audit entry. -/
def putLoss (l : List JRec) (s : State) : State :=
  { s with nv := { s.nv with lossRecord := lossCounts l, lossAudit := (l.filter (fun r => r.audit.isSome)).length } }

/-- Vigil reports the records that the latest power cycle lost (R502, R468): those of the loss record, which stands until the first open
window, and those that a full journal had dropped (R501). -/
def reportLosses (s : State) : State :=
  let n := s.nv.lossRecord.foldl (· + ·) 0 + s.nv.lossDropped
  let a := s.nv.lossAudit
  let s := { s with pow := { s.pow with nvLost := n }, nv := { s.nv with lossDropped := 0 } }
  let s := onlyIf (decide (n ≠ 0)) (logFault 0x9041 none n) s
  onlyIf (decide (a ≠ 0)) (fun s => logFault 0xB003 none a
    (journalPut { kind := .auditOnly, audit := some (gapAudit s a) } s)) s

/-- VIGIL_PRESENT: the input rises through 18 V (R475, R480); a retention store that fails its check counts as a power
cycle (R502). -/
def execVigilPresent (retentionOk : Bool) (s : State) : Host.Outcome State Fault Refusal :=
  .next (
    if s.pow.state = .off then
      let s := { s with pow := { s.pow with state := .standby } }
      if s.boot.lastReset = 2 then reportLosses s
      else if retentionOk then s
      else reportLosses { putLoss s.pow.journal s with
        boot := { s.boot with lastReset := 2, latched := [] }
        pow := { s.pow with journal := [], latchCause := 0, fscMap := 0xFF }
        mgmt := { s.mgmt with latest := s.nv.stored, laneCommit := false }
        health := { s.health with p := s.nv.penalty } }
    else s)

/-- Records pending in the journal are counted in the loss record when the input falls through 33.0 V (R502). -/
def writeLossRecord (s : State) : State :=
  if s.pow.journal = [] then s
  else putLoss s.pow.journal s

/-- COLD_RESET (R477, R541): below 18 V only the NV store and the retention store keep their state, and a power cycle
clears the retention store as well. -/
def execColdReset (powerCycle : Bool) (s : State) : Host.Outcome State Fault Refusal :=
  .next (
    if s.pow.state = .off then s
    else
      let dropped := cntOf s 0x200404
      let s := clearVolatile (writeLossRecord s)
      let s := { s with nv := { s.nv with
        resetCold := s.nv.resetCold + 1
        lossDropped := if powerCycle then dropped else s.nv.lossDropped } }
      let values := if powerCycle then s.nv.stored else storedValues s
      let keepLatch := s.pow.state = .latched ∧ powerCycle = false
      { s with
        pow := { state := if keepLatch then .latched else .off
                 journal := if powerCycle then [] else s.pow.journal
                 latchCause := if powerCycle then 0 else s.pow.latchCause
                 fscMap := if powerCycle then 0xFF else s.pow.fscMap
                 nvLost := s.pow.nvLost }
        boot := { step := 1, lastReset := if powerCycle then 2 else 1
                  latched := if powerCycle then [] else s.boot.latched.filter (fun c => decide (c.toNat / 4096 = 9)) }
        mgmt := { latest := values, laneCommit := s.mgmt.laneCommit && !powerCycle }
        optics := {}
        time := {}
        links := {}
        health := { p := if powerCycle then s.nv.penalty else s.health.p } })

/-- MAIN_RAILS_START: the input rises through 34.5 V (R475); the SLOT straps are sampled once after a Cold reset (R455), and
the start proceeds if the target is Ready (R480). -/
def execMainRailsStart (slot : BitVec 3) (s : State) : Host.Outcome State Fault Refusal :=
  .next (
    if s.pow.state = .off then s
    else
      let s := { s with
        pow := { s.pow with railsOk := true }
        boot := { s.boot with slot := if s.boot.slotTaken then s.boot.slot else slot, slotTaken := true } }
      if s.pow.state = .standby ∧ s.boot.starting = false ∧
          (odNum s 0x200003 2 = 2 ∨ mget [] s.mgmt.latest 0x200002 = leBytes 1 2) then beginStart s
      else s)

/-- A fault of the input voltage (R504): logged with the filtered voltage and the limit, in mV. -/
def voltageFault (code limit : Nat) (s : State) : State := raiseWith code none (dyFloor s.pow.voltage.y).toNat [limit] s

/-- UNDERVOLTAGE_LOCKOUT: a fall through 33.0 V that leaves 18 V is a Warm reset with 0x9002 (R476); a latched package only
loses its rails. -/
def execUndervoltageLockout (s : State) : Host.Outcome State Fault Refusal :=
  .next (
    if s.pow.railsOk then
      let s := { writeLossRecord s with pow := { s.pow with railsOk := false } }
      if s.pow.state = .latched ∨ s.pow.state = .off then s
      else warmReset 5 (voltageFault 0x9002 33000 s)
    else s)

/-- OVER_VOLTAGE_TRIP: above 46 V for 10 µs, fault 0x9022 and a shutdown (R475, R493). -/
def execOverVoltageTrip (s : State) : Host.Outcome State Fault Refusal := 
  .next (beginShutdown 0x9022 (dyFloor s.pow.voltage.y).toNat [46000] s)

/-- INPUT_OUT_OF_RANGE: 0x9003 once per episode while the package runs (R475). -/
def execInputOutOfRange (s : State) : Host.Outcome State Fault Refusal :=
  .next (
    if s.boot.hub ∧ s.pow.outOfRange = false then
      voltageFault 0x9003 (if dyLt (dyInt 40000) s.pow.voltage.y then 44000 else 36000)
        { s with pow := { s.pow with outOfRange := true } }
    else s)

/-- PERST_N_LOW: a Warm reset (R424), ignored in Standby and Latched (R482). -/
def execPerstNLow (s : State) : Host.Outcome State Fault Refusal :=
  .next (
    let fell := s.host.perst
    let s := { s with host := { s.host with perst := false, cfgReady := false } }
    if fell ∧ s.boot.hub then warmReset 3 s else s)

/-- PERST_N_RELEASE: PERST_N rises, and the configuration space becomes ready (R424). -/
def execPerstNRelease (s : State) : Host.Outcome State Fault Refusal :=
  .next { s with host := { s.host with perst := true, cfgReady := s.boot.hub } }

/-- REFCLK_FAULT: after step 2, Device-fatal 0xC010 (R574). -/
def execRefclkFault (s : State) : Host.Outcome State Fault Refusal :=
  .next (if s.boot.hub then raise 0xC010 0 s else s)

/-! ## Step 2: manifest and management core (R511 to R514, R552) -/

/-- Throttle start judged by diode `i`, in 0.125 °C (R488): a compute die's diode for its Store, an EIC's for its PIC. -/
def throttleStart (i : Nat) : Int := if i < 8 then 736 else if i = 8 then 760 else if i < 17 then 680 else 880

/-- Shutdown temperature of diode `i`, in 0.125 °C (R488). -/
def shutdownTemp (i : Nat) : Int := if i < 9 then 880 else if i < 17 then 840 else 1000

/-- Diode `i`. -/
def diodeOf (s : State) (i : Nat) : Diode := mget {} s.pow.diodes i

/-- A die is hot: its filtered reading is at or above its throttle start (R491). -/
def dieHot (s : State) (i : Nat) : Bool := dyLe (dyInt (throttleStart i)) (diodeOf s i).f.y

/-- Some die is hot. -/
def anyHot (s : State) : Bool := (List.range 25).any (dieHot s)

/-- Three valid samples of every diode have been taken (R551). -/
def diodesValid (s : State) : Bool := (List.range 25).all (fun i => decide (3 ≤ (diodeOf s i).valid))

/-- A copy of the manifest passes all four checks (R511). -/
def copyAccepted (c : ManCopy) : Bool := c.makerOk && c.dikOk && c.commitOk

/-- The outcome of R511: the accepted counter, or the fault that stops the start. -/
def acceptManifest (a b : ManCopy) : Except Nat Nat :=
  if !a.makerOk && !b.makerOk then .error 0xA011
  else if !(a.makerOk && a.pufOk) && !(b.makerOk && b.pufOk) then .error 0xA012
  else if !(a.makerOk && a.dikOk) && !(b.makerOk && b.dikOk) then .error 0xA012
  else
    match copyAccepted a, copyAccepted b with
    | true, true => .ok (max a.counter b.counter)
    | true, false => .ok a.counter
    | false, true => .ok b.counter
    | false, false => .error 0xA011

/-- One copy was accepted and the other, not blank, was not: 0xA002 (R511). -/
def copyLost (a b : ManCopy) : Bool :=
  (copyAccepted a && !copyAccepted b && !b.blank) || (copyAccepted b && !copyAccepted a && !a.blank)

/-- A firmware image is valid for a component (R513). -/
def imageValid (s : State) (component : Nat) (i : Image) : Bool :=
  i.sigOk && decide (odNum s 0x700303 0 ≤ i.cseq.toNat) && decide (i.component.toNat = component) && i.bodyOk &&
    decide ((if component = 1 then s.nv.svnFloorMc else s.nv.svnFloorMsh).toNat ≤ i.svn.toNat) && !i.invalid

/-- The images of the management core and of the Marshal microcode, by slot. -/
def mcImage (s : State) (slotB : Bool) : Image := if slotB then s.nv.mcB else s.nv.mcA
def mshImage (s : State) (slotB : Bool) : Image := if slotB then s.nv.mshB else s.nv.mshA

/-- A Device-fatal fault of step 2 leaves the package Boot-blocked (R514). -/
def bootBlock (code : Nat) (s : State) : State :=
  let s := if code = 0xA010 then raiseWith code none (flag s.nv.slotMc) [1] s else raise code 0 s
  { s with boot := { s.boot with bootBlocked := true, bootFail := BitVec.ofNat 16 code } }

/-- The core starts from a slot (R552): the hub is up, sessions opened with Vigil close (R457), and the faults and events
that Vigil held are posted (R520, R531). -/
def startCore (slotB : Bool) (s : State) : State :=
  let s := closeSessions (fun x => x.byVigil) s
  let s := { s with
    boot := { s.boot with
      hub := true, mcRuns := true, manifestOk := true, mcSlot := slotB, step := 3, waiting := false
      fallback := s.boot.fallback || decide (slotB ≠ s.nv.slotMc) }
    host := { s.host with cfgReady := s.host.perst } }
  let s := postHeld s
  let s := onlyIf (decide (slotB ≠ s.nv.slotMc)) (logWith 0xA001 none (flag slotB) [1]) s
  onlyIf (s.nv.mcA.ready || s.nv.mcB.ready || s.nv.mshA.ready || s.nv.mshB.ready)
    (logFault 0xB005 none (if s.nv.mcA.ready || s.nv.mcB.ready then 1 else 2)) s

/-- BOOT: step 2 (R552). It waits for valid diodes and for every die to be below its throttle start after a Cold reset, and until
REFCLK has been good for 10 ms, which `refclk` says (R551, R574). -/
def execBoot (refclk : Bool) (s : State) : Host.Outcome State Fault Refusal :=
  .next (
    if s.boot.starting ∧ s.boot.step ≤ 2 ∧ s.boot.blocked = false ∧ s.pow.railsOk then
      if refclk = false ∨ (s.boot.step = 1 ∧ (diodesValid s = false ∨ anyHot s)) then
        { s with boot := { s.boot with waiting := true } }
      else
        let s := { s with boot := { s.boot with step := 2, waiting := false, bootFail := 0 } }
        match acceptManifest s.nv.copyA s.nv.copyB with
        | .error code => bootBlock code s
        | .ok _ =>
          let s := onlyIf (copyLost s.nv.copyA s.nv.copyB) (logFault 0xA002 none (flag (copyAccepted s.nv.copyA))) s
          if imageValid s 1 (mcImage s s.nv.slotMc) then startCore s.nv.slotMc s
          else if imageValid s 1 (mcImage s (!s.nv.slotMc)) then startCore (!s.nv.slotMc) s
          else bootBlock 0xA010 s
    else s)

/-! ## Step 3: dies and lanes (R24 to R36, R553) -/

/-- The good physical lanes of a test, in ascending order. -/
def goodLanes (bad : BitVec 68) : List Nat := (List.range 68).filter (fun i => bad.toNat / 2 ^ i % 2 = 0)

/-- The width of a bundle by its test (R26 to R28): 0 full, 1 half, 2 out of service. -/
def laneWidth (t : LaneTest) : Nat :=
  let n := (goodLanes t.bad).length
  if t.clkFail ∨ t.validFail ∨ n < 32 then 2 else if n < 64 then 1 else 0

/-- The lane map chosen (R26, R27): byte i is the physical lane that carries logical lane i, 0xFF an unused one. -/
def laneMap (t : LaneTest) : List Byte :=
  let g := goodLanes t.bad
  let n := match laneWidth t with
    | 0 => 64
    | 1 => 32
    | _ => 0
  (g.take n).map (BitVec.ofNat 8) ++ List.replicate (64 - n) 0xFF

/-- The identity map: lane i on wire i. -/
def laneIdentity : List Byte := (List.range 64).map (BitVec.ofNat 8)

/-- The manifest's map of a bundle. -/
def laneManifest (s : State) (b : Nat) : List Byte :=
  match mget [] s.nv.laneMaps b with
  | [] => laneIdentity
  | m => m

/-- One bundle's test result takes effect (R25 to R29). -/
def testBundle (t : LaneTest) (s : State) : State :=
  let b := t.bundle.val
  let m := laneMap t
  let diff := decide (m ≠ laneManifest s b)
  let w := laneWidth t
  let s := modBundle b (fun x => { x with
    good := (goodLanes t.bad).length, width := w, mapDiff := diff, clkFail := t.clkFail, validFail := t.validFail
    map := if m = laneIdentity then [] else m, resend := 0 }) s
  let s := onlyIf diff (raise 0x3001 b) s
  let s := onlyIf (decide (w = 1)) (raise 0x3002 b) s
  onlyIf (decide (w = 2)) (raise 0x3010 b) s

/-- Every die-map entry has answered without a fault, the lanes are tested, and the start is not blocked: step 4. -/
def leaveStep3 (s : State) : State :=
  if s.boot.step = 3 ∧ s.dies.tested ∧ s.boot.blocked = false ∧
      ((List.range 81).all (fun e => (mget {} s.dies.map e).answered)) then
    { s with boot := { s.boot with step := 4 } }
  else s

/-- The management core verifies the Marshal microcode, with the fallback of R514 step 3. -/
def verifyMicrocode (s : State) : State :=
  if imageValid s 2 (mshImage s s.nv.slotMsh) then { s with boot := { s.boot with mshSlot := s.nv.slotMsh } }
  else if imageValid s 2 (mshImage s (!s.nv.slotMsh)) then
    logWith 0xA001 none (flag (!s.nv.slotMsh)) [2] { s with boot := { s.boot with mshSlot := !s.nv.slotMsh, fallback := true } }
  else raiseWith 0xA013 none (flag s.nv.slotMsh) [2] s

/-- DISCOVERY: the lanes of every bundle are tested and repaired (R25 to R29), and the microcode is verified (R553). A
bundle that `tests` does not name has no bad lane. The test runs after a Device-fatal outcome of a die as well, so that one start
names every fault (R25, R35). -/
def execDiscovery (tests : List LaneTest) (s : State) : Host.Outcome State Fault Refusal :=
  .next (
    if s.boot.starting ∧ s.boot.step = 3 ∧ s.dies.tested = false then
      let clean := (List.range 108).filter (fun b => !tests.any (fun t => decide (t.bundle.val = b)))
      let s := forEach clean (fun b s => testBundle ⟨Fin.ofNat 108 b, 0, false, false⟩ s) s
      let s := forEach tests testBundle s
      leaveStep3 (verifyMicrocode { s with dies := { s.dies with tested := true } })
    else s)

/-- Type and position of die-map entry `e` (R33, R34). -/
def dieExpected (e : Nat) : Nat × Nat :=
  if e = 0 then (1, 0) else if e < 9 then (2, e - 1) else if e < 41 then (3, e - 9) else if e < 49 then (4, e - 41)
  else if e < 57 then (5, e - 49) else if e < 65 then (6, e - 57) else (7, e - 65)

/-- Bytes 0 to 13 of an announce record, which its `CHECK` covers (R33). -/
def announceBytes (r : AnnounceRec) : List Byte :=
  [r.typ, r.pos] ++ leBytes 2 r.build.toNat ++ leBytes 8 r.serial.toNat ++ leBytes 2 r.flags.toNat

/-- The entry reports its first outcome (R35). -/
def reportDie (e code : Nat) (s : State) : State :=
  raise code e { s with dies := { s.dies with map := mmod {} s.dies.map e (fun d => { d with reported := true }) } }

/-- DIE_ANNOUNCE: a record arrives by the path of entry `e` and is checked in the order of R35. The stored record keeps the `CHECK`
that the die sent, although the hub then sets `FLAGS` [1] and [2] (DESIGN CHOICE, log entry 25). -/
def execDieAnnounce (e : Fin 81) (r : AnnounceRec) (s : State) : Host.Outcome State Fault Refusal :=
  .next (
    let d := mget {} s.dies.map e.val
    if s.boot.hub = false ∨ s.boot.starting = false ∨ 3 < s.boot.step ∨ d.reported then s
    else if crc16 (announceBytes r) ≠ r.check.toNat then
      let s := { s with dies := { s.dies with map := mmod {} s.dies.map e.val (fun d => { d with
        badChecks := d.badChecks + 1 }) } }
      onlyIf (decide (2 ≤ d.badChecks)) (reportDie e.val 0x3020) s
    else
      let agrees := decide ((r.typ.toNat, r.pos.toNat) = dieExpected e.val)
      let listed := !mget false s.nv.unlisted e.val
      let same := decide (r.build = mget 0 s.nv.dieBuild e.val) && decide (r.serial = mget 0 s.nv.dieSerial e.val)
      let flags := BitVec.ofNat 16 (r.flags.toNat % 2 + 2 * flag agrees + 4 * flag (listed && same))
      let ok := agrees && listed && same && !d.answered
      let s := { s with dies := { s.dies with map := mmod {} s.dies.map e.val (fun d => { d with
        rec_ := { r with flags := flags }, answered := d.answered || ok }) } }
      if !agrees || d.answered then reportDie e.val 0x3021 s
      else if listed && !same then reportDie e.val 0x3022 s
      else if !listed then reportDie e.val 0x3023 s
      else leaveStep3 s)

/-- DIE_ANNOUNCE_TIMEOUT: an expected die has not answered within 100 ms, fault 0x3020 (R35). Every die of the inventory is
expected, whatever the manifest lists (R17). -/
def execDieAnnounceTimeout (e : Fin 81) (s : State) : Host.Outcome State Fault Refusal :=
  .next (
    let d := mget {} s.dies.map e.val
    if s.boot.hub ∧ s.boot.starting ∧ s.boot.step = 3 ∧ d.answered = false ∧ d.reported = false then reportDie e.val 0x3020 s
    else s)

/-! ## Rows, spares and segments (R255 to R260) -/

/-- The failure count of a row: the journal's latest record of it, or the manifest's (R257). -/
def rowCount (s : State) (row : Nat) : Nat :=
  s.pow.journal.foldl (fun c r => match r.kind with
    | .remap x n => if x = row then n else c
    | _ => c) (mget 0 s.nv.rowFails row)

/-- Mark a row's segment for retirement (R257), or 0x2015 beyond 128 (R259); a further failure in a marked segment raises 0x2004
again. -/
def markSegment (row : Nat) (s : State) : State :=
  let q := rowSegNo row
  if mget false s.store.segRetired q then s
  else if mget false s.store.segMarked q then raise 0x2004 q s
  else if 128 < s.store.segRetired.length + s.store.segMarked.length + 1 then raise 0x2015 q s
  else raise 0x2004 q { s with store := { s.store with segMarked := mset false s.store.segMarked q true } }

/-- Take a spare of the row's bank for it, and record the new count (R256); `copy` says that the row's content is copied. No word of
the spare has been corrected yet (R255). -/
def remapRow (row : Nat) (copy : Bool) (s : State) : State :=
  let s := { s with store := { s.store with
    spares := mmod 0 s.store.spares (rowBank row) (fun n => n + 1)
    rowCorr := mset 0 s.store.rowCorr row 0
    copying := if copy then mset false s.store.copying row true else s.store.copying } }
  journalPut { kind := .remap row (rowCount s row + 1) } s

/-- A physical row fails (R255 to R257). -/
def rowFailure (row : Nat) (copy : Bool) (s : State) : State :=
  let c := rowCount s row
  let free := decide (mget 0 s.store.spares (rowBank row) < 32)
  if free ∧ c < 2 then remapRow row copy (raise (if c = 0 then 0x2002 else 0x2003) row s)
  else
    let s := markSegment row s
    if free then remapRow row copy s else s

/-- The marked segments are retired, recorded and reported (R258). -/
def retireSegments (s : State) : State :=
  let segs := s.store.segMarked.map Prod.fst
  if segs = [] then s
  else
    let s := { s with store := { s.store with
      segRetired := segs.foldl (fun m q => mset false m q true) s.store.segRetired, segMarked := [] } }
    let s := journalPut { kind := .segments segs } s
    raise 0x2005 (capacity s) s

/-- The segments retired by the manifest and by records still in the journal. -/
def recordedSegments (s : State) : SMap Bool :=
  s.pow.journal.foldl (fun m r => match r.kind with
    | .segments l => l.foldl (fun m q => mset false m q true) m
    | _ => m) s.nv.segRetired

/-- The run-time retirements recorded in the manifest and in the journal (R153, R155). -/
def recordedRetired (s : State) : SMap Bool :=
  s.pow.journal.foldl (fun m r => match r.kind with
    | .retire a => mset false m a true
    | .unretire a => mset false m a false
    | _ => m) s.nv.retired

/-- The array states of R162 are loaded from the manifest (R553): 2 factory-disabled, 3 retired. -/
def loadArrays (s : State) : State :=
  let off := forEach s.nv.factoryOff (fun x s => modArr x.1 (fun a => { a with state := 2 }) s) s
  forEach (recordedRetired s) (fun x s => modArr x.1 (fun a => { a with state := 3 }) s) off

/-- Step 4 ends once every channel has passed: marked segments retire and the array states are loaded (R553). -/
def leaveStep4 (s : State) : State :=
  if s.boot.step = 4 ∧ s.boot.blocked = false ∧ ((List.range 512).all (fun i => (chanOf s i).tested)) then
    let s := loadArrays (retireSegments s)
    if s.boot.blocked then s else { s with boot := { s.boot with step := 5 } }
  else s

/-- Every byte of a channel reads zero (R260). -/
def zeroChannel (i : Nat) (s : State) : State :=
  storeKeep (fun a => decide (storeChan a ≠ i)) { s with store := { s.store with
    poison := s.store.poison.filter (fun c => decide (storeChan (c.1 * 128) ≠ i)) } }

/-- Spares in use at the start of a self-test: one for each failure that the records count (R256, R257). -/
def sparesRecorded (s : State) (bank : Nat) : Nat :=
  let rows := (s.nv.rowFails.map Prod.fst) ++ (s.pow.journal.filterMap (fun r => match r.kind with
    | .remap x _ => some x
    | _ => none))
  ((rows.eraseDups.filter (fun r => decide (rowBank r = bank))).map (rowCount s)).foldl (fun a b => a + b) 0

/-- STORE_SELF_TEST: channel `i` tests every row and spare and is zeroed (R260). `badRows` are the rows, by bank and row,
that fail, `badSpares` the banks of failing spares. -/
def execStoreSelfTest (i : TileNo) (channelOk : Bool) (badRows : List (Fin 16 × Fin 2048)) (badSpares : List (Fin 16))
    (s : State) : Host.Outcome State Fault Refusal :=
  .next (
    if s.boot.starting ∧ s.boot.hub ∧ (s.boot.step = 3 ∨ s.boot.step = 4) ∧ (chanOf s i.val).tested = false ∧
        (mget {} s.dies.map (1 + i.val / 64)).answered then
      let s := zeroChannel i.val s
      if channelOk then
        let s := { s with store := { s.store with
          segRetired := recordedSegments s
          spares := (List.range 16).foldl (fun m b =>
            mset 0 m (i.val * 16 + b) (sparesRecorded s (i.val * 16 + b) +
              (badSpares.filter (fun x => decide (x.val = b))).length)) s.store.spares } }
        let s := forEach badRows (fun x s => rowFailure (i.val * 2 ^ 15 + x.1.val * 2 ^ 11 + x.2.val) false s) s
        leaveStep4 (modChan i.val (fun c => { c with tested := true }) s)
      else
        modChan i.val (fun c => { c with failed := true }) (raise 0x2014 i.val s)
    else s)

end Sys2Proof.Machine
end

