-- ==== Sys2Proof/Machine/Optics.lean ====
section
/-!
DEFINITION. The optical engines at work (08) and start-up steps 5 to 7 (17): bring-up, laser inputs and their fade, ring
lock, markers, pre-FEC windows, transmit groups, calibration windows, and losses of light.
-/

set_option Elab.async false

namespace Sys2Proof.Machine

/-! ## Laser inputs (R285 to R289) -/

/-- The line of input `sp` (false LP, true LS) of engine `n`. -/
def lineKey (n : Nat) (sp : Bool) (j : Nat) : Nat := 16 * n + 8 * flag sp + j
/-- A laser input line. -/
def lineOf (s : State) (k : Nat) : Line := mget {} s.optics.lines k
/-- Change a laser input line. -/
def modLine (k : Nat) (g : Line → Line) (s : State) : State :=
  { s with optics := { s.optics with lines := mmod {} s.optics.lines k g } }

/-- An input is lit. -/
def inputLit (e : Eng) (sp : Bool) : Bool := if sp then e.lightS else e.lightP

/-- The larger of two values. -/
def dyMax (x y : Dy) : Dy := if dyLe x y then y else x

/-- The drop of a line in 0.01 dB: 0 for a line without a baseline (R554) or not yet sampled, and beyond every threshold for a dark
one. -/
def lineDrop (s : State) (n : Nat) (sp : Bool) (j : Nat) : Dy :=
  let l := lineOf s (lineKey n sp j)
  match l.baseline with
  | none => ⟨0, 0⟩
  | some b => if l.f.raw = [] then (if inputLit (engOf s n) sp then ⟨0, 0⟩ else dyInt 100000) else dySub (dyInt b) l.f.y

/-- The filtered drop of an input in 0.01 dB: the largest over its lines (R287). -/
def inputDrop (s : State) (n : Nat) (sp : Bool) : Dy :=
  (List.range 8).foldl (fun m j => dyMax m (lineDrop s n sp j)) (dyInt (-100000))

/-- An input's request pin is asserted. -/
def inputAsked (e : Eng) (sp : Bool) : Bool := if sp then e.reqS else e.reqP

/-- An input is asked for and lit, and its drop is below a threshold in 0.1 dB. -/
def inputBelow (s : State) (n : Nat) (sp : Bool) (thr : Nat) : Bool :=
  inputAsked (engOf s n) sp && inputLit (engOf s n) sp && dyLt (inputDrop s n sp) (dyInt (10 * thr))

/-- The fade thresholds A, B and C in 0.1 dB (R289). -/
def fadeA (s : State) : Nat := odNum s 0x300101 15
def fadeB (s : State) : Nat := odNum s 0x300102 30
def fadeC (s : State) : Nat := odNum s 0x300103 45

/-- One sample of an input's eight lines into their filters (R287, R497); a dark input has no readings, and its filters begin again
with the next light. -/
def sampleInput (n : Nat) (sp : Bool) (powers : List Int) (s : State) : State :=
  if powers = [] then forEach (List.range 8) (fun j => modLine (lineKey n sp j) (fun l => { l with f := {} })) s
  else forEach ((powers.take 8).zipIdx) (fun x => modLine (lineKey n sp x.2) (fun l => { l with f := filterStep 3 x.1 l.f })) s

/-- Set whether an input shows light. -/
def setLight (n : Nat) (sp lit : Bool) (s : State) : State :=
  modEng n (fun e => if sp then { e with lightS := lit } else { e with lightP := lit }) s

/-- A baseline record in use: the journal's latest, or the manifest's (R288). -/
def recordedBaseline (s : State) (i : Nat) : List (Option Int) :=
  s.pow.journal.foldl (fun v r => match r.kind with
    | .baseline k w => if k = i then w else v
    | _ => v) (mget [] s.nv.baselines i)

/-- The monitors of an engine outside its laser inputs and transmit outputs, 256 * stage + number (R310): per line after the input
switch, per group and line before and after the modulators, per waveguide after each mesh column, per receive fibre, and per
fibre and line after its ring. -/
def monKeys : List Nat :=
  (List.range 8).map (256 * 2 + ·) ++ (List.range 72).map (256 * 3 + ·) ++ (List.range 72).map (256 * 4 + ·) ++
    (List.range 9).flatMap (fun c => (List.range 9).map (256 * (5 + c) + ·)) ++ (List.range 8).map (256 * 0x0F + ·) ++
    (List.range 64).map (256 * 0x10 + ·)

/-- Take the recorded baselines of an engine's inputs and monitors into use. -/
def loadBaselines (n : Nat) (s : State) : State :=
  let s := forEach [false, true] (fun sp s =>
    forEach ((recordedBaseline s (2 * n + flag sp)).zipIdx) (fun x => modLine (lineKey n sp x.2)
      (fun l => { l with baseline := x.1 })) s) s
  let others := recordedBaseline s (24 + n)
  let s := modEng n (fun e => { e with mons := (monKeys.zip others).foldl (fun m x => mmod {} m x.1 (fun y => { y with base := x.2 })) e.mons }) s
  let mon := recordedBaseline s (16 + n)
  if mon = [] then s
  else forEach (List.range 8) (fun m => modFib (8 * n + m) (fun x => { x with
    baseTx := mon.getD (2 * m) none, baseRx := mon.getD (2 * m + 1) none })) s

/-- Record the baselines of one input and of its engine's monitors (R288, R310), with an audit entry where there is one. -/
def recordBaseline (n : Nat) (sp : Bool) (audit : Option Audit) (s : State) : State :=
  let lines := (List.range 8).map (fun j =>
    let l := lineOf s (lineKey n sp j)
    if l.f.raw = [] then none else some (dyFloor l.f.y))
  let s := forEach (lines.zipIdx) (fun x => modLine (lineKey n sp x.2) (fun l => { l with baseline := x.1 })) s
  let s := forEach (List.range 8) (fun m => modFib (8 * n + m) (fun x => { x with baseTx := x.powTx, baseRx := x.powRx })) s
  let mon := (List.range 8).flatMap (fun m => [(fibOf s (8 * n + m)).baseTx, (fibOf s (8 * n + m)).baseRx])
  let s := modEng n (fun e => { e with mons := mmapv {} (fun y => { y with base := y.read }) e.mons }) s
  let others := monKeys.map (fun k => (mget {} (engOf s n).mons k).base)
  journalPut { kind := .baseline (24 + n) others } <| journalPut { kind := .baseline (16 + n) mon } (journalPut { kind := .baseline (2 * n + flag sp) lines, audit := audit } s)

/-- An input that is lit in Ready and has no baseline is commissioned automatically, with 0x4007 (R288). -/
def autoCommission (n : Nat) (sp : Bool) (s : State) : State :=
  if s.boot.ready ∧ inputLit (engOf s n) sp ∧
      (List.range 8).all (fun j => (lineOf s (lineKey n sp j)).baseline.isNone) then
    optFault 0x4007 n [flag sp] (recordBaseline n sp none s)
  else s

/-- Raise a request pin (R286): a rise allows one 0x4006 again. -/
def raisePin (n : Nat) (sp : Bool) (s : State) : State :=
  modEng n (fun e => if sp then { e with noLightS := e.noLightS && e.reqS, reqS := true }
    else { e with noLightP := e.noLightP && e.reqP, reqP := true }) s

/-- Deassert a request pin. -/
def dropPin (n : Nat) (sp : Bool) (s : State) : State :=
  modEng n (fun e => if sp then { e with reqS := false } else { e with reqP := false }) s

/-! ## Training begins (R329, R557) -/

/-- A pair whose rings are locked trains; a trained one is withdrawn and keeps its counts (R329). -/
def startTraining (f : Nat) (s : State) : State :=
  let p := pairOf s f
  if p.latched || p.parked || p.outOfService || (fibOf s f).parked || !(fibOf s f).locked || decide (s.boot.step < 7) then s
  else takeLevel (modPair f (fun p => { p with
    training := true, trainGood := 0, needResume := decide (p.level ≠ 0), trainFrom := p.epoch }) (withdraw f s))

/-- Step 8 starts with the first trained pair, or at once when no pair can train (R557). -/
def leaveStep7 (s : State) : State :=
  if s.boot.step = 7 ∧ s.boot.blocked = false ∧ ((List.range 64).any (fun f => decide ((pairOf s f).level ≠ 0)) ∨
      (List.range 64).all (fun f => !(pairOf s f).training)) then
    { s with
      boot := { s.boot with step := 8, step8 := some (now s) }
      time := { s.time with
        state := if s.time.state = 0 then 1 else s.time.state, lastBeacon := now s, lastResp := now s
        root := if s.time.gen = 0 then BitVec.ofNat 16 (odNum s 0xA00002 0) else s.time.root } }
  else s

/-- Step 6 passes once a coordinate is held (R556); every lit and locked pair then trains (R557). -/
def leaveStep6 (s : State) : State :=
  if s.boot.step = 6 ∧ s.boot.blocked = false then
    let k := odLatest s 0x400001 0xFFFF
    if k < 16384 then
      let s := { s with
        boot := { s.boot with step := 7, waiting := false }
        fabric := { s.fabric with
          coord := some (BitVec.ofNat 14 k), ly := odNum s 0x400002 32, lz := odNum s 0x400003 64 } }
      leaveStep7 (forEach ((List.range 64).filter (fun f => (fibOf s f).lit)) startTraining s)
    else { s with boot := { s.boot with waiting := true } }
  else s

/-- Step 5 ends when every engine is brought up and at most one is out of service (R559). -/
def leaveStep5 (s : State) : State :=
  if s.boot.step = 5 ∧ s.boot.blocked = false ∧ ((List.range 8).all (fun n => decide ((engOf s n).state ≠ 3))) then
    let out := (List.range 8).filter (fun n => decide ((engOf s n).state = 2))
    let s := { s with boot := { s.boot with
      engOut := BitVec.ofNat 8 (out.foldl (fun a n => a + 2 ^ n) 0), waiting := decide (2 ≤ out.length) } }
    if out.length ≤ 1 then leaveStep6 { s with boot := { s.boot with step := 6 } } else s
  else s

/-! ## Bring-up (R290, R295, R554) -/

/-- An engine goes out of service for lack of light (R290): 0x4005 once, and its fibres are withdrawn. -/
def engineOut (n : Nat) (s : State) : State :=
  let e := engOf s n
  let s := endWindow n s
  let s := modEng n (fun e => { e with state := 2, switchPend := false, switching := none, paused := false, noInput := true }) s
  let s := onlyIf (!e.noInput) (optFault 0x4005 n []) s
  forEach (List.range 8) (fun m => withdraw (8 * n + m)) s

/-- A receive fibre shows light or none. -/
def lightFibre (f : Nat) (lit : Bool) (s : State) : State :=
  modFib f (fun x => if lit then { x with lit := true, darkAt := none } else { x with lit := false, locked := false }) s

/-- The input that bring-up selects (R295): LP unless its drop is at or above B and LS's is below B; none below C, none. -/
def chooseInput (s : State) (n : Nat) : Option Bool :=
  let first := !inputBelow s n false (fadeB s) && inputBelow s n true (fadeB s)
  if inputBelow s n first (fadeC s) then some first
  else if inputBelow s n (!first) (fadeC s) then some (!first) else none

/-- Bring an engine up on what it finds (R295, R554): every item is calibrated, which restores what a calibration restores (R282), and
every ring is locked. -/
def bringUp (n : Nat) (b : BringUp) (s : State) : State :=
  let s := loadBaselines n (raisePin n false (raisePin n true s))
  let s := setLight n false b.primary.isSome (setLight n true b.spare.isSome s)
  let s := sampleInput n false (b.primary.getD []) (sampleInput n true (b.spare.getD []) s)
  match chooseInput s n with
  | none => engineOut n s
  | some sp =>
    let s := modEng n (fun e => { e with sel := sp, state := 0, noInput := false, switching := none, paused := false }) s
    let s := forEach ((b.items.take 17).zipIdx) (fun x => recordItem n x.2 x.1) s
    let s := forEach ((List.range 9).filter (fun g => bit b.groupsFailed.toNat g)) (groupFails n) s
    let s := modEng n (fun e => { e with spareFor := if e.spareDue = 15 then e.spareFor else e.spareDue, spareDue := 15 }) s
    let s := forEach (List.range 8) (fun m => lightFibre (8 * n + m) (bit b.lit.toNat m)) s
    let failed := b.lockFailed.map (fun k => k.val)
    let s := lockRings n failed (List.range' 64 72 ++ (List.range 64).filter (fun k => bit b.lit.toNat (k / 8))) s
    let s := forEach (List.range 8) (fun m s => settleRings (8 * n + m) (modFib (8 * n + m) (fun x => { x with
      fecOver := false, fecRetry := false, measureDue := x.measured }) s)) s
    let s := applyHeld n (modEng n (fun e => { e with paused := false }) s)
    forEach (List.range 8) (fun m => startTraining (8 * n + m)) s

/-- OPTICS_BRING_UP: start-up step 5 of one engine (R295, R554). -/
def execOpticsBringUp (n : EngineNo) (b : BringUp) (s : State) : Host.Outcome State Fault Refusal :=
  .next (
    if s.boot.hub ∧ s.boot.starting ∧ s.boot.step = 5 ∧ s.boot.blocked = false ∧ (engOf s n.val).state = 3 then
      leaveStep5 (bringUp n.val b s)
    else s)

/-- ENGINE_INPUT_RECHECK: every 1 s an engine out of service looks for an input below B (R290, R559). -/
def execEngineInputRecheck (n : EngineNo) (b : BringUp) (s : State) : Host.Outcome State Fault Refusal :=
  .next (
    let e := engOf s n.val
    if s.boot.hub ∧ e.state = 2 ∧ e.lost = false then
      let t := setLight n.val false b.primary.isSome (setLight n.val true b.spare.isSome s)
      let t := sampleInput n.val false (b.primary.getD []) (sampleInput n.val true (b.spare.getD []) t)
      if inputBelow t n.val false (fadeB s) || inputBelow t n.val true (fadeB s) then
        leaveStep5 (bringUp n.val b s)
      else leaveStep5 t
    else s)

/-- RX_LIGHT_APPEAR: light comes to a dark receive input (R555); its rings are locked and the pair trains. A parked pair
trains again when the light was away for at least 100 ms (R563). Bit j of `failed` says that the ring of line j fails to lock. -/
def execRxLightAppear (f : PairNo) (failed : BitVec 8) (s : State) : Host.Outcome State Fault Refusal :=
  .next (
    let x := fibOf s f.val
    let e := engOf s (f.val / 8)
    if s.boot.hub ∧ (e.state = 0 ∨ e.state = 1) ∧ x.lit = false then
      let long := match x.darkAt with
        | some t => decide (t + 100000000 ≤ now s)
        | none => false
      let s := onlyIf (long && (pairOf s f.val).parked && !(pairOf s f.val).latched)
        (modPair f.val (fun p => { p with parked := false })) s
      let bad := ((List.range 8).filter (bit failed.toNat)).map (fun j => 8 * (f.val % 8) + j)
      startTraining f.val (settleRings f.val (lockRings (f.val / 8) bad (rxRings f.val) (lightFibre f.val true s)))
    else s)

/-! ## Codewords and markers (R280 to R284, R298, R299, R311) -/

/-- The message of a codeword takes its place in the marker period (R280): slot 0 is the marker's, and every fourth of the others
completes five flits. -/
def takeMessage (message : List Nat) (x : Fib) : Fib :=
  let x := { x with slot := (x.slot + 1) % 129, words := x.words + 1 }
  if x.slot = 1 then x
  else
    let l := x.group ++ message
    if l.length < 1024 then { x with group := l }
    else { x with group := [], flits := (groupFlits l).map (fun b => (b, flitFails b)) }

/-- CODEWORD_RECEIVE: the 34 symbols of each line make a codeword (R279), which is corrected, or counted and passed on uncorrected
(R280). What its flits do is the commands of 09: one that fails is a FLIT_CRC_FAILURE. -/
def execCodewordReceive (f : PairNo) (lines : List (List (BitVec 10))) (s : State) : Host.Outcome State Fault Refusal :=
  .next (
    if s.boot.hub then
      let w := codeSymbols lines
      match fecDecode w with
      | some v =>
        let s := modFib f.val (fun x => takeMessage (v.take 256) { x with fixedBits := x.fixedBits + bitErrors v w }) s
        if v = w then s else correctedWith 0x4020 none (f.val / 8) [f.val % 8] (bump 0x300301 (symbolErrors v w) s)
      | none =>
        correctedWith 0x4021 none (f.val / 8) [f.val % 8] (bump 0x300302 1 (modFib f.val (fun x =>
          takeMessage (w.take 256) { x with uncorr := min 0xFFFF (x.uncorr + 1), badWords := x.badWords + 1 }) s))
    else s)

/-- One bit of the CRC-10 of a lane word, most significant bit first. -/
def crc10Bit (c : Nat) (b : Bool) : Nat :=
  if decide (c ≥ 512) != b then (c * 2 ^^^ 0x233) % 1024 else c * 2 % 1024

/-- `CHECK` of a lane word's bits [9:0] (R281). -/
def laneCheck (v : Nat) : Nat := (List.range 10).foldl (fun c i => crc10Bit c (bit v (9 - i))) 0x3FF

/-- `LINE` of a lane word whose `CHECK` is good. -/
def laneLine (w : Option (BitVec 20)) : Option Nat :=
  match w with
  | none => none
  | some w => if laneCheck (w.toNat % 1024) = w.toNat / 1024 then some (w.toNat % 8) else none

/-- A lane word of an engine's fibre (R281). -/
def laneWord (s : State) (f j : Nat) : BitVec 20 :=
  let v := j + 8 * (f % 8) + 64 * (f / 8) + 512 * flag (engOf s (f / 8)).sel
  BitVec.ofNat 20 (v + 1024 * laneCheck v)

/-- The marker codeword that the engine sends on a fibre in slot 0 of each marker period (R280, R281, R284). The period of the own
direction has no command of its own: the model sends the marker as it takes the far end's (DESIGN CHOICE, log entry 28). -/
def sendMarker (f : Nat) (s : State) : State :=
  let x := fibOf s f
  let m : SentMarker :=
    { pair := f, words := (List.range 8).map (laneWord s f), power := x.rxPower, report := (List.range 8).map (fun j => x.heard.getD j 0) }
  { s with out := { s.out with markers := s.out.markers ++ [m] } }

/-- One lane word on line j: matching words in a row and wrong ones in a row; a word that fails its `CHECK` is ignored (R299). -/
def laneCount (w : Option (BitVec 20)) (j ok bad : Nat) : Nat × Nat :=
  match laneLine w with
  | none => (ok, bad)
  | some l => if l = j then (min 4 (ok + 1), 0) else (0, bad + 1)

/-- The words of one marker, or of its report, for eight rings from `base` on. -/
def markRings (n base : Nat) (words : List (Option (BitVec 20))) (s : State) : State :=
  forEach ((words.take 8).zipIdx) (fun x => modReso n (base + x.2) (fun r =>
    let c := laneCount x.1 x.2 r.ok r.bad
    { r with ok := c.1, bad := c.2 })) s

/-- Each of these rings has shown four matching words in a row (R298). -/
def ringsVerified (s : State) (n : Nat) (ks : List Nat) : Bool := ks.all (fun k => decide (4 ≤ (resoOf s n k).ok))

/-- The stages along the path of a fibre, in order of code, up to the far receive input (R310). -/
def pathStages (sel : Bool) : List Nat := flag sel :: List.range' 2 14

/-- Drop of one monitor in 0.01 dB; 0 while it has no baseline or no reading. -/
def monDrop (s : State) (n k : Nat) : Int :=
  let m := mget {} (engOf s n).mons k
  match m.base, m.read with
  | some b, some r => b - r
  | _, _ => 0

/-- Drop between two optional readings. -/
def optDrop (b r : Option Int) : Int :=
  match b, r with
  | some b, some r => b - r
  | _, _ => 0

/-- The drop of line `j` of a fibre's path at a stage that has line monitors, in 0.01 dB. -/
def stageLine (s : State) (f c j : Nat) : Int :=
  let n := f / 8
  if c < 2 then dyFloor (lineDrop s n (decide (c = 1)) j)
  else if c = 2 then monDrop s n (512 + j) else monDrop s n (256 * c + 8 * groupOf s f + j)

/-- The line on which the drop at a stage is largest. -/
def worstLine (s : State) (f c : Nat) : Nat :=
  (List.range 8).foldl (fun k j => if stageLine s f c k < stageLine s f c j then j else k) 0

/-- The drop of a fibre's path at a stage in 0.01 dB (R311): the largest over the lines, or its waveguide's or its fibre's. -/
def stageDrop (s : State) (f : Nat) (ways : List (Fin 9)) (c : Nat) : Int :=
  let x := fibOf s f
  if c < 5 then stageLine s f c (worstLine s f c)
  else if c < 0x0E then monDrop s (f / 8) (256 * c + (ways.getD (c - 5) 0).val)
  else if c = 0x0E then optDrop x.baseTx x.powTx else optDrop x.baseRx x.powRx

/-- Where a loss lies (R311): the first stage that drops 1.0 dB more than the one before, or the one that grows most. -/
def locateLoss (stages : List Int) : Nat :=
  let growth := (stages.zip (0 :: stages)).map (fun x => x.1 - x.2)
  match growth.findIdx? (fun g => decide (100 ≤ g)) with
  | some i => i
  | none => (growth.findIdx? (fun g => decide (g = growth.foldl max (growth.headD 0)))).getD 0

/-- A path reads 1.0 dB or more below its baseline at its output or at the far input (R311). -/
def pathLost (x : Fib) : Bool := decide (100 ≤ optDrop x.baseTx x.powTx) || decide (100 ≤ optDrop x.baseRx x.powRx)

/-- A loss that has just come up is located, logged and kept among the 16 latest (R311). A stage without a waveguide or a line of
its own gives 0xFF there (DESIGN CHOICE, log entry 28). -/
def lossStep (f : Nat) (m : Marker) (s : State) : State :=
  let x := fibOf s f
  if pathLost x then
    if x.lossSeen then s
    else
      let stages := pathStages (engOf s (f / 8)).sel
      let drops := stages.map (stageDrop s f m.ways)
      let i := locateLoss drops
      let stage := stages.getD i 0
      let line := if stage < 5 then worstLine s f stage else 0xFF
      let way := if 5 ≤ stage ∧ stage < 0x0E then (m.ways.getD (stage - 5) 0).val else 0xFF
      let group := if stage < 3 then 0xFF else groupOf s f
      let rec_ := [now s, stage, group, way, f, line, (drops.getD i 0 / 10).toNat]
      let s := { s with optics := { s.optics with losses := (rec_ :: s.optics.losses).take 16 } }
      optFault 0x4016 (f / 8) [stage, group, way, f % 8, line] (modFib f (fun x => { x with lossSeen := true }) s)
  else modFib f (fun x => { x with lossSeen := false }) s

/-- A locked ring is on the wrong line (R299): it is counted with its fibre and line, and it alone is locked again. -/
def wrongRing (f k : Nat) (s : State) : State :=
  openRing (f / 8) k (correctedWith 0x4010 none (f / 8) [f % 8, k / 8, k % 8] (bump 0x300305 1 s))

/-- The locked rings of a fibre that two words in a row have shown on a wrong line (R299). -/
def wrongRings (s : State) (f : Nat) : List Nat :=
  (ringsOf s f).filter (fun k => (resoOf s (f / 8) k).locked && decide (2 ≤ (resoOf s (f / 8) k).bad))

/-- What a marker's words and report count towards, before they are judged. -/
def takeMarker (f : Nat) (m : Marker) (s : State) : State :=
  let n := f / 8
  let s := markRings n (8 * (f % 8)) m.words s
  let s := match txRings s f with
    | [] => s
    | k :: _ => markRings n k (m.report.map some) s
  let heard := fun (x : Fib) => (List.range 8).map (fun j => match m.words.getD j none with
    | some w => w
    | none => x.heard.getD j 0)
  modFib f (fun x => { x with heard := heard x, rxPower := some m.ownReceive, powTx := some m.ownPower, powRx := some m.reportPower, slot := 1, group := [] })
    (modEng n (fun e => { e with mons := mmod {} e.mons (256 * 0x0F + f % 8) (fun y => { y with read := some m.ownReceive }) }) s)

/-- MARKER_CODEWORD: lane words and the receive report (R281, R284): rings are counted towards their verification (R298) or found on
a wrong line, which withdraws the fibre and locks those rings again (R299); the class is measured where that is due, and losses are
located (R311). -/
def execMarkerCodeword (f : PairNo) (m : Marker) (s : State) : Host.Outcome State Fault Refusal :=
  .next (
    if s.boot.hub ∧ (fibOf s f.val).lit then
      let x := fibOf s f.val
      let n := f.val / 8
      let s := sendMarker f.val (takeMarker f.val m s)
      let wrong := wrongRings s f.val
      if wrong ≠ [] ∧ x.locked then
        modFib f.val (fun x => { x with locked := false }) (withdraw f.val (forEach wrong (wrongRing f.val) s))
      else
        let tx := txRings s f.val
        let s := if tx ≠ [] ∧ ringsVerified s n tx then
            if x.measured = false ∨ x.measureDue then remeasure f.val s
            else if ringsVerified s n (rxRings f.val) then returnPair f.val s else s
          else s
        lossStep f.val m s
    else s)

/-- PRE_FEC_WINDOW: the estimate of one 1 ms window (R282), an uncorrectable codeword counting as 100 bits, out of the 2,720 bits of each
codeword: a fibre above 2.4e-4 is withdrawn and retrained once, then out of service with 0x4014. -/
def execPreFecWindow (f : PairNo) (s : State) : Host.Outcome State Fault Refusal :=
  .next (
    if s.boot.hub then
      let s := modFib f.val (fun x => { x with
        est := (x.fixedBits + 100 * x.badWords, 2720 * x.words), words := 0, badWords := 0, fixedBits := 0 }) s
      let x := fibOf s f.val
      if fibreUp s f.val then
        if 24 * x.est.2 < 100000 * x.est.1 then
          if x.fecRetry then
            withdraw f.val (optFault 0x4014 (f.val / 8) [f.val % 8] (modFib f.val (fun x => { x with fecOver := true, fecRetry := false }) s))
          else retrain f.val (modFib f.val (fun x => { x with fecRetry := true }) s)
        else modFib f.val (fun x => { x with fecRetry := false }) s
      else s
    else s)

/-! ## Fade and switchover (R286 to R293) -/

/-- Thresholds A and B on one input (R289, R290): 0x4001 and a planned switchover for the selected one, 0x4004 for the other. -/
def judgeInput (n : Nat) (sp : Bool) (s : State) : State :=
  let e := engOf s n
  let lit := inputLit e sp
  let d := inputDrop s n sp
  let reach (thr : Nat) : Bool := !lit || dyLe (dyInt (10 * thr)) d
  let under (thr : Nat) : Bool := lit && dyLe d (dyInt (10 * thr - 50))
  let clearA := if under (fadeA s) then (if sp then e.clearAS else e.clearAP) + 1 else 0
  let clearB := if under (fadeB s) then (if sp then e.clearBS else e.clearBP) + 1 else 0
  let pastA := (if sp then e.pastAS else e.pastAP) && decide (clearA < 100)
  let pastB := (if sp then e.pastBS else e.pastBP) && decide (clearB < 100)
  let selected := decide (e.sel = sp)
  let crossA := selected && reach (fadeA s) && !pastA
  let crossB := reach (fadeB s) && !pastB
  let plan := crossB && selected && inputBelow s n (!sp) (fadeC s) && !e.switchPend && e.switching.isNone
  let s := modEng n (fun e =>
    let e := if sp then { e with clearAS := clearA, clearBS := clearB, pastAS := pastA || crossA, pastBS := pastB || crossB }
      else { e with clearAP := clearA, clearBP := clearB, pastAP := pastA || crossA, pastBP := pastB || crossB }
    if plan then { e with switchPend := true, pendSince := now s, releaseAfter := none, icSent := false } else e) s
  let s := onlyIf crossA (optFault 0x4001 n [flag sp]) s
  onlyIf (crossB && !selected) (optFault 0x4004 n [flag sp]) s

/-- One input's sample: its filters, a new baseline after a restore (R294) or an automatic one (R288). -/
def takeSample (n : Nat) (sp : Bool) (powers : List Int) (s : State) : State :=
  let s := setLight n sp (decide (powers ≠ [])) s
  let s := sampleInput n sp powers s
  let e := engOf s n
  let due := (if sp then e.rebaseS else e.rebaseP) && decide (powers ≠ [])
  let s := if due then
      recordBaseline n sp none (modEng n (fun e => if sp then { e with rebaseS := false } else { e with rebaseP := false }) s)
    else s
  autoCommission n sp s

/-- LASER_SAMPLE: Vigil's 1 ms sample of both inputs (R287): baselines, thresholds A and B. An empty list is no light. An input whose
pin is low has been released, and its darkness crosses no threshold (DESIGN CHOICE, log entry 28). -/
def execLaserSample (n : EngineNo) (primary spare : List Int) (s : State) : Host.Outcome State Fault Refusal :=
  .next (
    let e := engOf s n.val
    if s.boot.hub then
      let s := takeSample n.val true spare (takeSample n.val false primary s)
      if e.state = 0 then
        let s := if e.reqP then judgeInput n.val false s else s
        if e.reqS then judgeInput n.val true s else s
      else s
    else s)

/-- LASER_LIGHT_TIMEOUT: no light 1 s after a pin rose, 0x4006 once for that rise (R286). -/
def execLaserLightTimeout (n : EngineNo) (spare : Bool) (s : State) : Host.Outcome State Fault Refusal :=
  .next (
    let e := engOf s n.val
    let due := if spare then e.reqS && !e.lightS && !e.noLightS else e.reqP && !e.lightP && !e.noLightP
    if due then
      optFault 0x4006 n.val [flag spare]
        (modEng n.val (fun e => if spare then { e with noLightS := true } else { e with noLightP := true }) s)
    else s)

/-- The input switch moves (R293): the engine's pairs are withdrawn while all its rings relock. -/
def beginSwitch (n : Nat) (planned quiet : Bool) (s : State) : State :=
  let s := forEach (List.range 8) (fun m => if quiet then withdrawQuiet (8 * n + m) else withdraw (8 * n + m)) s
  let s := modEng n (fun e => { e with
    state := 1, sel := !e.sel, switching := some planned, switchPend := false, icSent := false, paused := false }) s
  let s := forEach (List.range 8) (fun m => modFib (8 * n + m) (fun x => { x with locked := false })) s
  forEach (List.range 136) (openRing n) s

/-- LASER_FADE_TRIP: threshold C, or its error clause, on the selected input (R289, R293): an immediate switchover, or out of
service when the other input is not below C (R290). -/
def execLaserFadeTrip (n : EngineNo) (s : State) : Host.Outcome State Fault Refusal :=
  .next (
    let e := engOf s n.val
    if s.boot.hub ∧ e.state = 0 then
      if inputBelow s n.val (!e.sel) (fadeC s) then beginSwitch n.val false false (endWindow n.val s)
      else engineOut n.val s
    else s)

/-- Some direction of the package would have no fibre in service while engine `n` switches (R292). -/
def switchStarves (s : State) (n : Nat) : Bool :=
  (List.range 8).any (fun m =>
    fibreUp s (8 * n + m) && (upPairs s (dirOf (8 * n + m))).all (fun f => decide (f / 8 = n)))

/-- The Calend that fell last (R50). -/
def lastCalend (s : State) : Nat := (s.frames.calDue - 1) * 2 ^ s.frames.k

/-- PLANNED_SWITCHOVER: a pending switchover begins at the start of the engine's window, whose notices went out at the Calend before
it, or at the first Calend 1 s after the crossing (R292); it is deferred while another engine is withdrawn and a direction would be
left with no fibre. -/
def execPlannedSwitchover (n : EngineNo) (s : State) : Host.Outcome State Fault Refusal :=
  .next (
    let e := engOf s n.val
    let other := (List.range 8).any (fun k => decide (k ≠ n.val) && decide ((engOf s k).state = 1))
    if e.switchPend ∧ e.state = 0 ∧ ((e.icActive ∧ e.icSwitch) ∨ e.pendSince + 1000000000 ≤ lastCalend s) ∧
        inputBelow s n.val (!e.sel) (fadeC s) ∧ ¬(other ∧ switchStarves s n.val) then
      beginSwitch n.val true (e.icSwitch && e.icSent) (onlyIf (!e.icSwitch) (endWindow n.val) s)
    else s)

/-- SWITCHOVER_COMPLETE: the rings are relocked and verified; `failed` names those that fail. The pairs return,
their classes are measured again, and a release drops its pin (R293, R294). -/
def execSwitchoverComplete (n : EngineNo) (failed : List RingNo) (s : State) : Host.Outcome State Fault Refusal :=
  .next (
    let e := engOf s n.val
    match e.switching with
    | none => s
    | some planned =>
      let s := modEng n.val (fun e => { e with state := 0, switching := none, releaseAfter := none }) s
      let s := match e.releaseAfter with
        | some sp => dropPin n.val sp s
        | none => s
      let lit := (List.range 64).filter (fun k => (fibOf s (8 * n.val + k / 8)).lit)
      let s := lockRings n.val (failed.map (fun k => k.val)) (List.range' 64 72 ++ lit) s
      let s := forEach (List.range 8) (fun m s => returnPair (8 * n.val + m) (remeasure (8 * n.val + m) (settleRings (8 * n.val + m) s))) s
      let s := bump 0x300304 1 (applyHeld n.val s)
      optFault (if planned then 0x4002 else 0x4003) n.val [] s)

/-- RING_LOCK_ATTEMPT: one attempt of a ring's lock ends (R297): its heater has been raised from the corrected start, never lowered,
to where its monitor showed a line. Verified by four matching words (R298) it is locked, and with its last ring the fibre trains or
returns; otherwise it is tried again, and after three attempts it has failed with 0x4011. -/
def execRingLockAttempt (f : PairNo) (transmit : Bool) (line : Fin 8) (heater : Int) (s : State) : Host.Outcome State Fault Refusal :=
  .next (
    let n := f.val / 8
    let e := engOf s n
    match (if transmit then txRings s f.val else rxRings f.val)[line.val]? with
    | none => s
    | some k =>
      let r := resoOf s n k
      if s.boot.hub ∧ (e.state = 0 ∨ e.state = 1) ∧ (fibOf s f.val).lit ∧ r.locked = false ∧ r.failed = false then
        let h := max (ringStart s n k) heater
        if 4 ≤ r.ok then
          let s := settleRings f.val (modReso n k (fun r => { r with heater := h, locked := true, attempts := 0 }) s)
          if (fibOf s f.val).locked = false then s
          else if (pairOf s f.val).level = 0 then startTraining f.val s else returnPair f.val s
        else if 2 ≤ r.attempts then
          modFib f.val (fun x => { x with failed := true }) (withdraw f.val (failRing n k s))
        else
          let h := ringStart s n k
          modReso n k (fun r => { r with heater := h, attempts := r.attempts + 1, ok := 0, bad := 0 }) s
      else s)

/-! ## Groups and the mesh (R301, R304, R306) -/

/-- GROUP_FAULT: a transmit group raises a modulator fault (R301). -/
def execGroupFault (n : EngineNo) (g : Fin 9) (s : State) : Host.Outcome State Fault Refusal :=
  .next (if s.boot.hub ∧ (engOf s n.val).state ≠ 3 then groupFails n.val g.val s else s)

/-- MESH_CHANGE_DONE: the mesh has settled and the far ends have relocked; traffic resumes (R304). -/
def execMeshChangeDone (n : EngineNo) (s : State) : Host.Outcome State Fault Refusal :=
  .next (modEng n.val (fun e => { e with paused := false }) s)

/-- TRIMMER_UPDATE: the monitors of an engine are read (R310), by stage and number within the stage, and its interferometers' bias
trimmers follow them (R306); no fibre pauses. The control law is not given, so the new biases are operands. -/
def execTrimmerUpdate (n : EngineNo) (readings : List (Fin 17 × Fin 81 × Int)) (trims : List (Fin 36 × Int)) (s : State) :
    Host.Outcome State Fault Refusal :=
  .next (
    if s.boot.hub then
      modEng n.val (fun e => { e with
        mons := (readings.filter (fun x => monKeys.contains (256 * x.1.val + x.2.1.val))).foldl (fun m x =>
          mmod {} m (256 * x.1.val + x.2.1.val) (fun y => { y with read := some x.2.2 })) e.mons
        trims := trims.foldl (fun m x => mset 0 m x.1.val x.2) e.trims }) s
    else s)

/-- INTERCALARY_WINDOW_END: the item's results are taken (R314, R315): what calibration sets is recorded, and a group that fails is
out of service (R301); a receive channel has its rings relocked from their new starts and its class measured by `margin`, in
0.01 dB, and its pair returns at the next Calend. A window that a planned switchover took gives no results (R316). -/
def execIntercalaryWindowEnd (n : EngineNo) (ok : Bool) (margin : Int) (cal : ItemCal) (s : State) :
    Host.Outcome State Fault Refusal :=
  .next (
    let e := engOf s n.val
    if e.icActive = false then s
    else if e.icSwitch then modEng n.val (fun e => { e with icActive := false, icSwitch := false }) s
    else
      let s := modEng n.val (fun e => { e with
        icActive := false, nextItem := (e.icItem + 1) % 17, icSub := false
        icSubEnd := e.icSub && ok, icReturn := decide (9 ≤ e.icItem) }) s
      let s := onlyIf ok (recordItem n.val e.icItem cal) s
      if e.icItem < 9 then
        if ok then
          let s := forEach (List.range' (64 + 8 * e.icItem) 8) (fun k => modReso n.val k (fun r => { r with failed := false })) s
          forEach ((List.range 8).filter (fun m => decide (e.src.getD m 15 = e.icItem ∨ groupOf s (8 * n.val + m) = e.icItem)))
            (fun m s => modFib (8 * n.val + m) (fun x => { x with
              failed := ringsFailed s (8 * n.val + m), measureDue := x.measured }) s) s
        else if e.icSub then
          optFault 0x4012 n.val [e.icItem]
            (modEng n.val (fun e => { e with grpFail := e.grpFail ||| BitVec.ofNat 9 (2 ^ e.icItem) }) s)
        else groupFails n.val e.icItem s
      else
        let f := 8 * n.val + (e.icItem - 9)
        if ok then
          let s := onlyIf (fibOf s f).lit (lockRings n.val [] (rxRings f)) s
          setClass f margin (settleRings f (modFib f (fun x => { x with fecOver := false, fecRetry := false }) s))
        else modFib f (fun x => { x with failed := true, locked := false }) (withdraw f (optFault 0x4011 n.val [e.icItem - 9] s)))

/-! ## Losses (R333, R320) -/

/-- ENGINE_LOST: an EIC or PIC fails in service (R320, R333): 0x4050, its pins fall and its pairs are carried elsewhere. -/
def execEngineLost (n : EngineNo) (s : State) : Host.Outcome State Fault Refusal :=
  .next (
    let e := engOf s n.val
    if s.boot.hub ∧ e.lost = false ∧ e.state ≠ 3 then
      let s := modEng n.val (fun e => { e with
        lost := true, state := 2, reqP := false, reqS := false, switchPend := false, switching := none, icActive := false, icSwitch := false
        paused := false }) s
      let s := forEach (List.range 8) (fun m => withdraw (8 * n.val + m)) s
      leaveStep5 (optFault 0x4050 n.val [] s)
    else s)

/-- RX_LIGHT_LOSS: no light, or no correctable codeword, for 10 µs: the pair is withdrawn on this side (R333). -/
def execRxLightLoss (f : PairNo) (s : State) : Host.Outcome State Fault Refusal :=
  .next (
    if s.boot.hub ∧ (fibOf s f.val).lit then
      let s := withdraw f.val s
      let s := modFib f.val (fun x => { x with lit := false, locked := false, darkAt := some (now s), heard := [], slot := 0, group := [] }) s
      let s := forEach (rxRings f.val) (openRing (f.val / 8)) s
      leaveStep7 (modPair f.val (fun p => { p with training := false, needResume := p.needResume || decide (p.level ≠ 0) }) s)
    else s)

end Sys2Proof.Machine
end

