-- ==== Sys2Proof/Machine/TwinOps.lean ====
section
/-!
DEFINITION. Twin operations (11): Keep regions and the Mirror area, mirror writes, pairing records, the loss of a partner,
rebuild phases and seals.
-/

set_option Elab.async false

namespace Sys2Proof.Machine

/-- A twin fault (R420): logged with the partner's coordinate, while one is known, and its serial, and with what else it concerns. -/
def twinFault (code ctx : Nat) (also : List Nat) (s : State) : State :=
  raiseWith code none ctx (s.twin.partnerCoord.toList.map BitVec.toNat ++ [s.twin.partnerSerial.toNat] ++ also) s

/-! ## Keep regions and the Mirror area (R396 to R399) -/

/-- 2 MiB. -/
def pageBytes : Nat := 2 ^ 21

/-- The total size of a Keep table. -/
def keepTotalOf (l : List KeepEntry) : Nat := (l.map (fun e => e.size.toNat)).foldl (fun a b => a + b) 0

/-- The Keep page that holds a local address, pages taken in entry order (R397). -/
def keepPageOf : List KeepEntry → Nat → Option Nat
  | [], _ => none
  | e :: r, a =>
    if e.base.toNat ≤ a ∧ a < e.base.toNat + e.size.toNat then some ((a - e.base.toNat) / pageBytes)
    else (keepPageOf r a).map (fun p => p + e.size.toNat / pageBytes)

/-- The local address of a Keep page. -/
def keepPageAddr : List KeepEntry → Nat → Option Nat
  | [], _ => none
  | e :: r, p =>
    if p < e.size.toNat / pageBytes then some (e.base.toNat + p * pageBytes)
    else keepPageAddr r (p - e.size.toNat / pageBytes)

/-- The end of the Mirror area in force: the image, then 256 MiB of journal when the image has a size (R398). -/
def mirrorEnd (s : State) : Nat :=
  s.twin.mirrorBase + s.twin.mirrorSize + (if s.twin.mirrorSize = 0 then 0 else 2 ^ 28)

/-- A local address lies in the Mirror area (R399). -/
def inMirror (s : State) (a : Nat) : Bool := decide (s.twin.mirrorBase ≤ a) && decide (a < mirrorEnd s)

/-- Two extents overlap. -/
def overlaps (a n b m : Nat) : Bool := decide (0 < n) && decide (0 < m) && decide (a < b + m) && decide (b < a + n)

/-- The Mirror area lies below the capacity and overlaps no own Keep region (R398). -/
def mirrorOk (s : State) : Bool :=
  decide (mirrorEnd s ≤ capacity s) &&
    s.twin.keep.all (fun e => !overlaps e.base.toNat e.size.toNat s.twin.mirrorBase (mirrorEnd s - s.twin.mirrorBase))

/-- No two entries of a table overlap. -/
def keepDisjoint : List KeepEntry → Bool
  | [] => true
  | e :: r => r.all (fun f => !overlaps e.base.toNat e.size.toNat f.base.toNat f.size.toNat) && keepDisjoint r

/-- A Keep table is valid (R396). -/
def keepOk (s : State) (l : List KeepEntry) : Bool :=
  decide (keepTotalOf l ≤ 2 ^ 32) && keepDisjoint l &&
    l.all (fun e => decide (e.size = 0) || (decide (e.base.toNat % pageBytes = 0) && decide (e.size.toNat % pageBytes = 0) &&
      decide (e.base.toNat + e.size.toNat ≤ capacity s) &&
      !overlaps e.base.toNat e.size.toNat s.twin.mirrorBase (mirrorEnd s - s.twin.mirrorBase)))

/-- The 16 entries of a Keep table's 256 bytes (R396). -/
def keepEntries (v : List Byte) : List KeepEntry :=
  (List.range 16).map (fun i => ⟨BitVec.ofNat 64 (fieldAt v (16 * i) 8), BitVec.ofNat 64 (fieldAt v (16 * i + 8) 8)⟩)

/-- The bytes of a Keep table. -/
def keepBytes (l : List KeepEntry) : List Byte :=
  ((List.range 16).flatMap (fun i =>
    let e := l.getD i ⟨0, 0⟩
    leBytes 8 e.base.toNat ++ leBytes 8 e.size.toNat))

/-- The local address in the Mirror image of byte `off` of the owner's Keep page `p`. -/
def imageAddr (s : State) (p off : Nat) : Nat := s.twin.mirrorBase + p * pageBytes + off

/-! ## Sending on VC4 (R395, R402, R412) -/

/-- A rebuild's data. -/
def isRebuild (x : Payload) : Bool :=
  match x with
  | .twin (.rebuildData ..) => true
  | _ => false

/-- The pair that holds a twin slot. -/
def twinPair (s : State) (slot : Nat) : Nat := (slotPair s 10 slot).getD (8 * slot + 7)

/-- Queue a twin packet in a pair's VC4, ahead of rebuild data (R412). -/
def enqueueTwin (f : Nat) (p : TwinPkt) (s : State) : State :=
  if isRebuild (.twin p) then enqueue f 4 (.twin p) s
  else modPair f (fun x => { x with q := mmod [] x.q 4 (fun l =>
    l.filter (fun y => !isRebuild y.2) ++ [(false, .twin p)] ++ l.filter (fun y => isRebuild y.2)) }) s

/-- Queue a twin packet that belongs to no slot on the direction's leading pair. -/
def sendTwin (p : TwinPkt) (s : State) : State := enqueueTwin (leadPair s 10) p s

/-- Queued twin packets of a pair that are no rebuild data. -/
def twinQueued (s : State) (f : Nat) : Nat := ((mget [] (pairOf s f).q 4).filter (fun y => !isRebuild y.2)).length

/-! ## Mirror writes (R401, R402, R413) -/

/-- The Keep page of a local address that a write must mirror. -/
def mirrorPage (s : State) (a : Nat) : Option Nat := if s.twin.mirrored then keepPageOf s.twin.keep a else none

/-- A page's bit is set, so its writes are carried by the copy (R413). -/
def pageDirty (s : State) (p : Nat) : Bool := mget false s.twin.dirtyP p

/-- A Keep write can take effect now: its mirror write can enter VC4 (R402). -/
def mirrorRoom (s : State) (a : Nat) : Bool :=
  match mirrorPage s a with
  | none => true
  | some p =>
    pageDirty s p ||
      (let f := twinPair s (slotHash a % 8)
       decide (twinQueued s f < creditsHeld (pairOf s f) 4))

/-- A Keep write waits for VC4 credit: `STALL` (R402). -/
def stallKeep (s : State) : State :=
  if s.twin.stall then s else { s with twin := { s.twin with stall := true, stallSince := now s } }

/-- No Keep write waits any more. -/
def unstallKeep (s : State) : State :=
  if s.twin.stall then
    bump 0x900404 ((now s - s.twin.stallSince) / 1000) { s with twin := { s.twin with stall := false } }
  else s

/-- The low 16 bits of the epoch that a Keep write belongs to: that of the next Calend (R404). If this proves to be a continuation the
epoch goes on, and the write is sealed with the index that follows (DESIGN CHOICE, log entry 29). -/
def keepEpochLow (s : State) : Nat := s.frames.calDue % 65536

/-- The write to a line of a Keep region that has just taken effect is mirrored (R401); `mask` has bit i for each byte
touched. On a page still to be copied it sets the page's bit again (R413). -/
def mirrorLine (line mask : Nat) (s : State) : State :=
  match mirrorPage s (line * 128) with
  | none => s
  | some p =>
    if pageDirty s p then { s with twin := { s.twin with flying := mset false s.twin.flying p false } }
    else
      bump 0x900401 1 (enqueueTwin (twinPair s (slotHash (line * 128) % 8))
        (.mirrorWrite (poisoned s line) (BitVec.ofNat 16 (keepEpochLow s)) (BitVec.ofNat 64 (line * 128))
          (BitVec.ofNat 128 mask) (storeBytes s (line * 128) 128)) (unstallKeep s))

/-- A line has been written in its home slice, or is written back (R246). -/
def setDirty (line : Nat) (d : Bool) (s : State) : State :=
  { s with store := { s.store with dirty := mset false s.store.dirty line d } }

/-- Drop every far-part copy of a line of the own Store (R46). -/
def farDrop (line : Nat) (s : State) : State :=
  let g := gaMake (ownKey s) 0 (line * 128) / 128
  { s with store := { s.store with far := s.store.far.filter (fun c => decide (c.1 / 8 ≠ g)) } }

/-- Write bytes at their home slices, each line poisoned or clean (R412). -/
def putBytes (a : Nat) (data : List Byte) (poison : Bool) (s : State) : State :=
  forEach (linesOf a data.length) (fun l s => farDrop l (setDirty l true (setPoison l poison s))) (storeWrite a data s)

/-! ## States (R408, R414, R416, R417) -/

/-- The state follows from protection and the copy held, unless the member is Orphan or Lost. -/
def settleTwin (s : State) : State :=
  if s.twin.state = 3 ∨ s.twin.state = 4 then s
  else
    let st := if s.twin.partnerCoord.isNone then 0
      else if s.twin.ownProt && s.twin.held && decide (s.twin.phase = 0) then 2 else 1
    { s with twin := { s.twin with state := st } }

/-- The partner is lost (R408, R416): a copy of its own state that was not complete is lost with it; otherwise the copy held
is frozen with `code`, 0x7001 or 0x7014. -/
def partnerLost (code : Nat) (byTime : Bool) (s : State) : State :=
  let w := s.twin
  let w := { w with journal := [], markers := [], ownProt := false, mirrored := false, flying := [], lossByTime := byTime }
  if w.receiver then
    let s := { s with twin := { w with state := 4, phase := 0, receiver := false, held := false, rbGot := [], rbDone := [] } }
    let s := if w.phase = 1 then
        forEach w.keep (fun e => storeOpen e.base.toNat e.size.toNat) s
      else s
    twinFault 0x7F01 w.keepSealed [] s
  else if w.held || w.frozen then
    twinFault code w.mirrorSealed [] { s with twin := { w with state := 3, frozen := true, phase := 0, source := false } }
  else settleTwin { s with twin := { w with partnerCoord := none, phase := 0, source := false } }

/-! ## Pairing records (R395, R400) -/

/-- The record that this package sends. -/
def ownPairing (s : State) : PairRec :=
  { serial := s.nv.serial, coord := BitVec.ofNat 16 (ownKey s), keepValid := s.twin.keepValid
    keepTotal := BitVec.ofNat 64 (keepTotalOf s.twin.keep), mirrorSize := BitVec.ofNat 64 s.twin.mirrorSize
    sealed := BitVec.ofNat 64 s.twin.keepSealed, table := s.twin.keep
    heldTable := if s.twin.frozen then some s.twin.partnerTable else none }

/-- Send the pairing record in its three parts (R395); a detached package sends no twin traffic (R418). -/
def sendPairing (s : State) : State :=
  if s.twin.detached then s else forEach [0, 1, 2] (fun part s => sendTwin (.pairing part (ownPairing s)) s) s

/-- The pages of a Keep total, all marked. -/
def allPages (total : Nat) : SMap Bool := (List.range (total / pageBytes)).map (fun p => (p, true))

/-- A phase has been completed (R420): 0x7006, with 0x7007 when it carried poisoned lines. -/
def phaseDone (s : State) : State :=
  let s := twinFault 0x7006 0 [] (bump 0x900403 1 s)
  let n := s.twin.rbPoison
  onlyIf (decide (n ≠ 0)) (twinFault 0x7007 n []) { s with twin := { s.twin with rbPoison := 0 } }

/-- Start the protect phase as its source (R411): every own Keep page is to be sent; with none it ends at once. -/
def startProtect (s : State) : State :=
  let pages := allPages (keepTotalOf s.twin.keep)
  let s := { s with twin := { s.twin with
    dirtyP := pages, flying := [], mirrored := true, source := decide (pages ≠ []), ownProt := false
    phase := if pages = [] then (if s.twin.receiver then s.twin.phase else 0) else 2 } }
  if pages = [] then phaseDone s else s

/-- Start the restore phase as its source (R411, item 4 of R400). -/
def startRestore (s : State) : State :=
  let pages := allPages (keepTotalOf s.twin.partnerTable)
  let s := { s with twin := { s.twin with dirtyR := pages, flying := [], source := true, phase := 1, state := 1 } }
  if pages = [] then startProtect (phaseDone { s with twin := { s.twin with frozen := false } }) else s

/-- Become the receiver of the partner's Keep (R411): nothing of it is held until its first seal commits. -/
def startReceive (r : PairRec) (s : State) : State :=
  let some_ := decide (keepTotalOf r.table ≠ 0)
  { s with twin := { s.twin with
    partnerSerial := r.serial, partnerTable := r.table, frozen := false, held := false, journal := [], markers := []
    rbGot := [], rbDone := [], receiver := some_, phase := if some_ then 2 else s.twin.phase } }

/-- The restore phase has ended at its receiver: its Keep regions are mirrored from now on, and the twin's own Keep comes
next (R411, R414). -/
def restoreReceived (s : State) : State :=
  let some_ := decide (keepTotalOf s.twin.partnerTable ≠ 0)
  phaseDone { s with twin := { s.twin with
    mirrored := true, receiver := some_, phase := if some_ then 2 else 0, rbGot := [], rbDone := [] } }

/-- The restore phase begins at its receiver: it adopts the table that its twin held (R411), with 0x7006. -/
def adoptTable (l : List KeepEntry) (s : State) : State :=
  let s := { s with
    twin := { s.twin with keep := l, rbGot := [], rbDone := [], receiver := true, phase := 1 }
    mgmt := { s.mgmt with latest := mset [] s.mgmt.latest 0x900101 (keepBytes l)
                          inForce := mset [] s.mgmt.inForce 0x900101 [] } }
  let s := twinFault 0x7006 1 (l.flatMap (fun e => [e.base.toNat, e.size.toNat])) s
  if keepTotalOf l = 0 then restoreReceived s else s

/-- A pairing record is judged by R400. -/
def judgePairing (r : PairRec) (s : State) : State :=
  let fresh := s.twin.newEpoch
  let s := { s with twin := { s.twin with newEpoch := false, lastFlit := now s } }
  let s := if fresh ∧ r.keepValid = false ∧ s.twin.state ≠ 3 ∧ s.twin.state ≠ 4 ∧ s.twin.partnerCoord.isSome then
      partnerLost 0x7001 false s
    else s
  if s.twin.state = 4 then s
  else if r.coord.toNat ≠ neighbour s (ownKey s) 10 then
    settleTwin (raiseWith 0x7003 none r.coord.toNat [r.coord.toNat, r.serial.toNat] { s with twin := { s.twin with
      held := false, mirrored := false, ownProt := false, partnerCoord := none } })
  else
    let s := { s with twin := { s.twin with partnerCoord := some (BitVec.ofNat 14 r.coord.toNat) } }
    let ownOk := keepOk s s.twin.keep
    let rec_ := some (s.nv.serial, s.twin.keep)
    let changed := decide (s.twin.sentRec ≠ rec_)
    let back := s.twin.state = 3 ∧ r.keepValid
    -- the holder's side
    let s := if s.twin.mirrorSize < r.keepTotal.toNat ∨ mirrorOk s = false then
        twinFault 0x7002 0 [r.keepTotal.toNat, r.mirrorSize.toNat] { s with twin := { s.twin with held := false, receiver := false } }
      else if !ownOk then twinFault 0x7002 1 [] { s with twin := { s.twin with mirrored := false, ownProt := false } }
      else if s.twin.frozen ∧ r.keepValid = false then
        if s.twin.phase = 1 ∧ s.twin.source ∧ fresh = false then s else startRestore s
      else if s.twin.partnerTable ≠ r.table ∨ s.twin.partnerSerial ≠ r.serial ∨ back then
        startReceive r { s with twin := { s.twin with state := 1 } }
      else s
    -- the owner's side
    let s := { s with twin := { s.twin with sentRec := rec_ } }
    match r.heldTable with
    | some l =>
      if s.twin.keepValid = false then
        if s.twin.phase = 1 ∧ s.twin.receiver ∧ fresh = false then s else adoptTable l s
      else settleTwin s
    | none =>
      if ownOk ∧ keepTotalOf s.twin.keep ≤ r.mirrorSize.toNat ∧ s.twin.phase ≠ 1 ∧
          (changed ∨ back ∨ (fresh ∧ r.keepValid = false)) then settleTwin (startProtect s)
      else settleTwin s

end Sys2Proof.Machine
end

