-- ==== Sys2Proof/Machine/Links.lean ====
section
/-!
DEFINITION. The link layer at work (09): sending by the service order, acceptance, acknowledgement and replay, credits and
Ledgers, phase streams, training and Resume, link notices.
-/

set_option Elab.async false

namespace Sys2Proof.Machine

/-! ## Headers (R322, R327) -/

/-- The pair of this direction whose acknowledgement or credit return the next flit on `f` carries. -/
def ackPair (s : State) (f : Nat) : Nat :=
  let due (g : Nat) : Bool := (pairOf s g).ackDue || (pairOf s g).rphaseDue
  if due f then f else ((dirPairs (dirOf f)).find? due).getD f

/-- The acknowledgement fields for a pair: `RPHASE` and `ACK`. -/
def ackFields (p : Pair) : Bool × Nat :=
  if p.rphaseDue then (true, (mget 0 p.rxPhase p.rphaseId + 65535) % 65536) else (false, ackValue p)

/-- Put a flit on a fibre: `x` holds its body and space, the header's acknowledgement is filled in here. -/
def emit (f : Nat) (x : Sent) (s : State) : State :=
  let r := ackPair s f
  let a := ackFields (pairOf s r)
  let r := if x.crCount = 0 then r else x.rhome
  wire { x with rhome := slotOf s r, rphase := a.1, ack := a.2 } (modPair r (ackSent a.1) s)

/-- The `TYPE`, virtual channel and contents of a sequenced body (R323). -/
def sentOf (s : State) (f g seq : Nat) (x : TxFlit) : Sent :=
  let base : Sent := { pair := f, typ := 1, carry := decide (f ≠ g), home := slotOf s g, rhome := x.rhome, seq := seq % 65536
                       ack := 0, crVc := x.crVc, crCount := x.crCount }
  match x.body with
  | .data v p => { base with vc := v, payload := some p }
  | .credit l => { base with typ := 2, counts := l }
  | .ledger b => { base with typ := 3, ledger := some b }

/-- Put a sequenced flit of space `g` on fibre `f`, first sent or replayed. -/
def emitSeq (f g seq : Nat) (x : TxFlit) (s : State) : State :=
  let a := ackFields (pairOf s x.rhome)
  let y := sentOf s f g seq x
  wire { y with rhome := slotOf s x.rhome, rphase := a.1, ack := a.2 } (modPair x.rhome (ackSent a.1) s)

/-- First sending of a body in space `g` on fibre `f`: it takes the next `SEQ` and carries a credit return (R325, R327). -/
def sendFirst (f g : Nat) (body : TxBody) (s : State) : State :=
  let r := ackPair s f
  let c := creditReturn (pairOf s r)
  let x : TxFlit := ⟨body, r, c.1, c.2⟩
  let s := modPair r (fun p => { p with g := mmod 0 p.g c.1 (fun k => k + c.2) }) s
  let seq := (pairOf s g).n
  emitSeq f g seq x (modPair g (fun p => { p with n := p.n + 1, replay := p.replay ++ [x] }) s)

/-- Send the next flit of a replay of space `g` on fibre `f` (R328). -/
def sendReplay (f g : Nat) (s : State) : State :=
  let p := pairOf s g
  let i := p.replay.length - p.resend
  match p.replay[i]? with
  | none => s
  | some x => emitSeq f g (p.u + i) x (modPair g (fun p => { p with resend := p.resend - 1 }) s)

/-! ## The service order (R330) -/

/-- The next payload of a virtual channel can go: a credit, or two where it enters a ring (R366). -/
def vcReady (p : Pair) (v : Nat) : Bool :=
  match mget [] p.q v with
  | [] => false
  | (two, _) :: _ => decide ((if two then 2 else 1) ≤ creditsHeld p v)

/-- The round robin of R330. -/
def rrOrder : List Nat := [1, 0, 4, 2]

/-- The virtual channel served next: VC3, VC5, then the round robin from its place; none with a full replay buffer. -/
def pickVc (p : Pair) : Option Nat :=
  if 1024 ≤ p.replay.length then none
  else ([3, 5] ++ rrOrder.drop p.rr ++ rrOrder.take p.rr).find? (vcReady p)

/-- The place after a served channel. -/
def rrAfter (v old : Nat) : Nat :=
  match rrOrder.idxOf? v with
  | some i => (i + 1) % 4
  | none => old

/-- The Ledger of a space at the instant it takes its `SEQ` (R337). -/
def ledgerOf (p : Pair) (c : Nat) : LedgerBody :=
  { epoch := p.epoch, phaseId := 0, calend := BitVec.ofNat 64 c, n := p.n, u := p.u
    vcs := (List.range 6).map (fun v => ⟨mget 0 p.t v, mget 0 p.k v, creditsHeld p v⟩) }

/-- Send the next new flit of space `g` on fibre `f`: its Ledger first, then by the service order. -/
def sendNew (f g : Nat) (s : State) : Option State :=
  let p := pairOf s g
  match p.ledgerDue with
  | some c =>
    if 1024 ≤ p.replay.length then none
    else
      some (sendFirst f g (.ledger (ledgerOf p c))
        (modPair g (fun p => { p with ledgerDue := none, ledgerSeq := some p.n }) s))
  | none =>
    match pickVc p with
    | none => none
    | some v =>
      match mget [] p.q v with
      | [] => none
      | (_, x) :: rest =>
        some (sendFirst f g (.data v x) (modPair g (fun p => { p with
          q := mset [] p.q v rest, t := mmod 0 p.t v (fun k => k + 1), spent := mmod 0 p.spent v (fun k => k + 1)
          rr := rrAfter v p.rr }) s))

/-! ## Phase streams (R334, R335) -/

/-- Change split `i`. -/
def modSplit (i : Nat) (g : Split → Split) (s : State) : State :=
  { s with links := { s.links with splits := listMod g i s.links.splits } }

/-- Put flit `k` of a phase space on fibre `f`; `home` is the member it goes to. -/
def emitPhase (x : Split) (k f home : Nat) (s : State) : State :=
  match x.buf[k - x.base]? with
  | none => s
  | some b =>
    let y : Sent := { pair := f, typ := 5, vc := 2, carry := decide (f ≠ home), home := slotOf s home, rhome := 0
                      seq := k % 65536, ack := 0, phaseId := x.phaseId }
    emit f (match b with
      | .ledger l => { y with typ := 3, ledger := some l }
      | .data _ p => { y with payload := some p }
      | .credit _ => y) s

/-- Every member pair holds a VC2 credit, and the phase buffer has room (R334, R335). -/
def phaseRoom (s : State) (x : Split) : Bool :=
  decide (x.buf.length < 1024) && x.members.all (fun h => decide (1 ≤ creditsHeld (pairOf s h) 2))

/-- Take the next Ledger or packet of split `i` into its phase buffer: a packet takes a VC2 credit of every member. -/
def fillPhase (i : Nat) (x : Split) (s : State) : Option State :=
  match x.ledgerDue, x.queue with
  | some c, _ =>
    if x.buf.length < 1024 then
      let n := x.base + x.buf.length
      let b : LedgerBody := { epoch := (pairOf s (x.members.headD 0)).epoch, phaseId := x.phaseId, calend := BitVec.ofNat 64 c
                              n := n, u := x.base, vcs := List.replicate 6 ⟨0, 0, 0⟩ }
      some (modSplit i (fun x => { x with buf := x.buf ++ [.ledger b], ledgerDue := none }) s)
    else none
  | none, p :: rest =>
    if phaseRoom s x then
      let s := modSplit i (fun x => { x with buf := x.buf ++ [.data 2 (.packet p)], queue := rest }) s
      some (forEach x.members (fun h => modPair h (fun p => { p with
        t := mmod 0 p.t 2 (fun k => k + 1), spent := mmod 0 p.spent 2 (fun k => k + 1) })) s)
    else none
  | none, [] => none

/-- Send on the split's own light: the flit that a lit member lacks, or the next new one. -/
def sendPhase (i : Nat) (x : Split) (f : Nat) (s : State) : Option State :=
  let n := x.base + x.buf.length
  let k := x.lit.foldl (fun m h => min m (mget 0 x.sent h)) n
  let go (k : Nat) (x : Split) (s : State) : State :=
    emitPhase x k f f (modSplit i (fun x => { x with
      sent := x.lit.foldl (fun m h => if mget 0 m h ≤ k then mset 0 m h (k + 1) else m) x.sent }) s)
  if k < n then some (go (max k x.base) x s)
  else
    match fillPhase i x s with
    | none => none
    | some t => some (go n (t.links.splits.getD i x) t)

/-- A unicast copy for a member that the light does not serve, on fibre `f` of its direction (R305, R335). -/
def sendCopy (i : Nat) (x : Split) (f h : Nat) (s : State) : Option State :=
  let n := x.base + x.buf.length
  let k := max x.base (mget 0 x.sent h)
  let go (x : Split) (s : State) : State :=
    emitPhase x k f h (modSplit i (fun x => { x with sent := mset 0 x.sent h (k + 1) }) s)
  if k < n then some (go x s)
  else if x.lit.isEmpty then
    match fillPhase i x s with
    | none => none
    | some t => some (go (t.links.splits.getD i x) t)
  else none

/-- The splits with their places. -/
def splitList (s : State) : List (Nat × Split) := s.links.splits.zipIdx.map (fun x => (x.2, x.1))

/-- The first of a list of attempts that sends something. -/
def firstSome (l : List (Option State)) : Option State :=
  match l with
  | [] => none
  | some x :: _ => some x
  | none :: r => firstSome r

/-- A flit of its own split for fibre `f`, the lowest of the members that the light reaches. -/
def phaseOwn (f : Nat) (s : State) : Option State :=
  firstSome (((splitList s).filter (fun x => decide (x.2.lit.head? = some f))).map (fun x => sendPhase x.1 x.2 f s))

/-- A unicast copy for fibre `f`, where it is the carrier of its direction. -/
def phaseCopies (f : Nat) (s : State) : Option State :=
  if carrierOf s (dirOf f) = some f then
    firstSome ((splitList s).map (fun x => firstSome ((x.2.members.filter (fun h => !x.2.lit.contains h && decide (dirOf h = dirOf f))).map
      (fun h => sendCopy x.1 x.2 f h s))))
  else none

/-! ## Sending (R330, R332, R340) -/

/-- The spaces that fibre `f` carries for others, in ascending slot. -/
def carriedHere (s : State) (f : Nat) : List Nat :=
  if carrierOf s (dirOf f) = some f then
    ((List.range 8).filterMap (fun k => slotPair s (dirOf f) k)).filter (fun h => decide (h ≠ f) && carried s h)
  else []

/-- The own training record of a pair (R340, R341). -/
def ownTrain (s : State) (f : Nat) : TrainRec :=
  { coord := s.fabric.coord.getD 0, dir := BitVec.ofNat 8 (dirOf f), slot := BitVec.ofNat 3 (ownSlot f)
    fibre := BitVec.ofNat 8 f, lowest := 2, highest := BitVec.ofNat 4 (min 3 (odNum s 0x410101 3))
    epoch := (pairOf s f).trainFrom, serial := s.nv.serial, build := (mcImage s s.boot.mcSlot).version }

/-- A pair sends Train flits until each end has received its four (R340), which a Resume flit from the far end shows. -/
def trains (p : Pair) : Bool :=
  p.training || (p.needResume && decide (p.level ≠ 0) && !p.parked && !p.latched && !p.outOfService)

/-- The flit that fibre `f` has to send beside Idle and Train flits, by the order of R330: replays, carried flits and copies, its own
Ledger and virtual channels, and the stream of its split. -/
def turn (f : Nat) (s : State) : Option State :=
  let p := pairOf s f
  if txUp s f then
    match ((if p.returning then [] else [f]) ++ carriedHere s f).filter (fun g => decide ((pairOf s g).resend ≠ 0)) with
    | g :: _ => some (sendReplay f g s)
    | [] => firstSome ((carriedHere s f).map (fun g => sendNew f g s) ++
        [phaseCopies f s, if p.returning then none else sendNew f f s, phaseOwn f s])
  else if fibreUp s f && !fibDark s f then phaseOwn f s else none

/-- FLIT_SEND: fibre `f` sends one flit: a Train flit while it trains, else by the service order (R330), or an Idle flit. -/
def execFlitSend (f : PairNo) (s : State) : Host.Outcome State Fault Refusal :=
  .next (
    let f := f.val
    let p := pairOf s f
    let x := fibOf s f
    let e := engOf s (f / 8)
    if s.boot.hub = false ∨ x.lit = false ∨ x.locked = false ∨ e.paused ∨ e.state ≠ 0 then s
    else if trains p then wire { bareFlit s f 6 0 (slotOf s f) with train := some (ownTrain s f) } s
    else if (fibreUp s f ∧ fibDark s f = false) ∨ (p.level = 0 ∧ s.boot.step ≤ 7) then
      (turn f s).getD (emit f (bareFlit s f 0 0 0) s)
    else s)

/-! ## Receiving (R326 to R328) -/

/-- The pair whose space a received flit belongs to. -/
def spacePair (s : State) (h : FlitHdr) : Nat :=
  if h.carry then (slotPair s (dirOf h.pair.val) h.home.toNat).getD h.pair.val else h.pair.val

/-- The pair of this package that a received acknowledgement and credit return concern. -/
def reversePair (s : State) (h : FlitHdr) : Nat := (slotPair s (dirOf h.pair.val) h.rhome.toNat).getD h.pair.val

/-- The flits of a phase space that every member has acknowledged are freed, and an ended space that is empty closes (R334,
R335). -/
def trimSplits (s : State) : State :=
  { s with links := { s.links with splits := (s.links.splits.map (fun x =>
      let n := x.base + x.buf.length
      let b := max x.base (x.members.foldl (fun m h => min m (mget 0 x.acked h)) n)
      { x with base := b, buf := x.buf.drop (b - x.base) })).filter (fun x =>
        !(x.ended && x.buf.isEmpty && x.queue.isEmpty && x.ledgerDue.isNone)) } }

/-- A member acknowledges the phase stream sent to it. -/
def ackPhase (g ack : Nat) (s : State) : State :=
  trimSplits { s with links := { s.links with splits := s.links.splits.map (fun x =>
    let have_ := mget 0 x.acked g
    let adv := (ack + 1 + 65536 - have_ % 65536) % 65536
    if x.members.contains g && decide (adv ≠ 0) && decide (have_ + adv ≤ x.base + x.buf.length) then
      { x with acked := mset 0 x.acked g (have_ + adv), sent := mmod 0 x.sent g (max (have_ + adv)) } else x) } }

/-- Apply the `ACK` that every good flit carries (R327). -/
def takeAck (h : FlitHdr) (s : State) : State :=
  let g := reversePair s h
  if h.rphase then ackPhase g h.ack.toNat s else modPair g (applyAck h.ack.toNat) s

/-- Apply the credit return of an accepted flit's header (R327). -/
def takeCredit (h : FlitHdr) (s : State) : State := modPair (reversePair s h) (applyCredit h.crVc.val h.crCount.toNat) s

/-- A pair receives flits: trained, with light, and not parked. -/
def receives (s : State) (f : Nat) : Bool :=
  let p := pairOf s f
  s.boot.hub && decide (p.level ≠ 0) && !p.parked && !p.latched && !p.training

/-- A flit on the Twin link has been accepted (R407). -/
def twinHeard (f : Nat) (s : State) : State :=
  if dirOf f = 10 then { s with twin := { s.twin with lastFlit := now s } } else s

/-- How a `SEQ` stands to E (R326): accepted, duplicate, or ahead. -/
inductive SeqPlace where
  | next | duplicate | ahead
  deriving DecidableEq, Repr

/-- Where a sequence number stands. -/
def seqPlace (e seq : Nat) : SeqPlace :=
  let below := (e % 65536 + 65536 - seq) % 65536
  if below = 0 then .next else if below ≤ 1024 then .duplicate else .ahead

/-- A sequenced flit of a pair's space: when it is the next one, `take` has its effect; a duplicate is discarded and
acknowledged again; one ahead is Naked (R326). -/
def takeSeq (h : FlitHdr) (take : Nat → State → State) (s : State) : State :=
  if receives s h.pair.val then
    let s := takeAck h s
    let g := spacePair s h
    match seqPlace (pairOf s g).e h.seq.toNat with
    | .next =>
      let s := take g s
      takeCredit h (twinHeard g (modPair g (fun p => { p with e := p.e + 1, ackDue := true, nakFor := none }) s))
    | .duplicate => modPair g (fun p => { p with ackDue := true }) s
    | .ahead => sendNak g s
  else s

/-- FLIT_CRC_FAILURE: the flit is discarded and a Nak goes out (R326); while training the run of good flits starts again. Its header
names no space that can be trusted: the Nak is for that of the pair it came on (DESIGN CHOICE, log entry 28). -/
def execFlitCrcFailure (f : PairNo) (s : State) : Host.Outcome State Fault Refusal :=
  .next (
    if (pairOf s f.val).training then modPair f.val (fun p => { p with trainGood := 0 }) s
    else if receives s f.val then sendNak f.val s else s)

/-- IDLE_FLIT: its `ACK` is applied (R327). -/
def execIdleFlit (h : FlitHdr) (s : State) : Host.Outcome State Fault Refusal :=
  .next (if receives s h.pair.val then takeAck h s else s)

/-- What an accepted payload that no upper layer takes raises: a fabric packet of a reserved kind, or a fabric or twin packet on a
virtual channel that is not its own (R368, R395). -/
def strayPayload (vc : Nat) (x : Payload) (s : State) : Option State :=
  match x with
  | .packet p => if kindVc p.kind.toNat = some vc then none else some (packetFault 0x6001 p s)
  | .twin _ => if vc = 4 then none else some (raise 0x6001 vc s)
  | .malformed => some (raise 0x6001 vc s)
  | _ => none

/-- DATA_FLIT: an accepted one takes a slot of the receive buffer until its upper layer takes it (R326, R330), or drops it at once
(R368). -/
def execDataFlit (h : FlitHdr) (vc : Fin 6) (x : Payload) (s : State) : Host.Outcome State Fault Refusal :=
  .next (takeSeq h (fun g s =>
    let s := modPair g (fun p => { p with
      a := mmod 0 p.a vc.val (fun k => k + 1), b := mmod 0 p.b vc.val (fun k => k + 1) }) s
    match strayPayload vc.val x s with
    | some t => freeSlot g vc.val t
    | none => s) s)

/-- CREDIT_FLIT: an accepted one returns the counts of its body at level 3 (R323, R327, R341). -/
def execCreditFlit (h : FlitHdr) (counts : List U16) (s : State) : Host.Outcome State Fault Refusal :=
  .next (takeSeq h (fun _ s =>
    if (pairOf s h.pair.val).level = 3 then
      modPair (reversePair s h) (fun p => ((counts.take 6).zipIdx).foldl (fun p x => applyCredit x.2 x.1.toNat p) p) s
    else s) s)

/-! ## Conservation (R336 to R338) -/

/-- A Conservation fault on a pair (R338): 0x5F00 with its space, the virtual channel and both ends' values, and the pair is parked until
a Cold reset. No message tells the far end, which parks when it finds the break itself (DESIGN CHOICE, log entry 28). -/
def conservation (g v : Nat) (values : List Nat) (s : State) : State :=
  if (pairOf s g).latched then s
  else raiseWith 0x5F00 none (256 * g + v) values (modPair g (fun p => { p with latched := true, parked := true }) s)

/-- A Ledger's values of a virtual channel break an invariant of R336 against the receiver's. -/
def ledgerVc (p : Pair) (b : LedgerBody) (v : Nat) : Bool :=
  let x := b.vcs.getD v ⟨0, 0, 0⟩
  let d := mget 0 p.d v
  let g := mget 0 p.g v
  !(decide (x.t = mget 0 p.a v) && decide (x.k ≤ g) && decide (g ≤ d) &&
    decide (x.c + mget 0 p.b v + (d - g) + (g - x.k) = vcCredits v))

/-- A Ledger breaks an invariant of R336 against the receiver's counters. -/
def ledgerBreaks (p : Pair) (b : LedgerBody) : Bool :=
  !(decide (b.n = p.e) && decide (b.u ≤ p.e) && (List.range 6).all (fun v => !ledgerVc p b v))

/-- The values of both ends that a broken Ledger is logged with: N, U, T, K and c of the sender, and E, A, D, G and b of the receiver. -/
def ledgerValues (p : Pair) (b : LedgerBody) (v : Nat) : List Nat :=
  let x := b.vcs.getD v ⟨0, 0, 0⟩
  [b.n.toNat, b.u.toNat, x.t, x.k, x.c, p.e, mget 0 p.a v, mget 0 p.d v, mget 0 p.g v, mget 0 p.b v]

/-- A virtual channel's counters break an invariant that a Calend checks locally (R336). -/
def localVc (p : Pair) (v : Nat) : Bool :=
  !(decide (creditsHeld p v + mget 0 p.t v = vcCredits v + mget 0 p.k v) && decide (mget 0 p.a v = mget 0 p.d v + mget 0 p.b v))

/-- The invariants that a Calend checks locally on a pair (R336). -/
def localBreaks (p : Pair) : Bool :=
  !(decide (p.n = p.u + p.replay.length) && decide (p.replay.length ≤ 1024) && (List.range 6).all (fun v => !localVc p v))

/-- This end's values that a local break is logged with: N, U, the replay buffer's occupancy, T, K, c, A, D and b. -/
def localValues (p : Pair) (v : Nat) : List Nat :=
  [p.n, p.u, p.replay.length, mget 0 p.t v, mget 0 p.k v, creditsHeld p v, mget 0 p.a v, mget 0 p.d v, mget 0 p.b v]

/-- The virtual channel that is logged: the lowest that breaks, or 0 when the break is of no channel. -/
def worstVc (breaks : Nat → Bool) : Nat := ((List.range 6).find? breaks).getD 0

/-- A flit of a phase stream, or a Ledger of one, has come on a fibre that no setting marks for it (R308). -/
def strayPhase (s : State) (h : FlitHdr) : Bool :=
  let g := spacePair s h
  receives s h.pair.val && !h.carry && !bit (engOf s (g / 8)).mcastRx.toNat (g % 8)

/-- E of a phase space received on a pair; a stream that begins under the setting in force begins at 0 (R334). -/
def phaseNext (s : State) (g id seq : Nat) : Nat :=
  if !(fibOf s g).phaseOpen && decide (seq = 0) then 0 else mget 0 (pairOf s g).rxPhase id

/-- A flit of a phase space (R334): accepted by `SEQ`, acknowledged with `RPHASE`; its credit return is applied when it is accepted
(R327). -/
def takePhase (h : FlitHdr) (id : U32) (take : Nat → State → State) (s : State) : State :=
  if receives s h.pair.val then
    let s := takeAck h s
    let g := spacePair s h
    let e := phaseNext s g id.toNat h.seq.toNat
    match seqPlace e h.seq.toNat with
    | .next =>
      let s := modPair g (fun p => { p with
        rxPhase := mset 0 p.rxPhase id.toNat (e + 1), rphaseId := id.toNat, rphaseDue := true, nakPhase := none }) s
      takeCredit h (take g (modFib g (fun x => { x with phaseOpen := true }) s))
    | .duplicate => modPair g (fun p => { p with rphaseId := id.toNat, rphaseDue := true }) s
    | .ahead => sendPhaseNak g id.toNat e s
  else s

/-- LEDGER_FLIT: an accepted Ledger is checked against the receiver's counters; a mismatch is 0x5F00 (R337, R338). One of a
closed epoch is discarded (R339); one of a phase stream on a fibre that is not marked for it raises 0x4033 (R308). -/
def execLedgerFlit (h : FlitHdr) (b : LedgerBody) (s : State) : Host.Outcome State Fault Refusal :=
  .next (
    let g := spacePair s h
    if b.phaseId ≠ 0 then
      let e := phaseNext s g b.phaseId.toNat h.seq.toNat
      if strayPhase s h then optFault 0x4033 (g / 8) [g % 8] (takeAck h s)
      else takePhase h b.phaseId (fun g s =>
        onlyIf (decide (b.n ≠ e) || decide (e < b.u)) (conservation g 2 [b.phaseId.toNat, b.n.toNat, b.u.toNat, e]) (bump 0x410004 1 s)) s
    else if b.epoch ≠ (pairOf s g).epoch then s
    else takeSeq h (fun g s =>
      let p := pairOf s g
      let v := worstVc (ledgerVc p b)
      onlyIf (ledgerBreaks p b) (conservation g v (ledgerValues p b v)) (bump 0x410004 1 s)) s)

/-! ## Replay (R328) -/

/-- Some split sends on from beyond what a member has acknowledged (R334). -/
def phaseAhead (s : State) (g : Nat) : Bool :=
  s.links.splits.any (fun x => x.members.contains g && decide (mget 0 x.acked g < mget 0 x.sent g))

/-- The phase buffers of the splits with a member are replayed to all their members (R334). -/
def replayPhase (g : Nat) (s : State) : State :=
  { s with links := { s.links with splits := s.links.splits.map (fun x =>
      if x.members.contains g then { x with sent := x.members.foldl (fun m k => mset 0 m k (mget 0 x.acked k)) x.sent } else x) } }

/-- NAK: the named space is replayed from `ACK` + 1, unless a replay in progress covers it (R328); a phase space to all its
members (R334). -/
def execNakFlit (h : FlitHdr) (s : State) : Host.Outcome State Fault Refusal :=
  .next (
    if receives s h.pair.val then
      let s := takeAck h s
      let g := reversePair s h
      if h.rphase then onlyIf (phaseAhead s g) (fun s => countReplay g (replayPhase g s)) s
      else if (pairOf s g).resend = 0 ∧ (pairOf s g).replay ≠ [] then countReplay g (modPair g resendAll s)
      else s
    else s)

/-- NAK_REPEAT: E has not advanced since the last Nak, of a pair's space or of a phase space, which is repeated (R328). -/
def execNakRepeat (f : PairNo) (phase : Bool) (s : State) : Host.Outcome State Fault Refusal :=
  .next (
    let p := pairOf s f.val
    if s.boot.hub = false then s
    else if phase then
      match p.nakPhase with
      | some (id, e) => onlyIf (decide (mget 0 p.rxPhase id = e)) (sendPhaseNak f.val id e) s
      | none => s
    else onlyIf (decide (p.nakFor = some p.e)) (sendNak f.val) s)

/-- REPLAY_TIMEOUT: U of a pair's space, or of a phase space with this member, has not advanced for 20 µs with flits outstanding
(R328). -/
def execReplayTimeout (f : PairNo) (phase : Bool) (s : State) : Host.Outcome State Fault Refusal :=
  .next (
    let p := pairOf s f.val
    if s.boot.hub ∧ p.latched = false ∧ upPairs s (dirOf f.val) ≠ [] then
      if phase then onlyIf (phaseAhead s f.val) (fun s => countReplay f.val (replayPhase f.val s)) s
      else onlyIf (decide (p.replay ≠ [])) (fun s => countReplay f.val (modPair f.val resendAll s)) s
    else s)

/-- The counts of a Credit flit's body at level 3, and the pair that has placed them (R323, R336). -/
def creditCounts (p : Pair) : List Nat := (List.range 6).map (fun v => mget 0 p.d v - mget 0 p.g v)

/-- CREDIT_FLIT_DUE: pending acknowledgements or credits go out in a Credit flit (R327), which is sequenced in its own space, when the
fibre that carries this space has no sequenced flit to send. -/
def execCreditFlitDue (f : PairNo) (s : State) : Host.Outcome State Fault Refusal :=
  .next (
    let g := f.val
    let r := ackPair s g
    let due := (pairOf s r).ackDue || (pairOf s r).rphaseDue
    match (if carried s g then carrierOf s (dirOf g) else if txUp s g then some g else none) with
    | none => s
    | some f =>
      if s.boot.hub ∧ due ∧ (pairOf s g).replay.length < 1024 ∧ (turn f s).isNone then
        if (pairOf s f).level = 3 then
          let counts := creditCounts (pairOf s r)
          let s := modPair r (fun p => { p with g := (counts.zipIdx).foldl (fun m x => mmod 0 m x.2 (fun k => k + x.1)) p.g }) s
          sendFirst f g (.credit counts) s
        else sendFirst f g (.credit (List.replicate 6 0)) s
      else s)

/-! ## Training (R329, R339 to R341, R561, R562) -/

/-- Both ends of a pair: coordinate, direction and package fibre index (R561, R565). -/
def bothEnds (s : State) (f : Nat) (r : TrainRec) : List Nat :=
  [ownKey s, dirOf f, f, r.coord.toNat, r.dir.toNat, r.fibre.toNat]

/-- Park a pair (R561): it sends no Train flit until its light has gone and come, or an Installer unparks it (R563). It is logged with
both ends' coordinate, direction and package fibre index. -/
def parkPair (f code : Nat) (r : TrainRec) (s : State) : State :=
  raiseWith code none f (bothEnds s f r)
    (modPair f (fun p => { p with training := false, parked := true, levelPark := decide (code = 0x5020) }) s)

/-- The far end is at the place that R354 gives for the direction; for Z any package of the same x and y (R561). -/
def farExpected (s : State) (d far : Nat) : Bool :=
  if d = 8 ∨ d = 9 then decide (far % 256 = ownKey s % 256) else decide (far = neighbour s (ownKey s) d)

/-- The highest level that both ends offer, if there is one (R341). -/
def commonLevel (s : State) (r : TrainRec) : Option Nat :=
  let hi := min (min 3 (odNum s 0x410101 3)) r.highest.toNat
  if max 2 r.lowest.toNat ≤ hi then some hi else none

/-- The epoch that training leads to, and whether it is a new one (R339, R354, R564): an end has lost its state when the two
epochs differ, and another package is at the far end when it has been replaced. -/
def trainEpoch (own far : Nat) (replaced : Bool) : Nat × Bool :=
  if own = far ∧ own ≠ 0 ∧ replaced = false then (own, false) else (max own far + 1, true)

/-- A Resume flit: the E of each space received from the direction (R323, R329). -/
def resumeFlit (s : State) (f : Nat) : Sent :=
  { bareFlit s f 7 0 (slotOf s f) with
    counts := (List.range 8).map (fun k => (match slotPair s (dirOf f) k with
      | some g => (pairOf s g).e
      | none => 0) % 65536) }

/-- This end has received its four records: level, slot and epoch are set, and it sends its Resume flit and waits for the far end's. -/
def trained (f level slot : Nat) (r : TrainRec) (s : State) : State :=
  let p := pairOf s f
  let ep := trainEpoch p.epoch.toNat r.epoch.toNat (p.level ≠ 0 ∧ p.farSerial ≠ r.serial)
  let s := if ep.2 then newEpoch f (BitVec.ofNat 32 ep.1) (if p.epoch = 0 ∧ p.replay = [] then s else closeEpoch f s) else s
  let s := modPair f (fun p => { p with
    level := level, slot := if slot = ownSlot f then none else some slot, training := false, trainGood := 0, trainFails := 0
    needResume := true, farCoord := some r.coord, farSerial := r.serial, parked := false, levelPark := false }) s
  let s := wire (resumeFlit s f) s
  let s := if ep.2 ∧ dirOf f = 10 then
      sendPairing { s with twin := { s.twin with newEpoch := true, lastFlit := now s } }
    else s
  leaveStep7 s

/-- The identity checks of R561, in their order. -/
def judgeTrain (f : Nat) (r : TrainRec) (s : State) : State :=
  let d := dirOf f
  let far := r.coord.toNat
  if far = ownKey s ∨ r.dir.toNat ≠ oppDir d ∨ farExpected s d far = false then leaveStep7 (parkPair f 0x5030 r s)
  else
    let adopt := decide (r.slot.toNat ≠ ownSlot f) && decide (far < ownKey s)
    let s := onlyIf adopt (raiseWith 0x5031 none f (bothEnds s f r)) s
    match commonLevel s r with
    | none => leaveStep7 (parkPair f 0x5020 r s)
    | some l => trained f l (if adopt then r.slot.toNat else ownSlot f) r s

/-- A training record begins a training: of a pair that a change of the far end's levels frees (R341), or of one in service that the far
end retrains (R329); while this end still waits for the Resume flit of its own training, the record belongs to that one. -/
def answerTrain (f : Nat) (r : TrainRec) (s : State) : State :=
  let p := pairOf s f
  if p.training then s
  else if p.levelPark && (commonLevel s r).isSome then
    startTraining f (modPair f (fun p => { p with parked := p.latched, levelPark := false }) s)
  else if decide (p.level ≠ 0) && !p.needResume && !p.parked && !p.latched && !p.outOfService then retrain f s
  else s

/-- TRAIN_FLIT: a training record arrives; the fourth in a row is judged (R340, R561). How the two ends' exchanges overlap is the
model's choice (DESIGN CHOICE, log entry 28). -/
def execTrainFlit (f : PairNo) (r : TrainRec) (s : State) : Host.Outcome State Fault Refusal :=
  .next (
    if s.boot.hub ∧ (fibOf s f.val).locked then
      let s := answerTrain f.val r s
      let p := pairOf s f.val
      if p.training then
        let s := modPair f.val (fun p => { p with trainGood := p.trainGood + 1 }) s
        if 3 ≤ p.trainGood then judgeTrain f.val r s else s
      else s
    else s)

/-- RESUME_FLIT: the far end's expected counts; replay restarts from them (R329). It ends the training of an end that waited for it,
which answers with its own once more, since the far end may have been training still when the first came. -/
def execResumeFlit (f : PairNo) (expected : List U16) (s : State) : Host.Outcome State Fault Refusal :=
  .next (
    let p := pairOf s f.val
    if s.boot.hub ∧ p.level ≠ 0 ∧ p.training = false then
      let s := forEach ((expected.take 8).zipIdx) (fun x s =>
        match slotPair s (dirOf f.val) x.2 with
        | some g => modPair g (applyAck ((x.1.toNat + 65535) % 65536)) s
        | none => s) s
      let s := modPair f.val (fun p => resendAll { p with needResume := false, stuckReplays := 0 }) s
      let s := onlyIf p.needResume (fun s => wire (resumeFlit s f.val) s) s
      returnPair f.val s
    else s)

/-- TRAINING_FAILED: the third failure in a row takes the pair out of service with 0x5004 (R329). -/
def execTrainingFailed (f : PairNo) (s : State) : Host.Outcome State Fault Refusal :=
  .next (
    let p := pairOf s f.val
    if p.training then
      if 2 ≤ p.trainFails then
        leaveStep7 (raise 0x5004 f.val (modPair f.val (fun p => { p with
          training := false, trainFails := 0, trainGood := 0, outOfService := true }) s))
      else modPair f.val (fun p => { p with trainFails := p.trainFails + 1, trainGood := 0 }) s
    else s)

/-! ## Link notices (R291, R331, R332, R315) -/

/-- The pairs that a link notice names. -/
def noticePairs (s : State) (f : Nat) (n : LinkNotice) : List Nat :=
  (List.range 8).filterMap (fun k => if bit n.slots.toNat k then slotPair s (dirOf f) k else none)

/-- The far end withdraws a pair: now, or at a Calend to come (R331). -/
def farWithdraws (n : LinkNotice) (ic : Bool) (g : Nat) (s : State) : State :=
  let s := modFib g (fun x => { x with icFar := x.icFar || ic }) s
  if n.at_ = 0 then withdrawQuiet g (modFib g (fun x => { x with farWithdrawn := true }) s)
  else modFib g (fun x => { x with farAt := some n.at_.toNat }) s

/-- The far end's withdrawals that take effect at the Calend of index `c` (R331). -/
def calendNotices (c : Nat) (s : State) : State :=
  forEach (List.range 64) (fun g s =>
    match (fibOf s g).farAt with
    | some a =>
      if a ≤ c then withdrawQuiet g (modFib g (fun x => { x with farAt := none, farWithdrawn := true }) s) else s
    | none => s) s

/-- WITHDRAWAL_NOTICE: this end stops sending on the named pairs (R291). -/
def execWithdrawalNotice (f : PairNo) (n : LinkNotice) (s : State) : Host.Outcome State Fault Refusal :=
  .next (
    if s.boot.hub then forEach (noticePairs s f.val n) (farWithdraws n false) (freeSlot f.val 3 s) else s)

/-- RETURN_NOTICE: the named pairs may carry traffic again (R332); after a calibration of the far end's receive channel the
class is measured again (R284). -/
def execReturnNotice (f : PairNo) (n : LinkNotice) (s : State) : Host.Outcome State Fault Refusal :=
  .next (
    if s.boot.hub then
      forEach (noticePairs s f.val n) (fun g s => returnPair g (modFib g (fun x => { x with
        farWithdrawn := false, farAt := none, measureDue := x.measureDue || x.icFar, icFar := false }) s)) (freeSlot f.val 3 s)
    else s)

/-- INTERCALARY_NOTICE: the far end will calibrate the receive channel of the named pair (R315). -/
def execIntercalaryNotice (f : PairNo) (n : LinkNotice) (s : State) : Host.Outcome State Fault Refusal :=
  .next (
    if s.boot.hub then forEach (noticePairs s f.val n) (farWithdraws n true) (freeSlot f.val 5 s) else s)

/-! ## At every Calend (R336 to R338) -/

/-- The Calend's work on every space that is sent in: the local checks, the lateness of the last Ledger, and a new Ledger. -/
def calendLinks (c : Nat) (s : State) : State :=
  let live := (List.range 64).filter (fun f => !(pairOf s f).latched &&
    (decide ((pairOf s f).level ≠ 0) || (carrierOf s (dirOf f)).isSome))
  let s := forEach live (fun f s =>
    let p := pairOf s f
    let late := match p.ledgerSeq with
      | some n => decide (p.u ≤ n) && p.pathWhole
      | none => p.ledgerDue.isSome && p.pathWhole
    let v := worstVc (localVc p)
    let s := onlyIf (localBreaks p) (conservation f v (localValues p v)) s
    let s := onlyIf late (raise 0x5011 f) s
    let whole := !(upPairs s (dirOf f)).isEmpty
    modPair f (fun p => { p with ledgerDue := some c, ledgerSeq := none, pathWhole := whole }) s) s
  { s with links := { s.links with splits := s.links.splits.map (fun x => { x with ledgerDue := some c }) } }

end Sys2Proof.Machine
end

