-- ==== Sys2Proof/Machine/Twin.lean ====
section
/-!
DEFINITION. The commands of twin pairing (11): mirror writes and seals at the holder, pairing records, rebuild phases,
departures and unpairing.
-/

set_option Elab.async false

namespace Sys2Proof.Machine

/-- A twin packet on a pair can be taken: the pair is one of the Twin link, and this package has not detached (R418). -/
def twinTakes (s : State) (f : Nat) : Bool := s.boot.hub && decide (dirOf f = 10) && !s.twin.detached

/-- The package accepts mirror writes and seals for its partner. -/
def holds (s : State) : Bool :=
  s.twin.partnerCoord.isSome && !s.twin.frozen && decide (s.twin.state = 1 ∨ s.twin.state = 2) &&
    decide (keepTotalOf s.twin.partnerTable ≤ s.twin.mirrorSize)

/-- MIRROR_WRITE: the holder journals it (R403); a full journal holds the write in the link's buffer. -/
def execMirrorWrite (f : PairNo) (poison : Bool) (epochLow : U16) (addr : U64) (benables : BitVec 128) (data : List Byte)
    (s : State) : Host.Outcome State Fault Refusal :=
  .next (
    if twinTakes s f.val then
      if holds s then
        if s.twin.journal.length < 1048576 then
          freeSlot f.val 4 { s with twin := { s.twin with journal := s.twin.journal ++
            [⟨slotOf s f.val, epochLow.toNat, poison, addr.toNat, benables, data⟩] } }
        else s
      else freeSlot f.val 4 s
    else s)

/-- SEAL_MARKER: the marker of one twin space (R405). -/
def execSealMarker (f : PairNo) (c : U64) (s : State) : Host.Outcome State Fault Refusal :=
  .next (
    if twinTakes s f.val then
      let s := freeSlot f.val 4 s
      if holds s then { s with twin := { s.twin with markers := mput s.twin.markers (slotOf s f.val) c.toNat } } else s
    else s)

/-- A journalled write belongs to an epoch up to `c`, by the low bits of its index (R403, R405). -/
def sealedBy (c : Nat) (w : MWrite) : Bool := decide ((c + 65536 - w.epochLow % 65536) % 65536 < 32768)

/-- Apply one journalled write to the Mirror image (R405). -/
def applyMirror (w : MWrite) (s : State) : State :=
  match keepPageOf s.twin.partnerTable w.addr with
  | none => s
  | some p =>
    let a := imageAddr s p (w.addr % pageBytes)
    let cells := (w.data.take 128).zipIdx.map (fun x => (x.1, if w.benables.getLsbD x.2 then (0xFF : Byte) else 0))
    farDrop (a / 128) (setDirty (a / 128) true (setPoison (a / 128) w.poison (storeWriteMasked a cells s)))

/-- SEAL_COMMIT: with markers of all eight spaces and the partner's copying complete, the holder commits the epoch, applies
its records in journal order and acknowledges (R405, R413). -/
def execSealCommit (s : State) : Host.Outcome State Fault Refusal :=
  .next (
    let c := (List.range 8).foldl (fun m k => min m (mget 0 s.twin.markers k)) (mget 0 s.twin.markers 0)
    if s.boot.hub ∧ holds s ∧ s.twin.receiver = false ∧ (List.range 8).all (fun k => (mfind s.twin.markers k).isSome) ∧
        (s.twin.mirrorSealed < c ∨ s.twin.held = false) then
      let done := s.twin.journal.filter (sealedBy c)
      let s := forEach done applyMirror { s with twin := { s.twin with
        journal := s.twin.journal.filter (fun w => !sealedBy c w), mirrorSealed := c, held := true } }
      settleTwin (sendTwin (.sealAck (BitVec.ofNat 64 c)) s)
    else s)

/-- SEAL_ACKNOWLEDGEMENT: the owner's sealed index advances (R405); none counts while pages are still to be copied (R413). -/
def execSealAcknowledgement (f : PairNo) (c : U64) (s : State) : Host.Outcome State Fault Refusal :=
  .next (
    if twinTakes s f.val then
      let s := freeSlot f.val 4 s
      if s.twin.mirrored ∧ s.twin.dirtyP = [] ∧ s.twin.keepSealed < c.toNat then
        settleTwin (bump 0x900402 1 { s with twin := { s.twin with
          keepSealed := c.toNat, keepValid := true, ownProt := true } })
      else s
    else s)

/-- PAIRING_RECORD: the pair continues, recopies or rebuilds (R400). -/
def execPairingRecord (f : PairNo) (r : PairRec) (s : State) : Host.Outcome State Fault Refusal :=
  .next (if twinTakes s f.val then judgePairing r (freeSlot f.val 4 s) else s)

/-- The next packet of a page at offset `o`, of at most 220 bytes, and 128 bytes alone for a poisoned line (R412); `a` is the
page's local address. -/
def rebuildChunk (s : State) (a o : Nat) : Nat × Bool :=
  if poisoned s ((a + o) / 128) then (128, true)
  else
    let stop := ((List.range' 1 2).map (fun i => ((a + o) / 128 + i) * 128)).find? (fun b => poisoned s (b / 128))
    let room := min 220 (pageBytes - o)
    (match stop with
      | some b => min room (b - (a + o))
      | none => room, false)

/-- The packets of a page, from offset `o` on; each goes to the twin slot that its address hashes to. -/
def sendPage (protect : Bool) (page a : Nat) : Nat → Nat → State → State
  | 0, _, s => s
  | fuel + 1, o, s =>
    if pageBytes ≤ o then s
    else
      let c := rebuildChunk s a o
      let s := onlyIf c.2 (fun s => { s with twin := { s.twin with rbPoison := s.twin.rbPoison + 1 } }) s
      sendPage protect page a fuel (o + c.1)
        (enqueueTwin (twinPair s (slotHash (page * pageBytes + o) % 8))
          (.rebuildData protect c.2 page o (readStore s (a + o) c.1)) s)

/-- The first page whose bit is set and whose copy is not in flight. -/
def nextPage (bits flying : SMap Bool) : Option Nat := (bits.map Prod.fst).find? (fun p => !mget false flying p)

/-- REBUILD_SEND: the source sends the next page of the phase once VC4 has room for it (R412, R413). -/
def execRebuildSend (s : State) : Host.Outcome State Fault Refusal :=
  .next (
    let room := (dirPairs 10).all (fun f => !(mget [] (pairOf s f).q 4).any (fun y => isRebuild y.2))
    if s.boot.hub ∧ s.twin.source ∧ s.twin.detached = false ∧ room ∧ upPairs s 10 ≠ [] then
      let restore := decide (s.twin.dirtyR ≠ [])
      match nextPage (if restore then s.twin.dirtyR else s.twin.dirtyP) s.twin.flying with
      | none => s
      | some p =>
        match (if restore then some (imageAddr s p 0) else keepPageAddr s.twin.keep p) with
        | none => s
        | some a =>
          sendPage (!restore) p a 16384 0
            { s with twin := { s.twin with flying := mset false s.twin.flying p true } }
    else s)

/-- REBUILD_DATA: the receiver writes it and acknowledges a page that is complete (R411, R412). -/
def execRebuildData (f : PairNo) (protect poison : Bool) (page : BitVec 11) (offset : BitVec 21) (data : List Byte)
    (s : State) : Host.Outcome State Fault Refusal :=
  .next (
    if twinTakes s f.val then
      let s := freeSlot f.val 4 s
      let mine := s.twin.receiver && decide (s.twin.phase = if protect then 2 else 1)
      let place := if protect then some (imageAddr s page.toNat 0) else keepPageAddr s.twin.keep page.toNat
      match mine, place with
      | true, some a =>
        let s := putBytes (a + offset.toNat) data poison s
        let s := onlyIf poison (fun s => { s with twin := { s.twin with rbPoison := s.twin.rbPoison + 1 } }) s
        let got := mget 0 s.twin.rbGot page.toNat + data.length
        if got < pageBytes then { s with twin := { s.twin with rbGot := mset 0 s.twin.rbGot page.toNat got } }
        else
          let s := sendTwin (.pageAck protect page.toNat) { s with twin := { s.twin with
            rbGot := mset 0 s.twin.rbGot page.toNat 0, rbDone := mset false s.twin.rbDone page.toNat true } }
          let total := keepTotalOf (if protect then s.twin.partnerTable else s.twin.keep) / pageBytes
          if s.twin.rbDone.length < total then s
          else if protect then
            settleTwin (phaseDone { s with twin := { s.twin with
              receiver := false, phase := if s.twin.source then 2 else 0, rbGot := [], rbDone := [] } })
          else settleTwin (restoreReceived s)
      | _, _ =>
        -- a page copied again after the phase has ended at the receiver (R413)
        match protect && holds s, place with
        | true, some a =>
          let s := putBytes (a + offset.toNat) data poison s
          let got := mget 0 s.twin.rbGot page.toNat + data.length
          if got < pageBytes then { s with twin := { s.twin with rbGot := mset 0 s.twin.rbGot page.toNat got } }
          else sendTwin (.pageAck protect page.toNat)
            { s with twin := { s.twin with rbGot := mset 0 s.twin.rbGot page.toNat 0 } }
        | _, _ => s
    else s)

/-- PAGE_ACKNOWLEDGEMENT: the page's bit clears, unless a write has set it again since; the last one ends the phase (R413). -/
def execPageAcknowledgement (f : PairNo) (protect : Bool) (page : BitVec 11) (s : State) : Host.Outcome State Fault Refusal :=
  .next (
    if twinTakes s f.val then
      let s := freeSlot f.val 4 s
      if s.twin.source ∧ mget false s.twin.flying page.toNat then
        let s := { s with twin := { s.twin with flying := mset false s.twin.flying page.toNat false } }
        if protect then
          let s := { s with twin := { s.twin with dirtyP := mset false s.twin.dirtyP page.toNat false } }
          if s.twin.dirtyP = [] ∧ s.twin.phase = 2 then
            settleTwin (phaseDone { s with twin := { s.twin with
              source := false, phase := if s.twin.receiver then 2 else 0 } })
          else s
        else
          let s := { s with twin := { s.twin with dirtyR := mset false s.twin.dirtyR page.toNat false } }
          if s.twin.dirtyR = [] ∧ s.twin.phase = 1 then
            settleTwin (startProtect (phaseDone { s with twin := { s.twin with
              frozen := false, held := true, source := false, phase := 0 } }))
          else s
      else s
    else s)

/-- DEPARTURE_NOTICE: the partner is found lost (R407). -/
def execDepartureNotice (f : PairNo) (_ : U64) (s : State) : Host.Outcome State Fault Refusal :=
  .next (
    if twinTakes s f.val then
      let s := freeSlot f.val 4 s
      if s.twin.partnerCoord.isSome ∧ (s.twin.state = 1 ∨ s.twin.state = 2) then partnerLost 0x7001 false s else s
    else s)

/-- UNPAIR_RELEASE_NOTICE: the partner discards its copy, zeroes the image and enters Solo (R418). -/
def execUnpairReleaseNotice (f : PairNo) (_ : U64) (s : State) : Host.Outcome State Fault Refusal :=
  .next (
    if twinTakes s f.val then
      let s := freeSlot f.val 4 s
      let b := s.twin.mirrorBase
      let e := b + s.twin.mirrorSize
      let s := storeKeep (fun a => decide (a < b) || decide (e ≤ a)) { s with
        store := { s.store with
          poison := s.store.poison.filter (fun c => decide (c.1 * 128 < b) || decide (e ≤ c.1 * 128))
          far := s.store.far.filter (fun c =>
            let ga := c.1 / 8 * 128
            decide (gaKey ga ≠ ownKey s) || decide (gaLocal ga < b) || decide (e ≤ gaLocal ga)) } }
      settleTwin { s with twin := { s.twin with
        state := 0, partnerCoord := none, held := false, frozen := false, journal := [], markers := [], receiver := false
        source := false, mirrored := false, ownProt := false, phase := 0, dirtyR := [], dirtyP := [], flying := []
        partnerTable := [], sentRec := none } }
    else s)

/-- UNPAIR_KEEP_NOTICE: the partner freezes its copy at the notice's index and enters Orphan with 0x7014 (R418). -/
def execUnpairKeepNotice (f : PairNo) (c : U64) (s : State) : Host.Outcome State Fault Refusal :=
  .next (
    if twinTakes s f.val then
      let s := freeSlot f.val 4 s
      if s.twin.partnerCoord.isSome then
        partnerLost 0x7014 false { s with twin := { s.twin with mirrorSealed := c.toNat, receiver := false } }
      else s
    else s)

/-- PARTNER_LOSS_TIMEOUT: no Twin flit accepted for `LOSS_TIME` (R407). -/
def execPartnerLossTimeout (s : State) : Host.Outcome State Fault Refusal :=
  .next (
    if s.boot.hub ∧ s.twin.partnerCoord.isSome ∧ (s.twin.state = 1 ∨ s.twin.state = 2) ∧
        s.twin.lastFlit + 1000 * odNum s 0x900204 1000 ≤ now s then
      partnerLost 0x7001 true s
    else s)

/-- A detach that waits takes effect after a seal (R418): the notice goes out, and the copy of the partner is discarded. -/
def finishDetach (keep : Bool) (s : State) : State :=
  let c := BitVec.ofNat 64 s.twin.keepSealed
  let s := sendTwin (if keep then .unpairKeep c else .unpairRelease c) s
  { s with twin := { s.twin with
    state := 0, detaching := none, detached := true, partnerCoord := none, held := false, frozen := false, journal := []
    markers := [], receiver := false, source := false, mirrored := false, ownProt := false, phase := 0, dirtyR := []
    dirtyP := [], flying := [], partnerTable := [], sentRec := none } }

/-- The owner's part of a Calend of index `c` (R404, R406, R418): seal markers into all eight twin spaces, unless the Calend
is a continuation; then the lag, and a detach that waits. -/
def calendTwin (c : Nat) (continuation : Bool) (s : State) : State :=
  if continuation then s
  else
    let s := if s.twin.mirrored then
        forEach (List.range 8) (fun k s => enqueueTwin (twinPair s k) (.sealMarker (BitVec.ofNat 64 c)) s) s
      else s
    let s := if s.twin.mirrored ∧ s.twin.keepSealed ≠ 0 ∧ s.twin.keepSealed + 16 < c then
        let first := !s.twin.lagAdvised
        onlyIf first (twinFault 0x7010 s.twin.keepSealed []) { s with twin := { s.twin with lag := true, lagAdvised := true } }
      else s
    match s.twin.detaching with
    | some keep => finishDetach keep s
    | none => s

end Sys2Proof.Machine
end

