-- ==== Sys2Proof/Machine/Numbers.lean ====
section
/-!
DEFINITION. Number formats (03): encodings and values (R98 to R102), packing (R103), the tile's generator (R110),
conversions with their rounding and flags (R104 to R109), and the float operations that round once (R118).
-/

set_option Elab.async false

namespace Sys2Proof.Machine

/-! ## Formats (R98 to R101) -/

/-- Width in bits of a format code. -/
def fmtWidth (f : Nat) : Nat :=
  match f with
  | 0 | 1 => 4
  | 2 | 3 => 6
  | 4 | 5 | 6 => 8
  | 7 | 8 => 16
  | _ => 32

/-- The code names an integer format. -/
def fmtInt (f : Nat) : Bool := decide (f = 1) || decide (f = 6) || decide (f = 10)

/-- Mantissa width of a float format. -/
def fmtMan (f : Nat) : Nat :=
  match f with
  | 0 => 1
  | 2 | 4 => 3
  | 3 | 5 => 2
  | 7 => 7
  | 8 => 10
  | _ => 23

/-- Exponent bias of a float format. -/
def fmtBias (f : Nat) : Int :=
  match f with
  | 0 | 2 => 1
  | 3 => 3
  | 4 => 7
  | 5 | 8 => 15
  | _ => 127

/-- Exponent of the unit of the subnormals. -/
def fmtLow (f : Nat) : Int := 1 - fmtBias f - fmtMan f

/-- The largest finite magnitude (R100). -/
def fmtMax (f : Nat) : Dy :=
  match f with
  | 0 => ⟨3, 1⟩
  | 2 => ⟨15, -1⟩
  | 3 => ⟨7, 2⟩
  | 4 => ⟨7, 6⟩
  | 5 => ⟨7, 13⟩
  | 7 => ⟨255, 120⟩
  | 8 => ⟨2047, 5⟩
  | _ => ⟨16777215, 104⟩

/-- The next value after the largest finite one (R106). -/
def fmtNext (f : Nat) : Dy :=
  match f with
  | 0 | 2 => ⟨1, 3⟩
  | 3 => ⟨1, 5⟩
  | 4 => ⟨1, 9⟩
  | 5 | 8 => ⟨1, 16⟩
  | _ => ⟨1, 128⟩

/-- The format has infinities (R100). -/
def fmtInf (f : Nat) : Bool := decide (f = 5) || decide (f = 7) || decide (f = 8) || decide (f = 9)
/-- The format has NaNs (R100). -/
def fmtNan (f : Nat) : Bool := decide (f = 4) || fmtInf f

/-- The canonical NaN (R102). -/
def nanOf (f : Nat) : Nat :=
  match f with
  | 4 => 0x7F
  | 5 => 0x7E
  | 7 => 0x7FC0
  | 8 => 0x7E00
  | _ => 0x7FC00000

/-- The encoding of +infinity. -/
def infOf (f : Nat) : Nat :=
  match f with
  | 5 => 0x7C
  | 7 => 0x7F80
  | 8 => 0x7C00
  | _ => 0x7F800000

/-- The value of an integer as a float value. -/
def valInt (i : Int) : Val := .fin (decide (i < 0)) i.natAbs 0

/-- The value that an encoding has, unscaled (R99 to R101). -/
def decodeVal (f enc : Nat) : Val :=
  if fmtInt f then valInt (signed (fmtWidth f) enc)
  else
    let w := fmtWidth f
    let neg := bit enc (w - 1)
    let mag := enc % 2 ^ (w - 1)
    let m := mag % 2 ^ fmtMan f
    let e := mag / 2 ^ fmtMan f
    if fmtInf f ∧ infOf f ≤ mag then (if mag = infOf f then .inf neg else .nan)
    else if f = 4 ∧ mag = 0x7F then .nan
    else if e = 0 then .fin neg m (fmtLow f)
    else .fin neg (2 ^ fmtMan f + m) (fmtLow f + (e - 1))

/-- The unit step that an element of an integer format has under a block scale (R101), as a power of two. -/
def scaledUnit (f : Nat) : Int := if f = 6 then -6 else if f = 1 then -2 else 0

/-- A value times a power of two, exact (R112). -/
def valScale (v : Val) (k : Int) : Val :=
  match v with
  | .fin n m e => .fin n m (e + k)
  | v => v

/-- The exact number of a finite value; 0 for the others. -/
def valDy : Val → Dy
  | .fin neg m e => dyNorm ⟨if neg then -(m : Int) else m, e⟩
  | _ => ⟨0, 0⟩

/-- The magnitude of an exponent E8M0 (R111): none for NaN. -/
def e8m0 (e : Nat) : Option Int := if e = 0xFF then none else some ((e : Int) - 127)

/-! ## Packing (R103) -/

/-- The `w`-bit element at bit offset `o` of a little-endian string of bytes. -/
def bitsAt (l : List Byte) (o w : Nat) : Nat := leNat (slice l (o / 8) ((o % 8 + w + 7) / 8)) / 2 ^ (o % 8) % 2 ^ w

/-- Elements packed from the lowest address and the least significant bit; unused bits are written as zero. -/
def packGo (w : Nat) : List Nat → Nat → Nat → Nat
  | [], _, acc => acc
  | x :: r, o, acc => packGo w r (o + w) (acc + (x % 2 ^ w) * 2 ^ o)

/-- Bytes that `n` packed elements take: 6-bit elements in whole groups. -/
def packedSize (f n : Nat) : Nat :=
  if fmtWidth f = 6 then ceilDiv n 4 * 3 else ceilDiv (n * fmtWidth f) 8

/-- Elements packed into bytes. -/
def packElems (f : Nat) (l : List Nat) : List Byte := leBytes (packedSize f l.length) (packGo (fmtWidth f) l 0 0)

/-! ## The tile's generator (R110) -/

/-- A generator: its state and the draws left of its last output. -/
abbrev Gen := U64 × List U16

/-- One step of xorshift64*. -/
def genStep (x : U64) : U64 :=
  let x := x ^^^ (x >>> 12)
  let x := x ^^^ (x <<< 25)
  x ^^^ (x >>> 27)

/-- The four draws of an output, bits 15:0 first. -/
def genDraws (x : U64) : List U16 :=
  let o := (x.toNat * 0x2545F4914F6CDD1D) % 2 ^ 64
  [BitVec.ofNat 16 o, BitVec.ofNat 16 (o / 2 ^ 16), BitVec.ofNat 16 (o / 2 ^ 32), BitVec.ofNat 16 (o / 2 ^ 48)]

/-- One draw. -/
def genDraw (g : Gen) : Nat × Gen :=
  match g.2 with
  | u :: r => (u.toNat, (g.1, r))
  | [] =>
    let x := genStep g.1
    match genDraws x with
    | u :: r => (u.toNat, (x, r))
    | [] => (0, (x, []))

/-- The state at launch (R110). -/
def genSeed (seed : U64) (t : Nat) : U64 :=
  let x := seed ^^^ BitVec.ofNat 64 ((t + 1) * 0x9E3779B97F4A7C15)
  if x = 0 then 1 else x

/-! ## Flags (R120) -/

def fInvalid : Nat := 0x01
def fOverflow : Nat := 0x02
def fSaturated : Nat := 0x04
def fUnderflow : Nat := 0x08
def fNanLost : Nat := 0x10
def fIntWrap : Nat := 0x20
def fEmptyRed : Nat := 0x40
def fScaleNan : Nat := 0x80

/-! ## Rounding and conversion (R104 to R109) -/

/-- ⌊m · 2^e⌋ for a magnitude, and whether anything was cut off. -/
def magFloor (m : Nat) (e : Int) : Nat × Bool :=
  if 0 ≤ e then (m * 2 ^ e.toNat, false) else (m / 2 ^ (-e).toNat, decide (m % 2 ^ (-e).toNat ≠ 0))

/-- The first `b` fraction bits of m · 2^e, truncated. -/
def magFrac (m : Nat) (e : Int) (b : Nat) : Nat := (magFloor m (e + b)).1 % 2 ^ b

/-- m · 2^e rounded to an integer under a `ROUND` code, with the draw taken when it is stochastic and inexact. -/
def roundMag (rnd m : Nat) (e : Int) (g : Gen) : Nat × Gen :=
  let (k, cut) := magFloor m e
  if !cut then (k, g)
  else match rnd with
    | 0 =>
      let twice := (magFloor m (e + 1)).1
      let tie := !(magFloor m (e + 1)).2
      (if twice % 2 = 1 ∧ (tie = false ∨ k % 2 = 1) then k + 1 else k, g)
    | 1 => let (u, g) := genDraw g; (if u < magFrac m e 16 then k + 1 else k, g)
    | _ => (k, g)

/-- ⌊log₂ (m · 2^e)⌋ for a magnitude above zero. -/
def magLog (m : Nat) (e : Int) : Int := (m.log2 : Int) + e

/-- The result of a conversion: the encoding, the flags it sets, and the generator after it. -/
abbrev Cvt := Nat × Nat × Gen

/-- The encoding of a signed magnitude of a float format. -/
def withSign (f : Nat) (neg : Bool) (mag : Nat) : Nat := mag + (if neg then 2 ^ (fmtWidth f - 1) else 0)

/-- The encoding of k · 2^q, with q the unit of its binade. -/
def magEnc (f k : Nat) (q : Int) : Nat := (q - fmtLow f).toNat * 2 ^ fmtMan f + k

/-- The encoding of the largest finite magnitude. -/
def maxEnc (f : Nat) : Nat :=
  match f with
  | 0 => 7
  | 2 | 3 => 0x1F
  | 4 => 0x7E
  | 5 => 0x7B
  | 7 => 0x7F7F
  | 8 => 0x7BFF
  | _ => 0x7F7FFFFF

/-- "Finite, rounds beyond largest finite" (R106). -/
def beyond (f : Nat) (sat neg : Bool) (g : Gen) : Cvt :=
  if fmtInf f && !sat then (withSign f neg (infOf f), fOverflow, g) else (withSign f neg (maxEnc f), fSaturated, g)

/-- A magnitude above the largest finite one under a `ROUND` code (R106, R109). -/
def tooLarge (f rnd : Nat) (sat neg : Bool) (m : Nat) (e : Int) (g : Gen) : Cvt :=
  let v : Dy := ⟨m, e⟩
  match rnd with
  | 0 => if dyLe (dyAdd (fmtMax f) (fmtNext f)) (dyScale v 1) then beyond f sat neg g else (withSign f neg (maxEnc f), 0, g)
  | 1 =>
    if dyLe (fmtNext f) v then beyond f sat neg g
    else
      let gap := dySub (fmtNext f) (fmtMax f)
      let d := dySub v (fmtMax f)
      let b := min d.e gap.e
      let frac := ((dyAt d b) * 65536 / dyAt gap b).toNat
      let (u, g) := genDraw g
      if u < frac then beyond f sat neg g else (withSign f neg (maxEnc f), 0, g)
  | _ => (withSign f neg (maxEnc f), fSaturated, g)

/-- A non-zero finite value to a float format. -/
def finToFloat (f rnd : Nat) (sat neg : Bool) (m : Nat) (e : Int) (g : Gen) : Cvt :=
  if dyLt (fmtMax f) ⟨m, e⟩ then tooLarge f rnd sat neg m e g
  else
    let q := max (fmtLow f) (magLog m e - fmtMan f)
    let (k, g) := roundMag rnd m (e - q) g
    (withSign f neg (magEnc f k q), if k = 0 then fUnderflow else 0, g)

/-- The ends of an integer format. -/
def intLow (f : Nat) : Int := -(2 ^ (fmtWidth f - 1))
def intHigh (f : Nat) : Int := 2 ^ (fmtWidth f - 1) - 1

/-- An integer as an encoding. -/
def intEnc (f : Nat) (i : Int) : Nat := (i % 2 ^ fmtWidth f).toNat

/-- A finite value to an integer format. -/
def finToInt (f rnd : Nat) (neg : Bool) (m : Nat) (e : Int) (g : Gen) : Cvt :=
  let v : Dy := ⟨if neg then -(m : Int) else m, e⟩
  if rnd ≠ 0 ∧ (dyLt (dyInt (intHigh f)) v ∨ dyLt v (dyInt (intLow f))) then
    (intEnc f (if neg then intLow f else intHigh f), fSaturated, g)
  else
    let (k, g) := roundMag rnd m e g
    let i : Int := if neg then -(k : Int) else k
    if intHigh f < i then (intEnc f (intHigh f), fSaturated, g)
    else if i < intLow f then (intEnc f (intLow f), fSaturated, g)
    else (intEnc f i, 0, g)

/-- Conversion of a value (R106): its encoding, the flags, and the generator after the draws. -/
def convert (f rnd : Nat) (sat : Bool) (v : Val) (g : Gen) : Cvt :=
  if fmtInt f then
    match v with
    | .nan => (0, fNanLost, g)
    | .inf neg => (intEnc f (if neg then intLow f else intHigh f), fSaturated, g)
    | .fin neg m e => finToInt f rnd neg m e g
  else match v with
    | .nan => if fmtNan f then (nanOf f, 0, g) else (0, fNanLost, g)
    | .inf neg => if fmtInf f then (withSign f neg (infOf f), 0, g) else (withSign f neg (maxEnc f), fSaturated, g)
    | .fin neg m e => if m = 0 then (withSign f neg 0, 0, g) else finToFloat f rnd sat neg m e g

/-- Conversion under a conversion control byte (R104). -/
def convertBy (cvt : Nat) (v : Val) (g : Gen) : Cvt := convert (field cvt 3 0) (field cvt 5 4) (bit cvt 6) v g

/-- Round to nearest, ties to even, with no draw: encoding and flags. -/
def roundTo (f : Nat) (v : Val) : Nat × Nat := let c := convert f 0 false v (0, []); (c.1, c.2.1)

/-- A conversion control byte that R104 or R105 forbids: its fault code. -/
def cvtFault (cvt : Nat) : Option Nat :=
  if 0xB ≤ field cvt 3 0 ∨ field cvt 5 4 = 3 ∨ bit cvt 7 then some 0x1101
  else if field cvt 5 4 = 1 ∧ 9 ≤ field cvt 3 0 then some 0x1102 else none

/-! ## Exact operations on values (R117, R118): the value and the flags -/

/-- Sign of a value; of a NaN, plus. -/
def valNeg : Val → Bool
  | .nan => false
  | .inf n => n
  | .fin n _ _ => n

/-- A value with its sign changed. -/
def negVal : Val → Val
  | .nan => .nan
  | .inf n => .inf (!n)
  | .fin n m e => .fin (!n) m e

/-- A value without its sign. -/
def absVal : Val → Val
  | .nan => .nan
  | .inf _ => .inf false
  | .fin _ m e => .fin false m e

/-- A finite value from an exact number; `negZero` gives the sign of a zero. -/
def dyVal (d : Dy) (negZero : Bool) : Val :=
  if d.m = 0 then .fin negZero 0 0 else .fin (decide (d.m < 0)) d.m.natAbs d.e

/-- a + b, exact. -/
def addVal (a b : Val) : Val × Nat :=
  match a, b with
  | .nan, _ | _, .nan => (.nan, 0)
  | .inf x, .inf y => if x = y then (.inf x, 0) else (.nan, fInvalid)
  | .inf x, _ => (.inf x, 0)
  | _, .inf y => (.inf y, 0)
  | .fin x _ _, .fin y _ _ => (dyVal (dyAdd (valDy a) (valDy b)) (x && y), 0)

/-- a × b, exact. -/
def mulVal (a b : Val) : Val × Nat :=
  match a, b with
  | .nan, _ | _, .nan => (.nan, 0)
  | .inf x, .inf y => (.inf (x != y), 0)
  | .inf x, .fin y m _ => if m = 0 then (.nan, fInvalid) else (.inf (x != y), 0)
  | .fin x m _, .inf y => if m = 0 then (.nan, fInvalid) else (.inf (x != y), 0)
  | .fin x m e, .fin y n k => (.fin (x != y) (m * n) (e + k), 0)

/-- Both operations yield a rounded FP32 encoding and its flags; a result that R118 rounds. -/
def roundFlags (f : Nat) (r : Val × Nat) : Nat × Nat := let c := roundTo f r.1; (c.1, r.2 ||| c.2)

/-- FP32 addition and multiplication of encodings, rounded once. -/
def add32 (a b : Nat) : Nat × Nat := roundFlags 9 (addVal (decodeVal 9 a) (decodeVal 9 b))
def mul32 (a b : Nat) : Nat × Nat := roundFlags 9 (mulVal (decodeVal 9 a) (decodeVal 9 b))
/-- a × b + c rounded once. -/
def fmaVal (a b c : Val) : Val × Nat :=
  let p := mulVal a b
  let r := addVal p.1 c
  (r.1, p.2 ||| r.2)

/-- a < b, false when either is NaN. -/
def ltVal (a b : Val) : Bool :=
  match a, b with
  | .nan, _ | _, .nan => false
  | .inf x, .inf y => x && !y
  | .inf x, _ => x
  | _, .inf y => !y
  | _, _ => dyLt (valDy a) (valDy b)

/-- a = b by IEEE 754: false with a NaN, and the two zeros are equal. -/
def eqVal (a b : Val) : Bool :=
  match a, b with
  | .nan, _ | _, .nan => false
  | .inf x, .inf y => x == y
  | .inf _, _ | _, .inf _ => false
  | _, _ => dyEq (valDy a) (valDy b)

/-- a is below b with -0 below +0 (R173). -/
def belowVal (a b : Val) : Bool := ltVal a b || (eqVal a b && valNeg a && !valNeg b)

/-- MIN or MAX of two encodings of a float format (R173): the canonical NaN when either is NaN. -/
def floatPick (f : Nat) (wantMax : Bool) (a b : Nat) : Nat :=
  match decodeVal f a, decodeVal f b with
  | .nan, _ | _, .nan => nanOf f
  | x, y => if belowVal (if wantMax then y else x) (if wantMax then x else y) then a else b

end Sys2Proof.Machine
end

