-- ==== Sys2Proof/Machine/Approx.lean ====
section
/-!
DEFINITION. The approximate functions (R119, R206): references to 256 bits, the cases the spec gives exactly, and results that
lie anywhere within the stated bound of the reference (a free value, log entry 5).
-/

set_option Elab.async false

namespace Sys2Proof.Machine

/-! ## References in fixed point with 256 fraction bits -/

/-- The fraction bits of the references. -/
def refBits : Nat := 256

/-- A fixed-point number as an exact one. -/
def fixDy (n : Nat) : Dy := dyNorm ⟨n, -256⟩

/-- The fixed-point reading of an exact number at or above zero. -/
def dyFix (x : Dy) : Nat := (dyFloor (dyScale x 256)).toNat

/-- ln 2, as the sum of 1 / (k 2^k). -/
def ln2Fix : Nat := ((List.range' 1 270).map (fun k => 2 ^ 256 / (k * 2 ^ k))).foldl (· + ·) 0

/-- Multiply by the roots 2^(1/2), 2^(1/4), … that the fraction's bits select. -/
def exp2Go : Nat → Nat → Nat → Nat → Nat
  | 0, _, _, acc => acc
  | k + 1, f, r, acc =>
    let r := isqrt (r * 2 ^ 256)
    let f := 2 * f
    if 2 ^ 256 ≤ f then exp2Go k (f - 2 ^ 256) r (acc * r / 2 ^ 256) else exp2Go k f r acc

/-- 2^x; 0 far below every format. -/
def exp2Ref (x : Dy) : Dy :=
  let i := dyFloor x
  if i < -1000 then ⟨0, 0⟩
  else dyNorm ⟨exp2Go 240 (dyFix (dySub x (dyInt i))) (2 ^ 257) (2 ^ 256), i - 256⟩

/-- The bits of log2 of a fixed-point number in [1, 2). -/
def log2Go : Nat → Nat → Nat → Nat
  | 0, _, acc => acc
  | k + 1, y, acc =>
    let y := y * y / 2 ^ 256
    if 2 ^ 257 ≤ y then log2Go k (y / 2) (2 * acc + 1) else log2Go k y (2 * acc)

/-- log2 of m * 2^e, m above zero. -/
def log2Ref (m : Nat) (e : Int) : Dy :=
  let k := m.log2
  dyAdd (dyInt (k + e)) (dyNorm ⟨log2Go 128 (m * 2 ^ 256 / 2 ^ k) 0, -128⟩)

/-- The quotient of two magnitudes m / n, to 256 bits below m's unit. -/
def quotRef (m n : Nat) : Dy := dyNorm ⟨m * 2 ^ 256 / n, -256⟩

/-- 1 / (m * 2^e). -/
def rcpRef (m : Nat) (e : Int) : Dy := dyNorm ⟨2 ^ (256 + m.log2) / m, -256 - m.log2 - e⟩

/-- 1 / √(m * 2^e). -/
def rsqrtRef (m : Nat) (e : Int) : Dy :=
  let (m, e) := if e % 2 = 0 then (m, e) else (2 * m, e - 1)
  let k := 2 * (256 + m.log2)
  dyNorm ⟨isqrt (2 ^ k / m), -((256 + m.log2 : Nat) : Int) - e / 2⟩

/-- ln of a positive exact number. -/
def lnRef (x : Dy) : Dy := dyMul (log2Ref x.m.natAbs x.e) (fixDy ln2Fix)

/-- e^x. -/
def expRef (x : Dy) : Dy :=
  let y := dyMul x (fixDy (2 ^ 512 / ln2Fix))
  if dyLt (dyInt 100000) y then exp2Ref (dyInt 100000) else exp2Ref y

/-! ## Free results within a bound -/

/-- An FP32 result: any finite encoding that meets the bound, or the nearest one to the reference. -/
def pickNear (ok : Dy → Bool) (ref : Val) (gen key : Nat) : Nat × Nat :=
  let base := roundTo 9 ref
  let cand := Config.openNat gen key % 2 ^ 32
  match decodeVal 9 cand with
  | .fin n m e =>
    if valDy ref ≠ ⟨0, 0⟩ ∧ base.2 &&& fOverflow = 0 ∧ ok (valDy (.fin n m e)) then (cand, if m = 0 then fUnderflow else 0)
    else base
  | _ => base

/-- |v - t| is at most a bound. -/
def within (t bound v : Dy) : Bool := dyLe (dyAbs (dySub v t)) bound

/-- One unit in the last place of FP32 at an exact number. -/
def ulp32 (t : Dy) : Dy := ⟨1, max (-149) (magLog t.m.natAbs t.e - 23)⟩

/-! ## EXP2, LOG2, RCP and RSQRT (R119) -/

/-- 2^k in a format, when it is representable there. -/
def powerIn (f : Nat) (neg : Bool) (k : Int) : Option (Nat × Nat) :=
  if fmtLow f ≤ k ∧ dyLe ⟨1, k⟩ (fmtMax f) then some ((roundTo f (.fin neg 1 k)).1, 0) else none

/-- The exact and special cases of an approximate function: 0x2C EXP2, 0x2D LOG2, 0x2E RCP, 0x2F RSQRT. -/
def approxKnown (op f : Nat) (v : Val) : Option (Nat × Nat) :=
  let x := valDy v
  match v with
  | .nan => some (nanOf f, 0)
  | .inf neg =>
    match op with
    | 0x2C => some (if neg then 0 else infOf f, 0)
    | 0x2D => some (if neg then (nanOf f, fInvalid) else (infOf f, 0))
    | 0x2E => some (withSign f neg 0, 0)
    | _ => some (if neg then (nanOf f, fInvalid) else (0, 0))
  | .fin neg m _ =>
    match op with
    | 0x2C =>
      if dyLe (dyInt 128) x then some (infOf f, fOverflow)
      else if dyLt x (dyInt (-150)) then some (0, fUnderflow)
      else if x.e < 0 then none else powerIn f false (dyFloor x)
    | 0x2D =>
      if m = 0 then some (withSign f true (infOf f), 0)
      else if neg then some (nanOf f, fInvalid)
      else if x.m = 1 then some ((roundTo f (valInt x.e)).1, 0) else none
    | 0x2E =>
      if m = 0 then some (withSign f neg (infOf f), 0)
      else if x.m.natAbs = 1 then powerIn f neg (-x.e) else none
    | _ =>
      if m = 0 then some (withSign f neg (infOf f), 0)
      else if neg then some (nanOf f, fInvalid)
      else if x.m = 1 ∧ x.e % 2 = 0 then powerIn f false (-(x.e / 2)) else none

/-- The reference of an approximate function of a finite value. -/
def approxRef (op : Nat) (v : Val) : Val :=
  let x := valDy v
  match op with
  | 0x2C => dyVal (exp2Ref x) false
  | 0x2D => dyVal (log2Ref x.m.natAbs x.e) false
  | 0x2E => let r := rcpRef x.m.natAbs x.e; dyVal (if x.m < 0 then dyNeg r else r) false
  | _ => dyVal (rsqrtRef x.m.natAbs x.e) false

/-- The bound of R119 at FP32. -/
def approxBound (op : Nat) (v : Val) (t : Dy) : Dy :=
  if op = 0x2D ∧ dyLe ⟨1, -1⟩ (valDy v) ∧ dyLe (valDy v) ⟨1, 1⟩ then ⟨1, -22⟩
  else dyScale (ulp32 t) (if op = 0x2E then 0 else 1)

/-- An approximate function at FP32. -/
def approx32 (op : Nat) (v : Val) (gen key : Nat) : Nat × Nat :=
  match approxKnown op 9 v with
  | some r => r
  | none =>
    let ref := approxRef op v
    pickNear (within (valDy ref) (approxBound op v (valDy ref))) ref gen key

/-- An approximate function at a working type: BF16 computes at FP32 and rounds once; for FP16 the spec states no bound, so
outside the exact and special cases the result is a free value (log entry 5). -/
def approxFn (op f : Nat) (v : Val) (gen key : Nat) : Nat × Nat :=
  match approxKnown op f v with
  | some r => r
  | none =>
    match f with
    | 9 => approx32 op v gen key
    | 7 =>
      let r := approx32 op v gen key
      let c := roundTo 7 (decodeVal 9 r.1)
      (c.1, r.2 ||| c.2)
    | _ =>
      let e := Config.openNat gen key % 2 ^ 16
      (e, match decodeVal 8 e with
        | .nan => fInvalid
        | .inf _ => fOverflow
        | .fin _ m _ => if m = 0 then fUnderflow else 0)

end Sys2Proof.Machine
end

