-- ==== Sys2Proof/Machine/Image.lean ====
section
/-!
DEFINITION. The Calendar image as it lies in the Store (R54 to R62): header, sections, frame records, list sets, pass lists
and their entries; and the loops of the frame table (R58, R59).
-/

set_option Elab.async false

namespace Sys2Proof.Machine

/-- The `n`-byte field at an image offset. -/
def imgNat (s : State) (img off n : Nat) : Nat := leNat (readStore s (img + off) n)

/-- The header's fields (R54). -/
def hdrAt (s : State) (img : Nat) : Hdr :=
  { k := imgNat s img 7 1, fclk := imgNat s img 8 1, lead := imgNat s img 12 4, size := imgNat s img 16 4
    frames := imgNat s img 20 4, seed := BitVec.ofNat 64 (imgNat s img 24 8), calId := BitVec.ofNat 64 (imgNat s img 32 8)
    minLink := imgNat s img 6 1, tileMap := BitVec.ofNat 512 (imgNat s img 48 64) }

/-- A section entry (R55). -/
structure Sec where
  kind : Nat
  attr : Nat
  rsv : Nat
  off : Nat
  size : Nat
  crc : Nat
  deriving DecidableEq, Repr

/-- Section entry `i`. -/
def secAt (s : State) (img i : Nat) : Sec :=
  let b := 112 + 16 * i
  { kind := imgNat s img b 1, attr := imgNat s img (b + 1) 1, rsv := imgNat s img (b + 2) 2, off := imgNat s img (b + 4) 4
    size := imgNat s img (b + 8) 4, crc := imgNat s img (b + 12) 4 }

/-- The eight section entries. -/
def secs (s : State) (img : Nat) : List Sec := (List.range 8).map (secAt s img)

/-- The section of a kind; an absent one has size 0. -/
def secOf (s : State) (img kind : Nat) : Sec :=
  ((secs s img).find? (fun x => decide (x.kind = kind))).getD ⟨kind, 0, 0, 0, 0, 0⟩

/-- A frame record (R57). -/
structure FrameRec where
  listSet : Nat
  phaseFirst : Nat
  phaseCount : Nat
  loopEnd : Bool
  rsv : Nat
  span : Nat
  loopTo : Nat
  loopRsv : Nat
  loopCount : Nat
  deriving DecidableEq, Repr

/-- Frame record `i`. -/
def frameAt (s : State) (img i : Nat) : FrameRec :=
  let b := (secOf s img 1).off + 16 * i
  let c := imgNat s img (b + 4) 1
  let l := imgNat s img (b + 8) 4
  { listSet := imgNat s img b 2, phaseFirst := imgNat s img (b + 2) 2, phaseCount := c % 16, loopEnd := bit c 4
    rsv := c / 32, span := imgNat s img (b + 5) 3, loopTo := l % 2 ^ 20, loopRsv := l / 2 ^ 20
    loopCount := imgNat s img (b + 12) 4 }

/-- The pass-list offset of a tile in a list set (R60). -/
def listOffset (s : State) (img set t : Nat) : Nat := imgNat s img ((secOf s img 2).off + 2048 * set + 4 * t) 4

/-- A pass-list entry (R62). -/
structure Entry where
  desc : Nat
  kind : Nat
  bar : Bool
  deps : List Nat
  mark : Nat
  cost : Nat
  notBefore : Nat
  /-- the reserved bits -/
  rsv : Nat
  deriving DecidableEq, Repr

/-- Entry `pos` of the pass list at an image offset (R61). -/
def entryAt (s : State) (img list pos : Nat) : Entry :=
  let b := list + 16 + 16 * pos
  let k := imgNat s img (b + 4) 1
  let d := imgNat s img (b + 5) 3
  { desc := imgNat s img b 4, kind := k % 16, bar := bit k 4, deps := [field d 5 0, field d 11 6, field d 17 12]
    mark := imgNat s img (b + 8) 3, cost := imgNat s img (b + 11) 3, notBefore := imgNat s img (b + 14) 2
    rsv := k / 32 + d / 2 ^ 18 }

/-- The image offset of a descriptor. -/
def descAt (s : State) (img desc : Nat) : Nat := (secOf s img 4).off + desc

/-- `VMODE` of the pass-list section that holds a list (R55, R56). -/
def listVmode (s : State) (img list : Nat) : Bool :=
  (secs s img).any (fun x => decide (x.kind = 3) && decide (x.off ≤ list) && decide (list < x.off + x.size) && bit x.attr 0)

/-! ## Loops (R58, R59) -/

/-- A loop of the frame table: its first and its closing record, and its extra iterations. -/
structure Loop where
  first : Nat
  last : Nat
  extra : Nat
  deriving DecidableEq, Repr

/-- The loops, by ascending closing record. -/
def loopsOf (s : State) (img frames : Nat) : List Loop :=
  (List.range frames).filterMap (fun i =>
    let r := frameAt s img i
    if r.loopEnd then some ⟨r.loopTo, i, r.loopCount⟩ else none)

/-- A record lies in a loop's body. -/
def inLoop (l : Loop) (i : Nat) : Bool := decide (l.first ≤ i) && decide (i ≤ l.last)

/-- How often a record runs through the loops of a list that hold it. -/
def loopWeight (ls : List Loop) (i : Nat) : Nat := ((ls.filter (fun l => inLoop l i)).map (fun l => l.extra + 1)).foldl (· * ·) 1

/-- Frames still to run after the frame of record `r`, with `remaining` of R58. -/
def framesLeft (ls : List Loop) (frames r : Nat) (remaining : SMap Nat) : Nat :=
  let held := ls.filter (fun l => inLoop l r)
  let out := ls.filter (fun l => !inLoop l r)
  let tail := ((List.range' (r + 1) (frames - (r + 1))).map (loopWeight out)).foldl (· + ·) 0
  let again := held.map (fun l =>
    let inner := ls.filter (fun m => decide (l.first ≤ m.first) && decide (m.last ≤ l.last) && decide (m ≠ l))
    ((mfind remaining l.last).getD l.extra) *
      ((List.range' l.first (l.last + 1 - l.first)).map (loopWeight inner)).foldl (· + ·) 0)
  tail + again.foldl (· + ·) 0

/-- The record after record `i`, and `remaining` (R58). -/
def nextRecord (f : FrameRec) (i : Nat) (remaining : SMap Nat) : Nat × SMap Nat :=
  if f.loopEnd then
    let n := (mfind remaining i).getD f.loopCount
    if 0 < n then (f.loopTo, mput remaining i (n - 1)) else (i + 1, mdel remaining i)
  else (i + 1, remaining)

/-! ## The running Calendar -/

/-- The list set of a record, with the substitutions of the Larder plan (R226). -/
def listSetOf (s : State) (c : Cal) (r : Nat) : Nat := (mfind c.larder.subst r).getD (frameAt s c.addr r).listSet

/-- The Calend index that closes the current frame. -/
def closingIndex (r : Run) : Nat := r.openC + 1 + flag r.leaped

/-- The Calend index of the completing Calend, as known now (R87, R90). -/
def completingIndex (s : State) (r : Run) : Nat :=
  closingIndex r + framesLeft (loopsOf s r.cal.addr r.cal.hdr.frames) r.cal.hdr.frames r.record r.remaining

end Sys2Proof.Machine
end

