-- ==== Sys2Proof/Machine/Marshal.lean ====
section
/-!
DEFINITION. Marshal operations (02): issue and completion, pending lines, the projection, overruns and leaps, what a
halting Calend ends, and a Tile reset.
-/

set_option Elab.async false

namespace Sys2Proof.Machine

/-- Every tile in ascending order. -/
def eachTile (f : Nat → State → State) (s : State) : State := forEach (List.range 512) f s

/-! ## Issue and completion (R63 to R66) -/

/-- The Store address of the running Calendar's image. -/
def runImg (s : State) : Nat :=
  match s.frames.run with
  | some r => r.cal.addr
  | none => 0

/-- An entry holds a scoreboard slot. -/
def onBoard (x : Tile) (pos : Nat) : Bool := x.board.any (fun b => decide (b.pos = pos))

/-- The first unissued entry of tile `t`, while its Marshal runs a frame. -/
def nextEntry (s : State) (t : Nat) : Option Entry :=
  let x := tileOf s t
  match x.list with
  | some (off, cnt) => if x.pos < cnt then some (entryAt s (runImg s) off x.pos) else none
  | none => none

/-- The entry that issues now if its unit accepts it (R63, items 1 to 4 and 6), when it is of a kind. -/
def issuable (s : State) (t kind : Nat) : Option Entry :=
  let x := tileOf s t
  match nextEntry s t with
  | none => none
  | some e =>
    if x.st = 1 ∧ x.hung = false ∧ e.kind = kind ∧ e.deps.all (fun d => decide (d = 0) || !onBoard x (x.pos - d)) ∧
        (e.bar = false ∨ x.board = []) ∧ x.opened + 4 * e.notBefore ≤ now s ∧ x.board.length < 64 then some e
    else none

/-- Bytes of the descriptor that an entry names. -/
def descBytes (s : State) (e : Entry) (n : Nat) : List Byte := readStore s (runImg s + descAt s (runImg s) e.desc) n

/-- The entry issues: it takes a scoreboard slot (R64). -/
def issue (t : Nat) (e : Entry) (s : State) : State :=
  modTile t (fun x => { x with
    board := x.board ++ [{ pos := x.pos, kind := e.kind, cost := e.cost, at_ := cycleUnits s t, notBefore := e.notBefore }]
    pos := x.pos + 1 }) s

/-- Every entry of the tile's pass list has issued. -/
def allIssued (x : Tile) : Bool :=
  match x.list with
  | some (_, cnt) => decide (cnt ≤ x.pos)
  | none => true

/-- Every entry has completed: the tile's frame is complete (R66). -/
def settleFrame (x : Tile) : Tile := if x.st = 1 ∧ x.board = [] ∧ allIssued x then { x with st := 2 } else x

/-! ## Pending lines (R140, R141) -/

/-- A line of the tile buffer is marked pending. -/
def linePending (s : State) (t line : Nat) : Bool :=
  (tileOf s t).runs.any (fun r => !r.2.stopped && decide (r.2.line0 ≤ line) && decide (line ≤ r.2.line1))

/-- Some line of `n` bytes of the tile buffer from `a` is marked pending. -/
def pendingIn (s : State) (t a n : Nat) : Bool := (linesOf a n).any (linePending s t)

/-! ## Leaps (R81, R86) -/

/-- The launch that is validating or armed fails with 0x102B, without touching the running Calendar (R87, R89). -/
def failStart (s : State) : State :=
  match s.frames.held with
  | none => s
  | some _ => failHeld 2 0x102B 0 2 (logFault 0x102B none 0 s)

/-- The leap of the current frame is taken (R81), with the origin and tile of the notice; 16 leaps in 1,024 ordinals raise
0x1002 once (R86), and an armed launch that the moved completion reaches fails (R87). -/
def takeLeap (origin tile : Nat) (s : State) : State :=
  match s.frames.run with
  | none => s
  | some r =>
    let ords := (r.ordinal :: r.leapOrds).filter (fun o => decide (r.ordinal < o + 1024))
    let many := decide (16 ≤ ords.length) && !r.leapAdvised
    let r' := { r with leaped := true, leapOrds := ords, leapAdvised := r.leapAdvised || many }
    let s := { s with
      frames := { s.frames with run := some r', leaps := s.frames.leaps + 1 }
      tiles := mmapv {} (fun x => if (x.st = 1 ∨ x.st = 2) ∧ x.stuck = false then { x with leaped := true } else x) s.tiles }
    let s := raiseFault 0x1001 (if tile < 512 then some tile else none) origin s
    let s := onlyIf many (raise 0x1002 r.ordinal) s
    match s.frames.held with
    | some h =>
      if h.armed ∧ h.start ≠ 0 ∧ h.start ≤ completingIndex s r' * 2 ^ r.cal.hdr.k then failStart s else s
    | none => s

/-! ## The projection (R78, R79, R84) -/

/-- The tile clock now, in 50 MHz units: halved while the stretch lasts (R71). -/
def clockNow (s : State) (t : Nat) : Nat := if s.pow.stretch then (keepOf s t).clock else 2 * (keepOf s t).clock

/-- P of R78 as a numerator over `FCLK` · f, with `extra` tile cycles added. -/
def projection (s : State) (t extra : Nat) : Nat × Nat :=
  let x := tileOf s t
  let g := clockNow s t
  match s.frames.run with
  | none => (0, 1)
  | some r =>
    let f := r.cal.hdr.fclk
    let d := f * g
    let tm := now s * d
    let span := (frameAt s r.cal.addr x.record).span
    let pi := match nextEntry s t with
      | some e => max tm (x.opened * d + 10 * e.mark * g) + (span - e.mark) * 20 * f
      | none => tm
    let pf := (x.board.map (fun b => tm + (b.cost - (cycleUnits s t - b.at_) / 20) * 20 * f)).foldl max 0
    (max pi pf + extra * 20 * f, d)

/-- The tile declares overrun (R79): the notice goes out and the leap is taken here. -/
def declareOverrun (t : Nat) (s : State) : State :=
  match s.frames.run with
  | none => s
  | some r =>
    let s := modTile t (fun x => { x with declared := true }) s
    takeLeap (ownKey s) t (sendOwn (ownNotice s 1 r.ordinal 0 0 t r.cal.hdr.calId) s)

/-- The Marshal evaluates its projection (R78): before the deadline it may declare overrun (R79); in a leaped frame a
projection past the moved Calend is Job-fatal 0x1011 (R84). -/
def evaluate (t : Nat) (s : State) : State :=
  let x := tileOf s t
  match s.frames.run with
  | none => s
  | some r =>
    if x.st = 1 ∧ x.stuck = false ∧ r.halting.isNone then
      let (p, d) := projection s t 0
      let period := 2 ^ r.cal.hdr.k
      if r.leaped = false then
        if now s ≤ x.opened + period - r.cal.hdr.lead ∧ (x.opened + period) * d < p then declareOverrun t s else s
      else if (x.opened + 2 * period) * d < p ∧ x.second = false then
        raiseTile 0x1011 t x.ordinal (modTile t (fun x => { x with second := true }) s)
      else s
    else s

/-- An entry has issued: the projection is evaluated. -/
def issued (t : Nat) (e : Entry) (s : State) : State := evaluate t (issue t e s)

/-- The entry at a position completes (R65, R66). -/
def complete (t pos : Nat) (s : State) : State :=
  evaluate t (modTile t (fun x => settleFrame { x with board := x.board.filter (fun b => decide (b.pos ≠ pos)) }) s)

/-- Set the arithmetic flags of a tile (R120). -/
def setFlags (t fl : Nat) (s : State) : State := modTile t (fun x => { x with flags := x.flags ||| BitVec.ofNat 8 fl }) s

/-- Store the generator of a tile. -/
def setGen (t : Nat) (g : Gen) (s : State) : State := modTile t (fun x => { x with gen := g.1, draws := g.2 }) s
/-- The generator of a tile. -/
def genOf (s : State) (t : Nat) : Gen := ((tileOf s t).gen, (tileOf s t).draws)

/-- The halting Calend of the running Calendar has passed, or a halted Calendar holds the package. -/
def haltPassed (s : State) : Bool :=
  match s.frames.run with
  | some r => r.halting.isSome
  | none => s.frames.haltedHeld

/-! ## Transfers and Fences at their end (R378, R379, R382, R383) -/

/-- The bitmap of the pieces done. -/
def doneMap (x : Xfer) : Nat := (x.pieces.map (fun p => if p.2.done then 2 ^ p.1 else 0)).foldl (· + ·) 0

/-- Write a Transfer's status and complete it (R378). -/
def endXfer (t : Nat) (x : Xfer) (result : Nat) (s : State) : State :=
  let s := bufWrite t x.status (leBytes 8 (doneMap x) ++ leBytes 1 result ++ leBytes 1 0 ++ leBytes 2 x.code.toNat ++
    leBytes 4 0) s
  complete t x.pos (modTile t (fun y => { y with xfers := y.xfers.filter (fun z => decide (z.tag ≠ x.tag)) }) s)

/-- Write a Fence's status and complete it (R382). -/
def endFence (t : Nat) (f : FenceRun) (interrupted : Bool) (s : State) : State :=
  let s := if f.status = 0xFFFFFFFF then s else bufWrite t f.status
    (leBytes 4 (f.undelivered % 2 ^ 31 + (if interrupted then 2 ^ 31 else 0)) ++
      leBytes 4 (if f.op = 0 then 0 else f.epoch.toNat)) s
  complete t f.pos (modTile t (fun y => { y with fences := y.fences.filter (fun z => decide (z.pos ≠ f.pos)) }) s)

/-- A queued packet belongs to a Transfer of a tile. -/
def isXferPacket (s : State) (t tag : Nat) (x : Payload) : Bool :=
  match x with
  | .packet p => (decide (p.kind = 7) || decide (p.kind = 8)) && decide (p.src = s.fabric.coord.getD 0) &&
      decide (p.srcTile.toNat = t) && decide (p.rtag.toNat = tag)
  | _ => false

/-- A Transfer sends no further packet (R379): what it has queued and not sent is dropped. -/
def stopXfer (t tag : Nat) (s : State) : State :=
  let keep (x : Payload) : Bool := !isXferPacket s t tag x
  { s with links := { s.links with
    pairs := mmapv {} (fun p => { p with q := mmapv [] (fun l => l.filter (fun x => keep x.2)) p.q }) s.links.pairs
    splits := s.links.splits.map (fun x => { x with queue := x.queue.filter (fun p => keep (.packet p)) }) } }

/-- What a halting Calend ends at once on a tile (R92): its Transfers, with `RESULT` 3, and its Fences, interrupted. -/
def haltTile (t : Nat) (s : State) : State :=
  let x := tileOf s t
  let s := modTile t (fun x => { x with st := 3 }) s
  let s := forEach x.xfers (fun y s => endXfer t y 3 (stopXfer t y.tag s)) s
  forEach x.fences (fun y => endFence t y true) s

/-! ## Tile reset (R95, R536, R541) -/

/-- A Tile reset: everything of the tile but what `TileKeep` holds and each Herald's `RESEND` (R273); its buffer's content becomes
undefined. -/
def tileResetNow (t : Nat) (s : State) : State :=
  bufLose t { s with
    tiles := mset {} s.tiles t { her := mmapv {} (fun h => { resend := h.resend }) (tileOf s t).her }
    fabric := { s.fabric with reqs := s.fabric.reqs.filter (fun x => match x.2 with
      | some q => decide (q.tile ≠ t)
      | none => false) } }

end Sys2Proof.Machine
end

