-- ==== Sys2Proof/Machine/HomeSlice.lean ====
section
/-!
DEFINITION. The home slice (07): reads with their corrections and poison, writes with the checks on their address, their
mirror writes and the invalidation of far copies, and atomics.
-/

set_option Elab.async false

namespace Sys2Proof.Machine

/-! ## What holds an access at its home (R40, R256, R370, R402) -/

/-- Accesses to the row of an address stall while its copy runs (R256). -/
def rowBusy (s : State) (a : Nat) : Bool := mget false s.store.copying (physRow s a)

/-- A write can take effect now: no row copy holds it, and its mirror write finds room (R256, R402). -/
def writeRoom (s : State) (a : Nat) : Bool := !rowBusy s a && mirrorRoom s a

/-- A write waits at its home slice; for want of VC4 room, with `STALL` set (R402). -/
def writeWaits (a : Nat) (s : State) : State := if rowBusy s a then s else stallKeep s

/-- The request has been served and waits for invalidations. -/
def reqServed (s : State) (r : Nat) : Bool := s.store.waits.any (fun w => decide (w.req = some r))

/-- A request that has reached its home stalls there: its row is being copied, or its write finds no room (R256, R402). -/
def stallsAtHome (s : State) (q : Req) : Bool :=
  let a := gaLocal q.addr.toNat
  rowBusy s a || (decide (q.kind ≠ .load) && !writeRoom s a)

/-- A request of the own package is still to be served at its home. -/
def atHome (s : State) (r : Nat) (q : Req) : Bool := !q.remote && !q.answered && !reqServed s r

/-- An earlier request of the same tile comes first: to the same line until it has been served (R370), and to the same Store channel
interface until it has arrived there (R40, R44): it is served on arrival unless it stalls. -/
def olderWaits (s : State) (r : Nat) (q : Req) : Bool :=
  (reqList s).any (fun x => decide (x.1 < r) && decide (x.2.tile = q.tile) && atHome s x.1 x.2 &&
    (decide (x.2.addr.toNat / 128 = q.addr.toNat / 128) ||
      (decide (physChan s (gaLocal x.2.addr.toNat) = physChan s (gaLocal q.addr.toNat)) && !stallsAtHome s x.2)))

/-! ## The classes of a channel (R250, R251) -/

/-- A request of the own package other than `me` waits for channel `ch` in the given class: nothing but the grant holds it. -/
def waitsAt (s : State) (ch : Nat) (critical : Bool) (me : Option Nat) : Bool :=
  (reqList s).any (fun x => decide (some x.1 ≠ me) && decide (x.2.prio = critical) && atHome s x.1 x.2 &&
    decide (gaSpace x.2.addr.toNat = 0) && decide (physChan s (gaLocal x.2.addr.toNat) = ch) && !stallsAtHome s x.2 &&
    !olderWaits s x.1 x.2)

/-- 1,200 of the channel's last 1,600 slots, which span 1 µs, were granted to latency-critical requests (R250). -/
def capReached (s : State) (ch : Nat) : Bool :=
  decide (1200 ≤ ((chanOf s ch).grants.filter (fun g => g.2 && decide (now s < g.1 + 1000))).length)

/-- The next slot of a channel falls to a request of this class (R250): latency-critical ones go first, but under the cap a bulk
request that waits takes the slot. -/
def classTurn (s : State) (ch : Nat) (critical : Bool) (me : Option Nat) : Bool :=
  if capReached s ch then !critical || !waitsAt s ch false me else critical || !waitsAt s ch true me

/-- A channel grants one slot; one that bulk takes under the cap is counted (OD 0x5002.06). -/
def takeSlot (ch : Nat) (critical : Bool) (s : State) : State :=
  let s := onlyIf (!critical && capReached s ch && waitsAt s ch true none) (bump 0x500206 1) s
  modChan ch (fun c => { c with grants := ((now s, critical) :: c.grants).take 1600 }) s

/-! ## Corrections (R248, R252 to R256) -/

/-- What the channel's read of the word at `a` found takes effect (R252, R254): a correction is counted, and an uncorrectable word
poisons its line. It also says whether the physical row fails with it (R255). -/
def wordFound (a : Nat) (w : WordRead) (s : State) : Bool × State :=
  match w with
  | .clean => (false, s)
  | .corrected k =>
    if k.val = 0 then (false, s)
    else
      let row := physRow s a
      let n := mget 0 s.store.rowCorr row + 1
      let s := corrected 0x2001 none row (bump 0x500201 1 (modChan (physChan s a) (fun c => { c with
        corr := min 0xFFFF (c.corr + 1) }) s))
      (decide (3 ≤ k.val ∨ n = 16), { s with store := { s.store with rowCorr := mset 0 s.store.rowCorr row n } })
  | .uncorrectable => (true, setPoison (a / 128) true s)

/-- A word is read, and its row fails where R255 says so. -/
def oneWord (a : Nat) (w : WordRead) (s : State) : State :=
  let row := physRow s a
  let (bad, s) := wordFound a w s
  onlyIf bad (rowFailure row true) s

/-- Both words of a line are read; a row that fails for either fails once. -/
def lineWords (line : Nat) (x : LineRead) (s : State) : State :=
  let row := physRow s (line * 128)
  let (bad0, s) := wordFound (line * 128) x.w0 s
  let (bad1, s) := wordFound (line * 128 + 64) x.w1 s
  onlyIf (bad0 || bad1) (rowFailure row true) s

/-- The line's home slice holds bytes that its channel does not. -/
def dirtyLine (s : State) (line : Nat) : Bool := mget false s.store.dirty line

/-- The slice that holds the home copy of a line (R244). -/
def homeSlice (line : Nat) : Nat := storeChan (line * 128)

/-- A die-cache word of a slice was corrected, or a clean line is read again (R248). -/
def cacheCorrected (slice : Nat) (s : State) : State := raise 0x2008 slice (bump 0x500204 1 s)

/-- A line is written back, in bulk slots (R251), and is clean. -/
def writeBack (line : Nat) (s : State) : State :=
  if dirtyLine s line then
    let ch := physChan s (line * 128)
    setDirty line false (takeSlot ch false (takeSlot ch false s))
  else s

/-- The channel is read for a line: two words, one in each slot (R239). -/
def channelRead (critical : Bool) (line : Nat) (x : LineRead) (s : State) : State :=
  let ch := physChan s (line * 128)
  lineWords line x (takeSlot ch critical (takeSlot ch critical (writeBack line s)))

/-- A read that found this goes to the channel: a line that is not held, or a clean one with an uncorrectable error (R248). -/
def readsChannel (s : State) (line : Nat) (x : LineRead) : Bool :=
  match x.cache with
  | .held | .corrected => false
  | .missed => true
  | .uncorrectable => !dirtyLine s line

/-- An access to a line that found this has the slots that it needs (R250). -/
def lineTurn (s : State) (critical : Bool) (line : Nat) (x : LineRead) (me : Option Nat) : Bool :=
  !readsChannel s line x || classTurn s (physChan s (line * 128)) critical me

/-- What a read of a line at its home found takes effect (R246, R248): a line that is not held was written back before it left the
slice; an uncorrectable error loses a dirty line and has a clean one read again. -/
def lineFound (critical : Bool) (line : Nat) (x : LineRead) (s : State) : State :=
  match x.cache with
  | .held => s
  | .corrected => cacheCorrected (homeSlice line) s
  | .missed => channelRead critical line x s
  | .uncorrectable =>
    if dirtyLine s line then raise 0x2012 (homeSlice line) (setPoison line true s)
    else channelRead critical line x (cacheCorrected (homeSlice line) s)

/-- What an access to several lines found in one of them. -/
def readAt (l : LineReads) (line : Nat) : LineRead :=
  ((l.find? (fun x => decide (x.1.toNat = line))).map Prod.snd).getD {}

/-! ## Reads (R246, R252) -/

/-- What an access concerns, for the record of 0x2013 (R275): the segment of a Store address, the tile of a buffer address. -/
def addrContext (space a : Nat) : Nat :=
  match space with
  | 0 => storeSegNo (a % 2 ^ 34)
  | 1 => a / 2 ^ 22
  | _ => a

/-- A read of `n` bytes within a line at its home: the bytes, the poison mark, and the state; a read of a poisoned line
raises 0x2010 with its row, and one beyond the capacity 0x2013 (R243). `by_` is the requester where it is no tile of this package. -/
def homeRead (a n : Nat) (critical : Bool) (x : LineRead) (tile : Option Nat) (by_ : List Nat) (s : State) : List Byte × Bool × State :=
  let line := a / 128
  if capacity s ≤ a then (List.replicate n 0xFF, true, raiseWith 0x2013 tile (addrContext 0 a) (a :: by_) s)
  else
    let s := lineFound critical line x s
    if poisoned s line then
      (List.replicate n 0xFF, true, raiseWith 0x2010 tile (physRow s a) (line * 128 :: by_) (bump 0x500202 1 s))
    else (storeBytes s a n, false, s)

/-- A read that may cross lines, line by line. -/
def homeReadLines (critical : Bool) (l : LineReads) (tile : Option Nat) (by_ : List Nat) :
    Nat → Nat → Nat → State → List Byte × Bool × State
  | 0, _, _, s => ([], false, s)
  | k + 1, a, n, s =>
    if n = 0 then ([], false, s)
    else
      let m := min n (128 - a % 128)
      let (d, bad, s) := homeRead a m critical (readAt l (a / 128)) tile by_ s
      let (rest, bad', s) := homeReadLines critical l tile by_ k (a + m) (n - m) s
      (d ++ rest, bad || bad', s)

/-! ## Far copies (R45 to R49, R245, R369) -/

/-- MiB of a far part, per die (OD 0x5001.01). -/
def farPart (s : State) : Nat := odNum s 0x500101 16

/-- The key of the copy that a die holds of the line of a global address. -/
def farKey (ga die : Nat) : Nat := 8 * (ga / 128) + die

/-- The copy that a die holds of the line of a global address; a far part of 0 MiB holds none (R49). -/
def farCopy (s : State) (ga die : Nat) : Option (List Byte) :=
  if farPart s = 0 then none else
  match mget [] s.store.far (farKey ga die) with
  | [] => none
  | l => some l

/-- Set or drop a far copy. -/
def setFar (ga die : Nat) (l : List Byte) (s : State) : State :=
  { s with store := { s.store with far := mset [] s.store.far (farKey ga die) l } }

/-- The slice of its die that holds the copy with this key (R245). -/
def farSlice (k : Nat) : Nat := 64 * (k % 8) + storeChanInDie (gaLocal (k / 8 * 128))

/-- The copies in a slice. -/
def farHeld (s : State) (slice : Nat) : List Nat :=
  (s.store.far.map Prod.fst).filter (fun k => decide (farSlice k = slice))

/-- The lines that the far part's ways of one slice hold: F / 4 ways of 64 KiB (R244, R245). -/
def farRoom (s : State) : Nat := farPart s / 4 * 512

/-- A slice without room gives up one copy; which one the spec leaves open, so it is a free value (R244, log entry 27). -/
def evictFar (slice : Nat) (s : State) : State :=
  let l := farHeld s slice
  freshen { s with store := { s.store with far := mdel s.store.far (l.getD (Config.openNat s.fresh slice % l.length) 0) } }

/-- A die takes a copy of a line into its far part, which has no more lines than its ways hold (R245). -/
def placeFar (ga die : Nat) (l : List Byte) (s : State) : State :=
  if farPart s = 0 then s
  else
    let slice := farSlice (farKey ga die)
    let full := (mfind s.store.far (farKey ga die)).isNone && decide (farRoom s ≤ (farHeld s slice).length)
    setFar ga die l (onlyIf full (evictFar slice) s)

/-- A Season's far part holds no more copies than its ways (R45, R49). -/
def trimFar (s : State) : State :=
  if farPart s = 0 then { s with store := { s.store with far := [] } }
  else forEach (s.store.far.map Prod.fst) (fun k s => onlyIf (decide (farRoom s < (farHeld s (farSlice k)).length)) (evictFar (farSlice k)) s) s

/-- The dies of this package that hold a copy of the line of a global address: the presence vector (R46). -/
def farDies (s : State) (ga : Nat) : List Nat :=
  (List.range 8).filter (fun d => decide (mget [] s.store.far (farKey ga d) ≠ []))

/-- Drop every copy of the line of a global address (R369). -/
def dropFar (ga : Nat) (s : State) : State :=
  { s with store := { s.store with far := s.store.far.filter (fun c => decide (c.1 / 8 ≠ ga / 128)) } }

/-- The global address of an own Store address. -/
def ownGa (s : State) (a : Nat) : Nat := gaMake (ownKey s) 0 a

/-! ## Acknowledgements (R46, R368) -/

/-- The response to a packet, with what its kind carries (R368). -/
def responseTo (p : Packet) (kind : Nat) : Packet :=
  { kind := BitVec.ofNat 8 kind, prio := p.prio, src := p.src, srcTile := p.srcTile, rtag := p.rtag, addr := p.addr }

/-- A write's acknowledgement goes to the own Herald whose request it was, or to the package that asked. -/
def acknowledge (req : Option Nat) (ack : Option Packet) (s : State) : State :=
  let s := match req with
    | some r => match reqOf s r with
      | some q => answerReq r q.data q.poison s
      | none => s
    | none => s
  match ack with
  | some p => sendPacket p s
  | none => s

/-- Acknowledge once every far copy of the line has been invalidated (R46). -/
def whenInvalidated (a : Nat) (req : Option Nat) (ack : Option Packet) (s : State) : State :=
  let dies := farDies s (ownGa s a)
  if dies = [] then acknowledge req ack s
  else { s with store := { s.store with waits := s.store.waits ++ [⟨ownGa s a / 128, dies, req, ack⟩] } }

/-! ## Writes (R67, R243, R246, R399) -/

/-- Bytes of the image of a Calendar from launch to its end (R67). A Calendar that completes keeps its protection until its outcome
is fixed (DESIGN CHOICE, log entry 26). -/
def inImage (s : State) (a n : Nat) : Bool :=
  (match s.frames.run with
    | some r => overlaps a n r.cal.addr r.cal.hdr.size
    | none => false) ||
  (match s.frames.held with
    | some c => overlaps a n c.addr c.hdr.size
    | none => false)

/-- Why a write of `n` bytes by a tile, the fabric or a Transfer is dropped: its fault. -/
def writeDenied (s : State) (a n : Nat) : Option Nat :=
  if capacity s < a + n then some 0x2013
  else if inImage s a n then some 0x1014
  else if overlaps a n s.twin.mirrorBase (mirrorEnd s - s.twin.mirrorBase) then some 0x7012
  else none

/-- What else the fault of an address is logged with: the address, who asked where it is no tile of this package (R275), and for a write
into the Mirror area the partner (R420). -/
def deniedNames (s : State) (code a : Nat) (by_ : List Nat) : List Nat :=
  a :: by_ ++ (if code = 0x7012 then s.twin.partnerCoord.toList.map BitVec.toNat ++ [s.twin.partnerSerial.toNat] else [])

/-- The bytes of its line that a write touches, bit i for byte i. -/
def touched (a : Nat) (cells : List (Byte × Byte)) : Nat :=
  (cells.zipIdx).foldl (fun m x => m + (if x.1.2 = 0 then 0 else 2 ^ (a % 128 + x.2))) 0

/-- A write is of the whole line, so it does not read the channel (R246). -/
def wholeLine (cells : List (Byte × Byte)) : Bool := decide (128 ≤ cells.length) && cells.all (fun c => decide (c.2 = 0xFF))

/-- A write takes effect on bytes of one line (R246): one of part of the line merges into what its read found; only a write of the
whole line clears its poison (R252); then its mirror write (R401). -/
def homeWrite (critical : Bool) (x : LineRead) (a : Nat) (cells : List (Byte × Byte)) (s : State) : State :=
  let line := a / 128
  let s := onlyIf (!wholeLine cells) (lineFound critical line x) s
  let s := setDirty line true (storeWriteMasked a cells s)
  let s := onlyIf (wholeLine cells) (setPoison line false) s
  mirrorLine line (touched a cells) s

/-- Whole bytes as a write. -/
def wholeBytes (l : List Byte) : List (Byte × Byte) := l.map (fun b => (b, 0xFF))

/-- Write bytes that may cross lines, line by line, as Transfers do (R246). -/
def homeWriteLines (critical : Bool) (reads : LineReads) : Nat → Nat → List (Byte × Byte) → State → State
  | 0, _, _, s => s
  | k + 1, a, l, s =>
    if l = [] then s
    else
      let n := 128 - a % 128
      homeWriteLines critical reads k (a + n) (l.drop n) (homeWrite critical (readAt reads (a / 128)) a (l.take n) s)

/-- Write bytes at their home slices with the far copies dropped. -/
def homeFill (critical : Bool) (reads : LineReads) (a : Nat) (l : List Byte) (s : State) : State :=
  let s := homeWriteLines critical reads (l.length + 1) a (wholeBytes l) s
  forEach (linesOf a l.length) (fun line => farDrop line) s

/-- The lines of `n` bytes from `a` that a write covers only in part. -/
def partLines (a n : Nat) : List Nat := (linesOf a n).filter (fun l => decide (l * 128 < a ∨ a + n < l * 128 + 128))

/-- A write of `n` bytes can take effect now in every line. -/
def fillReady (s : State) (critical : Bool) (reads : LineReads) (a n : Nat) : Bool :=
  (linesOf a n).all (fun l => writeRoom s (l * 128)) && (partLines a n).all (fun l => lineTurn s critical l (readAt reads l) none)

/-- A read of `n` bytes can be served now in every line. -/
def linesReady (s : State) (critical : Bool) (reads : LineReads) (a n : Nat) : Bool :=
  (linesOf a n).all (fun l => !rowBusy s (l * 128) && lineTurn s critical l (readAt reads l) none)

/-! ## Atomics (R261 to R263) -/

/-- The word after an atomic (R262). -/
def atomicWord (aop fmt old w0 w1 : Nat) : Nat :=
  let fp := decide (fmt = 9)
  match aop with
  | 1 => if fp then (add32 old w0).1 else (old + w0) % 2 ^ 32
  | 2 => if fp then floatPick 9 false old w0 else if signed 32 old ≤ signed 32 w0 then old else w0
  | 3 => if fp then floatPick 9 true old w0 else if signed 32 w0 ≤ signed 32 old then old else w0
  | 4 => old &&& w0
  | 5 => old ||| w0
  | 6 => old ^^^ w0
  | 7 => w0
  | 8 => if old = w0 then w1 else old
  | _ => old

/-- An `AOP` and a format that R262 allows. -/
def atomicOk (aop fmt : Nat) : Bool :=
  decide (1 ≤ aop) && decide (aop ≤ 8) && (decide (fmt = 10) || (decide (fmt = 9) && !(decide (4 ≤ aop) && decide (aop ≤ 6))))

/-- An atomic on the word at `a` (R252, R262): its old value, the poison mark, and the state. -/
def homeAtomic (a aop fmt w0 w1 : Nat) (critical : Bool) (x : LineRead) (tile : Option Nat) (by_ : List Nat) (s : State) :
    Nat × Bool × State :=
  let line := a / 128
  let s := lineFound critical line x s
  if poisoned s line then
    (0xFFFFFFFF, true, raiseWith 0x2010 tile (physRow s a) (line * 128 :: by_) (bump 0x500202 1 s))
  else
    let old := leNat (storeBytes s a 4)
    (old, false, bump 0x500205 1 (homeWrite critical {} a (wholeBytes (leBytes 4 (atomicWord aop fmt old w0 w1))) s))

end Sys2Proof.Machine
end

