-- ==== Sys2Proof/Machine/PowerTicks.lean ====
section
/-!
DEFINITION. Vigil at work (14): the governor, the stretch and its trip, throttling, converters, shutdown deadlines, the NV
window and the pending journal.
-/

set_option Elab.async false

namespace Sys2Proof.Machine

/-! ## The governor (R484, R485) -/

/-- The clock that every tile is to run at, in 100 MHz units: min(OD 0x6001.04, f_cap) (R484). -/
def clockTarget (s : State) : Nat := min (odNum s 0x600104 16) s.pow.cap

/-- A change of a tile's clock is pending (R70): `CLK_HOLD`. -/
def clockPending (s : State) (t : Nat) : Bool := decide ((keepOf s t).clock ≠ clockTarget s)

/-- Change f_cap; the current filter and the counts of the governor start afresh (R484, R497). -/
def setCap (c : Nat) (s : State) : State :=
  { s with pow := { s.pow with cap := c, current := {}, lowRun := 0, overRun := 0 } }

/-- A fault of the current (R504): logged with the filtered current in mA and the limit in A. -/
def currentFault (code : Nat) (s : State) : State :=
  raiseWith code none (dyFloor s.pow.current.y).toNat [limitAmps s] s

/-- One period of the governor on the filtered current (R484): at most one step. -/
def governorStep (s : State) : State :=
  let i := s.pow.current.y
  let l := dyInt (1000 * limitAmps s)
  if dyLt l i then
    if 4 < s.pow.cap then setCap (s.pow.cap - 1) s
    else
      let n := s.pow.overRun + 1
      let s := { s with pow := { s.pow with overRun := n, lowRun := 0 } }
      let s := onlyIf (decide (n = 10)) (currentFault 0x9010) s
      onlyIf (decide (n = 100)) (currentFault 0x9012) s
  else
    let s := { s with pow := { s.pow with overRun := 0 } }
    if dyLe i (dyInt (1000 * limitAmps s - 3000)) then
      if 10 ≤ s.pow.lowRun + 1 ∧ s.pow.cap < 16 then setCap (s.pow.cap + 1) s
      else { s with pow := { s.pow with lowRun := s.pow.lowRun + 1 } }
    else { s with pow := { s.pow with lowRun := 0 } }

/-- GOVERNOR_TICK: every 100 µs, on the input current in mA and voltage in mV (R484, R496). -/
def execGovernorTick (current voltage : Nat) (s : State) : Host.Outcome State Fault Refusal :=
  .next (
    if s.pow.state = .off then s
    else
      let s := { s with pow := { s.pow with
        current := filterStep 3 current s.pow.current
        voltage := filterStep 3 voltage s.pow.voltage
        energy := s.pow.energy + current * voltage
        outOfRange := s.pow.outOfRange && !(decide (36000 ≤ voltage) && decide (voltage ≤ 44000)) } }
      let s := onlyIf (decide (s.pow.steps ≠ 0)) (bump 0x200302 1) s
      if s.boot.hub then governorStep s else s)

/-- OVER_CURRENT_STRETCH: the comparator trips (R486): the clocks are stretched, f_cap falls one step at once, and every Marshal
evaluates its projection at the stretched clock (R71, R78). -/
def execOverCurrentStretch (s : State) : Host.Outcome State Fault Refusal :=
  .next (
    if s.boot.hub ∧ s.pow.stretch = false then
      let s := currentFault 0x9005 { s with pow := { s.pow with stretch := true, stretchAt := now s } }
      let s := onlyIf (decide (4 < s.pow.cap)) (setCap (s.pow.cap - 1)) s
      eachTile evaluate (bump 0x200301 1 s)
    else s)

/-- STRETCH_RELEASE: the stretch ends, the governor's filter starts afresh (R484, R486), and every Marshal evaluates its projection
(R78). A shutdown's stretch stays. -/
def execStretchRelease (s : State) : Host.Outcome State Fault Refusal :=
  .next (
    if s.pow.stretch ∧ s.pow.shutdown = 0 then
      eachTile evaluate { s with pow := { s.pow with
        stretch := false, current := {}, stretchAt := 0, stretched := s.pow.stretched + (now s - s.pow.stretchAt) } }
    else s)

/-- OVER_CURRENT_TRIP: 0x9021 and a shutdown (R487, R493). -/
def execOverCurrentTrip (s : State) : Host.Outcome State Fault Refusal :=
  .next (if s.boot.hub then beginShutdown 0x9021 (dyFloor s.pow.current.y).toNat [limitAmps s] s else s)

/-! ## Temperatures (R488 to R491, R499) -/

/-- One sample of one diode: an invalid one is replaced by the previous valid one, three in a row make the sensor failed
(R490). -/
def diodeStep (x : Int) (d : Diode) : Diode :=
  let valid := decide (-440 ≤ x ∧ x ≤ 1400)
  let use := if valid then some x else d.lastValid
  let d := { d with
    lastValid := use
    valid := if valid then min 3 (d.valid + 1) else d.valid
    bad := if valid then 0 else d.bad + 1
    failed := d.failed || (!valid && decide (2 ≤ d.bad)) }
  match use with
  | none => d
  | some x =>
    let f := filterStep 2 x d.f
    { d with f := f, peak := some (max (dyFloor f.y) (d.peak.getD (dyFloor f.y))) }

/-- A temperature as a fault is logged with it: in 0.125 °C, in 64 bits of two's complement. -/
def degWord (x : Int) : Nat := (x % 2 ^ 64).toNat

/-- One diode's sample takes effect; a sensor that fails now raises 0x9030 (R490). -/
def sampleDiode (x : Int × Nat) (s : State) : State :=
  let d := diodeOf s x.2
  let d' := diodeStep x.1 d
  let s := { s with pow := { s.pow with diodes := mset {} s.pow.diodes x.2 d' } }
  onlyIf (!d.failed && d'.failed) (raiseWith 0x9030 none x.2 [degWord x.1]) s

/-- The NV window follows the hub's filtered reading, in 0.125 °C (R499); a first opening clears the loss record (R502). -/
def judgeWindow (s : State) : State :=
  let d := diodeOf s 8
  if d.failed then { s with pow := { s.pow with nvOpen := false, nvAdvised := s.pow.nvAdvised && !s.pow.nvOpen } }
  else if s.pow.nvOpen then
    if dyLt d.f.y (dyInt 0) || dyLt (dyInt 680) d.f.y then
      { s with pow := { s.pow with nvOpen := false, nvAdvised := false } }
    else s
  else if dyLe (dyInt 16) d.f.y && dyLe d.f.y (dyInt 664) then
    { s with pow := { s.pow with nvOpen := true }, nv := { s.nv with lossRecord := [], lossAudit := 0 } }
  else s

/-- The first die whose median has reached its shutdown temperature (R493). -/
def shutdownDie (s : State) : Option Nat :=
  (List.range 25).find? (fun i => (diodeOf s i).f.raw ≠ [] && decide (shutdownTemp i ≤ filterMedian (diodeOf s i).f))

/-- The period in ns at which every diode is sampled (R489). -/
def diodePeriod (s : State) : Nat :=
  let above (m : Int) : Bool := (List.range 25).any (fun i => dyLe (dyInt (throttleStart i - m)) (diodeOf s i).f.y)
  if above 0 then 125000 else if above 80 then 1000000 else 10000000

/-- DIODE_SAMPLE: the 25 diodes, in 0.125 °C (R489): filters, failed sensors, shutdown, first throttle step, NV window. -/
def execDiodeSample (readings : List Int) (s : State) : Host.Outcome State Fault Refusal :=
  .next (
    if s.pow.state = .off then s
    else
      let s := judgeWindow (forEach ((readings.take 25).zipIdx) sampleDiode s)
      if s.pow.state = .latched then s
      else
        match shutdownDie s with
        | some i => beginShutdown 0x9020 i [degWord (filterMedian (diodeOf s i).f), degWord (shutdownTemp i)] s
        | none =>
          if anyHot s ∧ s.pow.hotEpisode = false then
            let i := (List.range 25).find? (dieHot s)
            raiseWith 0x9001 none (i.getD 0) [degWord (dyFloor (diodeOf s (i.getD 0)).f.y), degWord (throttleStart (i.getD 0))]
              { s with pow := { s.pow with hotEpisode := true, steps := min 32 (s.pow.steps + 1) } }
          else s)

/-- THROTTLE_STEP_UP: while any die is hot, n rises by one every 1 ms, up to 32 (R491). -/
def execThrottleStepUp (s : State) : Host.Outcome State Fault Refusal :=
  .next (
    if anyHot s ∧ s.pow.hotEpisode ∧ s.pow.state ≠ .latched then
      { s with pow := { s.pow with steps := min 32 (s.pow.steps + 1) } }
    else s)

/-- Every die's filtered reading is at least 3 °C below its throttle start (R491). -/
def allCool (s : State) : Bool :=
  (List.range 25).all (fun i => dyLe (diodeOf s i).f.y (dyInt (throttleStart i - 24)))

/-- THROTTLE_STEP_DOWN: n falls by one every 100 ms while every die is cool (R491); at 0 the episode is over. -/
def execThrottleStepDown (s : State) : Host.Outcome State Fault Refusal :=
  .next (
    if allCool s ∧ s.pow.steps ≠ 0 ∧ s.pow.state ≠ .latched then
      { s with pow := { s.pow with steps := s.pow.steps - 1, hotEpisode := decide (s.pow.steps ≠ 1) } }
    else s)

/-! ## Converters and shutdown (R492 to R494) -/

/-- One converter's flags: faulted by the same flag twice in a row, or by an output over-voltage (flag 0) at once (R492). -/
def converterRead (x : BitVec 4 × Nat) (s : State) : State :=
  let prev := mget 0 s.pow.conv x.2
  let faulted := decide (x.1 &&& prev ≠ 0) || x.1.getLsbD 0
  let s := { s with pow := { s.pow with conv := mset 0 s.pow.conv x.2 x.1 } }
  if faulted then
    if x.2 < 8 then
      if s.pow.fscMap.toNat / 2 ^ x.2 % 2 = 1 then
        let first := decide (fscCount s = 8)
        let s := { s with pow := { s.pow with fscMap := s.pow.fscMap &&& ~~~(BitVec.ofNat 8 (2 ^ x.2)) } }
        if first then raiseWith 0x9024 none x.2 [x.1.toNat] s else beginShutdown 0x9023 x.2 [x.1.toNat] s
      else s
    else beginShutdown 0x9023 x.2 [x.1.toNat] s
  else s

/-- CONVERTER_STATUS_READ: the flags of FSC0 to FSC7 and PLS0 to PLS15, each [0] over-voltage, [1] under-voltage,
[2] over-current, [3] over-temperature (R492). -/
def execConverterStatusRead (flags : List (BitVec 4)) (s : State) : Host.Outcome State Fault Refusal :=
  .next (
    if s.pow.railsOk ∧ s.pow.state ≠ .latched ∧ s.pow.state ≠ .off then
      forEach ((flags.take 24).zipIdx) converterRead s
    else s)

/-- SHUTDOWN_DEADLINE: the next row of the shutdown sequence (R494): lasers and PCIe dropped, then the rails off and the
package latched. -/
def execShutdownDeadline (s : State) : Host.Outcome State Fault Refusal :=
  .next (
    if s.pow.shutdown = 1 then
      let s := pcieStop s
      { s with
        pow := { s.pow with shutdown := 2 }
        optics := { s.optics with engs := mmapv {} (fun e => { e with reqP := false, reqS := false }) s.optics.engs } }
    else if s.pow.shutdown = 2 then
      let s := clearVolatile s
      setPower .latched { s with pow := { s.pow with shutdown := 0, stretch := false, stretchAt := 0, stretched := 0 } }
    else s)

/-! ## The NV store (R500, R512) -/

/-- NV_RECORD_WRITE: while the window is open, the record at the front of the journal is written (R500): its audit entry
first; a record of the manifest then waits for its commit (R512). -/
def execNvRecordWrite (s : State) : Host.Outcome State Fault Refusal :=
  .next (
    if s.pow.nvOpen then
      match s.pow.journal with
      | [] => s
      | r :: rest =>
        let s := writeAudit r.audit s
        if jDirect r.kind then nvApply r.kind { s with pow := { s.pow with journal := rest } }
        else { s with
          pow := { s.pow with journal := { r with audit := none } :: rest }
          nv := { s.nv with committing := true } }
    else s)

/-- The records at the front of the journal that a commit carries. -/
def commitRun : List JRec → List JRec
  | [] => []
  | r :: rest => if !jDirect r.kind && r.audit.isNone then r :: commitRun rest else []

/-- A commit writes the manifest over the copy with the lower counter (R512); `ok` says that it read back and verified. -/
def writeCopy (ok : Bool) (nv : Nv) : Nv :=
  let n := max nv.copyA.counter nv.copyB.counter + 1
  let c : ManCopy := { blank := false, makerOk := true, pufOk := true, dikOk := true, commitOk := ok, counter := if ok then n else 0 }
  if nv.copyA.counter ≤ nv.copyB.counter then { nv with copyA := c, committing := false }
  else { nv with copyB := c, committing := false }

/-- MANIFEST_COMMIT: the commit in progress ends (R512); when it verifies, its records leave the journal. -/
def execManifestCommit (verified : Bool) (s : State) : Host.Outcome State Fault Refusal :=
  .next (
    if s.nv.committing then
      let run := commitRun s.pow.journal
      let s := { s with nv := writeCopy verified s.nv }
      if verified then
        forEach run (fun r s => nvApply r.kind s)
          { s with pow := { s.pow with journal := s.pow.journal.drop run.length } }
      else s
    else s)

/-- PENALTY_SAVE: once per hour P goes to the NV store through the journal (R548). -/
def execPenaltySave (s : State) : Host.Outcome State Fault Refusal :=
  .next (if s.pow.state = .off then s else journalPut { kind := .penalty s.health.p } s)

end Sys2Proof.Machine
end

