-- ==== Sys2Proof/Machine/Passes.lean ====
section
/-!
DEFINITION. The matrix arrays (04): the Pass descriptor, the product with its accumulation (R116, R117, R128), the Tally
checks (R145 to R149), stopped passes and their replay (R72, R151 to R157), commits (R69).
-/

set_option Elab.async false

namespace Sys2Proof.Machine

/-! ## The Pass descriptor (R142) -/

/-- A Pass descriptor's fields. -/
structure PassD where
  array : Nat
  is_ : Bool
  accInit : Bool
  sFmt : Nat
  vFmt : Nat
  outCvt : Nat
  rows : Nat
  cols : Nat
  n : Nat
  sAddr : Nat
  vAddr : Nat
  outAddr : Nat
  accAddr : Nat
  sScale : Nat
  vScale : Nat
  sTs : Nat
  vTs : Nat
  sPitch : Nat
  vPitch : Nat
  outPitch : Nat
  accPitch : Nat
  deriving DecidableEq, Repr

/-- The descriptor that 64 bytes spell. -/
def passOf (b : List Byte) : PassD :=
  let f := fieldAt b 1 1
  { array := f % 4, is_ := bit f 2, accInit := bit f 3, sFmt := fieldAt b 2 1 % 16, vFmt := fieldAt b 2 1 / 16
    outCvt := fieldAt b 3 1, rows := fieldAt b 4 1, cols := fieldAt b 5 1, n := fieldAt b 6 2, sAddr := fieldAt b 8 4
    vAddr := fieldAt b 12 4, outAddr := fieldAt b 16 4, accAddr := fieldAt b 20 4, sScale := fieldAt b 24 4
    vScale := fieldAt b 28 4, sTs := fieldAt b 32 4, vTs := fieldAt b 36 4, sPitch := fieldAt b 40 2, vPitch := fieldAt b 42 2
    outPitch := fieldAt b 44 2, accPitch := fieldAt b 46 2 }

/-- An operand is BF16 or FP16. -/
def fmt16 (f : Nat) : Bool := decide (f = 7) || decide (f = 8)

/-- q of R126: array cycles between streamed vectors. -/
def passStep (d : PassD) : Nat := if fmt16 d.sFmt || fmt16 d.vFmt then 2 else 1

/-- D_max of R126. -/
def passDepth (d : PassD) : Nat := if d.sFmt = d.vFmt ∧ (d.sFmt = 0 ∨ d.sFmt = 1) then 128 else 64

/-- C of R129. -/
def passCycles (d : PassD) : Nat := passStep d * d.n + 128

/-- An operand names block scales. -/
def scaled (a : Nat) : Bool := decide (a ≠ 0xFFFFFFFF)

/-- The accumulator is INT32 (R143). -/
def accInt (d : PassD) : Bool := fmtInt d.sFmt && fmtInt d.vFmt && !scaled d.sScale && !scaled d.vScale

/-- Extents as start and length (R139): stationary, streamed, scales of each, accumulator start; the output. -/
def passInputs (d : PassD) : List (Nat × Nat) :=
  let g := ceilDiv d.rows 32
  [(d.sAddr, (d.rows - 1) * d.sPitch + packedSize d.sFmt d.cols), (d.vAddr, (d.n - 1) * d.vPitch + packedSize d.vFmt d.rows),
    (if scaled d.sScale then (d.sScale, d.cols * g) else (0, 0)), (if scaled d.vScale then (d.vScale, d.n * g) else (0, 0)),
    (if d.accInit then (d.accAddr, (d.n - 1) * d.accPitch + 4 * d.cols) else (0, 0))]
def passOutput (d : PassD) : Nat × Nat := (d.outAddr, (d.n - 1) * d.outPitch + packedSize (d.outCvt % 16) d.cols)

/-- First and last line of the output extent. -/
def passLines (d : PassD) : Nat × Nat := let (a, n) := passOutput d; (a / 128, (a + n - 1) / 128)

/-! ## Operands (R137, R138) -/

/-- `n` elements of a format packed from an address. -/
def packedAt (s : State) (t a f n : Nat) : List Nat :=
  let l := bufBytes s t a (packedSize f n)
  (List.range n).map (fun i => bitsAt l (i * fmtWidth f) (fmtWidth f))

/-- The unscaled value of an operand element; of an integer with a block scale, its scaled unit (R101). -/
def elemVal (f : Nat) (sc : Bool) (e : Nat) : Val :=
  if sc && fmtInt f then valScale (decodeVal f e) (scaledUnit f) else decodeVal f e

/-- The stationary operand by column: its elements in ascending reduction index. -/
def passColumns (s : State) (t : Nat) (d : PassD) : List (List Val) :=
  let rows := (List.range d.rows).map (fun i =>
    (packedAt s t (d.sAddr + i * d.sPitch) d.sFmt d.cols).map (elemVal d.sFmt (scaled d.sScale)))
  (List.range d.cols).map (fun j => rows.map (fun r => r.getD j (.fin false 0 0)))

/-- The streamed vectors. -/
def passVectors (s : State) (t : Nat) (d : PassD) : List (List Val) :=
  (List.range d.n).map (fun n =>
    (packedAt s t (d.vAddr + n * d.vPitch) d.vFmt d.rows).map (elemVal d.vFmt (scaled d.vScale)))

/-- Scale exponents of `k` columns or vectors, block by block; without scales every exponent is 0 (R116). -/
def passScales (s : State) (t a k g : Nat) : List (List (Option Int)) :=
  (List.range k).map (fun j => (List.range g).map (fun b =>
    if scaled a then e8m0 (bufByte s t (a + j * g + b)).toNat else some 0))

/-- The accumulator start values, as encodings. -/
def passInit (s : State) (t : Nat) (d : PassD) : List (List Nat) :=
  (List.range d.n).map (fun n => (List.range d.cols).map (fun j =>
    if d.accInit then leNat (bufBytes s t (d.accAddr + n * d.accPitch + 4 * j) 4) else 0))

/-! ## Accumulation (R116, R117) -/

/-- Elements in groups of `k`. -/
def inGroups {α : Type} (k : Nat) (l : List α) : List (List α) :=
  (List.range (ceilDiv l.length k)).map (fun i => (l.drop (i * k)).take k)

/-- The exact sum of a group's products (R116, R117): its value before scaling, and the flags. -/
def groupSum (full : Bool) (ps : List (Val × Nat)) : Val × Nat :=
  let vs := ps.map Prod.fst
  let zeroTimesInf := ps.any (fun p => decide (p.2 ≠ 0))
  let pos := vs.any (fun v => decide (v = .inf false))
  let neg := vs.any (fun v => decide (v = .inf true))
  let fl := if zeroTimesInf || (pos && neg) then fInvalid else 0
  if zeroTimesInf || (pos && neg) || vs.any (fun v => decide (v = .nan)) then (.nan, fl)
  else if pos || neg then (.inf neg, fl)
  else (dyVal (dySum (vs.map valDy)) (full && vs.all valNeg), fl)

/-- One group added to an FP32 accumulator (R116 items 3 and 4). Every element of a block with a NaN scale is NaN (R112), so no
product of it is invalid. -/
def addGroup (x : Option Int) (g : Val × Nat) (acc : Nat × Nat) : Nat × Nat :=
  let v := match x with
    | some k => valScale g.1 k
    | none => Val.nan
  let r := roundTo 9 v
  let a := add32 acc.1 r.1
  (a.1, acc.2 ||| r.2 ||| a.2 ||| (if x.isNone then fScaleNan else g.2))

/-- The scale exponent of a group: that of its block on both operands; none when either is NaN. -/
def groupScale (k i : Nat) (xs ys : List (Option Int)) : Option Int :=
  match xs.getD (i * k / 32) (some 0), ys.getD (i * k / 32) (some 0) with
  | some a, some b => some (a + b)
  | _, _ => none

/-- y[n][j] of R128 as an FP32 encoding, with the flags. -/
def accumulate (k : Nat) (init : Nat) (v col : List Val) (vx cx : List (Option Int)) : Nat × Nat :=
  ((inGroups k (List.zipWith mulVal v col)).zipIdx).foldl (fun acc g =>
    addGroup (groupScale k g.2 vx cx) (groupSum (decide (g.1.length = k)) g.1) acc) (init, 0)

/-- The integer value of an unscaled integer element. -/
def valIntOf (v : Val) : Int := (valDy v).m * 2 ^ (valDy v).e.toNat

/-- y[n][j] of R128 as an INT32 encoding, with the flags (R116 item 5). -/
def accumulateInt (init : Nat) (v col : List Val) : Nat × Nat :=
  (inGroups 32 (List.zipWith (fun a b => valIntOf a * valIntOf b) v col)).foldl (fun acc g =>
    let x := signed 32 acc.1 + g.foldl (· + ·) 0
    (intEnc 10 x, acc.2 ||| (if x < -2 ^ 31 ∨ 2 ^ 31 ≤ x then fIntWrap else 0))) (init, 0)

/-! ## The Tally path (R145 to R148) -/

/-- A value is finite. -/
def valFinite : Val → Bool
  | .fin _ _ _ => true
  | _ => false

/-- A product operand's exact value with its block scale. -/
def scaledDy (v : Val) (x : Option Int) : Option Dy :=
  match v, x with
  | .fin _ _ _, some k => some (dyScale (valDy v) k)
  | _, _ => none

/-- Elements with their block scales. -/
def withScales (l : List Val) (xs : List (Option Int)) : List (Option Dy) :=
  (l.zipIdx).map (fun e => scaledDy e.1 (xs.getD (e.2 / 32) (some 0)))

/-- The tolerance exponent of R147. -/
def tallyTau (d : PassD) : Nat :=
  if fmt16 d.sFmt || fmt16 d.vFmt then 19 else if d.sFmt = 0 ∧ d.vFmt = 0 then 20 else 21

/-- Σ a · b of two lists. -/
def dot (a b : List Dy) : Dy := dySum (List.zipWith dyMul a b)

/-- The sum of the rows of a matrix, entry by entry. -/
def sumRows (k : Nat) (rows : List (List Dy)) : List Dy :=
  rows.foldl (List.zipWith dyAdd) (List.replicate k ⟨0, 0⟩)

/-- A float check over some outputs: their y and init, and the two sides of T with their magnitudes. -/
def floatTally (ys is : List Nat) (a b : List (Option Dy)) (c m : List (Option Dy)) : Tally :=
  if (ys ++ is).all (fun e => valFinite (decodeVal 9 e)) && (a ++ b ++ c ++ m).all Option.isSome then
    let y := dySum (List.zipWith (fun e i => dySub (valDy (decodeVal 9 e)) (valDy (decodeVal 9 i))) ys is)
    let get (l : List (Option Dy)) : List Dy := l.map (fun x => x.getD ⟨0, 0⟩)
    .flt (dySub y (dot (get a) (get b)))
      (dyAdd (dySum (is.map (fun i => dyAbs (valDy (decodeVal 9 i))))) (dot (get c) (get m)))
  else .skip

/-- An integer check: Y - T. -/
def intTally (ys is : List Nat) (a b : List Int) : Tally :=
  .int ((List.zipWith (fun e i => signed 32 e - signed 32 i) ys is).foldl (· + ·) 0 -
    (List.zipWith (· * ·) a b).foldl (· + ·) 0)

/-- The sum of a list whose entries may be unknown. -/
def sumKnown (f : Dy → Dy) (l : List (Option Dy)) : Option Dy :=
  if l.all Option.isSome then some (dySum (l.map (fun x => f (x.getD ⟨0, 0⟩)))) else none

/-! ## One pass (R128, R140) -/

/-- What a pass computes: its staged output, its checks, the flags and the generator after it. -/
structure PassOut where
  cells : List Host.Cell
  vchecks : List Tally
  cchecks : List Tally
  flags : Nat
  gen : Gen
  deriving DecidableEq, Repr

/-- Column `i` of a matrix held by rows. -/
def column {α : Type} (d : α) (m : List (List α)) (i : Nat) : List α := m.map (fun r => r.getD i d)

/-- The whole pass: outputs y, then the tensor scale (R113) and the output conversion. -/
def runPass (s : State) (t : Nat) (d : PassD) : PassOut :=
  let g := ceilDiv d.rows 32
  let cols := passColumns s t d
  let vecs := passVectors s t d
  let sx := passScales s t d.sScale d.cols g
  let vx := passScales s t d.vScale d.n g
  let init := passInit s t d
  let k := if fmt16 d.sFmt || fmt16 d.vFmt then 8 else 32
  let isInt := accInt d
  let ys := (List.range d.n).map (fun n => (List.range d.cols).map (fun j =>
    let i := (init.getD n []).getD j 0
    if isInt then accumulateInt i (vecs.getD n []) (cols.getD j [])
    else accumulate k i (vecs.getD n []) (cols.getD j []) (vx.getD n []) (sx.getD j [])))
  let accFlags := (ys.map (fun r => (r.map Prod.snd).foldl (· ||| ·) 0)).foldl (· ||| ·) 0
  let ts := mul32 d.sTs d.vTs
  let scaleOne (y : Nat) : Nat × Nat := if isInt then (y, 0) else mul32 y ts.1
  let step (acc : List Nat × Nat × Gen) (y : Nat) : List Nat × Nat × Gen :=
    let z := scaleOne y
    let c := convertBy d.outCvt (decodeVal (if isInt then 10 else 9) z.1) acc.2.2
    (acc.1 ++ [c.1], acc.2.1 ||| z.2 ||| c.2.1, c.2.2)
  let rows := ys.foldl (fun (acc : List (List Nat) × Nat × Gen) r =>
    let x := (r.map Prod.fst).foldl step ([], acc.2.1, acc.2.2)
    (acc.1 ++ [x.1], x.2.1, x.2.2)) ([], accFlags ||| (if isInt then 0 else ts.2), genOf s t)
  let cells := ((rows.1).zipIdx).flatMap (fun r =>
    ((packElems (d.outCvt % 16) r.1).zipIdx).map (fun b => (d.outAddr + r.2 * d.outPitch + b.2, b.1)))
  let yv := ys.map (fun r => r.map Prod.fst)
  let vd := (vecs.zipIdx).map (fun v => withScales v.1 (vx.getD v.2 []))
  let cd := (cols.zipIdx).map (fun c => withScales c.1 (sx.getD c.2 []))
  let abs (l : List (Option Dy)) : List (Option Dy) := l.map (fun x => x.map dyAbs)
  let sums (f : Dy → Dy) (m : List (List (Option Dy))) : List (Option Dy) :=
    (List.range d.rows).map (fun i => sumKnown f (column (some ⟨0, 0⟩) m i))
  let c := sums id cd
  let ca := sums dyAbs cd
  let sg := sums id vd
  let sga := sums dyAbs vd
  let ints (l : List Val) : List Int := l.map valIntOf
  let isum (m : List (List Val)) : List Int :=
    (List.range d.rows).map (fun i => (ints (column (.fin false 0 0) m i)).foldl (· + ·) 0)
  { cells := cells
    vchecks := (List.range d.n).map (fun n =>
      if isInt then intTally (yv.getD n []) (init.getD n []) (ints (vecs.getD n [])) (isum cols)
      else let v := vd.getD n []; floatTally (yv.getD n []) (init.getD n []) v c (abs v) ca)
    cchecks := (List.range d.cols).map (fun j =>
      if isInt then intTally (column 0 yv j) (column 0 init j) (isum vecs) (ints (cols.getD j []))
      else let x := cd.getD j []; floatTally (column 0 yv j) (column 0 init j) sg x sga (abs x))
    flags := rows.2.1, gen := rows.2.2 }

/-- An array takes passes (R150). -/
def arrayTakes (s : State) (t a : Nat) : Bool := decide ((arrOf s (3 * t + a)).state < 2)

/-- A pass starts on its array, as a first attempt or as the replay (R69, R140, R156). Where it read an uncorrectable word of the
tile buffer (R237), what it stages is open, and its checks hold of what it read. -/
def beginPass (t pos desc : Nat) (replay bad : Bool) (s : State) : State :=
  let d := passOf (readStore s desc 64)
  let o := runPass s t d
  let o := if bad then { o with
      cells := o.cells.map (fun c => (c.1, Config.openByte s.fresh (2 ^ 40 + c.1)))
      vchecks := o.vchecks.map (fun _ => .skip), cchecks := o.cchecks.map (fun _ => .skip) } else o
  let (l0, l1) := passLines d
  let r : PassRun :=
    { pos := pos, desc := desc, out := o.cells, line0 := l0, line1 := l1, vchecks := o.vchecks, cchecks := o.cchecks
      tau := tallyTau d, macs := d.rows * d.cols * d.n, is_ := d.is_, cycles := passCycles d, replay := replay, code := 0
      stopped := false }
  onlyIf bad freshen (setFlags t o.flags (modTile t (fun x => { x with
    runs := mput x.runs d.array r, gen := o.gen.1, draws := o.gen.2 }) s))

/-- PASS: a Pass entry issues onto its array (R63, R128, R130), when no clock change is pending, the array is free and takes
passes, and no operand line is pending (R140, R152). `w` is the worst that its reads of the tile buffer found (R237). An output extent over a pass in flight raises 0x1116 once, and the entry
then never issues (R141). -/
def execPass (t : TileNo) (w : WordRead) (s : State) : Host.Outcome State Fault Refusal :=
  .next (
    match issuable s t.val 0 with
    | none => s
    | some e =>
      let desc := runImg s + descAt s (runImg s) e.desc
      let d := passOf (readStore s desc 64)
      let (l0, l1) := passLines d
      let x := tileOf s t.val
      if s.pow.shutdown ≠ 0 ∨ clockPending s t.val ∨ arrayTakes s t.val d.array = false ∨ (mfind x.runs d.array).isSome ∨
          x.refusedAt = some (x.ordinal, x.pos) then s
      else if (List.range' l0 (l1 + 1 - l0)).any (linePending s t.val) then
        raiseWith 0x1116 (some t.val) (3 * t.val + d.array) [x.pos]
          (modTile t.val (fun x => { x with refusedAt := some (x.ordinal, x.pos) }) s)
      else if (passInputs d).any (fun x => pendingIn s t.val x.1 x.2) then s
      else
        let pos := (tileOf s t.val).pos
        evaluate t.val (bufWord t.val w (beginPass t.val pos desc false (decide (w = .uncorrectable)) (issue t.val e s))))

/-! ## Stopped passes (R72, R149 to R157) -/

/-- The staging of a stopped pass is discarded: its lines hold undefined data (R140). -/
def discardStaging (t a : Nat) (r : PassRun) (s : State) : State :=
  bufOpen t (128 * r.line0) (128 * (r.line1 + 1 - r.line0))
    (modTile t (fun x => { x with runs := mput x.runs a { r with stopped := true, out := [] } }) s)

/-- The array is free again, with no replay; the entry never completes. -/
def dropPass (t a : Nat) (s : State) : State := modTile t (fun x => { x with runs := mdel x.runs a }) s

/-- The replay fits the frame budget (R72); the second answer says that it needs the leap. -/
def replayFits (s : State) (t pos : Nat) : Bool × Bool :=
  let x := tileOf s t
  match s.frames.run with
  | none => (false, false)
  | some r =>
    let cost := ((x.board.find? (fun b => decide (b.pos = pos))).map (·.cost)).getD 0
    let (p, d) := projection s t cost
    let period := 2 ^ r.cal.hdr.k
    let close := x.opened + period * (1 + flag x.leaped)
    if p ≤ close * d then (true, false)
    else if x.leaped = false ∧ now s ≤ x.opened + period - r.cal.hdr.lead ∧ p ≤ (close + period) * d then (true, true)
    else (false, false)

/-- The replays that wait issue, unless a clock change is pending (R156). -/
def issueReplays (t : Nat) (s : State) : State :=
  if s.pow.shutdown ≠ 0 ∨ clockPending s t then s
  else
    forEach (tileOf s t).runs (fun x s =>
      if x.2.stopped then
        beginPass t x.2.pos x.2.desc true false { s with frames := { s.frames with replays := s.frames.replays + 1 } }
      else s) s

/-- A fault of the pass at a position, with the tile and the array (R164): logged even when it is not the first of its code where
0x1003 or 0x1004 is raised with it (R72, R532). -/
def passFault (code t a pos : Nat) (always : Bool) (s : State) : State :=
  let again := mget false s.health.corrLogged code
  onlyIf (always && again) (logWith code (some t) a [pos]) (correctedWith code (some t) a [pos] s)

/-- A stopped pass that may be replayed (R72): once, when the replay fits; otherwise 0x1003 or 0x1004. -/
def replayOrFail (code t a : Nat) (r : PassRun) (s : State) : State :=
  let s := discardStaging t a r s
  if haltPassed s then
    dropPass t a (modTile t (fun x => { x with board := x.board.filter (fun b => decide (b.pos ≠ r.pos)) })
      (passFault code t (3 * t + a) r.pos false s))
  else if r.replay then dropPass t a (raiseTile 0x1004 t (3 * t + a) (passFault code t (3 * t + a) r.pos true s))
  else
    let (fits, leap) := replayFits s t r.pos
    if fits then
      issueReplays t (onlyIf leap (declareOverrun t) (passFault code t (3 * t + a) r.pos false s))
    else dropPass t a (raiseTile 0x1003 t (3 * t + a) (passFault code t (3 * t + a) r.pos true s))

/-- Retirement at a third mismatch (R152, R153): at once, with its record for the NV manifest; a replay that mismatches raises
0x1004 besides, with which 0x1110 is logged (R151, R72). After the halting Calend nothing Job-fatal is raised (R157). -/
def retireArray (t a : Nat) (r : PassRun) (s : State) : State :=
  let s := discardStaging t a r (passFault 0x1110 t (3 * t + a) r.pos (r.replay && !haltPassed s) s)
  let s := modArr (3 * t + a) (fun x => { x with state := 3, prior := false, p := 0 }) s
  let s := journalPut { kind := .retire (3 * t + a) } s
  if haltPassed s then
    dropPass t a (modTile t (fun x => { x with board := x.board.filter (fun b => decide (b.pos ≠ r.pos)) }) s)
  else
    dropPass t a (onlyIf r.replay (raiseTile 0x1004 t (3 * t + a)) (raiseWith 0x1112 (some t) (3 * t + a) [r.pos] s))

/-- A Tally mismatch (R149, R151): counted, and charged to the array's history. -/
def tallyMismatch (t a : Nat) (r : PassRun) (s : State) : State :=
  let i := 3 * t + a
  let s := bump 0x601101 1 (modKeep t (fun k => { k with mismatch := k.mismatch + 1 }) s)
  let h := arrOf s i
  if h.prior = false ∨ 1000000 ≤ h.p then
    replayOrFail 0x1110 t a r (modArr i (fun x => { x with prior := true, p := 0 }) s)
  else if h.state = 0 then
    replayOrFail 0x1110 t a r (raiseWith 0x1111 (some t) i [r.pos] (modArr i (fun x => { x with state := 1, p := 0 }) s))
  else retireArray t a r s

/-- A check fails (R147), with what its path's error adds to Y - T. -/
def tallyFails (c : Tally) (tau : Nat) (err : Dy) : Bool :=
  match c with
  | .skip => false
  | .int d => decide ((d + dyFloor err) % 2 ^ 32 ≠ 0)
  | .flt d m => dyLt (dyAdd (dyScale m (-(tau : Int))) ⟨1, -126⟩) (dyAbs (dyAdd d err))

/-- TALLY_CHECK: vector or column check `i` of the pass on array `a` completes (R146, R147, R149): skipped (R148), passed, or
a mismatch. -/
def execTallyCheck (t : TileNo) (a : Fin 3) (column : Bool) (i : BitVec 12) (err : Dy) (s : State) :
    Host.Outcome State Fault Refusal :=
  .next (
    match mfind (tileOf s t.val).runs a.val with
    | none => s
    | some r =>
      match (if column then r.cchecks else r.vchecks)[i.toNat]? with
      | none => s
      | some c =>
        if r.stopped then s
        else if c = .skip then bump 0x601102 1 s
        else if tallyFails c r.tau err then tallyMismatch t.val a.val r s else s)

/-- ARRAY_PARITY_ERROR: the pass stops with 0x1117 and follows R72; no Tally mismatch is counted (R159). -/
def execArrayParityError (t : TileNo) (a : Fin 3) (s : State) : Host.Outcome State Fault Refusal :=
  .next (
    match mfind (tileOf s t.val).runs a.val with
    | none => s
    | some r => if r.stopped then s else replayOrFail 0x1117 t.val a.val r s)

/-- The history of an array after a commit (R151). -/
def arrayCommits (x : Arr) : Arr :=
  let x := { x with p := x.p + 1 }
  if x.state = 1 ∧ 1000000 ≤ x.p then { x with state := 0, prior := false } else x

/-- PASS_COMMIT: the staging is committed in one step, the marks clear, and the pass completes (R65, R69, R140, R151). -/
def execPassCommit (t : TileNo) (a : Fin 3) (s : State) : Host.Outcome State Fault Refusal :=
  .next (
    match mfind (tileOf s t.val).runs a.val with
    | none => s
    | some r =>
      if r.stopped then s
      else
        let s := dropPass t.val a.val (bufWriteCells t.val r.out s)
        let s := modArr (3 * t.val + a.val) arrayCommits s
        let s := bump (if r.is_ then 0x601105 else 0x601104) r.macs s
        let s := modTile t.val (fun x => { x with busy := mmod 0 x.busy a.val (fun c => c + r.cycles + 16) }) s
        let s := onlyIf r.replay (raiseTile 0x1006 t.val (3 * t.val + a.val)) s
        complete t.val r.pos s)

/-- A tile's clock changes: the cycles that it has counted so far are kept (R70, R78). -/
def setClock (t c : Nat) (s : State) : State :=
  modKeep t (fun k => { k with clock := c, cycles := cycleUnits s t, cyclesAt := cycleTime s }) s

/-- TILE_CLOCK_CHANGE: with no array running a pass, the pending clock takes effect (R70); replays that waited issue (R156),
also after a halting Calend, for their passes had issued before it (DESIGN CHOICE, log entry 26). When the pending change has been
withdrawn, there is nothing to wait for, and the replays issue. -/
def execTileClockChange (t : TileNo) (s : State) : Host.Outcome State Fault Refusal :=
  .next (
    if (tileOf s t.val).runs.all (fun r => r.2.stopped) then
      if clockPending s t.val then evaluate t.val (issueReplays t.val (setClock t.val (clockTarget s) s))
      else issueReplays t.val s
    else s)

end Sys2Proof.Machine
end

