-- ==== Sys2Proof/Machine/LanternOps.lean ====
section
/-!
DEFINITION. The Lantern's descriptors, masks, ledger and row arithmetic (06). Where R206 states a bound, a result is any value
within it of its exact reference; where the spec gives a formula computed in FP32 and no bound, any value within an error that
grows with the row (log entry 5).
-/

set_option Elab.async false

namespace Sys2Proof.Machine

/-! ## Descriptors (R216, R217) -/

/-- A Lantern op descriptor with its parameter block. -/
structure LanD where
  op : Nat
  seg : Nat
  xFmt : Nat
  dyFmt : Nat
  outCvt : Nat
  bits : Bool
  rule : Nat
  affine : Bool
  bias : Bool
  gacc : Bool
  free : Bool
  nrows : Nat
  len : Nat
  xA : Nat
  dyA : Nat
  outA : Nat
  auxA : Nat
  partA : Nat
  pitch : Nat
  ledger : Nat
  param : Nat
  eps : Nat
  row0 : Nat
  col0 : Nat
  window : Nat
  maskA : Nat
  maskPitch : Nat
  gaccA : Nat
  /-- where it stands: the descriptor's image offset, and its entry's position (R231) -/
  off : Nat := 0
  pos : Nat := 0
  /-- a ledger record that the op reads is uncorrectable (R210) -/
  lost : Bool := false
  deriving DecidableEq, Repr

/-- The descriptor that 32 bytes spell, with the parameter block's 32 bytes. -/
def lanternOf (b q : List Byte) : LanD :=
  let o := fieldAt b 1 1
  let f := fieldAt b 2 1
  let m := fieldAt b 4 1
  { op := o % 16, seg := o / 16 % 4, xFmt := f % 16, dyFmt := f / 16, outCvt := fieldAt b 3 1, bits := bit m 0, rule := field m 2 1
    affine := bit m 3, bias := bit m 4, gacc := bit m 5, free := bit m 6, nrows := fieldAt b 6 2, len := fieldAt b 8 4 % 2 ^ 23
    xA := 64 * fieldAt b 12 2, dyA := 64 * fieldAt b 14 2, outA := 64 * fieldAt b 16 2, auxA := 64 * fieldAt b 18 2
    partA := 64 * fieldAt b 20 2, pitch := 64 * fieldAt b 22 2, ledger := fieldAt b 24 3 % 2 ^ 20, param := fieldAt b 28 4
    eps := fieldAt q 0 4, row0 := fieldAt q 4 4 % 2 ^ 23, col0 := fieldAt q 8 4 % 2 ^ 23, window := fieldAt q 12 4 % 2 ^ 23
    maskA := 64 * fieldAt q 16 2, maskPitch := 64 * fieldAt q 18 2, gaccA := 64 * fieldAt q 20 2 }

/-- The Lantern op descriptor at a Store address, with its parameter block of the constants section. -/
def lanternAt (s : State) (desc : Nat) : LanD :=
  let b := readStore s desc 32
  let p := fieldAt b 28 4
  lanternOf b (if p = 0xFFFFFFFF then [] else readStore s (runImg s + (secOf s (runImg s) 5).off + p) 32)

/-- Kinds of operation (R204). -/
def lanBackward (op : Nat) : Bool := decide (4 ≤ op ∧ op ≤ 7)
def lanSoftmax (op : Nat) : Bool := decide (op < 2 ∨ op = 4 ∨ op = 5)
def lanLayer (op : Nat) : Bool := decide (op = 2 ∨ op = 6)

/-- Position p of row r is kept (R212). -/
def keeps (s : State) (t : Nat) (d : LanD) (r p : Nat) : Bool :=
  let i := d.row0 + r
  let c := d.col0 + p
  (!d.bits || bit (bufByte s t (d.maskA + r * d.maskPitch + p / 8)).toNat (p % 8)) &&
    (match d.rule with
      | 0 => true
      | 1 => decide (c ≤ i)
      | _ => decide (c ≤ i) && decide (i < c + d.window))

/-! ## Values that may be NaN or infinite -/

def vAdd (a b : Val) : Val := (addVal a b).1
def vSub (a b : Val) : Val := (addVal a (negVal b)).1
def vMul (a b : Val) : Val := (mulVal a b).1
def vSum (l : List Val) : Val := l.foldl vAdd (.fin false 0 0)

/-- An exact number over a count, to 256 bits. -/
def dyOver (x : Dy) (n : Nat) : Dy := dyNorm ⟨x.m * 2 ^ 256 / n, x.e - 256⟩

/-- A value over a count. -/
def vOver (v : Val) (n : Nat) : Val :=
  match v with
  | .fin neg _ _ => dyVal (dyOver (valDy v) (max n 1)) neg
  | v => v

/-- e^v; 0 and infinity at the infinities. -/
def vExp (v : Val) : Val :=
  match v with
  | .nan => .nan
  | .inf neg => if neg then .fin false 0 0 else .inf false
  | v => dyVal (expRef (valDy v)) false

/-- The magnitude of a finite value. -/
def vMag (v : Val) : Dy := dyAbs (valDy v)

/-! ## Rounded results -/

/-- An FP32 result whose reference is a value: special values as they are, otherwise any value within a bound. -/
def lanNear (ref : Val) (bound : Dy) (gen key : Nat) : Nat :=
  match ref with
  | .fin _ _ _ => (pickNear (within (valDy ref) bound) ref gen key).1
  | v => (roundTo 9 v).1

/-- The relative error 2^-20, or 2^-126 absolute (R206). -/
def relBound (ref : Val) : Dy := let r := dyScale (vMag ref) (-20); if dyLt r ⟨1, -126⟩ then ⟨1, -126⟩ else r

/-- The bound on l: 2^-20 × max(1, |l|) (R206). -/
def logBound (ref : Val) : Dy := dyScale (if dyLt (vMag ref) (dyInt 1) then dyInt 1 else vMag ref) (-20)

/-- The error of a formula over n terms of a summed magnitude: (n + 64) · 2^-20 of it, or 2^-126 (DESIGN CHOICE, unsafe, log
entry 5). -/
def formulaBound (n : Nat) (mag : Dy) : Dy := dyAdd (dyMul (dyScale (dyInt (n + 64)) (-20)) mag) ⟨1, -126⟩

/-! ## The ledger (R210, R211) -/

/-- The Larder plan of the running Calendar. -/
def runLarder (s : State) : Larder :=
  match s.frames.run with
  | some r => r.cal.larder
  | none => {}

/-- A ledger line has no valid record. -/
def lineFree (x : Tile) (l : Nat) : Bool := (List.range 8).all (fun i => (mfind x.ledger (8 * l + i)).isNone)

/-- The place of a logical ledger line in the spill area of a tile. -/
def spillPlace (s : State) (t l : Nat) : Nat :=
  let k := runLarder s
  k.ledgerSpill + t * 8 * k.ledgerRecords + 64 * l

/-- Bring a line in as the most recently used: a free line makes room, else the least recently used is spilled. -/
def ledgerEnter (t l : Nat) (s : State) : State :=
  let x := tileOf s t
  let rest := x.lines.filter (fun k => decide (k ≠ l))
  if x.lines.contains l ∨ x.lines.length < 4096 then modTile t (fun x => { x with lines := l :: rest }) s
  else
    match x.lines.reverse.find? (lineFree x) with
    | some k => modTile t (fun x => { x with lines := l :: rest.filter (fun j => decide (j ≠ k)) }) s
    | none =>
      match x.lines.getLast? with
      | none => s
      | some k =>
        let bytes := (List.range 8).flatMap (fun i => match mfind x.ledger (8 * k + i) with
          | some v => leBytes 8 v.toNat
          | none => openBytes s (2 ^ 41 + 64 * k + 8 * i) 8)
        let s := freshen (homeFill false [] (spillPlace s t k) bytes s)
        bump 0x603003 1 (modTile t (fun x => { x with lines := l :: rest.filter (fun j => decide (j ≠ k)) }) s)

/-- Write a record: its line enters, and the record is valid. -/
def ledgerWrite (t i : Nat) (m l : Nat) (s : State) : State :=
  modTile t (fun x => { x with ledger := mput x.ledger i (BitVec.ofNat 64 (m + 2 ^ 32 * l)) }) (ledgerEnter t (i / 8) s)

/-- A read of a record would have to wait for its line (R211): the line is absent, and a spilled copy of it holds a valid record. -/
def ledgerAbsent (s : State) (t i : Nat) : Bool :=
  let x := tileOf s t
  !lineFree x (i / 8) && !x.lines.contains (i / 8)

/-- Words that are open: a record that is invalid or uncorrectable. -/
def openRecord (s : State) (i : Nat) : Nat × Nat :=
  (Config.openNat s.fresh (2 ^ 42 + i) % 2 ^ 32, Config.openNat s.fresh (2 ^ 43 + i) % 2 ^ 32)

/-- Read row `r`'s record as its two words (R210): a clear valid bit raises 0x1134, logged with the descriptor, the position and the
row (R231), and the words are then open, as those of an uncorrectable record are. -/
def ledgerRead (t : Nat) (d : LanD) (r : Nat) (s : State) : (Nat × Nat) × State :=
  let i := d.ledger + r
  match mfind (tileOf s t).ledger i with
  | some v =>
    let s := ledgerEnter t (i / 8) s
    (if d.lost then openRecord s i else (v.toNat % 2 ^ 32, v.toNat / 2 ^ 32),
      onlyIf d.lost freshen (onlyIf d.free (modTile t (fun x => { x with ledger := mdel x.ledger i })) s))
  | none => (openRecord s i, freshen (raiseWith 0x1134 (some t) d.off [d.pos, r] s))

/-- A ledger word that an op reads was corrected, or is uncorrectable (R210). -/
def ledgerWord (t : Nat) (d : LanD) (w : WordRead) (s : State) : State :=
  match w with
  | .clean => s
  | .corrected k => if k.val = 0 then s else raiseWith 0x1137 (some t) d.off [d.pos] (bump 0x603005 1 s)
  | .uncorrectable => raiseWith 0x1138 (some t) d.off [d.pos] s

/-! ## Partial records (R207, R208) -/

/-- A partial record. -/
structure PartRec where
  w0 : Nat
  w1 : Nat
  pos : Nat
  inf : Nat
  nan : Bool
  op : Nat
  deriving DecidableEq, Repr

def partOf (b : List Byte) : PartRec :=
  { w0 := fieldAt b 0 4, w1 := fieldAt b 4 4, pos := fieldAt b 8 4, inf := fieldAt b 12 3, nan := bit (fieldAt b 15 1) 0
    op := field (fieldAt b 15 1) 4 1 }

def partBytes (p : PartRec) : List Byte :=
  leBytes 4 p.w0 ++ leBytes 4 p.w1 ++ leBytes 4 p.pos ++ leBytes 3 p.inf ++ leBytes 1 (flag p.nan + 2 * p.op)

def negInf32 : Nat := 0xFF800000
def posInf32 : Nat := 0x7F800000
def nan32 : Nat := 0x7FC00000

/-- The bound on the l of a partial or merged record, 2^-24 × max(1, |l|): tighter than R206's, so that the l of a row split into
segments keeps R206's bound through the merges (DESIGN CHOICE, log entry 5). -/
def partBound (ref : Val) : Dy := dyScale (logBound ref) (-4)

/-- Forward statistics of a softmax segment from its kept entries (R207); `part` is true for a partial record. -/
def softStats (part : Bool) (kept : List Val) (gen key : Nat) : Nat × Nat × Nat × Bool × Val :=
  let nan := kept.any (fun v => decide (v = .nan))
  let inf := (kept.filter (fun v => decide (v = .inf false))).length
  let fin := kept.filter valFinite
  let top := fin.foldl (fun (a : Option Val) v => match a with
    | none => some v
    | some u => some (if belowVal u v then v else u)) none
  match top with
  | none => (negInf32, negInf32, inf, nan, .inf true)
  | some m =>
    let x := valDy m
    let sum := dySum (fin.map (fun v => expRef (dySub (valDy v) x)))
    let l := dyVal (dyAdd x (lnRef sum)) false
    ((roundTo 9 m).1, lanNear l (if part then partBound l else logBound l) gen key, inf, nan, l)

/-- Forward statistics of a norm segment: mean, and Σ(x − μ)² or Σx² (R207). -/
def normStats (layer : Bool) (xs : List Val) (gen key : Nat) : Nat × Nat :=
  let n := xs.length
  let mean := vOver (vSum xs) n
  let mag := dyOver (dySum (xs.map vMag)) (max n 1)
  let mu := lanNear mean (formulaBound n mag) gen key
  let dev := xs.map (fun x => if layer then vSub x (decodeVal 9 mu) else x)
  let sq := vSum (dev.map (fun v => vMul v v))
  let sqMag := dySum (xs.map (fun x => let a := if layer then dyAdd (vMag x) (vMag (decodeVal 9 mu)) else vMag x; dyMul a a))
  (mu, lanNear sq (formulaBound n sqMag) gen (key + 1))

/-- r within 2 ulp of 1/√(v + ε), with v = W1 / n (R204, R206). -/
def invRoot (w1 n eps gen key : Nat) : Nat :=
  match vAdd (vOver (decodeVal 9 w1) n) (decodeVal 9 eps) with
  | .fin _ m e =>
    if m = 0 then posInf32
    else
      let ref := dyVal (rsqrtRef m e) false
      (pickNear (within (valDy ref) (dyScale (ulp32 (valDy ref)) 1)) ref gen key).1
  | .inf neg => if neg then nan32 else 0
  | .nan => nan32

/-- Two `W1` of forward softmax records merged, exactly: h + ln(1 + exp(s - h)) (R208). -/
def logJoin (x y : Val) : Val :=
  let (h, l) := if ltVal x y then (y, x) else (x, y)
  match h, l with
  | .fin _ _ _, .fin _ _ _ => dyVal (dyAdd (valDy h) (lnRef (dyAdd (dyInt 1) (expRef (dySub (valDy l) (valDy h)))))) false
  | .nan, _ | _, .nan => .nan
  | _, _ => h

/-- The `W1` of all the records of a softmax row merged, rounded once. -/
def logJoinAll (ws : List Nat) (gen key : Nat) : Nat :=
  let v := (ws.map (decodeVal 9)).foldl logJoin (.inf true)
  lanNear v (partBound v) gen key

/-- Two FP32 values added: rounded once to nearest, ties to even (R118). It sets no flag (R214). -/
def lanAdd (a b : Nat) : Nat := (add32 a b).1

/-- Two LayerNorm records merged by the pairwise rule (R208). -/
def welford (a b : PartRec) (gen key : Nat) : Nat × Nat :=
  let n := a.pos + b.pos
  let m1 := decodeVal 9 a.w0
  let m2 := decodeVal 9 b.w0
  let delta := vSub m2 m1
  let times (v : Val) (k : Nat) : Val := vMul v (valInt k)
  let mu := vAdd m1 (vOver (times delta b.pos) n)
  let q := vAdd (vAdd (decodeVal 9 a.w1) (decodeVal 9 b.w1)) (vOver (times (vMul delta delta) (a.pos * b.pos)) n)
  let dm := dyAdd (vMag m1) (vMag m2)
  let qm := dyAdd (dyAdd (vMag (decodeVal 9 a.w1)) (vMag (decodeVal 9 b.w1))) (dyMul (dyMul dm dm) (dyInt n))
  (lanNear mu (formulaBound 1 dm) gen key, lanNear q (formulaBound 1 qm) gen (key + 1))

/-- Two records merged (R208); the `W1` of a softmax row is `logJoinAll` of all its records. -/
def mergeParts (a b : PartRec) (gen key : Nat) : PartRec :=
  let base := { a with pos := a.pos + b.pos, inf := (a.inf + b.inf) % 2 ^ 24, nan := a.nan || b.nan }
  if a.op < 2 then
    { base with w0 := floatPick 9 true a.w0 b.w0 }
  else if a.op = 2 then
    let (m, q) := welford a b gen key
    { base with w0 := m, w1 := q }
  else { base with w0 := lanAdd a.w0 b.w0, w1 := lanAdd a.w1 b.w1 }

/-! ## Row outputs -/

/-- FP32 results converted and written as a row's output (R203, R106). -/
def writeRow (t : Nat) (d : LanD) (r : Nat) (ys : List Nat) (s : State) : State :=
  let c := ys.foldl (fun (acc : List Nat × Nat × Gen) y =>
    let z := convertBy d.outCvt (decodeVal 9 y) acc.2.2
    (acc.1 ++ [z.1], acc.2.1 ||| z.2.1, z.2.2)) ([], 0, genOf s t)
  bufWrite t (d.outA + r * d.pitch) (packElems (d.outCvt % 16) c.1) (setFlags t c.2.1 (setGen t c.2.2 s))

/-- The outcome of a softmax row (R213): NaN, k entries of +∞, empty, or ordinary. -/
inductive SoftCase where
  | nan
  | infs (k : Nat)
  | empty
  | ordinary
  deriving DecidableEq, Repr

def softCase (nan : Bool) (inf : Nat) (w0 : Nat) : SoftCase :=
  if nan then .nan else if inf ≠ 0 then .infs inf else if w0 = negInf32 then .empty else .ordinary

/-- The ledger record of a softmax row (R210). -/
def softRecord (c : SoftCase) (m l : Nat) : Nat × Nat :=
  match c with
  | .nan => (nan32, nan32)
  | .infs k => (posInf32, k)
  | .empty => (negInf32, negInf32)
  | .ordinary => (m, l)

/-- The outcome that a ledger record names. -/
def recordCase (m l : Nat) : SoftCase :=
  if decodeVal 9 m = .nan then .nan
  else if m = posInf32 then .infs l
  else if m = negInf32 then .empty else .ordinary

/-- FP32 of 1/k. -/
def oneOver (k : Nat) : Nat := (roundTo 9 (dyVal (dyOver (dyInt 1) k) false)).1

/-- The bound on a softmax output: R206's, or half of it where l comes from a merged record, whose own error takes the rest. -/
def outBound (merged : Bool) (ref : Val) : Dy := if merged then dyScale (relBound ref) (-1) else relBound ref

/-- One forward softmax output (R213), with l exact, or as a merged record gives it (R206). -/
def softOut (log : Bool) (c : SoftCase) (l : Val) (merged : Bool) (kept : Bool) (x : Val) (gen key : Nat) : Nat :=
  match c with
  | .nan => nan32
  | .empty => 0
  | .infs k =>
    if kept ∧ x = .inf false then
      (if log then let r := dyVal (dyNeg (lnRef (dyInt k))) false; lanNear r (relBound r) gen key else oneOver k)
    else if log then negInf32 else 0
  | .ordinary =>
    if !kept then (if log then negInf32 else 0)
    else
      let d := vSub x l
      if log then lanNear d (outBound merged d) gen key
      else let y := vExp d; lanNear y (outBound merged y) gen key

/-- The y of a backward softmax position: exp(x - l), 1/k, or 0. -/
def softY (c : SoftCase) (l : Val) (kept : Bool) (x : Val) : Val :=
  match c with
  | .nan => .nan
  | .empty => .fin false 0 0
  | .infs k => if kept ∧ x = .inf false then decodeVal 9 (oneOver k) else .fin false 0 0
  | .ordinary => if kept then vExp (vSub x l) else .fin false 0 0

/-- A key for the free choices of a row. -/
def rowKey (r p : Nat) : Nat := 2 ^ 44 + r * 2 ^ 25 + p

/-- The values of a row of an operand. -/
def rowVals (s : State) (t a f n : Nat) : List Val := (packedAt s t a f n).map (decodeVal f)

/-- An FP32 vector of L entries of the tile buffer. -/
def vec32 (s : State) (t a n : Nat) : List Val := rowVals s t a 9 n

/-- γ and β of an op (R205): γ at `AUX_ADDR`, β after it when both are present. -/
def gammaOf (s : State) (t : Nat) (d : LanD) : List Val :=
  if d.affine then vec32 s t d.auxA d.len else List.replicate d.len (valInt 1)
def betaOf (s : State) (t : Nat) (d : LanD) : List Val :=
  if d.bias then vec32 s t (d.auxA + (if d.affine then 64 * ceilDiv d.len 16 else 0)) d.len
  else List.replicate d.len (.fin false 0 0)

/-! ## Forward rows -/

/-- A forward softmax row: statistics of its own, or the merged record of an apply. -/
def forwardSoft (t : Nat) (d : LanD) (r : Nat) (merged : Option PartRec) (s : State) : State :=
  let xs := rowVals s t (d.xA + r * d.pitch) d.xFmt d.len
  let ks := (List.range d.len).map (keeps s t d r)
  let own := softStats false ((xs.zip ks).filterMap (fun x => if x.2 then some x.1 else none)) s.fresh (rowKey r (2 ^ 24))
  let (m, l, inf, nan, exact) := match merged with
    | some p => (p.w0, p.w1, p.inf, p.nan, decodeVal 9 p.w1)
    | none => own
  let c := softCase nan inf m
  let ys := ((xs.zip ks).zipIdx).map (fun x => softOut (decide (d.op = 1)) c exact merged.isSome x.1.2 x.1.1 s.fresh (rowKey r x.2))
  let rec_ := softRecord c m l
  let s := ledgerWrite t (d.ledger + r) rec_.1 rec_.2 s
  let s := onlyIf (merged.isNone && decide (c = .empty)) (bump 0x603002 1) s
  writeRow t d r ys s

/-- A value is an infinity. -/
def isInf : Val → Bool
  | .inf _ => true
  | _ => false

/-- A forward norm row (R204, R214). An infinity of another segment shows in the merged mean. -/
def forwardNorm (t : Nat) (d : LanD) (r : Nat) (merged : Option PartRec) (s : State) : State :=
  let xs := rowVals s t (d.xA + r * d.pitch) d.xFmt d.len
  let layer := lanLayer d.op
  let own := normStats layer xs s.fresh (rowKey r (2 ^ 24))
  let (w0, w1, n, nan) : Nat × Nat × Nat × Bool := match merged with
    | some p => (p.w0, p.w1, p.pos, p.nan)
    | none => (own.1, own.2, d.len, xs.any (fun v : Val => decide (v = Val.nan)))
  let infinite := xs.any isInf || (!nan && !valFinite (decodeVal 9 w0))
  if nan || infinite then
    let s := onlyIf infinite (setFlags t fInvalid) s
    writeRow t d r (List.replicate d.len nan32) (ledgerWrite t (d.ledger + r) nan32 nan32 s)
  else
    let rr := invRoot w1 n d.eps s.fresh (rowKey r (2 ^ 24 + 2))
    let mu : Val := if layer then decodeVal 9 w0 else .fin false 0 0
    let rv := decodeVal 9 rr
    let gs := gammaOf s t d
    let bs := betaOf s t d
    let ys := ((xs.zip (gs.zip bs)).zipIdx).map (fun (x : (Val × Val × Val) × Nat) =>
      let (v, g, b) := x.1
      let y := vAdd (vMul (vMul (vSub v mu) rv) g) (if layer then b else .fin false 0 0)
      let mag := dyAdd (dyMul (dyMul (dyAdd (vMag v) (vMag mu)) (vMag rv)) (vMag g)) (if layer then vMag b else ⟨0, 0⟩)
      lanNear y (formulaBound 1 mag) s.fresh (rowKey r x.2))
    writeRow t d r ys (ledgerWrite t (d.ledger + r) (if layer then w0 else 0) rr s)

/-! ## Backward rows -/

/-- A backward norm row holds a NaN or an infinity (R214): in x, in dy, in its record or in the merged sums; the second says that
it is an infinity. -/
def backBad (s : State) (t : Nat) (d : LanD) (r m l : Nat) (merged : Option PartRec) : Bool × Bool :=
  let row := rowVals s t (d.xA + r * d.pitch) d.xFmt d.len ++ rowVals s t (d.dyA + r * d.pitch) d.dyFmt d.len
  let sums := match merged with
    | some p => [decodeVal 9 p.w0, decodeVal 9 p.w1]
    | none => []
  let nan := (row ++ sums ++ [decodeVal 9 m, decodeVal 9 l]).any (fun v => decide (v = .nan)) ||
    (match merged with
      | some p => p.nan
      | none => false)
  let inf := (row ++ sums).any isInf
  (nan || inf, inf)

/-- The terms of a backward row: for softmax kinds y and dy, for norms x̂ and g, position by position. -/
def backTerms (s : State) (t : Nat) (d : LanD) (r m l : Nat) : List (Val × Val) :=
  let xs := rowVals s t (d.xA + r * d.pitch) d.xFmt d.len
  let dys := rowVals s t (d.dyA + r * d.pitch) d.dyFmt d.len
  if lanSoftmax d.op then
    let ks := (List.range d.len).map (keeps s t d r)
    let c := recordCase m l
    ((xs.zip ks).zip dys).map (fun x => (softY c (decodeVal 9 l) x.1.2 x.1.1, if x.1.2 then x.2 else .fin false 0 0))
  else
    let mu := if lanLayer d.op then decodeVal 9 m else .fin false 0 0
    ((xs.zip dys).zip (gammaOf s t d)).map (fun x => (vMul (vSub x.1.1 mu) (decodeVal 9 l), vMul x.1.2 x.2))

/-- D, or D1 and D2, of a backward row (R204, R207). -/
def backSums (d : LanD) (ts : List (Val × Val)) (gen key : Nat) : Nat × Nat :=
  let n := ts.length
  let sum (f : Val × Val → Val) (key : Nat) : Nat :=
    lanNear (vSum (ts.map f)) (formulaBound n (dySum (ts.map (fun x => vMag (f x))))) gen key
  let prod (x : Val × Val) : Val := vMul x.1 x.2
  match d.op with
  | 4 => (sum prod key, 0)
  | 5 => (sum Prod.snd key, 0)
  | 6 => (sum Prod.snd key, sum prod (key + 1))
  | _ => (0, sum prod (key + 1))

/-- The dx of a backward row (R204, R213, R214). -/
def backRow (s : State) (t : Nat) (d : LanD) (r m l n : Nat) (ts : List (Val × Val)) (w0 w1 : Nat) : List Nat :=
  let a := decodeVal 9 w0
  let b := decodeVal 9 w1
  let c := recordCase m l
  (ts.zipIdx).map (fun x =>
    let (y, g) := x.1
    let key := rowKey r x.2
    if lanSoftmax d.op then
      if c = .nan then nan32
      else if c = .empty ∨ keeps s t d r x.2 = false then 0
      else if d.op = 4 then
        lanNear (vMul y (vSub g a)) (formulaBound n (dyMul (vMag y) (dyAdd (vMag g) (vMag a)))) s.fresh key
      else lanNear (vSub g (vMul y a)) (formulaBound n (dyAdd (vMag g) (dyMul (vMag y) (vMag a)))) s.fresh key
    else
      let rv := decodeVal 9 l
      let v := vMul rv (vSub (vSub g (if d.op = 6 then vOver a n else .fin false 0 0)) (vMul y (vOver b n)))
      let mag := dyMul (vMag rv) (dyAdd (dyAdd (vMag g) (dyOver (vMag a) (max n 1))) (dyMul (vMag y) (dyOver (vMag b) (max n 1))))
      lanNear v (formulaBound n mag) s.fresh key)

/-- dγ and dβ of a norm backward row (R205): each addition rounded once, rows in ascending order; it sets no flag (R214). -/
def accumulateGrads (t : Nat) (d : LanD) (r m l : Nat) (s : State) : State :=
  if d.gacc then
    let xs := rowVals s t (d.xA + r * d.pitch) d.xFmt d.len
    let dys := rowVals s t (d.dyA + r * d.pitch) d.dyFmt d.len
    let mu := if lanLayer d.op then decodeVal 9 m else .fin false 0 0
    let put (a : Nat) (vs : List Val) (s : State) : State :=
      bufWrite t a ((vs.zipIdx).flatMap (fun x =>
        leBytes 4 (roundFlags 9 (addVal (decodeVal 9 (leNat (bufBytes s t (a + 4 * x.2) 4))) x.1)).1)) s
    let terms := ((xs.zip dys).zipIdx).map (fun x =>
      let v := vMul x.1.2 (vMul (vSub x.1.1 mu) (decodeVal 9 l))
      let mag := dyMul (vMag x.1.2) (dyMul (dyAdd (vMag x.1.1) (vMag mu)) (vMag (decodeVal 9 l)))
      decodeVal 9 (lanNear v (formulaBound 1 mag) s.fresh (rowKey r (2 ^ 24 + 8 + x.2))))
    let s := put d.gaccA terms s
    onlyIf d.bias (put (d.gaccA + 64 * ceilDiv d.len 16) dys) s
  else s

/-! ## One row of each form (R207) -/

/-- A merge row (R208, R209, R215). -/
def mergeRow (t : Nat) (d : LanD) (r : Nat) (s : State) : State :=
  let recs := (List.range d.len).map (fun i => partOf (bufBytes s t (d.partA + r * d.pitch + 16 * i) 16))
  match recs with
  | [] => s
  | p :: rest =>
    if rest.any (fun q => decide (q.op ≠ p.op)) ∨ 4194304 < (recs.map (·.pos)).foldl (· + ·) 0 then
      bufOpen t (d.outA + 16 * r) 16 (raiseWith 0x1135 (some t) d.off [d.pos, r] s)
    else
      let o := (rest.zipIdx).foldl (fun a q => mergeParts a q.1 s.fresh (rowKey r (2 * q.2))) p
      let o := if o.op < 2 then { o with w1 := logJoinAll (recs.map (·.w1)) s.fresh (rowKey r 0) } else o
      let empty := decide (o.op < 2) && decide (softCase o.nan o.inf o.w0 = .empty)
      bufWrite t (d.outA + 16 * r) (partBytes o) (onlyIf empty (bump 0x603002 1) s)

/-- A partial row. With `GACC` it accumulates as the row's other forms do (R205). -/
def partialRow (t : Nat) (d : LanD) (r : Nat) (s : State) : State :=
  let isNan (v : Val) : Bool := decide (v = .nan)
  let xs := rowVals s t (d.xA + r * d.pitch) d.xFmt d.len
  let put (p : PartRec) (s : State) : State := bufWrite t (d.partA + 16 * r) (partBytes p) s
  if lanBackward d.op then
    let (rec_, s) := ledgerRead t d r s
    let ts := backTerms s t d r rec_.1 rec_.2
    let (w0, w1) := backSums d ts s.fresh (rowKey r (2 ^ 24))
    let s := accumulateGrads t d r rec_.1 rec_.2 s
    put ⟨w0, w1, d.len, 0, ts.any (fun x => isNan x.1 || isNan x.2), d.op⟩ s
  else if lanSoftmax d.op then
    let ks := (List.range d.len).map (keeps s t d r)
    let (m, l, inf, nan, _) :=
      softStats true ((xs.zip ks).filterMap (fun x => if x.2 then some x.1 else none)) s.fresh (rowKey r (2 ^ 24))
    put ⟨m, l, d.len, inf, nan, d.op⟩ s
  else
    let (w0, w1) := normStats (lanLayer d.op) xs s.fresh (rowKey r (2 ^ 24))
    put ⟨w0, w1, d.len, 0, xs.any isNan, d.op⟩ s

/-- A whole or apply row of a backward op. dγ and dβ are formed from the row's inputs, which its outputs may replace (R218). -/
def backwardRow (t : Nat) (d : LanD) (r : Nat) (merged : Option PartRec) (s : State) : State :=
  let (rec_, s) := ledgerRead t d r s
  let ts := backTerms s t d r rec_.1 rec_.2
  let bad := if lanSoftmax d.op then (false, false) else backBad s t d r rec_.1 rec_.2 merged
  let (w0, w1, n) := match merged with
    | some p => (p.w0, p.w1, p.pos)
    | none => let w := backSums d ts s.fresh (rowKey r (2 ^ 24)); (w.1, w.2, d.len)
  let ys := if bad.1 then List.replicate d.len nan32 else backRow s t d r rec_.1 rec_.2 n ts w0 w1
  writeRow t d r ys (onlyIf bad.2 (setFlags t fInvalid) (accumulateGrads t d r rec_.1 rec_.2 s))

/-- Row r of an op. -/
def lanRow (t : Nat) (d : LanD) (r : Nat) (s : State) : State :=
  freshen (match d.seg with
    | 1 => partialRow t d r s
    | 2 => mergeRow t d r s
    | k =>
      let merged := if k = 3 then some (partOf (bufBytes s t (d.partA + 16 * r) 16)) else none
      if lanBackward d.op then backwardRow t d r merged s
      else if lanSoftmax d.op then forwardSoft t d r merged s
      else forwardNorm t d r merged s)

end Sys2Proof.Machine
end

