-- ==== Sys2Proof/Machine/Lantern.lean ====
section
/-!
DEFINITION. The Lantern at work (06): issue of an op, its rows, its waits for ledger lines, its completion and its end at a halt.
-/

set_option Elab.async false

namespace Sys2Proof.Machine

/-- The accumulators of an op with `GACC` (R205): dγ, and dβ after it. -/
def gaccExtent (d : LanD) : Nat × Nat := if d.gacc ∧ d.seg ≠ 2 then (d.gaccA, 64 * ceilDiv d.len 16 * (1 + flag d.bias)) else (0, 0)

/-- The bytes that an op reads of its tile buffer beside its accumulators (R218). -/
def lanReads (d : LanD) : List (Nat × Nat) :=
  let rows (a pitch n : Nat) : Nat × Nat := (a, (d.nrows - 1) * pitch + n)
  if d.seg = 2 then [rows d.partA d.pitch (16 * d.len)]
  else
    [rows d.xA d.pitch (packedSize d.xFmt d.len), (if lanBackward d.op then rows d.dyA d.pitch (packedSize d.dyFmt d.len) else (0, 0)),
      (let k := flag d.affine + flag (d.bias && !lanBackward d.op); (d.auxA, 64 * ceilDiv d.len 16 * k)),
      (if d.bits then rows d.maskA d.maskPitch (ceilDiv d.len 8) else (0, 0)),
      (if d.seg = 3 then rows d.partA 16 16 else (0, 0))]

/-- LANTERN_OP: a Lantern entry issues once the previous op has completed (R203, R221). -/
def execLanternOp (t : TileNo) (s : State) : Host.Outcome State Fault Refusal :=
  .next (
    match issuable s t.val 4 with
    | none => s
    | some e =>
      let x := tileOf s t.val
      if x.lan.isSome then s
      else
        let desc := runImg s + descAt s (runImg s) e.desc
        issued t.val e (modTile t.val (fun x => { x with
          lan := some { pos := x.pos, desc := desc, row := 0, waitLine := none } }) s))

/-- A row reads a ledger record. -/
def rowReads (d : LanD) : Bool := lanBackward d.op && decide (d.seg ≠ 2)

/-- Rows from `r` on, at most `k`: the row that waits for a ledger line, or the row count when all have run. -/
def lanRows (t : Nat) (d : LanD) : Nat → Nat → State → Nat × Option Nat × State
  | 0, r, s => (r, none, s)
  | k + 1, r, s =>
    if rowReads d ∧ ledgerAbsent s t (d.ledger + r) then (r, some ((d.ledger + r) / 8), s)
    else lanRows t d k (r + 1) (lanRow t d r s)

/-- The rows of an op that a halting Calend cut short: outputs, records and accumulators are undefined (R221). -/
def openRows (t : Nat) (d : LanD) (r : Nat) (s : State) : State :=
  let rows := List.range' r (d.nrows - r)
  match d.seg with
  | 1 => forEach rows (fun i => bufOpen t (d.partA + 16 * i) 16) s
  | 2 => forEach rows (fun i => bufOpen t (d.outA + 16 * i) 16) s
  | _ =>
    let s := forEach rows (fun i => bufOpen t (d.outA + i * d.pitch) (packedSize (d.outCvt % 16) d.len)) s
    let s := onlyIf d.gacc (fun s =>
      let n := 64 * ceilDiv d.len 16
      let s := bufOpen t d.gaccA (4 * d.len) s
      onlyIf d.bias (bufOpen t (d.gaccA + n) (4 * d.len)) s) s
    if lanBackward d.op then s
    else forEach rows (fun i s =>
      freshen (modTile t (fun x => { x with
        ledger := mput x.ledger (d.ledger + i) (BitVec.ofNat 64 (Config.openNat s.fresh (2 ^ 45 + i))) })
        (ledgerEnter t ((d.ledger + i) / 8) s))) s

/-- The rows of an op whose reads found `w` in the tile buffer and `lw` in the ledger (R210, R237). An uncorrectable word of the
tile buffer leaves the op's outputs open. -/
def lanRun (t : Nat) (d : LanD) (k r : Nat) (w lw : WordRead) (s : State) : Nat × Option Nat × State :=
  let (n, wait, s) := lanRows t { d with lost := decide (lw = .uncorrectable) } k r s
  let s := onlyIf (decide (w = .uncorrectable)) (openRows t { d with nrows := n } r) s
  (n, wait, bufWord t w (onlyIf (rowReads d) (ledgerWord t d lw) s))

/-- LANTERN_OP_COMPLETE: the op's rows run in order; it completes with the last, or waits for an absent ledger line (R211,
R221). At a halting Calend it stops at the end of its current row: `rows` more rows have then run, and the others are undefined.
`w` and `lw` are the worst that its reads of the tile buffer and of the ledger found. -/
def execLanternOpComplete (t : TileNo) (rows : BitVec 12) (w lw : WordRead) (s : State) : Host.Outcome State Fault Refusal :=
  .next (
    match (tileOf s t.val).lan with
    | none => s
    | some l =>
      let d := { lanternAt s l.desc with off := l.desc - runImg s, pos := l.pos }
      let stalled := l.waitLine.isSome || (gaccExtent d :: lanReads d).any (fun x => pendingIn s t.val x.1 x.2)
      let done (s : State) : State := modTile t.val (fun x => { x with lan := none }) s
      if haltPassed s then
        modTile t.val (fun x => { x with board := x.board.filter (fun b => decide (b.pos ≠ l.pos)) })
          (done (if d.op = 15 then s
            else
              let (r, _, s) := lanRun t.val d (if stalled then 0 else min rows.toNat (d.nrows - l.row)) l.row w lw s
              openRows t.val d r s))
      else if d.op = 15 then complete t.val l.pos (bump 0x603001 1 (done s))
      else if stalled then s
      else
        let (r, wait, s) := lanRun t.val d (d.nrows - l.row) l.row w lw s
        match wait with
        | some line => modTile t.val (fun x => { x with lan := some { l with row := r, waitLine := some line } }) s
        | none => complete t.val l.pos (bump 0x603001 1 (done s)))

/-- LEDGER_FETCH: the absent line that a read waits for is fetched back from the spill area (R211), through the home slice of
its Store line (R246), with what that read found. -/
def execLedgerFetch (t : TileNo) (r : LineRead) (s : State) : Host.Outcome State Fault Refusal :=
  .next (
    match (tileOf s t.val).lan with
    | none => s
    | some l =>
      match l.waitLine with
      | none => s
      | some line =>
        let s := ledgerEnter t.val line s
        let a := spillPlace s t.val line
        let (data, _, s) := homeRead a 64 false r (some t.val) [] s
        let value (i : Nat) : U64 := BitVec.ofNat 64 (fieldAt data (8 * i) 8)
        bump 0x603004 1 (modTile t.val (fun x => { x with
          ledger := (List.range 8).foldl (fun m i =>
            if (mfind m (8 * line + i)).isSome then mput m (8 * line + i) (value i) else m) x.ledger
          misses := x.misses + 1
          lan := some { l with waitLine := none } }) s))

end Sys2Proof.Machine
end

