-- ==== Sys2Proof/Machine/Heralds.lean ====
section
/-!
DEFINITION. Heralds and the memory's own events (07): Stream descriptors, requests by line, their service at the home slice
and their return, far-copy invalidation, scrubbing, row copies and block checks.
-/

set_option Elab.async false

namespace Sys2Proof.Machine

/-! ## Stream descriptors (R265, R266) -/

/-- The fields of a Stream descriptor's 64 bytes. -/
def streamOf (b : List Byte) : StreamD :=
  let f := fieldAt b 1 1
  { dir := f % 4, prio := bit f 2, transpose := bit f 3, cvtEn := bit f 4, fetch := bit f 5, nofar := bit f 6
    fmt := fieldAt b 2 1 % 16, aop := fieldAt b 2 1 / 16, cvt := fieldAt b 3 1
    depth := (if fieldAt b 4 1 = 0 then 256 else fieldAt b 4 1), herald := fieldAt b 5 1 % 8, addr := fieldAt b 8 8
    counts := (List.range 4).map (fun k => fieldAt b (16 + 4 * k) 4)
    strides := (List.range 4).map (fun k => signed 32 (fieldAt b (32 + 4 * k) 4))
    nearAddr := fieldAt b 48 4, nearPitch := fieldAt b 52 2, fetchAddr := fieldAt b 56 4 }

/-- COUNTk. -/
def cntAt (d : StreamD) (k : Nat) : Nat := d.counts.getD k 1

/-- Elements of the pattern. -/
def streamTotal (d : StreamD) : Nat := cntAt d 0 * cntAt d 1 * cntAt d 2 * cntAt d 3

/-- Index k of run index n. -/
def idxAt (d : StreamD) (n k : Nat) : Nat :=
  match k with
  | 0 => n % cntAt d 0
  | 1 => n / cntAt d 0 % cntAt d 1
  | 2 => n / cntAt d 0 / cntAt d 1 % cntAt d 2
  | _ => n / cntAt d 0 / cntAt d 1 / cntAt d 2

/-- The far element index of run index n. -/
def farIndex (d : StreamD) (n : Nat) : Int :=
  ((List.range 4).map (fun k => (idxAt d n k : Int) * d.strides.getD k 0)).foldl (· + ·) 0

/-- The bit offset of run index n from `ADDR`. -/
def farBit (d : StreamD) (n : Nat) : Nat := fmtWidth d.fmt * (farIndex d n).toNat

/-- First and last line of an element, as global addresses over 128. -/
def farLines (d : StreamD) (n : Nat) : Nat × Nat :=
  ((d.addr + farBit d n / 8) / 128, (d.addr + (farBit d n + fmtWidth d.fmt - 1) / 8) / 128)

/-- The near-side format. -/
def nearFmt (d : StreamD) : Nat := if d.cvtEn then d.cvt % 16 else d.fmt

/-- Near row and position of run index n, and the elements of a near row. -/
def nearPlace (d : StreamD) (n : Nat) : Nat × Nat :=
  let up := idxAt d n 2 + cntAt d 2 * idxAt d n 3
  if d.transpose then (idxAt d n 0 + cntAt d 0 * up, idxAt d n 1) else (idxAt d n 1 + cntAt d 1 * up, idxAt d n 0)
def nearRowLen (d : StreamD) : Nat := if d.transpose then cntAt d 1 else cntAt d 0

/-- Byte and bit of run index n on the near side. -/
def nearBit (d : StreamD) (n : Nat) : Nat × Nat :=
  let (r, p) := nearPlace d n
  let o := fmtWidth (nearFmt d) * p
  (d.nearAddr + r * d.nearPitch + o / 8, o % 8)

/-- Bytes of one atomic operand (R262). -/
def operandBytes (d : StreamD) : Nat := if d.aop = 8 then 8 else 4

/-! ## Bits of tile buffers and lines -/

/-- `w` bits of value `v` at bit `o` of a byte, as bytes with masks. -/
def bitCells (o w v : Nat) : List (Byte × Byte) :=
  let n := (o + w + 7) / 8
  (leBytes n (v % 2 ^ w * 2 ^ o)).zip (leBytes n ((2 ^ w - 1) * 2 ^ o))

/-- Write the masked bits of bytes of a tile buffer. -/
def bufWriteMasked (t a : Nat) (cells : List (Byte × Byte)) (s : State) : State :=
  bufWrite t a ((cells.zipIdx).map (fun x => (bufByte s t (a + x.2) &&& ~~~x.1.2) ||| (x.1.1 &&& x.1.2))) s

/-- The unused bits that the last element of a packed row leaves in its byte or group (R103). -/
def padBits (f len : Nat) : Nat := 8 * packedSize f len - fmtWidth f * len

/-- Write an element to its near place; the last of a row writes the unused bits as zero. -/
def nearWrite (t : Nat) (d : StreamD) (n enc : Nat) (s : State) : State :=
  let f := nearFmt d
  let (a, o) := nearBit d n
  let w := fmtWidth f + (if (nearPlace d n).2 + 1 = nearRowLen d then padBits f (nearRowLen d) else 0)
  bufWriteMasked t a (bitCells o w (enc % 2 ^ fmtWidth f)) s

/-- Read an element from its near place. -/
def nearRead (s : State) (t : Nat) (d : StreamD) (n : Nat) : Nat :=
  let w := fmtWidth (nearFmt d)
  let (a, o) := nearBit d n
  bitsAt (bufBytes s t a ((o + w + 7) / 8)) o w

/-- The bytes that run index n takes on the near side: start and count. -/
def nearSpan (d : StreamD) (n : Nat) : Nat × Nat :=
  if d.dir = 2 then (d.nearAddr + operandBytes d * n, operandBytes d)
  else ((nearBit d n).1, ((nearBit d n).2 + fmtWidth (nearFmt d) + 7) / 8)

/-! ## Requests (R268) -/

/-- The rest of a run of elements in line `x`: how many, and the other line of a last element that crosses its end. -/
def runRest (d : StreamD) (total x : Nat) : Nat → Nat → Nat × Option Nat
  | 0, _ => (0, none)
  | k + 1, n =>
    if total ≤ n then (0, none)
    else
      let (lo, hi) := farLines d n
      if lo = x ∧ hi = x then let r := runRest d total x k (n + 1); (r.1 + 1, r.2)
      else if lo = x then (1, some hi)
      else if hi = x then (1, some lo) else (0, none)

/-- The next request of a Herald: its line, its elements, and the line still to be requested for the last of them. -/
def nextRun (h : Herald) : Nat × Nat × Option Nat :=
  match h.half with
  | some x => let r := runRest h.d h.total x (h.total - h.next) (h.next + 1); (x, r.1 + 1, r.2)
  | none =>
    let x := (farLines h.d h.next).1
    if h.d.dir = 2 then (x, 1, none) else let r := runRest h.d h.total x (h.total - h.next) h.next; (x, r.1, r.2)

/-- Every request of the stream has been issued and has returned. -/
def herDone (h : Herald) : Bool := decide (h.total ≤ h.next) && h.half.isNone && decide (h.inflight = 0)

/-- One Region Window Table entry (R363) covers a request. -/
def rwtCovers (b : List Byte) (key space lo hi kind : Nat) : Bool :=
  let f := fieldAt b 6 1
  let within (o v : Nat) : Bool := decide (fieldAt b o 1 ≤ v) && decide (v ≤ fieldAt b (o + 1) 1)
  bit f 7 && decide (f % 4 = space) && bit f (2 + kind) && within 0 (keyX key) && within 2 (keyY key) && within 4 (keyZ key) &&
    decide (fieldAt b 8 8 ≤ lo) && decide (hi ≤ fieldAt b 16 8)

/-- The sender's rights to local addresses `lo` to `hi` - 1 of another package (R362, R363): kind 0 reads, 1 writes, 2
atomics. -/
def rightsOk (s : State) (key space lo hi kind : Nat) : Bool :=
  inSlice s key &&
    (if s.fabric.rwtMode then
      let t := odBlob s 0x400202 2048
      (List.range 64).any (fun i => rwtCovers (slice t (32 * i) 32) key space lo hi kind)
    else decide (space < 2) || (decide (space = 2) && decide (kind = 0)))

/-- A request is refused at the sender: Job-fatal 0x6010 (R362). -/
def refuseRequest (t ga : Nat) (s : State) : State := bump 0x400407 1 (raiseWith 0x6010 (some t) ga [gaKey ga] s)

/-- The cells of a line that a store's elements write: later elements prevail (R268). -/
def lineCells (d : StreamD) (x n0 cnt : Nat) (enc : Nat → Nat) : List (Byte × Byte) :=
  (List.range cnt).foldl (fun cells i =>
    let n := n0 + i
    let b := farBit d n
    (bitCells (b % 8) (fmtWidth d.fmt) (enc n)).zipIdx.foldl (fun cells c =>
      let a := d.addr + b / 8 + c.2
      if a / 128 = x then
        listMod (fun o => ((o.1 &&& ~~~c.1.2) ||| (c.1.1 &&& c.1.2), o.2 ||| c.1.2)) (a % 128) cells
      else cells) cells) (List.replicate 128 (0, 0))

/-- The bits of run index n that lie in line `x`, in place in the element, from the line's bytes. -/
def linePart (d : StreamD) (x n : Nat) (line : List Byte) : Nat :=
  let b := farBit d n
  let a := d.addr + b / 8
  let bytes := (List.range ((b % 8 + fmtWidth d.fmt + 7) / 8)).map (fun i =>
    if (a + i) / 128 = x then line.getD ((a + i) % 128) 0 else 0)
  bitsAt bytes (b % 8) (fmtWidth d.fmt)

/-- Key of the part of an element that crosses a line's end. -/
def partKey (n : Nat) : Nat := 2 ^ 40 + n

/-- The far encodings of elements of a store, converted in ascending run index (R267) and kept with the Herald. -/
def storeElems (t h : Nat) (hd : Herald) : List Nat → State → State
  | [], s => s
  | n :: r, s =>
    if (mfind (herOf s t h).elems n).isSome then storeElems t h hd r s
    else
      let e := nearRead s t hd.d n
      let s := if hd.d.cvtEn then
          let (v, fl, g) := convert hd.d.fmt (field hd.d.cvt 5 4) (bit hd.d.cvt 6) (decodeVal (nearFmt hd.d) e) (genOf s t)
          setFlags t fl (setGen t g (modHer t h (fun y => { y with elems := mput y.elems n v }) s))
        else modHer t h (fun y => { y with elems := mput y.elems n e }) s
      storeElems t h hd r s

/-- The destination die of a far address (R371). -/
def farDie (space loc : Nat) : Nat := if space = 1 then tileDie (loc / 2 ^ 22) else storeDie loc

/-- Stores and atomics of a tile outstanding to one die (R371). -/
def outstanding (s : State) (t dest die : Nat) : Nat :=
  ((reqList s).filter (fun x => decide (x.2.tile = t) && decide (x.2.dest.toNat = dest) && decide (x.2.die = die) &&
    !x.2.answered && (decide (x.2.kind = .store) || decide (x.2.kind = .atomic)))).length

/-- The packet of a Herald's request (R368). -/
def requestPacket (s : State) (r : Nat) (q : Req) : Packet :=
  let base : Packet :=
    { prio := q.prio, src := s.fabric.coord.getD 0, srcTile := BitVec.ofNat 16 q.tile, rtag := BitVec.ofNat 16 r, addr := q.addr }
  match q.kind with
  | .load => { base with kind := 1, len := q.len }
  | .store =>
    let bit2 (m : Byte) (j : Nat) : Bool := decide (m.toNat / 4 ^ j % 4 ≠ 0)
    { base with
      kind := 2
      benables := BitVec.ofNat 128 (flagBits128 (q.wr.map (fun c => decide (c.2 ≠ 0))))
      fenables := BitVec.ofNat 512 (flagBits128 (q.wr.flatMap (fun c => (List.range 4).map (bit2 c.2))))
      data := q.wr.map Prod.fst }
  | _ => { base with kind := 3, aop := BitVec.ofNat 4 q.aop, fmt := BitVec.ofNat 4 q.fmt, word0 := q.word0, word1 := q.word1 }
where
  /-- The bits of a list of flags. -/
  flagBits128 (l : List Bool) : Nat := (l.zipIdx).foldl (fun a x => a + flag x.1 * 2 ^ x.2) 0

/-- A request is added and sent: at home it waits for the home slice, at another package it leaves as a packet. -/
def launchReq (t h : Nat) (q : Req) (s : State) : State :=
  let write := match q.kind with
    | .load => false
    | _ => true
  let s := modHer t h (fun y => { y with inflight := y.inflight + 1 }) s
  if q.remote && !q.answered then
    let (tok, s) := if write then
        let (o, s) := tokenIssue t q.dest.toNat s
        (some o, dropFar q.addr.toNat s)
      else (none, bump 0x400401 1 s)
    let q := { q with token := tok }
    let (r, s) := addReq q s
    sendPacket (requestPacket s r q) s
  else (addReq q s).2

/-- The request of a Herald for `cnt` elements from n0 in line `x`, before it is sent. -/
def heraldReq (s : State) (t h : Nat) (hd : Herald) (x cnt : Nat) : Req :=
  let ga := x * 128
  let key := gaKey ga
  { kind := (match hd.d.dir with
      | 0 => .load
      | 1 => .store
      | _ => .atomic)
    tile := t, unit := h, dest := BitVec.ofNat 14 key, die := farDie (gaSpace ga) (gaLocal ga)
    remote := decide (key ≠ ownKey s), addr := BitVec.ofNat 64 ga, len := 128, prio := hd.d.prio, nofar := hd.d.nofar
    n0 := hd.next, cnt := cnt, piece := 0, wr := [], aop := hd.d.aop, fmt := hd.d.fmt, word0 := 0, word1 := 0
    token := none, sent := now s, answered := false, poison := false, undeliverable := false, data := [] }

/-- A far copy is looked up for a read (R45, R248): what the slice found in it; a copy with an uncorrectable error is clean, so it
goes and the line is read from its home. -/
def farFound (ga die : Nat) (c : CacheRead) (s : State) : State :=
  match farCopy s ga die, c with
  | none, _ | some _, .held => s
  | some _, .corrected => cacheCorrected (farSlice (farKey ga die)) s
  | some _, .missed => setFar ga die [] s
  | some _, .uncorrectable => setFar ga die [] (cacheCorrected (farSlice (farKey ga die)) s)

/-- A load's line request: from the die's far copy when it holds one, else from the home (R45, R47, R369). `c` is what the die's far
part found of the line, `w` a word of the tile buffer that it reads. -/
def requestLoad (t h : Nat) (q : Req) (c : CacheRead) (w : WordRead) (s : State) : State :=
  let ga := q.addr.toNat
  let loc := gaLocal ga
  if gaSpace ga = 1 ∧ q.remote = false then
    match bufPlace loc with
    | none => launchReq t h { q with answered := true, poison := true, data := List.replicate 128 0xFF }
        (raiseWith 0x2013 (some t) (addrContext 1 loc) [loc] s)
    | some (u, a) => launchReq t h { q with answered := true, data := bufBytes s u a 128 } (bufWord u w s)
  else
    let die := tileDie t
    let s := farFound ga die c s
    match farCopy s ga die with
    | some l => launchReq t h { q with answered := true, data := l } s
    | none => launchReq t h q s

/-- A store to a tile buffer of the own package takes effect at once. -/
def storeBuffer (t h : Nat) (q : Req) (s : State) : State :=
  match bufPlace (gaLocal q.addr.toNat) with
  | none => launchReq t h { q with answered := true }
      (raiseWith 0x2013 (some t) (addrContext 1 (gaLocal q.addr.toNat)) [gaLocal q.addr.toNat] s)
  | some (u, a) => launchReq t h { q with answered := true } (bufWriteMasked u a q.wr s)

/-- The far lines of the own package's tile buffers that a request touches are free of pending marks (R236). -/
def farFree (s : State) (x : Nat) : Bool :=
  if gaKey (x * 128) = ownKey s ∧ gaSpace (x * 128) = 1 then
    match bufPlace (gaLocal (x * 128)) with
    | some (u, a) => !linePending s u (a / 128)
    | none => true
  else true

/-- The near bytes that a request reads are free of pending marks (R140). -/
def nearFree (s : State) (t : Nat) (hd : Herald) (n0 cnt : Nat) : Bool :=
  hd.user || decide (hd.d.dir = 0) ||
    (List.range cnt).all (fun i => let (a, n) := nearSpan hd.d (n0 + i); !pendingIn s t a n)

/-! ## Returns (R268, R270) -/

/-- One element of a load is complete: to the vector port, or converted and written to the near side (R267). -/
def loadElem (t h n enc : Nat) (s : State) : State :=
  let hd := herOf s t h
  if hd.user then modHer t h (fun y => { y with elems := mput y.elems n enc }) s
  else if hd.d.cvtEn then
    let (v, fl, g) := convertBy hd.d.cvt (decodeVal hd.d.fmt enc) (genOf s t)
    nearWrite t hd.d n v (setFlags t fl (setGen t g s))
  else nearWrite t hd.d n enc s

/-- The part of an element that a line brought; an element that crosses a line's end waits for its other part. -/
def loadPart (t h x n : Nat) (line : List Byte) (s : State) : State :=
  let hd := herOf s t h
  let (lo, hi) := farLines hd.d n
  let v := linePart hd.d x n line
  if lo = hi then loadElem t h n v s
  else match mfind hd.elems (partKey n) with
    | some u => loadElem t h n (u ||| v) (modHer t h (fun y => { y with elems := mdel y.elems (partKey n) }) s)
    | none => modHer t h (fun y => { y with elems := mput y.elems (partKey n) v }) s

/-- A load with conversions returns in run order, because its draws do (R267). -/
def inOrder (s : State) (r : Nat) (q : Req) : Bool :=
  !(herOf s q.tile q.unit).d.cvtEn ||
    (reqList s).all (fun x => decide (r ≤ x.1) || decide (x.2.tile ≠ q.tile) || decide (x.2.unit ≠ q.unit) ||
      decide (x.2.kind ≠ .load))

/-- HERALD_LINE_RETURN: an answered request returns to its Herald (R268): a load's elements go to the near side or the port, a
fetched value to its place; a write's acknowledgement only frees its place. -/
def execHeraldLineReturn (r : Nat) (s : State) : Host.Outcome State Fault Refusal :=
  .next (
    match reqOf s r with
    | none => s
    | some q =>
      let hd := herOf s q.tile q.unit
      let free := modHer q.tile q.unit (fun y => { y with inflight := y.inflight - 1, done := y.done + q.cnt })
      if q.answered = false then s
      else if 8 ≤ q.unit then setReq r none s
      else match q.kind with
      | .load =>
        let ns := (List.range q.cnt).map (fun i => q.n0 + i)
        if inOrder s r q = false ∨ (hd.user = false ∧
            ns.any (fun n => let (a, k) := nearSpan hd.d n; pendingIn s q.tile a k)) then s
        else
          let line := if q.poison then List.replicate 128 0xFF else q.data
          free (forEach ns (fun n => loadPart q.tile q.unit (q.addr.toNat / 128) n line) (setReq r none s))
      | .store => free (setReq r none s)
      | .atomic =>
        let a := hd.d.fetchAddr + 4 * q.n0
        if hd.d.fetch ∧ pendingIn s q.tile a 4 then s
        else
          let old := if q.poison then List.replicate 4 0xFF else q.data
          free (onlyIf hd.d.fetch (bufWrite q.tile a old) (setReq r none s))
      | _ => s)

/-! ## Stream entries (R264, R270) -/

/-- STREAM: a Stream entry issues on its Herald (R264, R266). -/
def execStream (t : TileNo) (s : State) : Host.Outcome State Fault Refusal :=
  .next (
    match issuable s t.val 1 with
    | none => s
    | some e =>
      let d := streamOf (descBytes s e 64)
      if (herOf s t.val d.herald).busy then s
      else
        let pos := (tileOf s t.val).pos
        issued t.val e (modHer t.val d.herald (fun y => { resend := y.resend, busy := true, dir := d.dir, pos := pos, d := d
                                                          total := streamTotal d }) s))

/-- The rest of the near side of a stream that a halt cut short is undefined (R270). -/
def openNear (t : Nat) (hd : Herald) (s : State) : State :=
  forEach (List.range' hd.next (hd.total - hd.next)) (fun n s =>
    if hd.d.dir = 0 then
      nearWrite t hd.d n (Config.openNat s.fresh n) s
    else if hd.d.dir = 2 ∧ hd.d.fetch then bufWrite t (hd.d.fetchAddr + 4 * n) (openBytes s (2 ^ 40 + 4 * n) 4) s
    else s) s

/-- Write run index n of a store to its far place where that lies in the own package. -/
def pokeFar (d : StreamD) (n enc : Nat) (s : State) : State :=
  let b := farBit d n
  let a := gaLocal d.addr + b / 8
  let cells := bitCells (b % 8) (fmtWidth d.fmt) enc
  if gaKey d.addr ≠ ownKey s then s
  else if gaSpace d.addr = 0 then
    if (writeDenied s a 4).isSome then s else storeWriteMasked a cells s
  else match bufPlace a with
    | some (u, o) => bufWriteMasked u o cells s
    | none => s

/-- The rest of the far side of a store that a halt cut short is undefined (R270), where it lies in the own package. -/
def openFar (hd : Herald) (s : State) : State :=
  if hd.d.dir = 0 then s
  else
    forEach (List.range' hd.next (hd.total - hd.next)) (fun n s => pokeFar hd.d n (Config.openNat s.fresh n) s) s

/-- A stream that a halt cut short: the rest of its near and far side is undefined (R270). -/
def openRest (t : Nat) (hd : Herald) (s : State) : State := freshen (openFar hd (openNear t hd s))

/-- STREAM_COMPLETE: every request has returned, or after a halting Calend those in flight have (R270). -/
def execStreamComplete (t : TileNo) (h : Fin 8) (s : State) : Host.Outcome State Fault Refusal :=
  .next (
    let hd := herOf s t.val h.val
    if hd.busy ∧ hd.user = false ∧ (herDone hd ∨ (haltPassed s ∧ hd.inflight = 0)) then
      let s := onlyIf (!herDone hd) (openRest t.val hd) s
      complete t.val hd.pos (modHer t.val h.val (fun y => { y with
        busy := false, d := {}, next := 0, half := none, total := 0, elems := [] }) s)
    else s)

/-! ## At the home slice (R46, R246, R262, R370) -/

/-- A request that the own home slice is to serve now. -/
def homeReq (s : State) (r : Nat) (kind : ReqKind) : Option Req :=
  match reqOf s r with
  | none => none
  | some q =>
    if q.kind = kind ∧ q.remote = false ∧ q.answered = false ∧ reqServed s r = false ∧ olderWaits s r q = false then some q
    else none

/-- HOME_SLICE_LOAD: a load is served at the line's home (R246), with what its read found; one that goes to the channel waits for
its class (R250). A tile of another die leaves a copy in its far part (R245). -/
def execHomeSliceLoad (r : Nat) (x : LineRead) (s : State) : Host.Outcome State Fault Refusal :=
  .next (
    match homeReq s r .load with
    | none => s
    | some q =>
      let a := gaLocal q.addr.toNat
      if rowBusy s a ∨ lineTurn s q.prio (a / 128) x (some r) = false then s
      else
        let (data, poison, s) := homeRead a q.len q.prio x (some q.tile) [] s
        let die := tileDie q.tile
        let s := onlyIf (!poison && !q.nofar && decide (storeDie a ≠ die)) (placeFar q.addr.toNat die data) s
        answerReq r data poison s)

/-- HOME_SLICE_STORE: a store of the own package takes effect at the line's home (R246): dropped where R67, R243 or R399 bars
it, held back without VC4 room (R402), and acknowledged once the far copies are gone (R46). -/
def execHomeSliceStore (r : Nat) (x : LineRead) (s : State) : Host.Outcome State Fault Refusal :=
  .next (
    match homeReq s r .store with
    | none => s
    | some q =>
      let a := gaLocal q.addr.toNat
      match writeDenied s a q.len with
      | some code => answerReq r [] false (raiseWith code (some q.tile) (addrContext 0 a) (deniedNames s code a []) s)
      | none =>
        if writeRoom s a = false then writeWaits a s
        else if wholeLine q.wr = false ∧ lineTurn s q.prio (a / 128) x (some r) = false then s
        else whenInvalidated a (some r) none (homeWrite q.prio x a q.wr s))

/-- HOME_SLICE_ATOMIC: an atomic of the own package at its home (R261, R262). -/
def execHomeSliceAtomic (r : Nat) (x : LineRead) (s : State) : Host.Outcome State Fault Refusal :=
  .next (
    match homeReq s r .atomic with
    | none => s
    | some q =>
      let a := gaLocal q.addr.toNat
      match writeDenied s a 4 with
      | some code => answerReq r [] true (raiseWith code (some q.tile) (addrContext 0 a) (deniedNames s code a []) s)
      | none =>
        if writeRoom s a = false then writeWaits a s
        else if lineTurn s q.prio (a / 128) x (some r) = false then s
        else
          let (old, poison, s) := homeAtomic a q.aop q.fmt q.word0.toNat q.word1.toNat q.prio x (some q.tile) [] s
          whenInvalidated a (some r) none (setReq r (some { q with data := leBytes 4 old, poison := poison }) s))

/-- Take a die off the oldest write that waits for it. -/
def ackDie (line die : Nat) : List InvWait → List InvWait
  | [] => []
  | w :: r =>
    if w.line = line ∧ w.dies.contains die then { w with dies := w.dies.filter (fun d => decide (d ≠ die)) } :: r
    else w :: ackDie line die r

/-- FAR_INVALIDATE_ACK: a die has dropped its copy of a line, given as a global address over 128 (R46); writes whose dies have
all answered are acknowledged. -/
def execFarInvalidateAck (line : BitVec 57) (die : EngineNo) (s : State) : Host.Outcome State Fault Refusal :=
  .next (
    if s.store.waits.any (fun w => decide (w.line = line.toNat) && w.dies.contains die.val) then
      let waits := ackDie line.toNat die.val s.store.waits
      let s := setFar (line.toNat * 128) die.val [] { s with store := { s.store with
        waits := waits.filter (fun w => decide (w.dies ≠ [])) } }
      forEach (waits.filter (fun w => decide (w.dies = []))) (fun w => acknowledge w.req w.ack) s
    else s)

/-! ## Rows, scrubbing, blocks (R21, R31, R253, R254, R256) -/

/-- The address of line `l` of a row, from the row's channel, bank and number (R241): the mapping's inverse. -/
def rowLineAddr (row l : Nat) : Nat :=
  let ch := row / 2 ^ 15
  let bank := row / 2 ^ 11 % 16
  let low := row % 2 ^ 11 * 8 + l
  let a30 := (bank / 4) * 2 ^ 14 + low
  let a := a30 * 2 ^ 15
  let a := a + (ch / 64 ^^^ field a 23 21) * 2 ^ 31
  a + (ch % 64 ^^^ field a 20 15 ^^^ field a 26 21) * 2 ^ 7 + (bank % 4 ^^^ field a 16 15) * 2 ^ 13

/-- The line that the place of a Store line holds (R258): its own, or the retired one that a withdrawn line replaces. -/
def lineHeld (s : State) (place : Nat) : Nat :=
  let cap := capacity s / 128
  if place < cap then place
  else
    let m := ((List.range' cap (place - cap)).filter (fun l => !lineRetired s l)).length
    ((List.range cap).filter (lineRetired s)).getD m place

/-- A word of a row that its copy reads (R256): corrected on the way, which counts (R254), or written as poisoned. -/
def copyWord (row i : Nat) (w : WordRead) (s : State) : State :=
  let place := rowLineAddr row (i / 2)
  match w with
  | .clean => s
  | .corrected k =>
    if k.val = 0 then s
    else corrected 0x2001 none row (bump 0x500201 1 (modChan (row / 2 ^ 15) (fun c => { c with corr := min 0xFFFF (c.corr + 1) }) s))
  | .uncorrectable => setPoison (lineHeld s (place / 128)) true s

/-- ROW_COPY_DONE: the row has been copied, with what its words were found to hold, and access to it resumes (R256). -/
def execRowCopyDone (row : BitVec 24) (words : List (Fin 16 × WordRead)) (s : State) : Host.Outcome State Fault Refusal :=
  .next (
    if mget false s.store.copying row.toNat then
      let s := { s with store := { s.store with copying := mset false s.store.copying row.toNat false } }
      forEach words (fun x => copyWord row.toNat x.1.val x.2) s
    else s)

/-- SCRUB: one word of a channel that has passed its self-test is read in a bulk slot and, when corrected, written back (R254); it
waits for its class (R250). -/
def execScrub (addr : BitVec 34) (w : WordRead) (s : State) : Host.Outcome State Fault Refusal :=
  .next (
    let a := addr.toNat / 64 * 64
    let ch := physChan s addr.toNat
    if s.boot.hub ∧ (chanOf s ch).tested ∧ rowBusy s addr.toNat = false ∧ classTurn s ch false none then
      oneWord a w (takeSlot ch false s)
    else s)

/-- A re-send of a Herald's traffic is counted in its `RESEND` (R273). -/
def countHerald (h : Option (TileNo × Fin 8)) (s : State) : State :=
  match h with
  | some (t, h) => modHer t.val h.val (fun y => { y with resend := min 0xFFFF (y.resend + 1) }) s
  | none => s

/-- ONCHIP_BLOCK_RECEIVE: an on-chip block at the end of a path to channel `c`'s router is checked (R253); a mismatch is a re-send,
counted also on the Herald whose traffic it was, and the 16th in a row on the path is Device-fatal 0x2011. -/
def execOnchipBlockReceive (c : TileNo) (path : Fin 8) (herald : Option (TileNo × Fin 8)) (data : List Byte) (crc : U16) (s : State) :
    Host.Outcome State Fault Refusal :=
  .next (
    let fails (n : Nat) := modChan c.val (fun x => { x with fails := mset 0 x.fails path.val n })
    if crc16 data = crc.toNat then fails 0 s
    else
      let n := mget 0 (chanOf s c.val).fails path.val + 1
      let s := countHerald herald (fails (if 16 ≤ n then 0 else n) (bump 0x500203 1 s))
      onlyIf (decide (16 ≤ n)) (raiseWith 0x2011 none c.val [path.val]) (correctedWith 0x2007 none c.val [path.val] s))

/-- A block as it arrives: the sender appends the block's CRC-16 (R21, R253), and bit i of `err` flips bit i of its 64 bytes or,
from 512, of the CRC. None when the check fails. -/
def blockArrives (block : List Byte) (err : BitVec 528) : Option (List Byte) :=
  let data := (block.zipIdx).map (fun x => x.1 ^^^ BitVec.ofNat 8 (err.toNat / 2 ^ (8 * x.2)))
  if crc16 data = crc16 block ^^^ (err.toNat / 2 ^ 512) then some data else none

/-- The retry buffer of a direction with the block at place `p` changed. A place beyond its end is the first send of a new block,
which enters the buffer. -/
def retrySend (p : Nat) (block : List Byte) (l : List Block) : List Block := if p < l.length then l else l ++ [{ data := block }]

/-- The place of the block that a send carries. -/
def retryPlace (p : Nat) (l : List Block) : Nat := min p l.length

/-- The blocks at the front of the buffer that have been received leave it in their original order: they are delivered. -/
def retryDeliver (l : List Block) : List (List Byte) × List Block :=
  ((l.takeWhile (fun x => x.got.isSome)).map (fun x => x.got.getD []), l.dropWhile (fun x => x.got.isSome))

/-- One direction of a bundle with a changed retry buffer, and the blocks it delivers. -/
def setRetry (reverse : Bool) (l : List Block) (x : Bundle) : Bundle :=
  let (sent, rest) := retryDeliver l
  if reverse then { x with retry1 := rest, out1 := x.out1 ++ sent } else { x with retry0 := rest, out0 := x.out0 ++ sent }

/-- The retry buffer of a direction. -/
def retryOf (reverse : Bool) (x : Bundle) : List Block := if reverse then x.retry1 else x.retry0

/-- A block that failed its check is counted as one to be sent again, also at its 16th failure (DESIGN CHOICE, log entry 25);
more than 4,096 within 1 s raise 0x3004 once per Season (R31). -/
def countResend (b : Nat) (s : State) : State :=
  let x := bundleOf s b
  let sends := (now s :: x.sends).take 4097
  let busy := !x.advised && decide (4097 ≤ sends.length) && decide (now s < sends.getD 4096 0 + 1000000000)
  let s := modBundle b (fun x => { x with resend := min 0xFFFF (x.resend + 1), sends := sends, advised := x.advised || busy }) s
  onlyIf busy (raise 0x3004 b) (corrected 0x3003 none b (bump 0x120005 1 s))

/-- BUNDLE_BLOCK_RECEIVE: a block across a bundle is checked (R21). `place` is its place among the blocks not yet delivered: a new
block enters the sender's retry buffer, one that is there is re-sent from it. A block that passes is delivered once all before it
are; one that fails stays, and its 16th failure in a row takes the bundle out of service with 0x3011, which `D2D_STAT.WIDTH` then
shows (DESIGN CHOICE, log entry 25). A block to be sent again counts on the Herald whose traffic it was (R253, R273). -/
def execBundleBlockReceive (b : Fin 108) (reverse : Bool) (place : Fin 64) (block : List Byte) (err : BitVec 528)
    (herald : Option (TileNo × Fin 8)) (s : State) : Host.Outcome State Fault Refusal :=
  .next (
    let x := bundleOf s b.val
    if x.width = 2 then s
    else
      let p := retryPlace place.val (retryOf reverse x)
      let l := retrySend place.val block (retryOf reverse x)
      let sent := l.getD p { data := block }
      if sent.got.isSome then s
      else match blockArrives sent.data err with
        | some data => modBundle b.val (setRetry reverse (listMod (fun y => { y with fails := 0, got := some data }) p l)) s
        | none =>
          let lost := decide (16 ≤ sent.fails + 1)
          let s := countHerald herald <| countResend b.val (modBundle b.val
            (setRetry reverse (listMod (fun y => { y with fails := y.fails + 1 }) p l)) s)
          onlyIf lost (fun s => raise 0x3011 b.val (modBundle b.val (fun x => { x with width := 2 }) s)) s)

end Sys2Proof.Machine
end

