-- ==== Sys2Proof/Machine/Registers.lean ====
section
/-!
DEFINITION. The device registers (space 0b10), word by word, and the values of the host's BAR0 registers: each read is
computed from the state.
-/

set_option Elab.async false

namespace Sys2Proof.Machine

/-- A number of fields, each with the bit it starts at. -/
def packFields (l : List (Nat × Nat)) : Nat := (l.map (fun x => x.1 * 2 ^ x.2)).foldl (· + ·) 0

/-- `D2D_STAT` (R32). -/
def d2dStat (s : State) (b : Nat) : Nat :=
  let x := bundleOf s b
  packFields [(x.good, 0), (x.width, 7), (flag x.mapDiff, 9), (flag x.clkFail, 10), (flag x.validFail, 11), (x.resend, 16)]

/-- A die announce record's 16 bytes (R33). -/
def announceImage (r : AnnounceRec) : List Byte := announceBytes r ++ leBytes 2 r.check.toNat

/-- `MSH_STAT` (R68), 64 bits. -/
def mshStat (s : State) (t : Nat) : Nat :=
  let x := tileOf s t
  packFields [(x.st, 0), (flag x.leaped, 3), (flag x.vmode, 4), (x.board.length, 5), (flag (clockPending s t && decide (x.st ≠ 0)), 12), (x.pos, 16),
    (x.record, 32)]

/-- A retirement of an array awaits its NV record (R153). -/
def retPending (s : State) (a : Nat) : Bool := s.pow.journal.any (fun r => decide (r.kind = .retire a))

/-- `ARR_STAT` (R162). -/
def arrStat (s : State) (t : Nat) : Nat :=
  let busy (a : Nat) : Nat := flag ((mfind (tileOf s t).runs a).isSome)
  packFields [((arrOf s (3 * t)).state, 0), ((arrOf s (3 * t + 1)).state, 2), ((arrOf s (3 * t + 2)).state, 4), (busy 0, 6),
    (busy 1, 7), (busy 2, 8), (flag ((List.range 3).any (fun a => retPending s (3 * t + a))), 9),
    (min 0xFFFF (keepOf s t).mismatch, 16)]

/-- `VEC_STAT` (R200). -/
def vecStat (s : State) (t : Nat) : Nat :=
  let x := tileOf s t
  let held := match x.vec with
    | some v => (v.ports.map (fun p => 2 ^ p.2)).foldl (· + ·) 0
    | none => 0
  packFields [(flag x.vec.isSome, 0), (flag x.vecKind, 1), (flag x.reload, 2), (held, 3), (min 0xFFFF (keepOf s t).eccCorr, 16)]

/-- Ledger lines of a tile that hold a valid record (R210, R222). -/
def linesUsed (x : Tile) : Nat := (x.lines.filter (fun l => x.ledger.any (fun r => decide (r.1 / 8 = l)))).length

/-- `LAN_STAT` (R222). -/
def lanStat (s : State) (t : Nat) : Nat :=
  let x := tileOf s t
  packFields [(flag x.lan.isSome, 0), (linesUsed x, 1), (min 0xFFFF x.misses, 16)]

/-- `HRLD_STAT` (R273). -/
def hrldStat (s : State) (t h : Nat) : Nat :=
  let x := herOf s t h
  packFields [(flag x.busy, 0), (flag x.user, 1), (x.dir, 2), (x.inflight, 4), (x.resend, 16)]

/-- Free spare rows of a bank of a channel, 32 or fewer (R238, R256). -/
def sparesFree (s : State) (i b : Nat) : Nat := 32 - mget 0 s.store.spares (16 * i + b)

/-- `SCH_STAT` (R274). -/
def schStat (s : State) (i : Nat) : Nat :=
  let c := chanOf s i
  let map (m : SMap Bool) : Nat := flagBits ((List.range 4).map (fun q => mget false m (4 * i + q)))
  packFields [((List.range 16).foldl (fun m b => min m (sparesFree s i b)) 32, 0), (map s.store.segRetired, 6),
    (map s.store.segMarked, 10), (c.corr, 16)]

/-- A filtered drop in 0.1 dB units, from 0 to 255. -/
def dropByte (s : State) (n : Nat) (sp : Bool) : Nat := min 255 (dyFloor (inputDrop s n sp) / 10).toNat

/-- `OE_STAT` (R318). -/
def oeStat (s : State) (n : Nat) : Nat :=
  let e := engOf s n
  packFields [(flag e.sel, 0), (flag e.reqP, 1), (flag e.reqS, 2), (e.state, 3), (e.spareFor, 5), (flag e.icActive, 9),
    (e.icItem, 10), (flag e.switchPend, 15), (dropByte s n false, 16), (dropByte s n true, 24)]

/-- `FIB_STAT` (R319); no group feeds a fibre before its engine's bring-up. -/
def fibStat (s : State) (f : Nat) : Nat :=
  let x := fibOf s f
  let e := engOf s (f / 8)
  packFields [(fibState s f, 0), (x.cls, 2), (flag (bit e.mcast.toNat (f % 8)), 5), (flag (bit e.mcastRx.toNat (f % 8)), 6),
    (if e.state = 3 then 15 else groupOf s f, 7), (min 0xFFFF x.uncorr, 16)]

/-- `LNK_STAT` (R348). -/
def lnkStat (s : State) (f : Nat) : Nat :=
  let p := pairOf s f
  packFields [(p.level, 0), (flag (carrying s f), 2), (flag (carried s f), 3), (flag p.parked, 4), (p.n - p.u, 5),
    (min 0xFFFF p.replays, 16)]

/-- Bits still set in the bitmap of the rebuild phase in progress (R419). -/
def dirtyPages (s : State) : Nat :=
  match s.twin.phase with
  | 1 => s.twin.dirtyR.length
  | 2 => s.twin.dirtyP.length
  | _ => 0

/-- `TWIN_STAT` (R419). -/
def twinStat (s : State) : Nat :=
  let w := s.twin
  packFields [(w.state, 0), (flag w.ownProt, 3), (flag (w.held || w.frozen), 4), (w.phase, 5), (flag w.stall, 7), (flag w.lag, 8),
    (dirtyPages s, 16)]

/-- The code of a power state (R479). -/
def pstateCode (p : PState) : Nat :=
  match p with
  | .off => 0
  | .standby => 1
  | .ready => 2
  | .run => 3
  | .latched => 4

/-- `PWR_STAT` (R503). -/
def pwrStat (s : State) : Nat :=
  packFields [(pstateCode s.pow.state, 0), (s.pow.steps, 3), (s.pow.cap, 9), (flag s.pow.stretch, 14), (flag s.pow.nvOpen, 15),
    (s.pow.journal.length, 16), (s.pow.fscMap.toNat, 23)]

/-- `START_STAT` (R569). -/
def startStat (s : State) : Nat :=
  packFields [(s.boot.step, 0), (flag s.boot.blocked, 4), (flag s.boot.waiting, 5), (s.boot.engOut.toNat, 8), (s.boot.fail.toNat, 16)]

/-- The 32-bit word of the device registers at a local address that is a multiple of 4; none where nothing is. -/
def devWord (s : State) (a : Nat) : Option Nat :=
  let within (base n : Nat) : Bool := decide (base ≤ a) && decide (a < base + 4 * n)
  if within 0x10000 108 then some (d2dStat s ((a - 0x10000) / 4))
  else if within 0x11000 (4 * 81) then
    some (fieldAt (announceImage (mget {} s.dies.map ((a - 0x11000) / 16)).rec_) ((a - 0x11000) % 16) 4)
  else if within 0x20000 1024 then
    let v := mshStat s ((a - 0x20000) / 8)
    some (if a % 8 = 0 then v % 2 ^ 32 else v / 2 ^ 32)
  else if within 0x21000 512 then some (tileOf s ((a - 0x21000) / 4)).flags.toNat
  else if within 0x22000 512 then some (arrStat s ((a - 0x22000) / 4))
  else if within 0x23000 512 then some (vecStat s ((a - 0x23000) / 4))
  else if within 0x24000 512 then some (lanStat s ((a - 0x24000) / 4))
  else if within 0x25000 4096 then some (hrldStat s ((a - 0x25000) / 32) ((a - 0x25000) / 4 % 8))
  else if within 0x30000 512 then some (schStat s ((a - 0x30000) / 4))
  else if within 0x40000 8 then some (oeStat s ((a - 0x40000) / 4))
  else if within 0x40100 64 then some (fibStat s ((a - 0x40100) / 4))
  else if within 0x40200 64 then some (lnkStat s ((a - 0x40200) / 4))
  else if within 0x50000 256 then some (mget 0 s.store.epochs ((a - 0x50000) / 4)).toNat
  else if a = 0x60000 then some (twinStat s)
  else if a = 0x70000 then some (pwrStat s)
  else if a = 0x80000 then some (startStat s)
  else none

/-- A load of device registers (R361): 4 or 8 bytes, naturally aligned. -/
def devRead (s : State) (a n : Nat) : Option (List Byte) :=
  if n = 4 ∧ a % 4 = 0 then (devWord s a).map (leBytes 4)
  else if n = 8 ∧ a % 8 = 0 then
    match devWord s a, devWord s (a + 4) with
    | some x, some y => some (leBytes 4 x ++ leBytes 4 y)
    | _, _ => none
  else none

/-! ## BAR0 (R425) -/

/-- `HOST_STAT` (R425). -/
def hostStat (s : State) : Nat :=
  packFields [(s.host.gen, 0), (s.host.width, 3), (flag s.boot.ready, 8), (flag s.boot.odLive, 9),
    (flag s.frames.held.isSome, 10), (flag s.frames.run.isSome, 11)]

/-- `FAULT_LAST` (R425). -/
def faultLast (s : State) : Nat := packFields [(s.host.faultLast.toNat, 0), (s.host.faultSev, 16)]

/-! ## Pins (R285, R572) -/

/-- FAULT_N is low (R572): the package is Latched, Ready-blocked, Boot-blocked or out of service. -/
def faultPinLow (s : State) : Bool :=
  decide (s.pow.state = .latched) || s.boot.blocked || s.boot.bootBlocked || s.boot.outOfService.isSome

/-- LASER_REQ_P*n*, or LASER_REQ_S*n*, is high (R285). -/
def laserPin (s : State) (n : Nat) (spare : Bool) : Bool := if spare then (engOf s n).reqS else (engOf s n).reqP

end Sys2Proof.Machine
end

