-- ==== Sys2Proof/Machine/Fabric.lean ====
section
/-!
DEFINITION. The fabric's packets at the package they reach (10): forwarding, service at the home, responses and
Undeliverables; Phase flits at a member; and the two timers that resolve requests.
-/

set_option Elab.async false

namespace Sys2Proof.Machine

/-! ## Arrival (R358, R364, R368, R528) -/

/-- The kinds that ask something of the package they reach. -/
def isRequest (k : Nat) : Bool := [1, 2, 3, 7, 8, 0x0C].contains k

/-- A packet of kind `k` stands in pair `f`'s buffer (R368): a malformed one is dropped with 0x6001, one for another package is
forwarded, one for a package out of service is answered with an Undeliverable (R528), and the others are served. `serve` says
also whether the packet has been consumed; one that waits stays where it is. -/
def arrive (f k : Nat) (p : Packet) (serve : State → Bool × State) (s : State) : State :=
  let vc := (kindVc k).getD 0
  if s.boot.hub = false then s
  else if p.kind.toNat ≠ k ∨ p.rsv then packetFault 0x6001 p (freeSlot f vc s)
  else if packetDest p ≠ ownKey s then freeSlot f vc (forwardPacket (oppDir (dirOf f)) p s)
  else if s.boot.outOfService.isSome ∧ isRequest k then freeSlot f vc (giveUpPacket p s)
  else
    let (used, s) := serve s
    if used then freeSlot f vc s else s

/-- A served packet that is malformed within its kind: dropped with 0x6001. -/
def dropPacket (p : Packet) (s : State) : Bool × State := (true, packetFault 0x6001 p s)

/-! ## Loads, stores, atomics at the home (R246, R262, R361) -/

/-- Who sent a packet: its coordinate and its tile (R252). -/
def requester (p : Packet) : List Nat := [p.src.toNat, p.srcTile.toNat]

/-- A fault of the address that a packet names (R243, R275), with its segment or tile, the address and the requester. -/
def addressFault (code : Nat) (p : Packet) (s : State) : State :=
  let ga := p.addr.toNat
  raiseWith code none (addrContext (gaSpace ga) (gaLocal ga)) (deniedNames s code (gaLocal ga) (requester p)) s

/-- An address that does not exist. -/
def badAddress (p : Packet) (s : State) : State := addressFault 0x2013 p s

/-- Load data as a response. -/
def loadReply (p : Packet) (data : List Byte) (poison : Bool) (s : State) : Bool × State :=
  (true, sendPacket { responseTo p 4 with data := data, poison := poison } s)

/-- A load packet at its home: of the Store, of a tile buffer, or of the device registers (R361).
`x` is what the read of the Store line found; its first word stands for the word of a tile buffer that is read (R237). -/
def serveLoad (p : Packet) (x : LineRead) (s : State) : Bool × State :=
  let ga := p.addr.toNat
  let a := gaLocal ga
  let poison := List.replicate p.len (0xFF : Byte)
  if p.len = 0 ∨ 128 < a % 128 + p.len then dropPacket p s
  else match gaSpace ga with
  | 0 =>
    if rowBusy s a ∨ lineTurn s p.prio (a / 128) x none = false then (false, s)
    else
      let (data, bad, s) := homeRead a p.len p.prio x none (requester p) s
      loadReply p data bad s
  | 1 => match bufPlace a with
    | none => loadReply p poison true (badAddress p s)
    | some (t, b) => if linePending s t (b / 128) then (false, s) else loadReply p (bufBytes s t b p.len) false (bufWord t x.w0 s)
  | 2 => match devRead s a p.len with
    | some d => loadReply p d false s
    | none => loadReply p poison true (badAddress p s)
  | _ => loadReply p poison true (badAddress p s)

/-- LOAD: a load packet is forwarded, or served at its home (R370). -/
def execLoadPacket (f : PairNo) (p : Packet) (x : LineRead) (s : State) : Host.Outcome State Fault Refusal :=
  .next (arrive f.val 1 p (serveLoad p x) s)

/-- The bytes of a line that a store packet writes, with their masks by byte enable and field enable (R368). -/
def packetCells (p : Packet) : List (Byte × Byte) :=
  (List.range 128).map (fun i =>
    let pairs := p.fenables.toNat / 2 ^ (4 * i) % 16
    let m := (List.range 4).foldl (fun m j => if bit pairs j then m + 3 * 4 ^ j else m) 0
    (p.data.getD i 0, if bit p.benables.toNat i then BitVec.ofNat 8 m else 0))

/-- A store packet at its home: dropped where R67, R243 or R399 bars it, with no response. -/
def serveStore (p : Packet) (x : LineRead) (s : State) : Bool × State :=
  let ga := p.addr.toNat
  let a := gaLocal ga / 128 * 128
  match gaSpace ga with
  | 0 => match writeDenied s a 128 with
    | some code => (true, addressFault code p s)
    | none =>
      if writeRoom s a = false then (false, writeWaits a s)
      else if wholeLine (packetCells p) = false ∧ lineTurn s p.prio (a / 128) x none = false then (false, s)
      else (true, whenInvalidated a none (some (responseTo p 5)) (homeWrite p.prio x a (packetCells p) s))
  | 1 => match bufPlace a with
    | none => (true, badAddress p s)
    | some (t, b) =>
      if linePending s t (b / 128) then (false, s)
      else (true, sendPacket (responseTo p 5) (bufWriteMasked t b (packetCells p) s))
  | _ => (true, badAddress p s)

/-- STORE: a store packet is forwarded, or merged at its home and acknowledged (R246, R368). -/
def execStorePacket (f : PairNo) (p : Packet) (x : LineRead) (s : State) : Host.Outcome State Fault Refusal :=
  .next (arrive f.val 2 p (serveStore p x) s)

/-- An atomic packet at its home (R261, R262). -/
def serveAtomic (p : Packet) (x : LineRead) (s : State) : Bool × State :=
  let ga := p.addr.toNat
  let a := gaLocal ga
  if a % 4 ≠ 0 ∨ atomicOk p.aop.toNat p.fmt.toNat = false then dropPacket p s
  else if gaSpace ga ≠ 0 then (true, badAddress p s)
  else match writeDenied s a 4 with
    | some code => (true, addressFault code p s)
    | none =>
      if writeRoom s a = false then (false, writeWaits a s)
      else if lineTurn s p.prio (a / 128) x none = false then (false, s)
      else
        let (old, bad, s) := homeAtomic a p.aop.toNat p.fmt.toNat p.word0.toNat p.word1.toNat p.prio x none (requester p) s
        (true, whenInvalidated a none
          (some { responseTo p 6 with word0 := BitVec.ofNat 32 old, poison := bad }) s)

/-- ATOMIC: an atomic packet is forwarded, or performed at its home and answered (R261). -/
def execAtomicPacket (f : PairNo) (p : Packet) (x : LineRead) (s : State) : Host.Outcome State Fault Refusal :=
  .next (arrive f.val 3 p (serveAtomic p x) s)

/-! ## Responses (R368, R371, R384) -/

/-- The response resolves the request it names; one that names none outstanding is late (R384). -/
def resolve (p : Packet) (kinds : List ReqKind) (take : Nat → Req → State → State) (s : State) : Bool × State :=
  match reqByTag s p kinds with
  | none => (true, lateResponse p s)
  | some r => match reqOf s r with
    | none => (true, lateResponse p s)
    | some q => (true, take r q s)

/-- An acquire's or a release's Fence has its answer. -/
def answerFence (r : Nat) (q : Req) (epoch : U32) (s : State) : State :=
  setReq r none (modFence q.tile q.unit (fun y => { y with answered := true, epoch := epoch }) (reqToken q true s))

/-- Load data reaches its requester (R371): a Herald, whose die then holds a copy (R369), or an acquire (R373). -/
def takeLoadData (p : Packet) (r : Nat) (q : Req) (s : State) : State :=
  if q.kind = .epochRead then answerFence r q (BitVec.ofNat 32 (fieldAt p.data 0 4)) s
  else
    let s := onlyIf (!p.poison && !q.nofar && decide (gaSpace q.addr.toNat = 0)) (placeFar q.addr.toNat (tileDie q.tile) p.data) s
    answerReq r p.data p.poison s

/-- LOAD_DATA: load data returns to the requester (R368). -/
def execLoadData (f : PairNo) (p : Packet) (s : State) : Host.Outcome State Fault Refusal :=
  .next (arrive f.val 4 p (resolve p [.load, .epochRead] (takeLoadData p)) s)

/-- WRITE_ACKNOWLEDGEMENT: a write token is acknowledged (R383). -/
def execWriteAcknowledgement (f : PairNo) (p : Packet) (s : State) : Host.Outcome State Fault Refusal :=
  .next (arrive f.val 5 p (resolve p [.store] (fun r _ => answerReq r [] false)) s)

/-- ATOMIC_DATA: the old value of an atomic returns (R371). -/
def execAtomicData (f : PairNo) (p : Packet) (s : State) : Host.Outcome State Fault Refusal :=
  .next (arrive f.val 6 p (resolve p [.atomic] (fun r _ => answerReq r (leBytes 4 p.word0.toNat) p.poison)) s)

/-- UNDELIVERABLE: a request resolves as undeliverable (R385). -/
def execUndeliverable (f : PairNo) (p : Packet) (s : State) : Host.Outcome State Fault Refusal :=
  .next (arrive f.val 0x0B p (fun s => (true, takeUndeliverable p s)) s)

/-- RELEASE_PACKET: the region's epoch goes up by one, modulo 2^32, and is acknowledged (R372). -/
def execReleasePacket (f : PairNo) (p : Packet) (s : State) : Host.Outcome State Fault Refusal :=
  .next (arrive f.val 0x0C p (fun s =>
    let r := p.region.toNat
    let s := { s with store := { s.store with epochs := mmod 0 s.store.epochs r (fun e => e + 1) } }
    (true, sendPacket { responseTo p 0x0D with region := p.region, epoch := mget 0 s.store.epochs r } s)) s)

/-- RELEASE_ACKNOWLEDGEMENT: the new epoch returns to the releasing Fence (R372). -/
def execReleaseAcknowledgement (f : PairNo) (p : Packet) (s : State) : Host.Outcome State Fault Refusal :=
  .next (arrive f.val 0x0D p (resolve p [.release] (fun r q => answerFence r q p.epoch)) s)

/-! ## Transfer packets (R376 to R379, R386) -/

/-- Pages that `n` bytes at a local Store address touch. -/
def pagesOf (a n : Nat) : List Nat := List.range' (a / 2 ^ 21) ((a + n - 1) / 2 ^ 21 + 1 - a / 2 ^ 21)

/-- Who makes a Transfer's access: a tile of this package, or another package's tile; with the class of its requests, and what the
lines it touches were found to hold. -/
structure Access where
  tile : Option Nat
  by_ : List Nat
  critical : Bool
  reads : LineReads

/-- The access of a tile's own Transfer, and that of a packet from another package. -/
def ownAccess (t : Nat) (prio : Bool) (reads : LineReads) : Access := ⟨some t, [], prio, reads⟩
def packetAccess (p : Packet) (reads : LineReads) : Access := ⟨none, requester p, p.prio, reads⟩

/-- A fault of the address of an access. -/
def accessFault (code : Nat) (x : Access) (space a : Nat) (s : State) : State :=
  raiseWith code x.tile (addrContext space a) (deniedNames s code a x.by_) s

/-- Transfer data at a place of this package: 0 when it has been written, otherwise the fault that drops it, with the tile of a
Transfer of this package (R96). -/
def putLocal (x : Access) (space a : Nat) (data : List Byte) (s : State) : Nat × State :=
  match space with
  | 0 => match writeDenied s a data.length with
    | some code => (code, accessFault code x 0 a s)
    | none => (0, homeFill x.critical x.reads a data s)
  | 1 => match bufPlace a with
    | some (t, b) => if b + data.length ≤ bufSize then (0, bufWrite t b data s) else (0x2013, accessFault 0x2013 x 1 a s)
    | none => (0x2013, accessFault 0x2013 x 1 a s)
  | _ => (0x6010, accessFault 0x6010 x space a s)

/-- The place can take Transfer data now. -/
def putReady (s : State) (x : Access) (space a n : Nat) : Bool :=
  match space with
  | 0 => fillReady s x.critical x.reads a n
  | 1 => match bufPlace a with
    | some (t, b) => !pendingIn s t b n
    | none => true
  | _ => true

/-- Data that cannot be taken waits; for want of VC4 room, with `STALL` set (R402). -/
def fillWaits (space a n : Nat) (s : State) : State :=
  match (if space = 0 then (linesOf a n).find? (fun l => !writeRoom s (l * 128)) else none) with
  | some l => writeWaits (l * 128) s
  | none => s

/-- Which open piece a packet belongs to. -/
def openIs (src tag piece : Nat) (o : OpenPiece) : Bool :=
  decide (o.src = src) && decide (o.tag = tag) && decide (o.piece = piece)

/-- Account for `n` bytes of an open piece of `size` bytes at its destination (R379); `last` when they were its last. -/
def pieceBytes (src tag piece size n dir : Nat) (pages : List Nat) (s : State) : Bool × State :=
  let old := (s.fabric.openPieces.find? (openIs src tag piece)).getD ⟨src, tag, piece, size, dir, []⟩
  let rest := s.fabric.openPieces.filter (fun o => !openIs src tag piece o)
  let o := { old with left := old.left - n, pages := (old.pages ++ pages).eraseDups }
  (decide (o.left = 0), { s with fabric := { s.fabric with
    openPieces := if o.left = 0 then rest else rest ++ [o] } })

/-- Transfer data at its target (R377): written, and the piece acknowledged once its `PBYTES` bytes are there. `dir` is the
direction it came by; a phase member takes the local part of the address only (R386). -/
def takeData (dir : Nat) (p : Packet) (reads : LineReads) (s : State) : Bool × State :=
  let x := packetAccess p reads
  let space := gaSpace p.addr.toNat
  let a := gaLocal p.addr.toNat
  let data := p.data.take p.len
  if data = [] ∨ 220 < p.len then dropPacket p s
  else if putReady s x space a data.length = false then (false, fillWaits space a data.length s)
  else
    let (code, s) := putLocal x space a data s
    if code ≠ 0 then (true, s)
    else
      let (last, s) := pieceBytes (p.src.toNat * 512 + p.srcTile.toNat) p.rtag.toNat p.piece p.pbytes data.length dir
        (if space = 0 then pagesOf a data.length else []) s
      (true, onlyIf last (sendPacket { responseTo p 0x0A with
        piece := p.piece, addr := BitVec.ofNat 64 (gaMake (ownKey s) space a) }) s)

/-- TRANSFER_DATA: Transfer data is forwarded, or written at its target (R377). -/
def execTransferData (f : PairNo) (p : Packet) (reads : LineReads) (s : State) : Host.Outcome State Fault Refusal :=
  .next (arrive f.val 7 p (takeData (dirOf f.val) p reads) s)

/-- Bytes at a place of this package as a Transfer reads them, with the poison mark (R252); beyond the capacity, or outside a tile
buffer, nothing is read (R243). -/
def readLocal (x : Access) (space a n : Nat) (s : State) : List Byte × Bool × State :=
  let none_ (s : State) := (List.replicate n (0xFF : Byte), true, accessFault 0x2013 x space a s)
  match space with
  | 0 => if capacity s < a + n then none_ s else homeReadLines x.critical x.reads x.tile x.by_ (n + 1) a n s
  | 1 => match bufPlace a with
    | some (t, b) =>
      if b + n ≤ bufSize then (bufBytes s t b n, false, forEach (linesOf a n) (fun l => bufWord t (readAt x.reads l).w0) s)
      else none_ s
    | none => none_ s
  | _ => none_ s

/-- The place can be read now (R140, R250, R256). -/
def readReady (s : State) (x : Access) (space a n : Nat) : Bool :=
  match space with
  | 0 => linesReady s x.critical x.reads a n
  | 1 => match bufPlace a with
    | some (t, b) => !pendingIn s t b n
    | none => true
  | _ => true

/-- The Transfer read data that answer a Transfer read (R368, R376): at most 220 bytes each. -/
def readReplies (p : Packet) (data : List Byte) (bad : Bool) : List Packet :=
  (List.range (ceilDiv data.length 220)).map (fun i =>
    let part := slice data (220 * i) (min 220 (data.length - 220 * i))
    { responseTo p 9 with
      addr := p.aux + BitVec.ofNat 64 (220 * i), len := part.length, piece := p.piece, pbytes := p.len, data := part
      poison := bad })

/-- A Transfer read at its home (R376): the data goes back to the address the initiator gave. -/
def serveRead (p : Packet) (reads : LineReads) (s : State) : Bool × State :=
  let x := packetAccess p reads
  let space := gaSpace p.addr.toNat
  let a := gaLocal p.addr.toNat
  if p.len = 0 ∨ 2 ≤ space then dropPacket p s
  else if readReady s x space a p.len = false then (false, s)
  else
    let (data, bad, s) := readLocal x space a p.len s
    (true, forEach (readReplies p data bad) sendPacket s)

/-- TRANSFER_READ: a pull's read is forwarded, or served (R376). -/
def execTransferRead (f : PairNo) (p : Packet) (reads : LineReads) (s : State) : Host.Outcome State Fault Refusal :=
  .next (arrive f.val 8 p (serveRead p reads) s)

/-- The Transfer of a tile that a packet names. -/
def xferOf (s : State) (t tag : Nat) : Option Xfer := (tileOf s t).xfers.find? (fun x => decide (x.tag = tag))

/-- Bytes of a Transfer's piece (R377). -/
def pieceSize (bytes pshift piece : Nat) : Nat := min (2 ^ pshift) (bytes - piece * 2 ^ pshift)

/-- A piece is done: its bytes are counted in OD 0x4004.03. -/
def pieceDone (t tag piece : Nat) (s : State) : State :=
  let n := match xferOf s t tag with
    | some x => pieceSize x.bytes x.pshift piece
    | none => 0
  bump 0x400403 n (modXfer t tag (fun x => { x with
    pieces := mmod {} x.pieces piece (fun y => if y.failed then y else { y with done := true }) }) s)

/-- The outstanding request of a Transfer's piece. -/
def pieceReq (s : State) (t tag piece : Nat) (kind : ReqKind) (dest : Option Nat) : Option (Nat × Req) :=
  (reqList s).find? (fun x => decide (x.2.kind = kind) && decide (x.2.tile = t) && decide (x.2.unit = tag) &&
    decide (x.2.piece = piece) && (match dest with
      | some k => decide (x.2.dest.toNat = k)
      | none => true))

/-- Pull data at its initiator (R377): written and counted; the piece is done with its last byte. -/
def takeReadData (dir : Nat) (p : Packet) (reads : LineReads) (s : State) : Bool × State :=
  let t := p.srcTile.toNat
  let tag := p.rtag.toNat
  match xferOf s t tag, pieceReq s t tag p.piece .pull none with
  | some x, some (r, _) =>
    let space := gaSpace p.addr.toNat
    let a := gaLocal p.addr.toNat
    let data := p.data.take p.len
    let acc := ownAccess t p.prio reads
    if putReady s acc space a data.length = false then (false, fillWaits space a data.length s)
    else
      let (code, s) := putLocal acc space a data s
      if code ≠ 0 then (true, setReq r none (failPiece t tag p.piece code s))
      else
        let (last, s) := pieceBytes (ownKey s * 512 + t) tag p.piece (pieceSize x.bytes x.pshift p.piece) data.length dir
          (if space = 0 then pagesOf a data.length else []) s
        let s := modXfer t tag (fun x => { x with
          pieces := mmod {} x.pieces p.piece (fun y => { y with got := y.got + data.length }) }) s
        (true, onlyIf last (fun s => pieceDone t tag p.piece (setReq r none s)) s)
  | _, _ => (true, lateResponse p s)

/-- TRANSFER_READ_DATA: pull data returns (R377). -/
def execTransferReadData (f : PairNo) (p : Packet) (reads : LineReads) (s : State) : Host.Outcome State Fault Refusal :=
  .next (arrive f.val 9 p (takeReadData (dirOf f.val) p reads) s)

/-- A piece acknowledgement at the initiator (R377, R386): the piece is done once every target has acknowledged it. -/
def takePieceAck (p : Packet) (s : State) : Bool × State :=
  let t := p.srcTile.toNat
  let tag := p.rtag.toNat
  match xferOf s t tag, pieceReq s t tag p.piece .piece (some (gaKey p.addr.toNat)) with
  | some x, some (r, q) =>
    let s := setReq r none (reqToken q true s)
    let n := (mget {} x.pieces p.piece).acks + 1
    let s := modXfer t tag (fun x => { x with pieces := mmod {} x.pieces p.piece (fun y => { y with acks := n }) }) s
    (true, onlyIf (decide (x.need ≤ n)) (pieceDone t tag p.piece) s)
  | _, _ => (true, lateResponse p s)

/-- PIECE_ACKNOWLEDGEMENT: a piece of a push is done (R377). -/
def execPieceAcknowledgement (f : PairNo) (p : Packet) (s : State) : Host.Outcome State Fault Refusal :=
  .next (arrive f.val 0x0A p (takePieceAck p) s)

/-! ## Phase flits (R308, R334, R386) -/

/-- PHASE_FLIT: accepted in its phase space (R334), its data is written at this member whatever coordinate its address names
(R386); on a fibre that no setting marks for a phase stream it raises 0x4033 (R308). -/
def execPhaseFlit (h : FlitHdr) (phaseId : U32) (p : Packet) (reads : LineReads) (s : State) : Host.Outcome State Fault Refusal :=
  .next (
    let g := spacePair s h
    let a := gaLocal p.addr.toNat
    if strayPhase s h then optFault 0x4033 (g / 8) [g % 8] (takeAck h s)
    else if putReady s (packetAccess p reads) (gaSpace p.addr.toNat) a p.len = false then s
    else takePhase h phaseId (fun g s =>
      let s := modFib g (fun x => { x with phaseSeen := true }) s
      let s := modPair g (fun y => { y with
        a := mmod 0 y.a 2 (fun k => k + 1), b := mmod 0 y.b 2 (fun k => k + 1) }) s
      freeSlot g 2 (if p.kind ≠ 7 ∨ p.rsv then packetFault 0x6001 p s else (takeData (dirOf g) p reads s).2)) s)

/-! ## Timers (R389, R390) -/

/-- DEAD_TARGET_TIMEOUT: a request to another package has had no response for `DEAD_TIMEOUT` (R389). -/
def execDeadTargetTimeout (r : Nat) (s : State) : Host.Outcome State Fault Refusal :=
  .next (
    match reqOf s r with
    | some q =>
      if q.remote ∧ q.answered = false ∧ q.sent + 1000 * s.fabric.deadTimeout ≤ now s then
        bump 0x400404 1 (resolveLost false r s)
      else s
    | none => s)

/-- HALT_REQUEST_RESOLVE: 2 µs after a halting Calend every request still without a response resolves, with no further fault
(R390). -/
def execHaltRequestResolve (s : State) : Host.Outcome State Fault Refusal :=
  .next (
    match s.frames.run with
    | some r => match r.halting with
      | some t =>
        if t + 2000 ≤ now s then forEach ((reqList s).map Prod.fst) (resolveLost true) s else s
      | none => s
    | none => s)

end Sys2Proof.Machine
end

