-- ==== Sys2Proof/Machine/Transfers.lean ====
section
/-!
DEFINITION. Transfer and Fence entries (10): issue, pieces, releases and acquires, and their completion.
-/

set_option Elab.async false

namespace Sys2Proof.Machine

/-! ## Transfer descriptors (R375 to R377) -/

/-- A Transfer descriptor (R375). -/
structure XferD where
  prio : Bool
  phase : Bool
  engine : Nat
  group : Nat
  pshift : Nat
  status : Nat
  src : Nat
  dst : Nat
  rowBytes : Nat
  rows : Nat
  srcPitch : Nat
  dstPitch : Nat
  deriving DecidableEq, Repr

/-- The fields of a Transfer descriptor's 64 bytes. -/
def xferDesc (b : List Byte) : XferD :=
  let f := fieldAt b 1 1
  { prio := bit f 0, phase := bit f 1, engine := field f 4 2, group := fieldAt b 2 1 % 8, pshift := fieldAt b 3 1
    status := fieldAt b 4 4, src := fieldAt b 8 8, dst := fieldAt b 16 8, rowBytes := fieldAt b 24 4, rows := fieldAt b 28 4
    srcPitch := fieldAt b 32 8, dstPitch := fieldAt b 40 8 }

/-- One packet's part of a Transfer: its row, its offset in the row, its bytes and its piece. -/
structure Chunk where
  row : Nat
  off : Nat
  len : Nat
  piece : Nat
  deriving DecidableEq, Repr

/-- The chunks of a row from an offset: no chunk crosses a row's or a piece's end, and none is above `lim` bytes (R376). -/
def rowChunks (d : XferD) (lim row : Nat) : Nat → Nat → List Chunk
  | 0, _ => []
  | k + 1, i =>
    if d.rowBytes ≤ i then []
    else
      let b := row * d.rowBytes + i
      let n := min lim (min (d.rowBytes - i) (2 ^ d.pshift - b % 2 ^ d.pshift))
      ⟨row, i, n, b / 2 ^ d.pshift⟩ :: rowChunks d lim row k (i + n)

/-- The chunks of a Transfer in ascending byte order. -/
def chunksOf (d : XferD) (lim : Nat) : List Chunk :=
  (List.range d.rows).flatMap (fun j => rowChunks d lim j (d.rowBytes + 1) 0)

/-- Bytes of a Transfer. -/
def xferBytes (d : XferD) : Nat := d.rows * d.rowBytes
/-- Pieces of a Transfer (R377). -/
def xferPieces (d : XferD) : Nat := ceilDiv (xferBytes d) (2 ^ d.pshift)
/-- Global addresses of a chunk's first byte. -/
def chunkSrc (d : XferD) (c : Chunk) : Nat := d.src + c.row * d.srcPitch + c.off
def chunkDst (d : XferD) (c : Chunk) : Nat := d.dst + c.row * d.dstPitch + c.off
/-- Bytes from the first to the last of a pattern of rows. -/
def rowsExtent (rows rowBytes pitch : Nat) : Nat := (rows - 1) * pitch + rowBytes

/-! ## Issue (R362, R376, R386, R387) -/

/-- The member pairs of the split of an engine and a group, by the split in force or by the frame's Phase descriptors, and its
`PHASE_ID` (R386, R387). -/
def splitFor (s : State) (t : Nat) (d : XferD) : Option (Nat × List Nat) :=
  match s.links.splits.find? (fun x => decide (x.engine = d.engine) && decide (x.group = d.group) && !x.ended) with
  | some x => some (x.phaseId.toNat, x.members)
  | none =>
    let img := runImg s
    let r := frameAt s img (tileOf s t).record
    let base := img + (secOf s img 6).off
    ((List.range' r.phaseFirst r.phaseCount).findSome? (fun i =>
      let b := readStore s (base + 64 * i) 64
      let x := settingOf b
      let m := splitMembers x d.group
      if fieldAt b 1 1 % 8 = d.engine ∧ m ≠ [] then some (x.phaseId, m.map (fun j => 8 * d.engine + j)) else none))

/-- The coordinate key of the package at the far end of a pair. -/
def farKeyOf (s : State) (f : Nat) : Nat :=
  match (pairOf s f).farCoord with
  | some c => c.toNat
  | none => neighbour s (ownKey s) (dirOf f)

/-- Every local side of the Transfer is free of pending marks and row copies. -/
def xferFree (s : State) (x : Access) (d : XferD) : Bool :=
  let own (ga : Nat) : Bool := decide (gaKey ga = ownKey s)
  (List.range d.rows).all (fun j =>
    (!own d.src || readReady s x (gaSpace d.src) (gaLocal (d.src + j * d.srcPitch)) d.rowBytes) &&
    (!(own d.dst && own d.src) || putReady s x (gaSpace d.dst) (gaLocal (d.dst + j * d.dstPitch)) d.rowBytes))

/-- The sender may make this Transfer (R361, R362): the remote side of it at one coordinate. -/
def xferRights (s : State) (d : XferD) (pull : Bool) (key : Nat) : Bool :=
  let ga := if pull then d.src else d.dst
  let lo := gaLocal ga
  let hi := lo + (if pull then rowsExtent d.rows d.rowBytes d.srcPitch else rowsExtent d.rows d.rowBytes d.dstPitch)
  decide (gaSpace d.src < 2) && decide (gaSpace d.dst < 2) &&
    (decide (key = ownKey s) || rightsOk s key (gaSpace ga) lo hi (if pull then 0 else 1))

/-- First address and extent of a piece on the target side. -/
def pieceExtent (d : XferD) (pull : Bool) (p : Nat) : Nat × Nat :=
  let at_ (b : Nat) : Nat := if pull then d.src + b / d.rowBytes * d.srcPitch + b % d.rowBytes
    else d.dst + b / d.rowBytes * d.dstPitch + b % d.rowBytes
  let first := at_ (p * 2 ^ d.pshift)
  (first, at_ (min (xferBytes d) ((p + 1) * 2 ^ d.pshift) - 1) + 1 - first)

/-- The request that a piece makes of one package: with a write token unless it is a pull's read (R383). -/
def addPiece (t tag : Nat) (d : XferD) (pull : Bool) (p dest : Nat) (s : State) : State :=
  let (tok, s) := if pull then (none, s) else let x := tokenIssue t dest s; (some x.1, x.2)
  let (a, n) := pieceExtent d pull p
  (addReq { kind := if pull then .pull else .piece, tile := t, unit := tag, dest := BitVec.ofNat 14 dest, die := 0
            remote := true, addr := BitVec.ofNat 64 (gaMake dest (gaSpace a) (gaLocal a)), len := n, prio := d.prio
            nofar := false, n0 := 0, cnt := 0, piece := p, wr := [], aop := 0, fmt := 0, word0 := 0, word1 := 0, token := tok
            sent := now s, answered := false, poison := false, undeliverable := false, data := [] } s).2

/-- The common fields of a Transfer's packets. -/
def xferPacket (s : State) (t tag : Nat) (d : XferD) (kind piece : Nat) : Packet :=
  { kind := BitVec.ofNat 8 kind, prio := d.prio, src := s.fabric.coord.getD 0, srcTile := BitVec.ofNat 16 t
    rtag := BitVec.ofNat 16 tag, piece := piece }

/-- Read one chunk and hand its Transfer data packet on. -/
def sendChunk (t tag : Nat) (x : Access) (d : XferD) (out : Packet → State → State) (c : Chunk) (s : State) : State :=
  let a := chunkSrc d c
  let (data, bad, s) := readLocal x (gaSpace a) (gaLocal a) c.len s
  out { xferPacket s t tag d 7 c.piece with
    addr := BitVec.ofNat 64 (chunkDst d c), len := c.len, pbytes := pieceSize (xferBytes d) d.pshift c.piece, data := data
    poison := bad } s

/-- Queue a packet on the split of an engine and a group, which is made for it when none is in force (R387). -/
def queueOnSplit (d : XferD) (id : Nat) (members : List Nat) (p : Packet) (s : State) : State :=
  let isIt (x : Split) : Bool := decide (x.engine = d.engine) && decide (x.group = d.group) && !x.ended
  let fresh : Split :=
    { engine := d.engine, group := d.group, phaseId := BitVec.ofNat 32 id, members := members, lit := [], base := 0
      buf := [], acked := [], sent := [], queue := [p], ledgerDue := none, ended := false }
  let l := s.links.splits
  let l := if l.any isIt then l.map (fun x => if isIt x then { x with queue := x.queue ++ [p] } else x) else l ++ [fresh]
  { s with links := { s.links with splits := l } }

/-- One chunk of a Transfer within the package; a write that is dropped fails the piece. -/
def copyChunk (t tag : Nat) (x : Access) (d : XferD) (c : Chunk) (s : State) : State :=
  let a := chunkSrc d c
  let b := chunkDst d c
  let (data, _, s) := readLocal x (gaSpace a) (gaLocal a) c.len s
  let (code, s) := putLocal x (gaSpace b) (gaLocal b) data s
  if code = 0 then s else failPiece t tag c.piece code s

/-- TRANSFER: a Transfer entry issues (R376): its rights are checked, its requests are made, and its packets are queued; a copy
within the package is made at once. The spec does not say when within its run it reads its source: here at issue (DESIGN CHOICE, log
entry 27). `reads` is what the lines that it touches in this package were found to hold. -/
def execTransfer (t : TileNo) (reads : LineReads) (s : State) : Host.Outcome State Fault Refusal :=
  .next (
    match issuable s t.val 5 with
    | none => s
    | some e =>
      let x := tileOf s t.val
      let d := xferDesc (descBytes s e 64)
      let own := ownKey s
      let way := if d.phase then 0 else if gaKey d.dst ≠ own then 0 else if gaKey d.src ≠ own then 1 else 2
      let split := if d.phase then splitFor s t.val d else none
      let dests := match split with
        | some (_, m) => m.map (farKeyOf s)
        | none => if way = 1 then [gaKey d.src] else [gaKey d.dst]
      let acc := ownAccess t.val d.prio reads
      if 4 ≤ x.xfers.length ∨ xferFree s acc d = false then s
      else
        let tag := s.fabric.nextTag % 65536
        let allowed := dests.all (xferRights s d (decide (way = 1)))
        let fresh : Xfer :=
          { pos := x.pos, tag := tag, way := if allowed then way else 3, bytes := xferBytes d, pshift := d.pshift
            status := d.status, pieces := [], need := max 1 dests.length, code := if allowed then 0 else 0x6010 }
        let s := { s with fabric := { s.fabric with nextTag := s.fabric.nextTag + 1 } }
        let s := modTile t.val (fun y => { y with xfers := y.xfers ++ [fresh] }) s
        let pieces := List.range (xferPieces d)
        let s := if allowed = false then refuseRequest t.val d.dst s
          else match way with
          | 0 =>
            let s := forEach pieces (fun p s => forEach dests (addPiece t.val tag d false p) s) s
            match split with
            | some (id, m) => forEach (chunksOf d 216) (sendChunk t.val tag acc d (queueOnSplit d id m)) s
            | none => forEach (chunksOf d 220) (sendChunk t.val tag acc d sendPacket) s
          | 1 =>
            let s := forEach pieces (fun p => addPiece t.val tag d true p (gaKey d.src)) s
            forEach (chunksOf d 220) (fun c s => sendPacket { xferPacket s t.val tag d 8 c.piece with
              addr := BitVec.ofNat 64 (chunkSrc d c), len := c.len, aux := BitVec.ofNat 64 (chunkDst d c) } s) s
          | _ =>
            let s := forEach (chunksOf d 220) (copyChunk t.val tag acc d) s
            forEach pieces (pieceDone t.val tag) s
        issued t.val e s)

/-- TRANSFER_COMPLETE: every piece is done or failed, so the status is written and the entry completes (R378). -/
def execTransferComplete (t : TileNo) (pos : BitVec 12) (s : State) : Host.Outcome State Fault Refusal :=
  .next (
    match (tileOf s t.val).xfers.find? (fun x => decide (x.pos = pos.toNat)) with
    | none => s
    | some x =>
      let n := ceilDiv x.bytes (2 ^ x.pshift)
      let final (p : Nat) : Bool := let y := mget {} x.pieces p; y.done || y.failed
      if x.way = 3 then endXfer t.val x 2 s
      else if (List.range n).all final then
        endXfer t.val x (if (List.range n).all (fun p => (mget {} x.pieces p).done) then 0 else 1) s
      else s)

/-! ## Fences (R372, R373, R382, R383) -/

/-- FENCE: a Fence entry issues and records its issue ordinal (R383). -/
def execFence (t : TileNo) (s : State) : Host.Outcome State Fault Refusal :=
  .next (
    match issuable s t.val 6 with
    | none => s
    | some e =>
      let x := tileOf s t.val
      let b := descBytes s e 16
      let run : FenceRun :=
        { pos := x.pos, op := fieldAt b 1 1 % 4, scope := bit (fieldAt b 1 1) 2
          target := BitVec.ofNat 14 (fieldAt b 2 2), region := fieldAt b 4 1, status := fieldAt b 8 4, ordinal := x.nextOrd
          undelivered := 0, sent := false, answered := false, epoch := 0 }
      issued t.val e (modTile t.val (fun y => { y with fences := y.fences ++ [run] }) s))

/-- The Fence of a tile at a position. -/
def fenceAt (s : State) (t pos : Nat) : Option FenceRun := (tileOf s t).fences.find? (fun y => decide (y.pos = pos))

/-- A destination lies in a Fence's scope. -/
def inScope (f : FenceRun) (key : Nat) : Bool := !f.scope || decide (f.target.toNat = key)

/-- Writes of entries issued before the Fence that have not all been sent or taken (R383): stores and atomics of Heralds,
vector ports among them, runs that have not reached their ports, and copies within the package. -/
def earlierWrites (s : State) (t : Nat) (f : FenceRun) : Bool :=
  let x := tileOf s t
  x.her.any (fun h => h.2.busy && decide (h.2.pos < f.pos) && decide (h.2.dir ≠ 0) && inScope f (gaKey h.2.d.addr)) ||
    x.xfers.any (fun y => decide (y.way = 2) && decide (y.pos < f.pos) && inScope f (ownKey s))

/-- Every write that the Fence waits for has resolved (R372, R383). -/
def fenceClear (s : State) (t : Nat) (f : FenceRun) : Bool :=
  !earlierWrites s t f && (reqList s).all (fun x => decide (x.2.tile ≠ t) || x.2.answered || !fenceWaits s f x.2)

/-- The request of a release or of an acquire's epoch read. -/
def fenceReq (s : State) (t : Nat) (f : FenceRun) (kind : ReqKind) (tok : Option Nat) (addr len : Nat) : Req :=
  { kind := kind, tile := t, unit := f.pos, dest := f.target, die := 0, remote := true, addr := BitVec.ofNat 64 addr, len := len
    prio := false, nofar := false, n0 := 0, cnt := 0, piece := 0, wr := [], aop := 0, fmt := 0, word0 := 0, word1 := 0
    token := tok, sent := now s, answered := false, poison := false, undeliverable := false, data := [] }

/-- RELEASE: once the tile's writes to the region have resolved, the release goes to the region's package (R372). -/
def execRelease (t : TileNo) (pos : BitVec 12) (s : State) : Host.Outcome State Fault Refusal :=
  .next (
    match fenceAt s t.val pos.toNat with
    | none => s
    | some f =>
      let key := f.target.toNat
      let r := f.region
      let a := gaMake key 0 (r * 2 ^ 26)
      let mark (g : FenceRun → FenceRun) := modFence t.val f.pos (fun y => g { y with sent := true })
      if f.op ≠ 1 ∨ f.sent ∨ fenceClear s t.val f = false then s
      else if key = ownKey s then
        let s := { s with store := { s.store with epochs := mmod 0 s.store.epochs r (fun e => e + 1) } }
        mark (fun y => { y with answered := true, epoch := mget 0 s.store.epochs r }) s
      else if rightsOk s key 0 (r * 2 ^ 26) ((r + 1) * 2 ^ 26) 1 = false then
        mark (fun y => { y with answered := true }) (refuseRequest t.val a s)
      else
        let (o, s) := tokenIssue t.val key s
        let (n, s) := addReq (fenceReq s t.val f .release (some o) a (2 ^ 26)) s
        mark id (sendPacket { kind := 0x0C, src := s.fabric.coord.getD 0, srcTile := BitVec.ofNat 16 t.val
                              rtag := BitVec.ofNat 16 n, addr := BitVec.ofNat 64 a, region := BitVec.ofNat 8 r } s))

/-- ACQUIRE: every far copy of the region's lines in the package is dropped, and the region's epoch is read (R373). -/
def execAcquire (t : TileNo) (pos : BitVec 12) (s : State) : Host.Outcome State Fault Refusal :=
  .next (
    match fenceAt s t.val pos.toNat with
    | none => s
    | some f =>
      let key := f.target.toNat
      let r := f.region
      let mark (g : FenceRun → FenceRun) := modFence t.val f.pos (fun y => g { y with sent := true })
      if f.op ≠ 2 ∨ f.sent then s
      else
        let gone (k : Nat) : Bool :=
          let ga := k / 8 * 128
          decide (gaKey ga = key) && decide (gaSpace ga = 0) && decide (field (gaLocal ga) 33 26 = r)
        let s := { s with store := { s.store with far := s.store.far.filter (fun c => !gone c.1) } }
        let a := gaMake key 2 (0x50000 + 4 * r)
        if key = ownKey s then mark (fun y => { y with answered := true, epoch := mget 0 s.store.epochs r }) s
        else if rightsOk s key 0 (r * 2 ^ 26) ((r + 1) * 2 ^ 26) 0 = false then
          mark (fun y => { y with answered := true }) (refuseRequest t.val a s)
        else
          let (n, s) := addReq (fenceReq s t.val f .epochRead none a 4) s
          mark id (sendPacket { kind := 1, src := s.fabric.coord.getD 0, srcTile := BitVec.ofNat 16 t.val
                                rtag := BitVec.ofNat 16 n, addr := BitVec.ofNat 64 a, len := 4 } (bump 0x400401 1 s)))

/-- FENCE_COMPLETE: every token that the Fence waits for has resolved, or its release or acquire has its answer (R372, R373,
R383). -/
def execFenceComplete (t : TileNo) (pos : BitVec 12) (s : State) : Host.Outcome State Fault Refusal :=
  .next (
    match fenceAt s t.val pos.toNat with
    | none => s
    | some f =>
      if (f.op = 0 ∧ fenceClear s t.val f) ∨ (f.op ≠ 0 ∧ f.answered) then endFence t.val f false s else s)

end Sys2Proof.Machine
end

