-- ==== Sys2Proof/Machine/VecOps.lean ====
section
/-!
DEFINITION. The operations of the vector unit on element encodings (R169 to R174), reductions (R182 to R185) and block
quantization (R114). Working types are the format codes 7 BF16, 8 FP16, 9 FP32 and 10 INT32.
-/

set_option Elab.async false

namespace Sys2Proof.Machine

/-- A result with its flags. -/
abbrev Fl := Nat × Nat

/-! ## Element operations -/

/-- An exact INT32 result: clamped with `SAT`, else wrapped (R171). -/
def intResult (sat : Bool) (x : Int) : Fl :=
  if -2 ^ 31 ≤ x ∧ x < 2 ^ 31 then (intEnc 10 x, 0)
  else if sat then (if x < 0 then 0x80000000 else 0x7FFFFFFF, fSaturated)
  else (intEnc 10 x, fIntWrap)

/-- SHL of R171 and R172. -/
def shlOp (sat : Bool) (a b : Nat) : Fl :=
  if b < 32 then intResult sat (signed 32 a * 2 ^ b)
  else if a = 0 then (0, 0)
  else if sat then (if signed 32 a < 0 then 0x80000000 else 0x7FFFFFFF, fSaturated) else (0, fIntWrap)

/-- SHR and SAR of R172. -/
def shrOp (a b : Nat) : Nat := if b < 32 then a / 2 ^ b else 0
def sarOp (a b : Nat) : Nat := intEnc 10 (signed 32 a / 2 ^ (min b 32))

/-- a < b and a = b of a working type. -/
def ltEnc (ty a b : Nat) : Bool :=
  if ty = 10 then decide (signed 32 a < signed 32 b) else ltVal (decodeVal ty a) (decodeVal ty b)
def eqEnc (ty a b : Nat) : Bool := if ty = 10 then decide (a = b) else eqVal (decodeVal ty a) (decodeVal ty b)

/-- CMP under its condition (R173). -/
def cmpOp (ty cond a b : Nat) : Bool :=
  match cond with
  | 0 => eqEnc ty a b
  | 1 => !eqEnc ty a b
  | 2 => ltEnc ty a b
  | 3 => ltEnc ty a b || eqEnc ty a b
  | 4 => ltEnc ty b a
  | _ => ltEnc ty b a || eqEnc ty a b

/-- MIN and MAX of a working type (R173). -/
def pickEnc (ty : Nat) (wantMax : Bool) (a b : Nat) : Nat :=
  if ty = 10 then (if ltEnc 10 a b = wantMax then b else a) else floatPick ty wantMax a b

/-- ADD, SUB and MUL. -/
def addOp (ty : Nat) (sat : Bool) (a b : Nat) : Fl :=
  if ty = 10 then intResult sat (signed 32 a + signed 32 b) else roundFlags ty (addVal (decodeVal ty a) (decodeVal ty b))
def subOp (ty : Nat) (sat : Bool) (a b : Nat) : Fl :=
  if ty = 10 then intResult sat (signed 32 a - signed 32 b)
  else roundFlags ty (addVal (decodeVal ty a) (negVal (decodeVal ty b)))
def mulOp (ty : Nat) (sat : Bool) (a b : Nat) : Fl :=
  if ty = 10 then intResult sat (signed 32 a * signed 32 b) else roundFlags ty (mulVal (decodeVal ty a) (decodeVal ty b))

/-- The value operations that neither convert nor reduce, by code. -/
def valueOp (op ty : Nat) (sat : Bool) (a b c gen key : Nat) : Fl :=
  match op with
  | 0x10 => addOp ty sat a b
  | 0x11 => subOp ty sat a b
  | 0x12 => mulOp ty sat a b
  | 0x13 => roundFlags ty (fmaVal (decodeVal ty a) (decodeVal ty b) (decodeVal ty c))
  | 0x14 => (pickEnc ty false a b, 0)
  | 0x15 => (pickEnc ty true a b, 0)
  | 0x18 => (a &&& b, 0)
  | 0x19 => (a ||| b, 0)
  | 0x1A => (a ^^^ b, 0)
  | 0x1B => (2 ^ fmtWidth ty - 1 - a, 0)
  | 0x1C => shlOp sat a b
  | 0x1D => (shrOp a b, 0)
  | 0x1E => (sarOp a b, 0)
  | 0x21 => (if c ≠ 0 then a else b, 0)
  | _ => approxFn op ty (decodeVal ty a) gen key

/-- Predicate logic, by code. -/
def predOp (op : Nat) (a b : Bool) : Bool :=
  match op with
  | 0x22 => a && b
  | 0x23 => a || b
  | 0x24 => a != b
  | _ => !a

/-- CVT (R174): the source type, the stage or instruction type, and the conversion byte. -/
def cvtOp (src ty mod a : Nat) (g : Gen) : Cvt :=
  let c := convertBy mod (decodeVal src a) g
  if mod % 16 ≤ 6 then ((roundTo ty (decodeVal (mod % 16) c.1)).1, c.2) else c

/-- The type that a CVT writes. -/
def cvtType (ty mod : Nat) : Nat := if mod % 16 ≤ 6 then ty else mod % 16

/-- An operation on each element of a list of (operands), gathering flags; inactive elements keep the given value. -/
def mapFl {α : Type} (f : α → Nat → Fl) (l : List α) : List Nat × Nat :=
  let r := (l.zipIdx).map (fun x => f x.1 x.2)
  (r.map Prod.fst, (r.map Prod.snd).foldl (· ||| ·) 0)

/-- Conversions in ascending run index, with their draws (R174). -/
def mapCvt (f : Nat → Gen → Cvt) : List Nat → Gen → List Nat × Nat × Gen
  | [], g => ([], 0, g)
  | a :: r, g =>
    let c := f a g
    let x := mapCvt f r c.2.2
    (c.1 :: x.1, c.2.1 ||| x.2.1, x.2.2)

/-! ## Block quantization (R114) -/

/-- E of *Block quantization exponent offsets*. -/
def quantOffset (f : Nat) : Int :=
  match f with
  | 0 | 2 => 2
  | 3 => 4
  | 4 => 8
  | 5 => 15
  | _ => 0

/-- The scale byte of a block of values. -/
def quantScale (f : Nat) (vs : List Val) : Nat :=
  if vs.any (fun v => match v with
    | .fin _ _ _ => false
    | _ => true) then 0xFF
  else
    let m := vs.foldl (fun a v => let d := dyAbs (valDy v); if dyLt a d then d else a) (⟨0, 0⟩ : Dy)
    if m.m = 0 then 0x7F
    else (max (-127) (min 127 (magLog m.m.natAbs m.e - quantOffset f)) + 127).toNat

/-- One block: its elements, its scale, the flags and the generator after it. An element that still exceeds the largest finite
value saturates, whatever `SAT` (R114). -/
def quantBlock (mod : Nat) (vs : List Val) (g : Gen) : List Nat × Nat × Nat × Gen :=
  let f := mod % 16
  let sc := quantScale f vs
  if sc = 0xFF then (vs.map (fun _ => 0), sc, 0, g)
  else
    let k := -((sc : Int) - 127) - (if fmtInt f then scaledUnit f else 0)
    let r := vs.foldl (fun (acc : List Nat × Nat × Gen) v =>
      let c := convert f (field mod 5 4) true (valScale v k) acc.2.2
      (acc.1 ++ [c.1], acc.2.1 ||| c.2.1, c.2.2)) ([], 0, g)
    (r.1, sc, r.2.1, r.2.2)

/-- Blocks of 32 from element 0: elements, scales, flags, generator. -/
def quantize (mod ty : Nat) (l : List Nat) (g : Gen) : List Nat × List Nat × Nat × Gen :=
  (List.range (ceilDiv l.length 32)).foldl (fun (acc : List Nat × List Nat × Nat × Gen) b =>
    let q := quantBlock mod (((l.drop (32 * b)).take 32).map (decodeVal ty)) acc.2.2.2
    (acc.1 ++ q.1, acc.2.1 ++ [q.2.1], acc.2.2.1 ||| q.2.2.1, q.2.2.2)) ([], [], 0, g)

/-! ## Reductions (R182 to R185) -/

/-- Whether partials of a reduction are carried in FP32. -/
def redWide (kind ty : Nat) : Bool := decide (ty ≠ 10) && (decide (kind = 0) || decide (kind = 1) || decide (kind = 5))

/-- The combination of two partials. -/
def redStep (kind ty a b : Nat) : Fl :=
  let t := if redWide kind ty then 9 else ty
  match kind with
  | 0 | 5 => addOp t false a b
  | 1 => mulOp t false a b
  | 2 => (pickEnc t true a b, 0)
  | _ => (pickEnc t false a b, 0)

/-- Two partials, of which either may have no element. -/
def redJoin (kind ty : Nat) (a b : Option Nat × Nat) : Option Nat × Nat :=
  match a.1, b.1 with
  | some x, some y => let r := redStep kind ty x y; (some r.1, a.2 ||| b.2 ||| r.2)
  | some x, none => (some x, a.2 ||| b.2)
  | none, y => (y, a.2 ||| b.2)

/-- One level of the tree: partial 2i with partial 2i + 1. -/
def redLevel (kind ty : Nat) : List (Option Nat × Nat) → List (Option Nat × Nat)
  | a :: b :: r => redJoin kind ty a b :: redLevel kind ty r
  | l => l

/-- `k` levels. -/
def redTree (kind ty : Nat) : Nat → List (Option Nat × Nat) → List (Option Nat × Nat)
  | 0, l => l
  | k + 1, l => redTree kind ty k (redLevel kind ty l)

/-- What an empty reduction returns (R185). -/
def redEmpty (kind ty : Nat) : Nat :=
  match kind with
  | 0 => 0
  | 1 => if ty = 10 then 1 else (roundTo ty (valInt 1)).1
  | 2 => if ty = 10 then 0x80000000 else withSign ty true (infOf ty)
  | 3 => if ty = 10 then 0x7FFFFFFF else infOf ty
  | 4 => 0xFFFFFFFF
  | _ => nanOf ty

/-- An exact quotient by a count, rounded once to a format. -/
def meanOf (ty sum n : Nat) : Fl :=
  match decodeVal 9 sum with
  | .fin neg m e =>
    let q := m * 2 ^ 64 / n
    roundTo ty (.fin neg (2 * q + (if m * 2 ^ 64 % n = 0 then 0 else 1)) (e - 65))
  | v => roundTo ty v

/-- ARGMAX of included elements with their run indices (R184). -/
def argMax (ty : Nat) (l : List (Nat × Nat)) : Nat :=
  let nan (e : Nat) : Bool := decide (ty ≠ 10) && decide (decodeVal ty e = .nan)
  match l.find? (fun x => nan x.2) with
  | some x => x.1
  | none =>
    match l with
    | [] => 0xFFFFFFFF
    | x :: r => (r.foldl (fun best y =>
        let above := if ty = 10 then ltEnc 10 best.2 y.2 else belowVal (decodeVal ty best.2) (decodeVal ty y.2)
        if above then y else best) x).1

/-- A reduction of elements, each with its run index and whether it is included, over `g` partials (R183): its result, its
flags, and whether it was empty. -/
def reduce (kind ty g : Nat) (l : List (Nat × Nat × Bool)) : Nat × Nat × Bool :=
  let inc := (l.filter (fun x => x.2.2)).map (fun x => (x.1, x.2.1))
  if inc = [] then (redEmpty kind ty, fEmptyRed, true)
  else if kind = 4 then (argMax ty inc, 0, false)
  else
    let enter (e : Nat) : Nat :=
      if redWide kind ty then (roundTo 9 (decodeVal ty e)).1
      else if ty ≠ 10 ∧ decodeVal ty e = .nan then nanOf ty else e
    let parts := (List.range g).map (fun p =>
      (inc.filter (fun x => decide (x.1 % g = p))).foldl (fun a x => redJoin kind ty a (some (enter x.2), 0)) (none, 0))
    let r := ((redTree kind ty 7 parts).head?).getD (none, 0)
    let v := r.1.getD 0
    let out : Fl := if kind = 5 then meanOf ty v inc.length
      else if redWide kind ty then roundTo ty (decodeVal 9 v) else (v, 0)
    (out.1, r.2 ||| out.2, false)

end Sys2Proof.Machine
end

