-- ==== Sys2Proof/Machine/Vector.lean ====
section
/-!
DEFINITION. The vector unit (05): Procession and Masque descriptors, port delivery (R177), the two kinds of run on their
elements, their issue, stop and completion; and the requests of a Herald, which serve an output port once its run has
computed.
-/

set_option Elab.async false

namespace Sys2Proof.Machine

/-! ## Ports (R176 to R178, R186, R190) -/

/-- A port of a run. `phase` is 0 body, 1 prologue, 2 epilogue; `stream` is the offset in the descriptor section. -/
structure PortD where
  num : Nat
  phase : Nat
  scales : Bool
  herald : Nat
  cvt : Nat
  stream : Nat
  count : Nat
  deriving DecidableEq, Repr

/-- The enabled ports of a Procession descriptor. -/
def procPorts (b : List Byte) : List PortD :=
  (List.range 6).filterMap (fun p =>
    let f := fieldAt b (16 + 8 * p) 1
    if bit f 3 then
      some { num := p, phase := 0, scales := bit f 4, herald := f % 8, cvt := fieldAt b (17 + 8 * p) 1
             stream := fieldAt b (20 + 8 * p) 4, count := 0 }
    else none)

/-- The ports that a Masque program declares. -/
def masquePorts (b : List Byte) : List PortD :=
  (List.range (fieldAt b 12 2)).filterMap (fun i =>
    let o := 16 * i
    if fieldAt b o 1 = 2 then
      let f := fieldAt b (o + 1) 1
      some { num := fieldAt b (o + 2) 1, phase := field f 2 1, scales := bit f 3, herald := fieldAt b (o + 3) 1 % 8
             cvt := fieldAt b (o + 4) 1, stream := fieldAt b (o + 8) 4, count := fieldAt b (o + 12) 2 }
    else none)

/-- The bytes of a run's descriptor: 128 of a Procession, 16 an instruction of a Masque program. -/
def runBytes (s : State) (masque : Bool) (desc : Nat) : List Byte :=
  if masque then readStore s desc (16 * leNat (readStore s (desc + 12) 2)) else readStore s desc 128

/-- The ports of a run. -/
def portsOf (masque : Bool) (b : List Byte) : List PortD := if masque then masquePorts b else procPorts b

/-- The Stream descriptor of a port. -/
def portStream (s : State) (p : PortD) : StreamD := streamOf (readStore s (runImg s + descAt s (runImg s) p.stream) 64)

/-- L and G of a run (R167). -/
def runLength (masque : Bool) (b : List Byte) : Nat := if masque then fieldAt b 8 4 else fieldAt b 4 4
def runGroup (masque : Bool) (b : List Byte) : Nat :=
  if (if masque then bit (fieldAt b 1 1) 0 else bit (fieldAt b 1 1) 3) then 128 else 64

/-- One element as an input port delivers it (R177), under its block scale when it has one. -/
def deliver (fmt dtype : Nat) (scale : Option Nat) (e : Nat) : Fl :=
  match scale with
  | none => if fmt = dtype then (e, 0) else roundTo dtype (decodeVal fmt e)
  | some x =>
    match e8m0 x with
    | none => let r := roundTo dtype .nan; (r.1, r.2 ||| fScaleNan)
    | some k => roundTo dtype (valScale (elemVal fmt true e) k)

/-- The first `n` elements that an input port has delivered, in run order. -/
def portElems (s : State) (t : Nat) (p : PortD) (n : Nat) : List Nat :=
  let h := herOf s t p.herald
  (List.range n).map (fun i => mget 0 h.elems i)

/-- The delivered elements of input port `p`, converted, with the flags. A scale port delivers ⌈L / 32⌉ bytes (R178); the scale
of an element beyond them, which only a prologue port of a run shorter than a group has, is open. -/
def portInput (s : State) (t : Nat) (ports : List PortD) (p : PortD) (n : Nat) : List Nat × Nat :=
  let sc := ports.find? (fun q => decide (q.num = p.num + 1) && q.scales && decide (q.num < 4))
  let scales := match sc with
    | some q => (portElems s t q (streamTotal (portStream s q))).take (ceilDiv n 32)
    | none => []
  mapFl (fun (x : Nat × Nat) _ =>
    deliver (p.cvt % 16) (p.cvt / 16) (if sc.isSome then
      some (scales.getD (x.2 / 32) (Config.openNat s.fresh (2 ^ 47 + 8 * x.2 / 32 + p.num) % 256)) else none) x.1)
    ((portElems s t p n).zipIdx)

/-! ## What a run yields -/

/-- The encodings that leave output ports 4 and 5, the flags, the generator after the run, and its empty reductions. -/
structure RunOut where
  out4 : List Nat
  out5 : List Nat
  flags : Nat
  gen : Gen
  empties : Nat
  vregs : List (List Nat) := []
  pregs : List (List Bool) := []
  latches : List (List Nat) := []
  deriving DecidableEq, Repr

/-! ## Processions (R186 to R188) -/

/-- A stage's result: its type (0 for a predicate) and its elements; of a QNT, the scales too. -/
structure StageRes where
  ty : Nat
  vals : List Nat
  scales : List Nat := []
  deriving DecidableEq, Repr

/-- What a Procession holds between stages. -/
structure ProcState where
  res : List StageRes := []
  flags : Nat := 0
  gen : Gen
  empties : Nat := 0
  deriving DecidableEq, Repr

/-- The result a selector names (R187). -/
def selected (ins : List (Nat × StageRes)) (st : ProcState) (len sel : Nat) : StageRes :=
  if 0x10 ≤ sel ∧ sel ≤ 0x13 then ((ins.find? (fun x => decide (x.1 = sel - 0x10))).map Prod.snd).getD ⟨9, [], []⟩
  else if 0x20 ≤ sel ∧ sel ≤ 0x27 then st.res.getD (sel - 0x20) ⟨9, [], []⟩
  else if sel = 0x30 then ⟨10, List.range len, []⟩
  else ⟨9, List.replicate len 0, []⟩

/-- A value operand at the stage's type: converted exactly where its own differs (R170). -/
def asType (ty : Nat) (r : StageRes) : List Nat :=
  if r.ty = ty then r.vals else r.vals.map (fun e => (roundTo ty (decodeVal r.ty e)).1)

/-- One stage over a run of `len` elements in groups of `g`. A reduction returns only at the end of the `whole` run. -/
def stageStep (ins : List (Nat × StageRes)) (b : List Byte) (len g fresh : Nat) (whole : Bool) (st : ProcState) (i : Nat) :
    ProcState :=
  let o := 64 + 8 * i
  let op := fieldAt b o 1
  let ty := fieldAt b (o + 5) 1 % 16
  let sat := bit (fieldAt b (o + 5) 1) 4
  let mod := fieldAt b (o + 6) 1
  let ra := selected ins st len (fieldAt b (o + 1) 1)
  let rb := selected ins st len (fieldAt b (o + 2) 1)
  let rc := selected ins st len (fieldAt b (o + 3) 1)
  let gsel := fieldAt b (o + 4) 1
  let act := if gsel = 0 then List.replicate len 1 else (selected ins st len gsel).vals
  let on (n : Nat) : Bool := decide (act.getD n 0 ≠ 0)
  let push (r : StageRes) (fl : Nat) (gen : Gen) (em : Nat) : ProcState :=
    { res := st.res ++ [r], flags := st.flags ||| fl, gen := gen, empties := st.empties + em }
  let idx := List.range len
  match op with
  | 0x00 => push ⟨9, [], []⟩ 0 st.gen 0
  | 0x20 =>
    let a := asType ty ra
    let c := asType ty rb
    push ⟨0, idx.map (fun n => flag (on n && cmpOp ty mod (a.getD n 0) (c.getD n 0))), []⟩ 0 st.gen 0
  | 0x22 | 0x23 | 0x24 | 0x25 =>
    push ⟨0, idx.map (fun n =>
      if on n then flag (predOp op (decide (ra.vals.getD n 0 ≠ 0)) (decide (rb.vals.getD n 0 ≠ 0)))
      else Config.openNat fresh (i * 2 ^ 25 + n) % 2), []⟩ 0 st.gen 0
  | 0x28 =>
    let r := mapCvt (fun n gen => if on n then cvtOp ra.ty ty mod (ra.vals.getD n 0) gen
      else (if ra.ty = ty then ra.vals.getD n 0 else (roundTo ty (decodeVal ra.ty (ra.vals.getD n 0))).1, 0, gen)) idx st.gen
    push ⟨ty, r.1, []⟩ r.2.1 r.2.2 0
  | 0x0A =>
    let q := quantize mod ty (asType ty ra) st.gen
    push ⟨mod % 16, q.1, q.2.1⟩ q.2.2.1 q.2.2.2 0
  | 0x30 =>
    let a := asType ty ra
    let csel := fieldAt b (o + 3) 1
    let r := reduce mod ty g (idx.map (fun n => (n, a.getD n 0, decide (csel = 0) || decide (rc.vals.getD n 0 ≠ 0))))
    push ⟨if mod = 4 then 10 else ty, [r.1], []⟩ (if whole then r.2.1 else 0) st.gen (flag (whole && r.2.2))
  | _ =>
    let a := asType ty ra
    let c := asType ty rb
    let d := if op = 0x21 then rc.vals else asType ty rc
    let r := mapFl (fun n _ =>
      if on n then valueOp op ty sat (a.getD n 0) (c.getD n 0) (d.getD n 0) fresh (i * 2 ^ 25 + n) else (a.getD n 0, 0)) idx
    push ⟨ty, r.1, []⟩ r.2 st.gen 0

/-- What leaves an output port: a QNT's elements or scales as they are, anything else converted under the port's byte. -/
def portOutput (p : PortD) (quant : Bool) (r : StageRes) (g : Gen) : List Nat × Nat × Gen :=
  if quant then (if p.scales then r.scales else r.vals, 0, g) else mapCvt (fun e g => convertBy p.cvt (decodeVal r.ty e) g) r.vals g

/-- A Procession over the first `len` elements of its run. -/
def runProcession (s : State) (t : Nat) (b : List Byte) (len fresh : Nat) : RunOut :=
  let ports := procPorts b
  let ins := (ports.filter (fun p => decide (p.num < 4) && !p.scales)).map (fun p => (p, portInput s t ports p len))
  let fl := (ins.map (fun x => x.2.2)).foldl (· ||| ·) 0
  let st := (List.range (fieldAt b 1 1 % 8 + 1)).foldl
    (stageStep (ins.map (fun x => (x.1.num, ⟨x.1.cvt / 16, x.2.1, []⟩))) b len (runGroup false b) fresh (decide (len = runLength false b)))
    { flags := fl, gen := genOf s t }
  let out (n sel : Nat) (g : Gen) : List Nat × Nat × Gen :=
    match ports.find? (fun p => decide (p.num = n)) with
    | none => ([], 0, g)
    | some p =>
      let quant := decide (0x20 ≤ sel ∧ sel ≤ 0x27) && decide (fieldAt b (64 + 8 * (sel - 0x20)) 1 = 0x0A)
      portOutput p quant (selected (ins.map (fun x => (x.1.num, ⟨x.1.cvt / 16, x.2.1, []⟩))) st len sel) g
  let o4 := out 4 (fieldAt b 2 1) st.gen
  let o5 := out 5 (fieldAt b 3 1) o4.2.2
  { out4 := o4.1, out5 := o5.1, flags := st.flags ||| o4.2.1 ||| o5.2.1, gen := o5.2.2, empties := st.empties
    latches := st.res.map (fun r => (r.vals.reverse.take (runGroup false b)).reverse) }

/-! ## Masque programs (R190 to R193) -/

/-- What a Masque run holds: V0 to V31 by element, P0 to P7 by element, what has left the ports, and the rest. -/
structure MasqState where
  v : List (List Nat)
  p : List (List Bool)
  out4 : List Nat := []
  out5 : List Nat := []
  flags : Nat := 0
  gen : Gen
  empties : Nat := 0
  deriving DecidableEq, Repr

/-- Where an instruction runs: the run index of element 0, the elements that are no tail lanes, and G. -/
structure BeatAt where
  n0 : Nat
  cnt : Nat
  g : Nat
  deriving DecidableEq, Repr

/-- A register's elements with those of the lanes that take the new value: tail lanes keep theirs, and inactive elements keep
theirs or become the cleared value (R180, R181). -/
def putLanes {α : Type} (at_ : BeatAt) (on : Nat → Bool) (zero : Option α) (old new : List α) (d : α) : List α :=
  (List.range at_.g).map (fun e =>
    if at_.cnt ≤ e then old.getD e d
    else if on e then new.getD e d
    else zero.getD (old.getD e d))

/-- Append to what has left a port. -/
def emitPort (port : Nat) (l : List Nat) (m : MasqState) : MasqState :=
  if port = 4 then { m with out4 := m.out4 ++ l } else { m with out5 := m.out5 ++ l }

/-- One instruction. -/
def masqueStep (ins : List (PortD × List Nat)) (ports : List PortD) (fresh i : Nat) (at_ : BeatAt) (b : List Byte)
    (m : MasqState) : MasqState :=
  let op := fieldAt b 0 1
  let ty := fieldAt b 1 1 % 16
  let sat := bit (fieldAt b 1 1) 4
  let zero := bit (fieldAt b 1 1) 5
  let d := fieldAt b 2 1 % 32
  let w := 2 ^ fmtWidth ty
  let wide := decide (at_.g = 128)
  let word (r e : Nat) : Nat := (m.v.getD r []).getD e 0
  let src (o e : Nat) : Nat := word (fieldAt b o 1 % 32) e % w
  let guard := fieldAt b 6 1 % 8
  let on (e : Nat) : Bool := decide (guard = 0) || (m.p.getD guard []).getD e false
  let mod := fieldAt b 7 1
  let setV (new : List Nat) (m : MasqState) : MasqState :=
    { m with v := listMod (fun old => putLanes at_ on (if zero then some 0 else none) old new 0) d m.v }
  let setP (new : List Bool) (m : MasqState) : MasqState :=
    if d % 8 = 0 then m
    else { m with p := listMod (fun old => putLanes at_ on (if zero then some false else none) old new false) (d % 8) m.p }
  let lanes := List.range at_.g
  let live (e : Nat) : Bool := decide (e < at_.cnt) && on e
  let pred (o e : Nat) : Bool := let r := fieldAt b o 1 % 8; decide (r = 0) || (m.p.getD r []).getD e false
  match op with
  | 0x00 | 0x01 | 0x02 | 0x03 | 0x04 => m
  | 0x08 =>
    let l := ((ins.find? (fun x => decide (x.1.num = fieldAt b 3 1 % 32))).map Prod.snd).getD []
    setV (lanes.map (fun e => l.getD (at_.n0 + e) 0)) m
  | 0x09 =>
    match ports.find? (fun p => decide (p.num = d)) with
    | none => m
    | some p =>
      let n := if p.phase = 2 then p.count else at_.cnt
      let r := mapCvt (fun e g => convertBy p.cvt (decodeVal ty (src 3 e)) g) (List.range n) m.gen
      emitPort d r.1 { m with flags := m.flags ||| r.2.1, gen := r.2.2 }
  | 0x0A =>
    let q := quantize mod ty ((List.range at_.cnt).map (src 3)) m.gen
    emitPort (fieldAt b 5 1 % 32) q.2.1 (emitPort d q.1 { m with flags := m.flags ||| q.2.2.1, gen := q.2.2.2 })
  | 0x0B => setV (lanes.map (fun e => at_.n0 + e)) m
  | 0x20 => setP (lanes.map (fun e => cmpOp ty mod (src 3 e) (src 4 e))) m
  | 0x22 | 0x23 | 0x24 | 0x25 => setP (lanes.map (fun e => predOp op (pred 3 e) (pred 4 e))) m
  | 0x28 =>
    let r := mapCvt (fun e g => if live e then cvtOp ty ty mod (src 3 e) g else (0, 0, g)) lanes m.gen
    setV (if wide then r.1.map (fun x => x % 2 ^ 16) else r.1) { m with flags := m.flags ||| r.2.1, gen := r.2.2 }
  | 0x30 =>
    let r := reduce mod ty at_.g (lanes.map (fun e => (at_.n0 + e, src 3 e, live e)))
    { m with
      v := listMod (fun _ => lanes.map (fun e => if e = 0 then r.1 else 0)) d m.v
      flags := m.flags ||| r.2.1, empties := m.empties + flag r.2.2 }
  | _ =>
    let r := mapFl (fun e _ =>
      if live e then valueOp op ty sat (src 3 e) (src 4 e) (if op = 0x21 then flag (pred 5 e) else src 5 e) fresh
        (i * 2 ^ 25 + at_.n0 + e) else (0, 0)) lanes
    setV r.1 { m with flags := m.flags ||| r.2 }

/-- Where BEGIN and END stand. -/
def masqueBody (b : List Byte) : Nat × Nat :=
  let n := fieldAt b 12 2
  let find (c : Nat) : Nat := ((List.range n).find? (fun i => decide (fieldAt b (16 * i) 1 = c))).getD n
  (find 3, find 4)

/-- A Masque run over the first `len` elements; its epilogue runs only when `len` is all of the run. -/
def runMasque (s : State) (t : Nat) (b : List Byte) (len fresh : Nat) : RunOut :=
  let g := runGroup true b
  let n := fieldAt b 12 2
  let ports := masquePorts b
  let ins := (ports.filter (fun p => decide (p.num < 4) && !p.scales)).map (fun p =>
    (p, portInput s t ports p (if p.phase = 1 then g else len)))
  let lists := ins.map (fun x => (x.1, x.2.1))
  let body := masqueBody b
  let part (lo hi : Nat) (at_ : BeatAt) (m : MasqState) : MasqState :=
    (List.range' lo (hi - lo)).foldl (fun m i => masqueStep lists ports fresh i at_ (slice b (16 * i) 16) m) m
  let m : MasqState :=
    { v := List.replicate 32 (List.replicate g 0), p := List.replicate 8 (List.replicate g false)
      flags := (ins.map (fun x => x.2.2)).foldl (· ||| ·) 0, gen := genOf s t }
  let m := part 0 body.1 ⟨0, g, g⟩ m
  let m := (List.range (ceilDiv len g)).foldl (fun m k =>
    part (body.1 + 1) body.2 ⟨k * g, min g (len - k * g), g⟩ m) m
  let m := if len = runLength true b then part (body.2 + 1) n ⟨0, g, g⟩ m else m
  { out4 := m.out4, out5 := m.out5, flags := m.flags, gen := m.gen, empties := m.empties, vregs := m.v, pregs := m.p }

/-! ## A run in flight (R194, R196, R197) -/

/-- The elements of a reduction or an epilogue come only at the end of a run; the others with their beats. -/
def portEnds (masque : Bool) (b : List Byte) (p : PortD) : Bool :=
  if masque then decide (p.phase = 2)
  else
    let sel := fieldAt b (if p.num = 4 then 2 else 3) 1
    decide (4 ≤ p.num) && decide (0x20 ≤ sel ∧ sel ≤ 0x27) && decide (fieldAt b (64 + 8 * (sel - 0x20)) 1 = 0x30)

/-- What a run of which `len` elements were computed has ready for its outputs. -/
def runOut (s : State) (t : Nat) (v : VecRun) (len : Nat) : RunOut :=
  let b := runBytes s v.masque v.desc
  if v.masque then runMasque s t b len s.fresh else runProcession s t b len s.fresh

/-- The same for a run that has computed before: from the generator and the free values it then started from. -/
def rerunOut (s : State) (t : Nat) (v : VecRun) (len : Nat) : RunOut :=
  if v.computed then runOut { setGen t (v.gen0, v.draws0) s with fresh := v.fresh0 } t v len else runOut s t v len

/-- The flags of a run's beats and its empty reductions take effect (R120, R185). -/
def runEffects (t flags empties : Nat) (s : State) : State := bump 0x602005 empties (setFlags t flags s)

/-- What a run leaves in the unit's registers and latches (R166): a Masque's own registers, or a Procession's stage results. -/
def keepRegs (t : Nat) (v : VecRun) (o : RunOut) (s : State) : State :=
  modTile t (fun x => if v.masque then { x with vregs := o.vregs, pregs := o.pregs } else { x with latches := o.latches }) s

/-- A run computes: its draws are taken (R110), and its flags and empty reductions wait for its end. -/
def runComputes (t : Nat) (v : VecRun) (o : RunOut) (s : State) : State :=
  keepRegs t v o (freshen (setGen t o.gen (modTile t (fun x => { x with
    vec := some { v with computed := true, gen0 := x.gen, draws0 := x.draws, fresh0 := s.fresh, flags := o.flags
                         empties := o.empties } }) s)))

/-- Hand elements to the Herald of an output port. -/
def loadOut (t h : Nat) (l : List Nat) (s : State) : State :=
  modHer t h (fun y => { y with elems := (l.zipIdx).map (fun x => (x.2, x.1)), loaded := true }) s

/-- When every input port has delivered, the run computes and its outputs are handed over. -/
def vectorReady (t : Nat) (s : State) : State :=
  match (tileOf s t).vec with
  | none => s
  | some v =>
    if v.computed ∨ v.ports.any (fun p => decide (p.1 < 4) && !herDone (herOf s t p.2)) then s
    else
      let b := runBytes s v.masque v.desc
      let o := runOut s t v (runLength v.masque b)
      let s := runComputes t v o s
      forEach v.ports (fun p s =>
        if p.1 = 4 then loadOut t p.2 o.out4 s else if p.1 = 5 then loadOut t p.2 o.out5 s else s) s

/-- A vector entry issues (R176, R194): its control store holds the frame's `VMODE`, its unit and its Heralds are free. -/
def issueVector (t : Nat) (masque : Bool) (e : Entry) (s : State) : State :=
  let x := tileOf s t
  let desc := runImg s + descAt s (runImg s) e.desc
  let ports := portsOf masque (runBytes s masque desc)
  if x.vec.isSome ∨ x.reload ∨ ports.any (fun p => (herOf s t p.herald).busy) then s
  else
    let s := forEach ports (fun p s =>
      let d := portStream s p
      modHer t p.herald (fun y => { resend := y.resend, busy := true, user := true, dir := d.dir, pos := x.pos, port := p.num
                                    d := d, total := streamTotal d }) s) s
    issued t e (modTile t (fun x => { x with
      vec := some { masque := masque, pos := x.pos, desc := desc, ports := ports.map (fun p => (p.num, p.herald)), computed := false }
      vecKind := masque }) s)

/-- PROCESSION: a Procession entry issues (R186, R194). -/
def execProcession (t : TileNo) (s : State) : Host.Outcome State Fault Refusal :=
  .next (
    match issuable s t.val 2 with
    | none => s
    | some e => issueVector t.val false e s)

/-- MASQUE_RUN: a Masque entry issues (R190, R194). -/
def execMasqueRun (t : TileNo) (s : State) : Host.Outcome State Fault Refusal :=
  .next (
    match issuable s t.val 3 with
    | none => s
    | some e => issueVector t.val true e s)

/-- The Heralds of a run are free again; returns of their requests find no Herald. -/
def freeHeralds (t : Nat) (hs : List Nat) (s : State) : State :=
  let s := forEach hs (fun h s => modHer t h (fun y => { resend := y.resend, dir := y.dir }) s) s
  let gone (q : Req) : Bool := decide (q.tile = t) && hs.contains q.unit && decide (q.kind = .load)
  let move (q : Req) : Req := if q.tile = t ∧ hs.contains q.unit ∧ q.kind = .store then { q with unit := 8 } else q
  let kept := s.fabric.reqs.filter (fun x => match x.2 with
    | some q => !gone q
    | none => false)
  { s with fabric := { s.fabric with reqs := kept.map (fun x => (x.1, x.2.map move)) } }

/-- The busy time of a run, in tile cycles, since its entry issued. -/
def runBusy (s : State) (t pos : Nat) : Nat :=
  let x := tileOf s t
  (((x.board.find? (fun b => decide (b.pos = pos))).map (fun b => cycleUnits s t - b.at_)).getD 0) / 20

/-- The vector unit is idle again, and its busy time counts (R199, R202). -/
def vectorIdle (t : Nat) (v : VecRun) (s : State) : State :=
  let c := runBusy s t v.pos
  bump 0x602003 c (freeHeralds t (v.ports.map Prod.snd)
    (modTile t (fun x => { x with vec := none, busy := mmod 0 x.busy 3 (fun n => n + c) }) s))

/-- VECTOR_RUN_COMPLETE: every output port has written its last element, and the run completes (R65, R194). -/
def execVectorRunComplete (t : TileNo) (s : State) : Host.Outcome State Fault Refusal :=
  .next (
    let s' := vectorReady t.val s
    match (tileOf s' t.val).vec with
    | none => s
    | some v =>
      if v.computed ∧ v.ports.all (fun p => herDone (herOf s' t.val p.2)) then
        complete t.val v.pos (bump (if v.masque then 0x602002 else 0x602001) 1
          (vectorIdle t.val v (runEffects t.val v.flags v.empties s')))
      else s')

/-- VMODE_RELOAD_DONE: the control store holds the frame's `VMODE` (R195). -/
def execVmodeReloadDone (t : TileNo) (s : State) : Host.Outcome State Fault Refusal :=
  .next (modTile t.val (fun x => if x.reload then { x with reload := false, vecMode := x.vmode } else x) s)

/-- The rest of a stopped run's output (R196): what its beats have computed is written, the rest is undefined. -/
def stopOutput (t : Nat) (h limit : Nat) (vals : Nat → Nat) (s : State) : State :=
  let hd := herOf s t h
  freshen (forEach (List.range' hd.next (hd.total - hd.next)) (fun n s =>
    pokeFar hd.d n (if n < limit then vals n else Config.openNat s.fresh n) s) s)

/-- A run stops after a number of beats, and its Heralds are released (R196). The flags of those beats are set, and elements that
the beats up to `upTo` computed are still written. -/
def stopVector (t beats upTo : Nat) (v : VecRun) (s : State) : State :=
  let b := runBytes s v.masque v.desc
  let len := runLength v.masque b
  let part := min len (beats * runGroup v.masque b)
  let ports := portsOf v.masque b
  let have_ := ports.all (fun p => decide (4 ≤ p.num) ||
    (List.range (if p.phase = 1 then runGroup v.masque b else if p.scales then ceilDiv part 32 else part)).all (fun n =>
      (mfind (herOf s t p.herald).elems n).isSome))
  let o := rerunOut s t v part
  let ran := v.computed || have_
  let kept := min len (upTo * runGroup v.masque b)
  let s := onlyIf (ran && !v.computed) (fun s => freshen (setGen t o.gen s)) s
  let s := onlyIf ran (fun s => keepRegs t v o (runEffects t o.flags o.empties s)) s
  let s := forEach (ports.filter (fun p => decide (4 ≤ p.num))) (fun p s =>
    let l := if p.num = 4 then o.out4 else o.out5
    let ends := portEnds v.masque b p && decide (part < len)
    let elems := (herOf s t p.herald).elems
    let limit := if ends then 0 else if p.scales then ceilDiv (min part kept) 32 else min part kept
    if v.computed then stopOutput t p.herald limit (fun n => mget 0 elems n) s
    else stopOutput t p.herald (if ran then min limit l.length else 0) (fun n => l.getD n 0) s) s
  vectorIdle t v s

/-- VECTOR_ECC_ERROR: a word read by a run was corrected, or stops the run at once (R197), logged with the run's descriptor and
position (R201). How many of its beats had set their flags is open. A word that no run reads has no effect. -/
def execVectorEccError (t : TileNo) (corrected : Bool) (s : State) : Host.Outcome State Fault Refusal :=
  .next (
    match (tileOf s t.val).vec with
    | none => s
    | some v =>
      if corrected then
        raiseWith 0x1126 (some t.val) (v.desc - runImg s) [v.pos]
          (bump 0x602006 1 (modKeep t.val (fun k => { k with eccCorr := k.eccCorr + 1 }) s))
      else
        let b := runBytes s v.masque v.desc
        let beats := Config.openNat s.fresh (2 ^ 46 + t.val) % (ceilDiv (runLength v.masque b) (runGroup v.masque b) + 1)
        raiseWith 0x1127 (some t.val) (v.desc - runImg s) [v.pos] (stopVector t.val beats 0 v s))

/-- VECTOR_RUN_STOP: at a halting Calend a run stops at the end of its current beat, having run `beats` of them (R196). -/
def execVectorRunStop (t : TileNo) (beats : BitVec 24) (s : State) : Host.Outcome State Fault Refusal :=
  .next (
    match (tileOf s t.val).vec with
    | none => s
    | some v =>
      if haltPassed s then
        modTile t.val (fun x => { x with board := x.board.filter (fun b => decide (b.pos ≠ v.pos)) })
          (stopVector t.val beats.toNat beats.toNat v s)
      else s)

/-! ## Requests of a Herald (R268) -/

/-- HERALD_REQUEST: the next line request of a Herald (R268), within `DEPTH` and the four writes per die of R371, after the
rights check of R362. `c` is what the die's far part found of the line, and `w` what a word of the tile buffer held that the request
reads. -/
def execHeraldRequest (t : TileNo) (h : Fin 8) (c : CacheRead) (w : WordRead) (s : State) :
    Host.Outcome State Fault Refusal :=
  .next (
    let s := vectorReady t.val s
    let hd := herOf s t.val h.val
    let (x, cnt, half) := nextRun hd
    let ga := x * 128
    let key := gaKey ga
    let space := gaSpace ga
    let write := decide (hd.d.dir ≠ 0)
    if hd.busy = false ∨ hd.total ≤ hd.next ∨ hd.d.depth ≤ hd.inflight ∨ haltPassed s ∨
        (hd.user ∧ hd.d.dir = 1 ∧ hd.loaded = false) ∨ (write ∧ 4 ≤ outstanding s t.val key (farDie space (gaLocal ga))) ∨
        nearFree s t.val hd hd.next cnt = false ∨ farFree s x = false then s
    else
      let q := heraldReq s t.val h.val hd x cnt
      let near := write && !hd.user
      let s := onlyIf near (bufWord t.val w) s
      let s := if hd.d.dir = 1 ∧ hd.user = false then
          storeElems t.val h.val hd ((List.range cnt).map (fun i => hd.next + i)) s
        else s
      let elems := (herOf s t.val h.val).elems
      let q := match hd.d.dir with
        | 0 => q
        | 1 => { q with wr := lineCells hd.d x hd.next cnt (fun n => mget 0 elems n) }
        | _ =>
          let b := operandBytes hd.d
          let at_ := d_atomic hd
          { q with
            addr := BitVec.ofNat 64 at_, len := 4
            word0 := BitVec.ofNat 32 (leNat (bufBytes s t.val (hd.d.nearAddr + b * hd.next) 4))
            word1 := if b = 8 then BitVec.ofNat 32 (leNat (bufBytes s t.val (hd.d.nearAddr + 8 * hd.next + 4) 4)) else 0 }
      let last := hd.next + cnt - 1
      let s := modHer t.val h.val (fun y => { y with
        next := if half.isSome then last else hd.next + cnt, half := half
        elems := if hd.d.dir = 1 then (List.range cnt).foldl (fun m i =>
            if half.isSome ∧ hd.next + i = last then m else mdel m (hd.next + i)) y.elems else y.elems }) s
      let loc := gaLocal q.addr.toNat
      if key ≠ ownKey s ∧ rightsOk s key space loc (loc + q.len) (if hd.d.dir = 2 then 2 else hd.d.dir) = false then
        launchReq t.val h.val { q with answered := true, poison := true } (refuseRequest t.val q.addr.toNat s)
      else
        match hd.d.dir with
        | 0 => requestLoad t.val h.val q c w s
        | 1 => if space = 1 ∧ q.remote = false then storeBuffer t.val h.val q s else launchReq t.val h.val q s
        | _ => launchReq t.val h.val q s)
where
  /-- The global address of the word of the next atomic. -/
  d_atomic (hd : Herald) : Nat := hd.d.addr + farBit hd.d hd.next / 8

end Sys2Proof.Machine
end

