-- ==== Sys2Proof/Machine/DescChecks.lean ====
section
/-!
DEFINITION. The checks of descriptors at launch, each a list of (broken, fault) pairs in the order of its chapter's table:
Pass (R144), Stream (R271), Procession and Masque (R189, R191), Lantern (R219), Transfer and Fence (R380), Phase (R309).
-/

set_option Elab.async false

namespace Sys2Proof.Machine

/-- The first fault of a list of checks. -/
def firstFault : List (Bool × Nat) → Option Nat
  | [] => none
  | (bad, code) :: r => if bad then some code else firstFault r

/-- Checks of a descriptor itself, or of the Stream descriptor that one of its vector ports names, with the port and that
descriptor's image offset (R271). -/
structure Part where
  port : Option (Nat × Nat) := none
  checks : List (Bool × Nat)
  deriving DecidableEq, Repr

/-- The first fault of a list of parts, and the port that it concerns. -/
def firstPart : List Part → Option (Nat × Option (Nat × Nat))
  | [] => none
  | p :: r => match firstFault p.checks with
    | some c => some (c, p.port)
    | none => firstPart r

/-- A field is not all zero. -/
def nonZero (b : List Byte) (o n : Nat) : Bool := (slice b o n).any (fun x => decide (x ≠ 0))

/-- Two extents, as start and length, overlap. -/
def overlap (a b : Nat × Nat) : Bool := decide (a.2 ≠ 0) && decide (b.2 ≠ 0) && decide (a.1 < b.1 + b.2) && decide (b.1 < a.1 + a.2)

/-- Some two of a list of extents overlap. -/
def anyOverlap : List (Nat × Nat) → Bool
  | [] => false
  | a :: r => r.any (overlap a) || anyOverlap r

/-- An extent reaches beyond the tile buffer. -/
def beyondBuf (x : Nat × Nat) : Bool := decide (x.2 ≠ 0) && decide (bufSize < x.1 + x.2)

/-- The faults of a conversion control byte (R104, R105). -/
def cvtChecks (cvt : Nat) : List (Bool × Nat) :=
  match cvtFault cvt with
  | some c => [(true, c)]
  | none => []

/-! ## Pass (R144) -/

def passChecks (s : State) (t cost : Nat) (b : List Byte) : List (Bool × Nat) :=
  let d := passOf b
  let isInt (f : Nat) : Bool := fmtInt f
  let mis (a k : Nat) : Bool := decide (a % k ≠ 0)
  let ins := passInputs d
  [(decide (fieldAt b 0 1 ≠ 0x50) || decide (d.array = 3) || decide (16 ≤ fieldAt b 1 1) || nonZero b 48 16 ||
      (!d.accInit && (decide (d.accAddr ≠ 0) || decide (d.accPitch ≠ 0))), 0x1114),
    (decide (0xB ≤ d.sFmt) || decide (0xB ≤ d.vFmt), 0x1101)] ++ cvtChecks d.outCvt ++
  [((scaled d.sScale && decide (7 ≤ d.sFmt)) || (scaled d.vScale && decide (7 ≤ d.vFmt)) || (isInt d.sFmt != isInt d.vFmt), 0x1103),
    (decide (9 ≤ d.sFmt) || decide (9 ≤ d.vFmt), 0x1114),
    (decide (d.rows = 0) || decide (passDepth d < d.rows) || decide (d.cols = 0) || decide (64 < d.cols) || decide (d.n = 0) ||
      decide (3968 / passStep d < d.n), 0x1114),
    (accInt d && (decide (d.sTs ≠ 0x3F800000) || decide (d.vTs ≠ 0x3F800000)), 0x1114),
    (decide (cost < passCycles d + 16), 0x1114),
    (mis d.sAddr 64 || mis d.vAddr 64 || mis d.outAddr 64 || mis d.accAddr 64 || (scaled d.sScale && mis d.sScale 16) ||
      (scaled d.vScale && mis d.vScale 16) || mis d.sPitch 16 || mis d.vPitch 16 || mis d.outPitch 16 || mis d.accPitch 16 ||
      decide (d.sPitch < packedSize d.sFmt d.cols) || decide (d.vPitch < packedSize d.vFmt d.rows) ||
      decide (d.outPitch < packedSize (d.outCvt % 16) d.cols) || (d.accInit && decide (d.accPitch < 4 * d.cols)) ||
      (passOutput d :: ins).any beyondBuf, 0x1115),
    (ins.any (overlap (passOutput d)), 0x1115), (!arrayTakes s t d.array, 0x1113)]

/-! ## Stream (R271, R272) -/

/-- The lowest and the highest far element index over the corners of the pattern. -/
def farCorners (d : StreamD) : Int × Int :=
  (List.range 4).foldl (fun a k =>
    let x := ((cntAt d k : Int) - 1) * d.strides.getD k 0
    (a.1 + min 0 x, a.2 + max 0 x)) (0, 0)

/-- The far extent: first byte and length. -/
def farExtent (d : StreamD) : Nat × Nat :=
  let w := fmtWidth d.fmt
  let c := farCorners d
  let lo := c.1.toNat * w / 8
  (d.addr + lo, (c.2.toNat * w + w + 7) / 8 - lo)

/-- Rows, and bytes of a row, on the near side. -/
def nearRows (d : StreamD) : Nat := (if d.transpose then cntAt d 0 else cntAt d 1) * cntAt d 2 * cntAt d 3
def nearRowSize (d : StreamD) : Nat := packedSize (nearFmt d) (nearRowLen d)

/-- The near extent. -/
def nearExtent (d : StreamD) : Nat × Nat :=
  if d.dir = 2 then (d.nearAddr, operandBytes d * streamTotal d)
  else (d.nearAddr, (nearRows d - 1) * d.nearPitch + nearRowSize d)

/-- The far extent in the tile's own buffer, if it lies there. -/
def farOwnBuf (s : State) (t : Nat) (d : StreamD) : Option (Nat × Nat) :=
  if gaKey d.addr = ownKey s ∧ gaSpace d.addr = 1 then
    match bufPlace (gaLocal (farExtent d).1) with
    | some (u, a) => if u = t then some (a, (farExtent d).2) else none
    | none => none
  else none

/-- The minimum run time of a Stream entry (R272). -/
def streamTime (s : State) (t : Nat) (d : StreamD) : Nat :=
  if d.dir = 2 then 24 + streamTotal d
  else
    let rate := if (farOwnBuf s t d).isSome then 256 else 128
    24 + ceilDiv (nearRows d * nearRowSize d) (if d.transpose then rate / 2 else rate)

/-- On the own package, a far extent that reaches a reserved address or the capacity (R243). -/
def farBad (s : State) (d : StreamD) : Bool :=
  let (a, n) := farExtent d
  let lo := gaLocal a
  if gaKey d.addr ≠ ownKey s then false
  else if gaSpace d.addr = 0 then decide (capacity s < lo + n)
  else match bufPlace lo, bufPlace (lo + n - 1) with
    | some (u, _), some (v, _) => decide (u ≠ v)
    | _, _ => true

def streamChecks (s : State) (t cost : Nat) (port : Bool) (b : List Byte) : List (Bool × Nat) :=
  let d := streamOf b
  let rnd := field d.cvt 5 4
  let near := nearExtent d
  [(decide (fieldAt b 0 1 ≠ 0x53) || decide (d.dir = 3) || bit (fieldAt b 1 1) 7 || decide (8 ≤ fieldAt b 5 1) || nonZero b 6 2 ||
      nonZero b 54 2 || nonZero b 60 4 || (d.fetch && decide (d.dir ≠ 2)) || (decide (d.dir ≠ 2) && decide (d.aop ≠ 0)) ||
      (!d.cvtEn && decide (d.cvt ≠ 0)) || (!d.fetch && decide (d.fetchAddr ≠ 0)) || (decide (d.dir = 2) && decide (d.nearPitch ≠ 0)),
      0x2020),
    (port && (decide (d.dir = 2) || d.cvtEn || d.transpose || decide (d.nearAddr ≠ 0) || decide (d.nearPitch ≠ 0) ||
      decide (d.herald ≠ 0)), 0x2020),
    (decide (0xB ≤ d.fmt) || (d.cvtEn && (decide (0xB ≤ d.cvt % 16) || decide (rnd = 3) || bit d.cvt 7)), 0x1101),
    (d.cvtEn && decide (rnd = 1) && decide (9 ≤ (if d.dir = 1 then d.fmt else d.cvt % 16)), 0x1102),
    (decide (d.dir = 2) && (!(decide (d.fmt = 9) || decide (d.fmt = 10)) || !atomicOk d.aop d.fmt || d.cvtEn || d.transpose), 0x2020),
    (d.counts.any (fun c => decide (c = 0)) || decide (16777216 < streamTotal d) || decide ((farCorners d).1 < 0), 0x2021),
    (decide (2 ≤ gaSpace d.addr) || (decide (d.dir = 2) && (decide (gaSpace d.addr ≠ 0) || decide (d.addr % 4 ≠ 0))), 0x2022),
    (farBad s d, 0x2022)] ++
  (if port then []
    else
      [(beyondBuf near || (d.fetch && beyondBuf (d.fetchAddr, 4 * streamTotal d)) ||
          (decide (d.dir ≠ 2) && (decide (d.nearPitch < nearRowSize d) || decide (d.nearPitch % 16 ≠ 0))) ||
          (d.transpose && decide (fmtWidth (nearFmt d) < 8)), 0x2023),
        ((match farOwnBuf s t d with
          | some x => overlap near x
          | none => false) || (d.fetch && overlap near (d.fetchAddr, 4 * streamTotal d)), 0x2023),
        (decide (cost < streamTime s t d), 0x2024)])

/-! ## Vector operations (R169 to R174, R187, R188) -/

/-- Cost in cycles per beat. -/
def vecCost (op : Nat) : Nat :=
  if op < 8 then 0 else if op = 0x0A ∨ (0x2C ≤ op ∧ op ≤ 0x2F) then 2 else 1

/-- The operands an operation uses, as a, b, c: 0 none, 1 a value, 2 a predicate. -/
def vecOperands (op : Nat) : Nat × Nat × Nat :=
  if op = 0x13 then (1, 1, 1)
  else if op = 0x21 then (1, 1, 2)
  else if op = 0x25 then (2, 0, 0)
  else if 0x22 ≤ op ∧ op ≤ 0x24 then (2, 2, 0)
  else if op = 0x30 then (1, 0, 2)
  else if op = 0x0A ∨ op = 0x1B ∨ op = 0x28 ∨ (0x2C ≤ op ∧ op ≤ 0x2F) ∨ op = 0x09 then (1, 0, 0)
  else if (0x10 ≤ op ∧ op ≤ 0x20) then (1, 1, 0) else (0, 0, 0)

/-- The codes that both kinds of run have. -/
def vecShared (op : Nat) : Bool :=
  decide (op = 0) || decide (op = 0x0A) || (decide (0x10 ≤ op) && decide (op ≤ 0x15)) || (decide (0x18 ≤ op) && decide (op ≤ 0x1E)) ||
    (decide (0x20 ≤ op) && decide (op ≤ 0x25)) || decide (op = 0x28) || (decide (0x2C ≤ op) && decide (op ≤ 0x30))

/-- Predicate logic and NOP have no type. -/
def vecTypeless (op : Nat) : Bool := decide (op = 0) || (decide (0x22 ≤ op) && decide (op ≤ 0x25))

/-- The faults of a conversion byte in `MOD` (R98, R104, R105, R111): of a CVT, and of a QNT, whose target takes block scales. -/
def modChecks (op mod : Nat) : List (Bool × Nat) :=
  if op = 0x28 then cvtChecks mod
  else if op = 0x0A then cvtChecks mod ++ [(decide (6 < mod % 16), 0x1103)]
  else []

/-- The type, `SAT` and `MOD` of an operation, whichever kind of run it stands in (R169, R171, R173, R174, R182); `modChecks` has
what a conversion byte itself breaks. -/
def vecOpBad (masque wide : Bool) (op ty : Nat) (sat : Bool) (mod : Nat) : Bool :=
  let float := decide (7 ≤ ty) && decide (ty ≤ 9)
  (if vecTypeless op then decide (ty ≠ 0) else decide (ty < 7) || decide (10 < ty)) ||
    (!vecTypeless op && wide && decide (8 < ty)) ||
    (sat && !(decide (ty = 10) && (decide (op = 0x10) || decide (op = 0x11) || decide (op = 0x12) || decide (op = 0x1C)))) ||
    ((decide (op = 0x13) || decide (op = 0x0A) || (decide (0x2C ≤ op) && decide (op ≤ 0x2F))) && !float) ||
    (((decide (0x1C ≤ op) && decide (op ≤ 0x1E)) || decide (op = 0x0B)) && decide (ty ≠ 10)) ||
    (decide (op = 0x20) && decide (5 < mod)) ||
    (decide (op = 0x30) && (decide (5 < mod) || (decide (mod = 5) && decide (ty = 10)) || (decide (mod = 4) && wide))) ||
    (decide (op = 0x28) && (if mod % 16 ≤ 6 then decide (ty = 10) && decide (mod % 16 ≠ 1) && decide (mod % 16 ≠ 6)
      else decide (mod % 16 ≤ 10) && (!masque && decide (mod % 16 ≠ ty) || (masque && wide && decide (8 < mod % 16))))) ||
    (decide (op ≠ 0x20) && decide (op ≠ 0x30) && decide (op ≠ 0x28) && decide (op ≠ 0x0A) && decide (mod ≠ 0))

/-- Bytes that a port moves: 0 for a stream whose strides are all zero (R198). -/
def portBytes (d : StreamD) : Nat := if d.strides.all (fun x => decide (x = 0)) then 0 else packedSize d.fmt (streamTotal d)

/-- The largest port term of R198. -/
def portTerm (s : State) (ports : List PortD) : Nat :=
  (ports.map (fun p => ceilDiv (portBytes (portStream s p)) 256)).foldl max 0

/-- The count that a port moves (R178). -/
def portCount (masque : Bool) (b : List Byte) (p : PortD) : Nat :=
  if p.scales then ceilDiv (runLength masque b) 32
  else if masque ∧ p.phase = 1 then runGroup masque b
  else if masque ∧ p.phase = 2 then p.count
  else if portEnds masque b p then 1 else runLength masque b

/-- A port breaks R176 to R178. -/
def portBad (s : State) (masque : Bool) (b : List Byte) (ports : List PortD) (p : PortD) : Bool :=
  let sec := secOf s (runImg s) 4
  let d := portStream s p
  let input := decide (p.num < 4)
  let below := ports.find? (fun q => decide (q.num + 1 = p.num))
  decide (p.stream % 16 ≠ 0) || decide (sec.size < p.stream + 64) ||
    decide (d.dir ≠ (if input then 0 else 1)) || decide (streamTotal d ≠ portCount masque b p) ||
    ports.any (fun q => decide (q.num ≠ p.num) && decide (q.herald = p.herald)) ||
    (input && !p.scales && decide (p.cvt / 16 < 7)) ||
    (p.scales && decide (p.cvt ≠ 0)) ||
    (p.scales && input && (match below with
      | some q => q.scales
      | none => true)) ||
    (p.scales && decide (p.num = 4))

/-- The faults of the ports' formats and conversion bytes (R98, R104, R105), and of block scales over a format that takes none
(R111): codes 0x1101 to 0x1103. -/
def portCvt (ports : List PortD) : List (Bool × Nat) :=
  ports.flatMap (fun p =>
    if p.scales then
      [(decide (p.num < 4) && ports.any (fun q => decide (q.num + 1 = p.num) && !q.scales && decide (6 < q.cvt % 16)), 0x1103)]
    else if p.num < 4 then [(decide (0xB ≤ p.cvt % 16) || decide (0xB ≤ p.cvt / 16), 0x1101)]
    else cvtChecks p.cvt)

/-- The Stream descriptors that the ports name, with the faults of each (R271). -/
def portParts (s : State) (t cost : Nat) (ports : List PortD) : List Part :=
  ports.map (fun p =>
    let o := descAt s (runImg s) p.stream
    { port := some (p.num, o), checks := streamChecks s t cost true (readStore s (runImg s + o) 64) })

/-! ## Procession (R189) -/

/-- One stage's fields. -/
structure StageF where
  op : Nat
  a : Nat
  b : Nat
  c : Nat
  guard : Nat
  ty : Nat
  sat : Bool
  mod : Nat
  deriving DecidableEq, Repr

def stageOf (b : List Byte) (i : Nat) : StageF :=
  let o := 64 + 8 * i
  { op := fieldAt b o 1, a := fieldAt b (o + 1) 1, b := fieldAt b (o + 2) 1, c := fieldAt b (o + 3) 1, guard := fieldAt b (o + 4) 1
    ty := fieldAt b (o + 5) 1 % 16, sat := bit (fieldAt b (o + 5) 1) 4, mod := fieldAt b (o + 6) 1 }

/-- The type that a selector's result has: 0 for a predicate; none where it names nothing (R170, R187). -/
def selType (b : List Byte) (ports : List PortD) (before sel : Nat) : Option Nat :=
  if 0x10 ≤ sel ∧ sel ≤ 0x13 then
    (ports.find? (fun p => decide (p.num = sel - 0x10) && !p.scales)).map (fun p => p.cvt / 16)
  else if 0x20 ≤ sel ∧ sel < 0x20 + before then
    let f := stageOf b (sel - 0x20)
    if f.op = 0 then none
    else if f.op = 0x20 ∨ (0x22 ≤ f.op ∧ f.op ≤ 0x25) then some 0
    else if f.op = 0x30 ∧ f.mod = 4 then some 10 else some f.ty
  else if sel = 0x30 then (if bit (fieldAt b 1 1) 3 then none else some 10)
  else none

/-- A value operand's type cannot be brought to the stage's exactly (R170). -/
def typeClash (op ty src : Nat) : Bool :=
  !(decide (op = 0x28)) && decide (src ≠ ty) && !(decide (ty = 9) && (decide (src = 7) || decide (src = 8)))

/-- A selector breaks R187: an unused operand not 0x00, or one of the wrong kind. -/
def selBad (b : List Byte) (ports : List PortD) (i kind sel : Nat) : Bool :=
  match kind with
  | 0 => decide (sel ≠ 0)
  | 1 => match selType b ports i sel with
    | none => true
    | some x => decide (x = 0)
  | _ => match selType b ports i sel with
    | none => true
    | some x => decide (x ≠ 0)

/-- A stage's selectors break R187 or R188. -/
def stageSelBad (b : List Byte) (ports : List PortD) (i : Nat) : Bool :=
  let f := stageOf b i
  let k := vecOperands f.op
  let red (sel : Nat) : Bool := decide (0x20 ≤ sel ∧ sel ≤ 0x27) && decide ((stageOf b (sel - 0x20)).op = 0x30 ∨ (stageOf b (sel - 0x20)).op = 0x0A)
  let out0 := fieldAt b 2 1
  let out1 := fieldAt b 3 1
  selBad b ports i k.1 f.a || selBad b ports i k.2.1 f.b ||
    (if f.op = 0x30 ∧ f.c = 0 then false else selBad b ports i k.2.2 f.c) ||
    (decide (f.guard ≠ 0) && selBad b ports i 2 f.guard) || red f.a || red f.b || red f.c || red f.guard ||
    (decide (f.op = 0x30) && (decide (f.guard ≠ 0) || !(decide (out0 = 0x20 + i) || decide (out1 = 0x20 + i)))) ||
    (decide (f.op = 0x0A) && (decide (f.guard ≠ 0) || decide (out0 ≠ 0x20 + i) || decide (out1 ≠ 0x20 + i)))

/-- The output selectors and the use of every input break R187 or R188. -/
def procOutBad (b : List Byte) (ports : List PortD) : Bool :=
  let n := fieldAt b 1 1 % 8 + 1
  let port (k : Nat) : Option PortD := ports.find? (fun p => decide (p.num = k))
  let src (k : Nat) : Nat := fieldAt b (k - 2) 1
  let outBad (k : Nat) : Bool :=
    match port k with
    | none => decide (src k ≠ 0)
    | some p =>
      (match selType b ports n (src k) with
        | none => true
        | some x => decide (x = 0)) ||
      (decide (0x20 ≤ src k ∧ src k ≤ 0x27) &&
        (let f := stageOf b (src k - 0x20)
         (decide (f.op = 0x30) && decide (f.mod = 4) && decide (p.cvt % 16 ≠ 10)) ||
         (decide (f.op = 0x0A) && decide (k = 4) && decide (p.cvt ≠ f.mod)) ||
         (decide (f.op = 0x0A) && decide (k = 5) && !p.scales))) ||
      (p.scales && !(decide (0x20 ≤ src k ∧ src k ≤ 0x27) && decide ((stageOf b (src k - 0x20)).op = 0x0A)))
  let used (k : Nat) : Bool :=
    (List.range n).any (fun i => let f := stageOf b i; [f.a, f.b, f.c, f.guard].contains (0x10 + k))
  let needed (p : PortD) : Bool := decide (4 ≤ p.num) || (if p.scales then used (p.num - 1) else used p.num)
  outBad 4 || outBad 5 || !ports.all needed || !ports.any (fun p => decide (4 ≤ p.num))

def processionChecks (s : State) (t cost : Nat) (b : List Byte) : List Part :=
  let ports := procPorts b
  let n := fieldAt b 1 1 % 8 + 1
  let wide := bit (fieldAt b 1 1) 3
  let len := runLength false b
  let stages := (List.range n).map (fun i => (i, stageOf b i))
  let portForm (p : Nat) : Bool :=
    let o := 16 + 8 * p
    if bit (fieldAt b o 1) 3 then decide (32 ≤ fieldAt b o 1) || nonZero b (o + 2) 2 else nonZero b o 8
  let stageForm (i : Nat) : Bool :=
    let o := 64 + 8 * i
    if n ≤ i then nonZero b o 8 else decide (32 ≤ fieldAt b (o + 5) 1) || nonZero b (o + 7) 1
  let clash (x : Nat × StageF) : Bool :=
    let k := vecOperands x.2.op
    let c (kind sel : Nat) : Bool := decide (kind = 1) && (match selType b ports x.1 sel with
      | some src => decide (src ≠ 0) && typeClash x.2.op x.2.ty src
      | none => false)
    c k.1 x.2.a || c k.2.1 x.2.b || c k.2.2 x.2.c
  let k := (stages.map (fun x => vecCost x.2.op)).foldl (· + ·) 0
  [{ checks := [(decide (fieldAt b 0 1 ≠ 0x56) || decide (16 ≤ fieldAt b 1 1) || nonZero b 8 8 || (List.range 6).any portForm ||
      (List.range 8).any stageForm || decide (len = 0) || decide (16777216 < len), 0x1120)] ++
    stages.flatMap (fun x =>
      [(!vecShared x.2.op || vecOpBad false wide x.2.op x.2.ty x.2.sat x.2.mod || clash x, 0x1121)] ++
        modChecks x.2.op x.2.mod) ++
    portCvt ports ++
    [(stages.any (fun x => stageSelBad b ports x.1) || procOutBad b ports, 0x1122),
      (ports.any (portBad s false b ports), 0x1123)] }] ++
  portParts s t cost ports ++
  [{ checks := [(decide (cost < 40 + max (ceilDiv len (runGroup false b) * k) (portTerm s ports)), 0x1124)] }]

/-! ## Masque (R190, R191) -/

/-- The instruction at an index. -/
def insAt (b : List Byte) (i : Nat) : List Byte := slice b (16 * i) 16

/-- Instructions from `lo` to `hi` - 1 that satisfy a condition. -/
def insCount (b : List Byte) (lo hi : Nat) (p : List Byte → Bool) : Nat :=
  ((List.range' lo (hi - lo)).filter (fun i => p (insAt b i))).length

/-- A program's structure breaks R191. -/
def masqueBad (b : List Byte) : Bool :=
  let n := fieldAt b 12 2
  let op (i : Nat) : Nat := fieldAt b (16 * i) 1
  let ports := masquePorts b
  let (bg, en) := masqueBody b
  let decl := ((List.range' 1 (n - 1)).takeWhile (fun i => decide (op i = 2))).length
  let reads (lo hi p : Nat) : Nat := insCount b lo hi (fun i => decide (fieldAt i 0 1 = 8) && decide (fieldAt i 3 1 = p))
  let writes (lo hi p : Nat) : Nat := insCount b lo hi (fun i =>
    (decide (fieldAt i 0 1 = 9) && decide (fieldAt i 2 1 = p)) ||
      (decide (fieldAt i 0 1 = 0x0A) && (decide (fieldAt i 2 1 = p) || decide (fieldAt i 5 1 = p))))
  let loads (lo hi : Nat) : Nat := insCount b lo hi (fun i => decide (fieldAt i 0 1 = 8))
  let stores (lo hi : Nat) : Nat := insCount b lo hi (fun i => decide (fieldAt i 0 1 = 9) || decide (fieldAt i 0 1 = 0x0A))
  decide (op 0 ≠ 1) || decide (fieldAt b 2 1 ≠ 0x4D) || decide (2 ≤ fieldAt b 1 1) || nonZero b 3 5 || nonZero b 14 2 ||
    decide (n < 4) || decide (256 < n) || decide (runLength true b = 0) || decide (16777216 < runLength true b) ||
    decide (decl = 0) || decide (6 < decl) ||
    decide ((ports.map (·.num)).eraseDups.length ≠ ports.length) ||
    decide (n ≤ bg) || decide (n ≤ en) || decide (en ≤ bg + 1) ||
    (List.range' (decl + 1) (n - (decl + 1))).any (fun i =>
      decide (1 ≤ op i) && decide (op i ≤ 4) && decide (i ≠ bg) && decide (i ≠ en)) ||
    nonZero (insAt b bg) 1 15 || nonZero (insAt b en) 1 15 ||
    (List.range' 1 decl).any (fun i =>
      let x := insAt b i
      let out := bit (fieldAt x 1 1) 0
      let ph := field (fieldAt x 1 1) 2 1
      decide (16 ≤ fieldAt x 1 1) || decide (ph = 3) || (decide (ph = 1) && out) || (decide (ph = 2) && !out) ||
        decide (8 ≤ fieldAt x 3 1) || nonZero x 5 3 || nonZero x 14 2 ||
        (if out then !(decide (fieldAt x 2 1 = 4) || decide (fieldAt x 2 1 = 5)) else decide (3 < fieldAt x 2 1)) ||
        (if ph = 2 then decide (fieldAt x 12 2 = 0) || decide (runGroup true b < fieldAt x 12 2) else decide (fieldAt x 12 2 ≠ 0))) ||
    !ports.all (fun p =>
      if p.scales ∧ p.num < 4 then true
      else if p.num < 4 then (if p.phase = 1 then decide (reads (decl + 1) bg p.num = 1) else decide (reads (bg + 1) en p.num = 1))
      else if p.phase = 2 then decide (writes (en + 1) n p.num = 1) && decide (writes (bg + 1) en p.num = 0)
      else decide (writes (bg + 1) en p.num = 1) && decide (writes (en + 1) n p.num = 0)) ||
    decide (loads (decl + 1) bg ≠ (ports.filter (fun p => decide (p.num < 4) && decide (p.phase = 1) && !p.scales)).length) ||
    decide (loads (bg + 1) en ≠ (ports.filter (fun p => decide (p.num < 4) && decide (p.phase = 0) && !p.scales)).length) ||
    decide (loads (en + 1) n ≠ 0) || decide (stores (decl + 1) bg ≠ 0) ||
    decide (insCount b (en + 1) n (fun i => decide (fieldAt i 0 1 = 0x0A)) ≠ 0) ||
    !ports.any (fun p => decide (4 ≤ p.num)) ||
    (List.range' (decl + 1) (n - (decl + 1))).any (fun i =>
      (decide (op i = 8) || decide (op i = 9) || decide (op i = 0x0A)) && decide (fieldAt (insAt b i) 6 1 ≠ 0))

/-- The unused fields of an instruction (R190): a field that its operation does not use must be zero. -/
def insUnused (x : List Byte) : Bool :=
  let op := fieldAt x 0 1
  let k := vecOperands op
  let d := fieldAt x 2 1
  nonZero x 8 8 || decide (64 ≤ fieldAt x 1 1) || decide (8 ≤ fieldAt x 6 1) ||
    (decide (op ≠ 8) && decide (k.1 = 0) && nonZero x 3 1) || (decide (k.2.1 = 0) && nonZero x 4 1) ||
    (decide (op ≠ 0x0A) && (decide (k.2.2 = 0) || decide (op = 0x30)) && nonZero x 5 1) ||
    (decide (op = 0) && (decide (d ≠ 0) || nonZero x 6 1)) ||
    ((decide (op = 0) || decide (op = 9) || decide (op = 0x0A)) && bit (fieldAt x 1 1) 5)

/-- Registers out of range, or a write to P0 (R190, R192). -/
def insRegBad (x : List Byte) : Bool :=
  let op := fieldAt x 0 1
  let k := vecOperands op
  let beyondReg (kind o : Nat) : Bool := if kind = 2 then decide (8 ≤ fieldAt x o 1) else decide (32 ≤ fieldAt x o 1)
  let predOut := decide (op = 0x20) || (decide (0x22 ≤ op) && decide (op ≤ 0x25))
  beyondReg k.1 3 || beyondReg k.2.1 4 || (decide (op ≠ 0x30) && beyondReg k.2.2 5) ||
    (predOut && (decide (fieldAt x 2 1 = 0) || decide (8 ≤ fieldAt x 2 1))) || decide (32 ≤ fieldAt x 2 1)

/-- An instruction names a port that its operation may not (R176, R178, R191). -/
def insPortBad (ports : List PortD) (x : List Byte) : Bool :=
  let op := fieldAt x 0 1
  let has (p : PortD → Bool) : Bool := ports.any p
  if op = 8 then !has (fun p => decide (p.num = fieldAt x 3 1) && decide (p.num < 4) && !p.scales)
  else if op = 9 then !has (fun p => decide (p.num = fieldAt x 2 1) && decide (4 ≤ p.num) && !p.scales)
  else if op = 0x0A then
    !(has (fun p => decide (p.num = fieldAt x 2 1) && decide (4 ≤ p.num) && !p.scales && decide (p.cvt = fieldAt x 7 1)) &&
      has (fun p => decide (p.num = fieldAt x 5 1) && decide (4 ≤ p.num) && p.scales))
  else false

/-- A scale port is used only beside the port it scales (R177). -/
def masqueOpOk (op : Nat) : Bool := vecShared op || decide (op = 8) || decide (op = 9) || decide (op = 0x0B)

def masqueChecks (s : State) (t cost : Nat) (b : List Byte) : List Part :=
  let ports := masquePorts b
  let n := fieldAt b 12 2
  let wide := decide (runGroup true b = 128)
  let (bg, en) := masqueBody b
  let decl := ports.length
  let code := (List.range' (decl + 1) (n - (decl + 1))).filter (fun i => decide (i ≠ bg) && decide (i ≠ en))
  let ty (x : List Byte) : Nat := fieldAt x 1 1 % 16
  let cost_ (lo hi : Nat) : Nat := ((List.range' lo (hi - lo)).map (fun i => vecCost (fieldAt b (16 * i) 1))).foldl (· + ·) 0
  [{ checks := [(masqueBad b, 0x1125)] ++
    code.flatMap (fun i =>
      let x := insAt b i
      let op := fieldAt x 0 1
      [(!masqueOpOk op || insUnused x || vecOpBad true wide op (ty x) (bit (fieldAt x 1 1) 4) (fieldAt x 7 1) ||
          (decide (op = 0x0B) && wide), 0x1121)] ++ modChecks op (fieldAt x 7 1)) ++
    portCvt ports ++
    [(code.any (fun i => insRegBad (insAt b i)), 0x1122),
      (ports.any (portBad s true b ports) || code.any (fun i => insPortBad ports (insAt b i)), 0x1123)] }] ++
  portParts s t cost ports ++
  [{ checks := [(decide (cost < 40 + ceilDiv n 4 + cost_ (decl + 1) bg +
      max (ceilDiv (runLength true b) (runGroup true b) * cost_ (bg + 1) en) (portTerm s ports) + cost_ (en + 1) n), 0x1124)] }]

/-! ## Lantern (R219, R220) -/

/-- The run time of an op (R220). -/
def lanTime (d : LanD) : Nat :=
  if d.op = 15 then 1
  else if d.seg = 2 then 32 + d.nrows * (2 * d.len + 24)
  else 32 + d.nrows * ((if d.seg = 0 then 2 else 1) * ceilDiv d.len 32 + 24)

/-- The extents that an op writes and reads (R218): outputs, records and accumulators, then the rest. -/
def lanWrites (d : LanD) : List (Nat × Nat) :=
  let rows (a pitch n : Nat) : Nat × Nat := (a, (d.nrows - 1) * pitch + n)
  match d.seg with
  | 1 => [rows d.partA 16 16, gaccExtent d]
  | 2 => [rows d.outA 16 16]
  | _ => [rows d.outA d.pitch (packedSize (d.outCvt % 16) d.len), gaccExtent d]

/-- A field that the op and `SEG` do not allow (R205, R216); a reserved format code is 0x1101's (R98). -/
def lanFieldBad (b : List Byte) (d : LanD) : Bool :=
  let fmtOk (f : Nat) : Bool := decide (7 ≤ f) && decide (f ≠ 10)
  let norm := !lanSoftmax d.op
  let back := lanBackward d.op
  decide (fieldAt b 0 1 ≠ 0x4C) || (decide (8 ≤ d.op) && decide (d.op ≤ 14)) || decide (d.rule = 3) || decide (64 ≤ fieldAt b 1 1) ||
    bit (fieldAt b 4 1) 7 || nonZero b 5 1 || decide (2 ^ 23 ≤ fieldAt b 8 4) || decide (2 ^ 20 ≤ fieldAt b 24 3) || nonZero b 27 1 ||
    decide (d.nrows = 0) || decide (4096 < d.nrows) || decide (d.len = 0) || decide ((if d.seg = 2 then 4096 else 4194304) < d.len) ||
    !fmtOk d.xFmt || (if back then !fmtOk d.dyFmt else decide (d.dyFmt ≠ 0) || decide (d.dyA ≠ 0)) ||
    (decide (d.seg = 0) && decide (d.partA ≠ 0)) || (!d.affine && !(d.bias && !back) && decide (d.auxA ≠ 0)) ||
    (if d.op = 15 then decide (d.seg ≠ 0) || decide (d.outCvt ≠ 0)
    else
      ((decide (d.seg = 1) || decide (d.seg = 2)) && decide (d.outCvt ≠ 0)) ||
        (norm && (d.bits || decide (d.rule ≠ 0))) || (!norm && (d.affine || d.bias || d.gacc)) || (d.gacc && !back) ||
        (d.bias && (if back then !d.gacc else decide (d.op ≠ 2))))

/-- `OUT_CVT` of an op that writes outputs names a target that is not allowed. -/
def lanCvtBad (d : LanD) : Bool :=
  let f := d.outCvt % 16
  decide (f = 1) || decide (f = 6) || decide (f = 10)

/-- An address, pitch or extent breaks R218. -/
def lanExtentBad (d : LanD) : Bool :=
  let w := lanWrites d
  let r := lanReads d
  let widest := max (packedSize d.xFmt d.len) (max (if lanBackward d.op then packedSize d.dyFmt d.len else 0)
    (if d.seg = 0 ∨ d.seg = 3 then packedSize (d.outCvt % 16) d.len else 0))
  let need := if d.seg = 2 then 16 * d.len else widest
  let same := decide (d.outA = d.xA) && decide (fmtWidth (d.outCvt % 16) = fmtWidth d.xFmt) && (decide (d.seg = 0) || decide (d.seg = 3))
  (w ++ r).any beyondBuf ||
    (decide (d.pitch < need) && !(decide (2 ≤ d.seg) && decide (d.nrows = 1) && decide (d.pitch = 0))) ||
    anyOverlap w || w.zipIdx.any (fun x => r.zipIdx.any (fun y => overlap x.1 y.1 && !(same && decide (x.2 = 0) && decide (y.2 = 0)))) ||
    (d.bits && decide (d.param ≠ 0xFFFFFFFF) && decide (d.maskPitch < 64 * ceilDiv d.len 512))

/-- The parameter block breaks R217, or the ledger index is too high. -/
def lanParamBad (s : State) (records : Nat) (d : LanD) (q : List Byte) : Bool :=
  let norm := !lanSoftmax d.op
  let needs := norm || d.bits || decide (d.rule ≠ 0) || d.gacc
  let sec := secOf s (runImg s) 5
  let eps := decodeVal 9 d.eps
  if d.param = 0xFFFFFFFF then needs || decide (records < d.ledger + d.nrows)
  else
    decide (d.param % 16 ≠ 0) || decide (sec.size < d.param + 32) || nonZero q 22 10 ||
      (if norm then !(valFinite eps && !valNeg eps && decide (valDy eps ≠ ⟨0, 0⟩)) else decide (d.eps ≠ 0)) ||
      (if d.rule = 2 then decide (d.window = 0) || decide (4194304 < d.window) else decide (d.window ≠ 0)) ||
      decide (2 ^ 23 ≤ fieldAt q 4 4) || decide (2 ^ 23 ≤ fieldAt q 8 4) || decide (2 ^ 23 ≤ fieldAt q 12 4) ||
      decide (records < d.ledger + d.nrows)

/-! ## The Larder declaration (R223, R224) -/

/-- The declaration block's fields. -/
structure LarderD where
  base : Nat
  size : Nat
  spillAddr : Nat
  spillSize : Nat
  ledgerSpill : Nat
  records : Nat
  slots : List (Nat × Nat × Nat)
  subs : List (Nat × Nat × Nat)
  deriving DecidableEq, Repr

/-- The declaration at a Store address. -/
def larderAt (s : State) (a : Nat) : LarderD :=
  let b := readStore s a 64
  let n := fieldAt b 44 2
  let m := fieldAt b 46 2
  let e := readStore s (a + 64) (16 * n)
  let q := readStore s (a + 64 + 16 * n) (8 * m)
  { base := fieldAt b 0 8, size := fieldAt b 8 8, spillAddr := fieldAt b 16 8, spillSize := fieldAt b 24 8
    ledgerSpill := fieldAt b 32 8, records := fieldAt b 40 4
    slots := (List.range n).map (fun i => (fieldAt e (16 * i) 8, fieldAt e (16 * i + 8) 2, fieldAt e (16 * i + 10) 2))
    subs := (List.range m).map (fun i => (fieldAt q (8 * i) 4, fieldAt q (8 * i + 4) 2, fieldAt q (8 * i + 6) 2)) }

/-- A declaration breaks R223 or R224. -/
def larderBad (s : State) (img size frames sets param : Nat) : Bool :=
  let sec := secOf s img 5
  let a := img + sec.off + param
  let b := readStore s a 64
  let k := larderAt s a
  let sum := (k.slots.map (fun x => x.1)).foldl (· + ·) 0
  let spill := if k.records = 32768 then 0 else 512 * 8 * k.records
  let e := readStore s (a + 64) (16 * k.slots.length)
  decide (param = 0xFFFFFFFF) || decide (param % 16 ≠ 0) || decide (sec.size < param + 64 + 16 * k.slots.length + 8 * k.subs.length) ||
    nonZero b 48 16 || decide (k.base % 2 ^ 21 ≠ 0) || decide (k.size % 2 ^ 21 ≠ 0) || decide (k.size < sum) ||
    (decide (k.spillAddr ≠ 0) && (decide (gaSpace k.spillAddr ≠ 0) || decide (k.spillSize < sum))) ||
    decide (k.records < 32768) || decide (1048576 < k.records) || decide (k.records % 8 ≠ 0) ||
    (if k.records = 32768 then decide (k.ledgerSpill ≠ 0) else decide (k.ledgerSpill % 65536 ≠ 0)) ||
    decide (k.slots = []) || decide (256 < k.slots.length) || decide (4096 < k.subs.length) ||
    (k.slots.zipIdx).any (fun x => decide (x.1.1 % 128 ≠ 0) || decide (64 < x.1.2.2) || decide (k.subs.length < x.1.2.1 + x.1.2.2) ||
      nonZero e (16 * x.2 + 12) 4) ||
    k.subs.any (fun x => decide (frames ≤ x.1) || (decide (x.2.1 ≠ 0xFFFF) && decide (sets ≤ x.2.1)) ||
      (decide (x.2.2 ≠ 0xFFFF) && decide (sets ≤ x.2.2))) ||
    decide (2 ^ 34 < k.base + k.size) || decide (2 ^ 34 < k.ledgerSpill + spill) ||
    anyOverlap [(k.base, k.size), (k.ledgerSpill, spill), (img, size)]

/-- The checks of a Lantern op; `decl` says that a declaration is sound. -/
def lanternChecks (s : State) (cost records : Nat) (declBad : Bool) (b : List Byte) : List (Bool × Nat) :=
  let p := fieldAt b 28 4
  let q := if p = 0xFFFFFFFF then [] else readStore s (runImg s + (secOf s (runImg s) 5).off + p) 32
  let d := lanternOf b q
  let sec := secOf s (runImg s) 5
  [(lanFieldBad b d, 0x1130), (decide (0xB ≤ d.xFmt) || decide (0xB ≤ d.dyFmt), 0x1101)] ++
  (if d.op = 15 then [(decide (p = 0xFFFFFFFF) || decide (p % 16 ≠ 0) || decide (sec.size < p + 64), 0x1132), (declBad, 0x1133)]
    else
      (if d.seg = 0 ∨ d.seg = 3 then cvtChecks d.outCvt ++ [(lanCvtBad d, 0x1130)] else []) ++
      [(lanExtentBad d, 0x1131), (lanParamBad s records d q, 0x1132)]) ++
  [(decide (cost < lanTime d), 0x113A)]

/-! ## Transfer and Fence (R380, R381) -/

/-- The extent of one side of a Transfer. -/
def xferExtent (d : XferD) (dst : Bool) : Nat × Nat :=
  if dst then (d.dst, rowsExtent d.rows d.rowBytes d.dstPitch) else (d.src, rowsExtent d.rows d.rowBytes d.srcPitch)

/-- An extent of the own package beyond capacity or beyond a tile buffer. -/
def xferBeyond (s : State) (x : Nat × Nat) : Bool :=
  let lo := gaLocal x.1
  if gaKey x.1 ≠ ownKey s then false
  else if gaSpace x.1 = 0 then decide (capacity s < lo + x.2)
  else match bufPlace lo, bufPlace (lo + x.2 - 1) with
    | some (u, _), some (v, _) => decide (u ≠ v)
    | _, _ => true

/-- The checks of a Transfer; `noSplit` says that a record which selects it names no split on its engine and group. -/
def transferChecks (s : State) (cost : Nat) (noSplit : Bool) (b : List Byte) : List (Bool × Nat) :=
  let d := xferDesc b
  let own (a : Nat) : Bool := decide (gaKey a = ownKey s)
  let src := xferExtent d false
  let dst := xferExtent d true
  [(decide (fieldAt b 0 1 ≠ 0x54) || decide (32 ≤ fieldAt b 1 1) || decide (8 ≤ fieldAt b 2 1) || nonZero b 48 16 ||
      (!d.phase && (decide (d.engine ≠ 0) || decide (d.group ≠ 0))), 0x6020),
    ((!own d.src && !own d.dst) || decide (2 ≤ gaSpace d.src) || decide (2 ≤ gaSpace d.dst) || (d.phase && !own d.src), 0x6021),
    (decide (d.rowBytes = 0) || decide (2 ^ 30 < d.rowBytes) || decide (d.rows = 0) || decide (2 ^ 20 < d.rows) || decide (d.pshift < 12) ||
      decide (30 < d.pshift) || (decide (1 < d.rows) && (decide (d.srcPitch < d.rowBytes) || decide (d.dstPitch < d.rowBytes))) ||
      decide (64 < xferPieces d) || xferBeyond s src || xferBeyond s dst || overlap src dst || decide (d.status % 16 ≠ 0) ||
      decide (bufSize < d.status + 16), 0x6022),
    (d.phase && noSplit, 0x6023), (decide (cost < 24 + ceilDiv (d.rows * d.rowBytes) 128), 0x6024)]

def fenceChecks (cost : Nat) (b : List Byte) : List (Bool × Nat) :=
  let op := fieldAt b 1 1 % 4
  let st := fieldAt b 8 4
  [(decide (cost < 8), 0x6024),
    (decide (fieldAt b 0 1 ≠ 0x46) || decide (op = 3) || decide (8 ≤ fieldAt b 1 1) || decide (2 ^ 14 ≤ fieldAt b 2 2) || nonZero b 5 3 ||
      nonZero b 12 4 || (decide (op ≠ 0) && !bit (fieldAt b 1 1) 2) || (decide (op = 0) && nonZero b 4 1) ||
      (decide (st ≠ 0xFFFFFFFF) && (decide (st % 8 ≠ 0) || decide (bufSize < st + 8))), 0x6025)]

/-! ## Phase (R308, R309) -/

/-- A Phase descriptor's form or setting breaks R307 or R308. -/
def phaseBad (b : List Byte) : Bool :=
  let base := bit (fieldAt b 1 1) 3
  let src (m : Nat) : Nat := fieldAt b (16 + 4 * m) 1
  let mc (m : Nat) : Nat := fieldAt b (17 + 4 * m) 1
  let fibres := List.range 8
  let split := fibres.any (fun m => decide (mc m = 1))
  decide (fieldAt b 0 1 ≠ 0x4F) || decide (16 ≤ fieldAt b 1 1) || nonZero b 2 2 ||
    (if base then nonZero b 4 60
    else
      nonZero b 8 8 ||
        fibres.any (fun m => decide (16 ≤ src m) || decide (2 ≤ mc m) || nonZero b (18 + 4 * m) 2 || decide (2 ≤ fieldAt b (48 + 2 * m) 1) ||
          nonZero b (49 + 2 * m) 1 || (decide (8 ≤ src m) && decide (src m ≠ 15)) || (decide (src m = 15) && decide (mc m = 1)) ||
          (decide (mc m = 0) && decide (src m ≠ 15) && fibres.any (fun k => decide (k ≠ m) && decide (src k = src m)))) ||
        (List.range 8).any (fun g =>
          let k := (splitMembers (settingOf b) g).length
          decide (k = 1) || decide (4 < k)) ||
        (!split && nonZero b 4 4))

/-- The fibre of a split member that cannot take its split at launch (R309): its class is below k, or it is out of service. -/
def phaseLight (s : State) (b : List Byte) : Option Nat :=
  let n := fieldAt b 1 1 % 8
  (List.range 8).findSome? (fun g =>
    let m := splitMembers (settingOf b) g
    (m.map (fun i => 8 * n + i)).find? (fun f =>
      decide ((fibOf s f).cls < m.length) || decide (fibState s f = 3) || decide ((engOf s n).state = 2)))

end Sys2Proof.Machine
end

