-- ==== Sys2Proof/Machine/Validate.lean ====
section
/-!
DEFINITION. Launch validation (R88): every check of the image in the order of its table, each with its fault and the image
offset of the failing structure; then the Larder plan (R225, R226) and the ownership of the image's pages (R440).
-/

set_option Elab.async false

namespace Sys2Proof.Machine

/-- What a failed check found (R88): the fault's code, the failing structure's image offset, the tile that it concerns, and what
the code's own chapter logs it with: its first unit, index or address, and the rest (R531). -/
structure Finding where
  code : Nat
  off : Nat
  tile : Option Nat := none
  ctx : Nat
  also : List Nat := []
  deriving DecidableEq, Repr

/-- What a check finds. -/
abbrev Found := Option Finding

/-- A check of one structure. -/
def chk (bad : Bool) (code off : Nat) : Found := if bad then some { code := code, off := off, ctx := off } else none

/-- The first structure of a list that breaks a check, with the tile that it belongs to. -/
def chkAll {α : Type} (code : Nat) (off : α → Nat) (tile : α → Option Nat) (bad : α → Bool) (l : List α) : Found :=
  (l.find? bad).map (fun a => { code := code, off := off a, tile := tile a, ctx := off a })

/-- The checks of an ordered list, one after the other. -/
def firstFound : List (Unit → Found) → Found
  | [] => none
  | f :: r => match f () with
    | some x => some x
    | none => firstFound r

/-! ## Header and sections (R54 to R56) -/

/-- `MAGIC`, `CHECK`, `IMAGE_SIZE` and the reserved bytes of the header. -/
def headerBad (s : State) (img : Nat) : Bool :=
  let b := readStore s img 256
  decide (fieldAt b 0 4 ≠ 0x444E4C43) || decide (crc32c (b.take 252) ≠ fieldAt b 252 4) || decide (fieldAt b 16 4 < 256) ||
    decide (fieldAt b 16 4 % 256 ≠ 0) || nonZero b 9 3 || nonZero b 40 8 || nonZero b 240 12

/-- Some fibre pair in service of a slice link runs below a level. -/
def linkBelow (s : State) (level : Nat) : Bool :=
  (sliceDirs s).any (fun d => (upPairs s d).any (fun f => decide ((pairOf s f).level < level)))

/-- The validation time for an image, in ns (R88). -/
def validationTime (size : Nat) : Nat := 2000000 + ceilDiv (4000000 * size) (2 ^ 30)

/-- The extent of a section. -/
def secExtent (x : Sec) : Nat × Nat := (x.off, x.size)

/-- Section entry `i` breaks R55 or R56, or its `CRC` is wrong. -/
def sectionBad (s : State) (img : Nat) (h : Hdr) (i : Nat) : Bool :=
  let x := secAt s img i
  if x.kind = 0 then nonZero (readStore s (img + 112 + 16 * i) 16) 1 15
  else
    let twins := (List.range i).filter (fun j => decide ((secAt s img j).kind = x.kind))
    let most := if x.kind = 3 then 1 else 0
    decide (6 < x.kind) || decide (x.rsv ≠ 0) || (if x.kind = 3 then decide (2 ≤ x.attr) else decide (x.attr ≠ 0)) ||
      decide (x.off % 256 ≠ 0) || decide (x.off < 256) || decide (h.size < x.off + x.size) ||
      decide (most < twins.length) || (decide (x.kind = 3) && twins.any (fun j => decide ((secAt s img j).attr = x.attr))) ||
      (decide (x.kind = 1) && decide (x.size ≠ 16 * h.frames)) ||
      (decide (x.kind = 2) && (decide (x.size % 2048 ≠ 0) || decide (65536 * 2048 < x.size))) ||
      (decide (x.kind = 6) && decide (x.size % 64 ≠ 0)) ||
      (List.range i).any (fun j => decide ((secAt s img j).kind ≠ 0) && overlap (secExtent (secAt s img j)) (secExtent x)) ||
      decide (crc32c (readStore s (img + x.off) x.size) ≠ x.crc)

/-- A section that must stand in the image is absent. -/
def sectionMissing (s : State) (img : Nat) : Bool :=
  [1, 2, 3, 4].any (fun k => !(secs s img).any (fun x => decide (x.kind = k)))

/-- Header and sections, in the order of R88. -/
def headerChecks (s : State) (img : Nat) : List (Unit → Found) :=
  let h := hdrAt s img
  [fun _ => chk (decide (img % 256 ≠ 0) || decide (capacity s < img + 256)) 0x102C 0,
    fun _ => chk (headerBad s img) 0x1020 0,
    fun _ => chk (decide (capacity s < img + h.size)) 0x102C 16,
    fun _ => chk (decide (imgNat s img 4 2 ≠ 0x0100)) 0x1021 4,
    fun _ => chk (decide (h.k < 10) || decide (16 < h.k) || decide (h.k ≠ s.frames.k)) 0x1022 7,
    fun _ => chk (decide (h.minLink < 2) || decide (3 < h.minLink) || linkBelow s h.minLink) 0x1023 6,
    fun _ => chk (decide (h.fclk < 4) || decide (16 < h.fclk) ||
      (List.range 512).any (fun t => decide ((keepOf s t).clock < h.fclk))) 0x1024 8,
    fun _ => chk (decide (h.lead < 1000) || decide (2 ^ h.k ≤ h.lead) || decide (h.lead < s.frames.bound)) 0x1025 12,
    fun _ => chkAll 0x1026 (fun i => 112 + 16 * i) (fun _ => none) (sectionBad s img h) (List.range 8),
    fun _ => chk (sectionMissing s img) 0x1026 112]

/-! ## Frame records (R57 to R59, R74) -/

/-- Two loops overlap without one lying inside the other. -/
def loopsCross (a b : Loop) : Bool :=
  decide (a.first ≤ b.last) && decide (b.first ≤ a.last) && !(decide (a.first ≤ b.first) && decide (b.last ≤ a.last)) &&
    !(decide (b.first ≤ a.first) && decide (a.last ≤ b.last))

/-- The number of list sets, and of Phase descriptors, in the image. -/
def listSets (s : State) (img : Nat) : Nat := (secOf s img 2).size / 2048
def phaseCount (s : State) (img : Nat) : Nat := (secOf s img 6).size / 64

/-- Record `i` breaks R57, R58 or R59, R74's period limit, or a range. -/
def recordBad (s : State) (img : Nat) (h : Hdr) (i : Nat) : Bool :=
  let r := frameAt s img i
  let ls := loopsOf s img h.frames
  decide (r.rsv ≠ 0) || decide (r.loopRsv ≠ 0) || decide (8 < r.phaseCount) ||
    (if r.loopEnd then decide (i < r.loopTo) || ls.any (loopsCross ⟨r.loopTo, i, r.loopCount⟩)
      else decide (r.loopTo ≠ 0) || decide (r.loopCount ≠ 0)) ||
    decide (4 < (ls.filter (fun l => inLoop l i)).length) || decide (2 ^ h.k * h.fclk < 10 * r.span) ||
    decide (listSets s img ≤ r.listSet) ||
    (decide (r.phaseCount ≠ 0) && decide (phaseCount s img < r.phaseFirst + r.phaseCount))

/-- Offset of frame record `i`. -/
def recordOff (s : State) (img i : Nat) : Nat := (secOf s img 1).off + 16 * i

/-! ## List sets and pass lists (R60, R61) -/

/-- A place in the list-set table: the set and the tile. -/
def listPlaces (s : State) (img : Nat) : List (Nat × Nat) :=
  (List.range (listSets s img)).flatMap (fun σ => (List.range 512).map (fun t => (σ, t)))

/-- The pass list that a place names; none for an idle tile. -/
def placeList (s : State) (img : Nat) (p : Nat × Nat) : Option Nat :=
  let o := listOffset s img p.1 p.2
  if o = 0xFFFFFFFF then none else some o

/-- A list-set offset or the header of its pass list breaks R60 or R61. -/
def placeBad (s : State) (img : Nat) (h : Hdr) (p : Nat × Nat) : Bool :=
  match placeList s img p with
  | none => false
  | some o =>
    let b := readStore s (img + o) 16
    let n := fieldAt b 0 2
    !bit h.tileMap.toNat p.2 || decide (o % 16 ≠ 0) ||
      !(secs s img).any (fun x => decide (x.kind = 3) && decide (x.off ≤ o) && decide (o + 16 ≤ x.off + x.size) &&
        decide (o + 16 + 16 * n ≤ x.off + x.size)) ||
      decide (n = 0) || decide (4096 < n) || nonZero b 2 14

/-! ## Entries (R62, R74) -/

/-- An entry of the image: its list set, its tile, the offset of its pass list and its position. -/
structure Place where
  set : Nat
  tile : Nat
  list : Nat
  pos : Nat
  deriving DecidableEq, Repr

/-- Every entry of every pass list that a list set names. -/
def entryPlaces (s : State) (img : Nat) : List Place :=
  (listPlaces s img).flatMap (fun p => match placeList s img p with
    | none => []
    | some o => (List.range (imgNat s img o 2)).map (fun i => ⟨p.1, p.2, o, i⟩))

/-- The entry at a place, and its image offset. -/
def placeEntry (s : State) (img : Nat) (p : Place) : Entry := entryAt s img p.list p.pos
def placeOff (p : Place) : Nat := p.list + 16 + 16 * p.pos

/-- The size of the descriptor that an entry names. -/
def descSize (s : State) (img : Nat) (e : Entry) : Nat :=
  match e.kind with
  | 2 => 128
  | 3 => 16 * max 1 (imgNat s img (descAt s img e.desc + 12) 2)
  | 4 => 32
  | 6 => 16
  | _ => 64

/-- The `PARAM`s of the image's Larder declarations with their descriptor offsets (R223). -/
def larderDecls (s : State) (img : Nat) : List (Nat × Nat) :=
  ((entryPlaces s img).filterMap (fun p =>
    let e := placeEntry s img p
    let b := readStore s (img + descAt s img e.desc) 32
    if e.kind = 4 ∧ fieldAt b 0 1 = 0x4C ∧ (lanternOf b []).op = 15 then some (e.desc, fieldAt b 28 4) else none)).eraseDups

/-- The image has a Larder declaration that breaks R223 or R224. -/
def larderWrong (s : State) (img : Nat) (h : Hdr) : Bool :=
  match larderDecls s img with
  | [] => false
  | [(_, q)] => larderBad s img h.size h.frames (listSets s img) q
  | _ => true

/-- The image's Larder declaration, when it has a sound one. -/
def larderOf (s : State) (img : Nat) (h : Hdr) : Option LarderD :=
  match larderDecls s img with
  | (_, q) :: _ => if larderWrong s img h then none else some (larderAt s (img + (secOf s img 5).off + q))
  | [] => none

/-- The records that select a list set, through `LIST_SET` or a substitution entry. -/
def selectors (s : State) (img : Nat) (h : Hdr) (σ : Nat) : List Nat :=
  (List.range h.frames).filter (fun i => decide ((frameAt s img i).listSet = σ) || (match larderOf s img h with
    | some k => k.subs.any (fun x => decide (x.1 = i) && (decide (x.2.1 = σ) || decide (x.2.2 = σ)))
    | none => false))

/-- An entry breaks R62, R64 or R74. -/
def entryBad (s : State) (img : Nat) (h : Hdr) (p : Place) : Bool :=
  let e := placeEntry s img p
  let sec := secOf s img 4
  decide (8 ≤ e.kind) || (decide (e.kind = 2) && listVmode s img p.list) || (decide (e.kind = 3) && !listVmode s img p.list) ||
    (if e.kind = 7 then decide (e.desc ≠ 0) else decide (e.desc % 16 ≠ 0) || decide (sec.size < e.desc + descSize s img e)) ||
    e.deps.any (fun d => decide (p.pos < d)) || decide (2 ^ h.k ≤ 4 * e.notBefore) || decide (e.rsv ≠ 0) ||
    (selectors s img h p.set).any (fun i =>
      decide ((frameAt s img i).span < e.mark + e.cost) || decide ((frameAt s img i).span < e.mark))

/-! ## Descriptors -/

/-- Image offset of Phase descriptor `j`. -/
def phaseOff (s : State) (img j : Nat) : Nat := (secOf s img 6).off + 64 * j

/-- The Phase descriptors of record `i`. -/
def recordPhases (s : State) (img i : Nat) : List Nat :=
  let r := frameAt s img i
  List.range' r.phaseFirst r.phaseCount

/-- A record names a Phase descriptor with a split on an engine and group. -/
def recordSplits (s : State) (img i engine group : Nat) : Bool :=
  (recordPhases s img i).any (fun j =>
    let b := readStore s (img + phaseOff s img j) 64
    decide (fieldAt b 1 1 % 8 = engine) && !(splitMembers (settingOf b) group).isEmpty)

/-- The checks of the descriptor that an entry names (R88); `s` is the state in which the image runs. -/
def descChecks (s : State) (img : Nat) (h : Hdr) (p : Place) : List Part :=
  let e := placeEntry s img p
  let b := readStore s (img + descAt s img e.desc) (descSize s img e)
  match e.kind with
  | 0 => [{ checks := passChecks s p.tile e.cost b }]
  | 1 => [{ checks := streamChecks s p.tile e.cost false b }]
  | 2 => processionChecks s p.tile e.cost b
  | 3 => masqueChecks s p.tile e.cost b
  | 4 => [{ checks := lanternChecks s e.cost ((larderOf s img h).map (·.records) |>.getD 32768) (larderWrong s img h) b }]
  | 5 =>
    let d := xferDesc b
    [{ checks := transferChecks s e.cost ((selectors s img h p.set).any (fun i => !recordSplits s img i d.engine d.group)) b }]
  | 6 => [{ checks := fenceChecks e.cost b }]
  | _ => []

/-- What an entry's descriptor is logged with when it fails: its tile; the array of a Pass for the array chapter's codes (R164),
the Stream descriptor that a port names, with the program and the port (R271), otherwise the descriptor's own offset (R123,
R201, R231); and the entry's position. -/
def descFinding (s : State) (img : Nat) (p : Place) (code : Nat) (port : Option (Nat × Nat)) : Finding :=
  let e := placeEntry s img p
  let off := descAt s img e.desc
  let array := 3 * p.tile + fieldAt (readStore s (img + off) 64) 1 1 % 4
  let pass := decide (e.kind = 0) && decide (0x1110 ≤ code)
  { code := code, off := off, tile := some p.tile
    ctx := match port with
      | some (_, o) => o
      | none => if pass then array else off
    also := match port with
      | some (k, _) => [off, k, p.pos]
      | none => if pass then [off, p.pos] else [p.pos] }

/-- The chapter's fault that a descriptor raises. -/
def descFound (s : State) (img : Nat) (h : Hdr) : Found :=
  (entryPlaces s img).findSome? (fun p => (firstPart (descChecks s img h p)).map (fun c => descFinding s img p c.1 c.2))

/-- The chapter's fault of a record's Phase descriptors (R309): logged with the engine, and with the member fibre where there is
one (R320). -/
def phaseFound (s : State) (img : Nat) (h : Hdr) : Found :=
  (List.range h.frames).findSome? (fun i =>
    let l := recordPhases s img i
    let bytes (j : Nat) : List Byte := readStore s (img + phaseOff s img j) 64
    let engine (j : Nat) : Nat := fieldAt (bytes j) 1 1 % 8
    let found (j code : Nat) (also : List Nat) : Finding :=
      { code := code, off := phaseOff s img j, ctx := engine j, also := also ++ [phaseOff s img j] }
    l.findSome? (fun j =>
      if phaseBad (bytes j) || l.any (fun m => decide (m < j) && decide (engine m = engine j)) then some (found j 0x4030 [])
      else (phaseLight s (bytes j)).map (fun f => found j 0x4031 [f])))

/-! ## START (R87) -/

/-- The Almanac value of the Calend that completes the running Calendar, as known now. -/
def completionKnown (s : State) : Option Nat :=
  s.frames.run.map (fun r => r.completed.getD (completingIndex s r * 2 ^ r.cal.hdr.k))

/-- `START` breaks R87. -/
def startBad (s : State) (c : Cal) : Bool :=
  s.frames.haltedHeld ||
    (decide (c.start ≠ 0) && (decide (c.start % 2 ^ c.hdr.k ≠ 0) || decide (c.start < c.readAt + validationTime c.hdr.size) ||
      decide (c.start ≤ now s) || (match completionKnown s with
        | some a => decide (c.start ≤ a)
        | none => false)))

/-! ## The Larder plan (R225, R226) -/

/-- The effective size and the first over slot (R225), before any plan. -/
def larderSize (s : State) (img : Nat) (h : Hdr) : Larder :=
  match larderOf s img h with
  | none => {}
  | some k =>
    let eff := min k.size (min (odNum s 0x603102 17179869184) (capacity s - k.base))
    let ends := (List.range k.slots.length).map (fun i => ((k.slots.take (i + 1)).map (fun x => x.1)).foldl (· + ·) 0)
    let first := (ends.findIdx? (fun e => decide (eff < e)))
    { effective := eff, firstOver := first.getD 256, ledgerSpill := k.ledgerSpill, ledgerRecords := k.records }

/-- The plan of a launch (R226); `none` fails it with 0x1136. -/
def larderPlan (s : State) (img : Nat) (h : Hdr) : Option Larder :=
  let base := larderSize s img h
  match larderOf s img h with
  | none => some base
  | some k =>
    if k.slots.length ≤ base.firstOver then some base
    else
      let f := base.firstOver
      let policy := odNum s 0x603101 0
      let chosen := (k.slots.drop f).flatMap (fun x => (k.subs.drop x.2.1).take x.2.2)
      let subst := chosen.foldl (fun m x =>
        let set := if policy = 1 then x.2.2 else x.2.1
        mput m x.1 (if set = 0xFFFF then (frameAt s img x.1).listSet else set)) []
      if policy = 2 ∨ (policy = 1 ∧ k.spillAddr = 0) then none
      else some { base with plan := policy + 1, subst := subst }

/-! ## The whole validation -/

/-- The state in which the descriptors are judged: with the candidate as the image that runs. -/
def asRunning (c : Cal) (s : State) : State :=
  let r : Run :=
    { cal := c, ordinal := 0, record := 0, openC := 0, leaped := false, remaining := [], leapOrds := [], leapAdvised := false
      haltAt := none, haltCode := 0, aborted := false, abortFrom := 0, halted := false, completed := none, halting := none
      executed := 0 }
  { s with frames := { s.frames with run := some r } }

/-- The checks up to the entries, the chapter's descriptor fault, and the checks after it. -/
def imageFound (s : State) (img : Nat) (h : Hdr) : Found :=
  firstFound (headerChecks s img ++
    [fun _ => chk (decide (h.frames = 0) || decide (1048576 < h.frames)) 0x1027 20,
      fun _ => chkAll 0x1027 (recordOff s img) (fun _ => none) (recordBad s img h) (List.range h.frames),
      fun _ => chkAll 0x1028 (fun p => (secOf s img 2).off + 2048 * p.1 + 4 * p.2) (fun p => some p.2) (placeBad s img h) (listPlaces s img),
      fun _ => chkAll 0x1029 placeOff (fun p => some p.tile) (entryBad s img h) (entryPlaces s img)])

/-- The descriptors' checks: the first chapter's fault. -/
def descriptorFound (s : State) (c : Cal) : Found :=
  let s := asRunning c s
  firstFound [fun _ => descFound s c.addr c.hdr, fun _ => phaseFound s c.addr c.hdr]

/-- The first page of the image that is not device-owned (R440). -/
def imagePageBad (s : State) (c : Cal) : Option Nat :=
  (List.range' (c.addr / 2 ^ 21) ((c.addr + c.hdr.size - 1) / 2 ^ 21 + 1 - c.addr / 2 ^ 21)).find? (fun p => decide (pageFlag s p ≠ 0))

end Sys2Proof.Machine
end

