-- ==== Sys2Proof/Machine/Calendar.lean ====
section
/-!
DEFINITION. The Calend and the Calendar (02): frames and leaps, completion and halting, the frame notices, launch and its
validation.
-/

set_option Elab.async false

namespace Sys2Proof.Machine

/-! ## Opening a frame (R57, R60, R66, R195) -/

/-- One tile opens a frame; a tile that was incomplete at its closing Calend does not (R586). -/
def openTile (c : Cal) (at_ ordinal record set : Nat) (first : Bool) (t : Nat) (s : State) : State :=
  if (tileOf s t).stuck then s
  else
    let off := listOffset s c.addr set t
    let v := listVmode s c.addr off
    let n := imgNat s c.addr off 2
    modTile t (fun x =>
      let x := { x with
        pos := 0, record := record, ordinal := ordinal, opened := at_, leaped := false, declared := false, second := false
        board := [], busy := [] }
      if off = 0xFFFFFFFF then { x with list := none, st := 2, vmode := false }
      else { x with
        list := some (off, n), st := 1, vmode := v, vecMode := if first then v else x.vecMode
        reload := !first && decide (v ≠ x.vecMode) }) s

/-- The frame of a record opens at the Calend of index `c`: every tile fetches its list, and the record's Phase descriptors
apply. -/
def openFrame (c : Nat) (r : Run) (s : State) : State :=
  let f := frameAt s r.cal.addr r.record
  let set := listSetOf s r.cal r.record
  let s := { s with frames := { s.frames with run := some r, ordinal := r.ordinal, record := r.record } }
  let s := eachTile (openTile r.cal (c * 2 ^ r.cal.hdr.k) r.ordinal r.record set (decide (r.ordinal = 0))) s
  forEach (List.range' f.phaseFirst f.phaseCount) (fun j s => applyPhase (r.cal.addr + phaseOff s r.cal.addr j) s) s

/-- An armed Calendar begins at the Calend of index `c` (R87): generators are seeded (R110) and ledgers hold nothing (R210). The
notices remembered for R80 are forgotten here and at a Season reset (DESIGN CHOICE, log entry 26). -/
def beginCalendar (c : Nat) (h : Cal) (s : State) : State :=
  let s := { s with frames := { s.frames with
    held := none, calId := h.hdr.calId, leaps := 0, replays := 0, seen := [] } }
  let s := eachTile (fun t => modTile t (fun x => { x with
    gen := genSeed h.hdr.seed t, draws := [], ledger := [], lines := [], stuck := false })) s
  let r : Run :=
    { cal := h, ordinal := 0, record := 0, openC := c, leaped := false, remaining := [], leapOrds := [], leapAdvised := false
      haltAt := none, haltCode := 0, aborted := false, abortFrom := 0, halted := false, completed := none, halting := none
      executed := 0 }
  openFrame c r s

/-! ## Closing a frame (R58, R83, R84, R90, R199, R586) -/

/-- A tile whose frame is incomplete at its closing Calend. -/
def incompleteTile (leaped : Bool) (t : Nat) (s : State) : State :=
  let x := tileOf s t
  if x.st = 1 ∧ x.stuck = false then
    raiseTile (if leaped then 0x1011 else 0x1013) t x.ordinal (modTile t (fun x => { x with stuck := true }) s)
  else s

/-- The vector unit set the pace of the tile's frame (R199). -/
def vectorPaced (x : Tile) : Bool :=
  x.list.isSome && !x.stuck && (List.range 3).all (fun a => decide (mget 0 x.busy a < mget 0 x.busy 3))

/-- The frame closes on every tile: incomplete tiles raise their fault, and the vector-paced ones are counted. -/
def closeFrame (leaped : Bool) (s : State) : State :=
  let s := eachTile (incompleteTile leaped) s
  let n := (s.tiles.filter (fun x => vectorPaced x.2)).length
  let s := bump 0x602004 n { s with frames := { s.frames with vecPaced := n } }
  match s.frames.run with
  | some r => { s with frames := { s.frames with run := some { r with executed := r.executed + 1 } } }
  | none => s

/-- After the frame closed: the Calendar completes, or the next record's frame opens (R58, R90). -/
def advanceFrame (c : Nat) (s : State) : State :=
  match s.frames.run with
  | none => s
  | some r =>
    let (next, rem) := nextRecord (frameAt s r.cal.addr r.record) r.record r.remaining
    if r.cal.hdr.frames ≤ next then
      { s with
        frames := { s.frames with run := some { r with completed := some (c * 2 ^ r.cal.hdr.k) } }
        tiles := mmapv {} (fun x => if x.stuck then x else { x with st := 0, list := none }) s.tiles }
    else openFrame c { r with ordinal := r.ordinal + 1, record := next, remaining := rem, openC := c, leaped := false } s

/-- The halting Calend of index `c` (R92): Transfers and Fences end, and every Marshal halts. The outcome of a Calendar that halts
before its completing Calend is taken as fixed here, so a launch that waits fails here (R87; DESIGN CHOICE, log entry 26). -/
def passHalt (c : Nat) (s : State) : State :=
  match s.frames.run with
  | none => s
  | some r =>
    let s := { s with frames := { s.frames with run := some { r with halting := some (c * 2 ^ r.cal.hdr.k) } } }
    failStart (eachTile haltTile (forEach (List.range 8) endWindow s))

/-- A tile of a Calendar whose outcome is fixed as halted (R90, R92): its Transfers and Fences end, it stands in `STATE` 4, and a
reset that waited is applied (R95, R536). A tile stuck in its last frame goes to `STATE` 4 here and not at its halting Calend,
which would fall later (DESIGN CHOICE, log entry 26). -/
def stopTile (t : Nat) (s : State) : State :=
  let x := tileOf s t
  let s := modTile t (fun x => { x with st := 4 }) (onlyIf (decide (x.st = 1)) (haltTile t) s)
  if x.hung then modTile t (fun x => { x with st := 4 }) (tileResetNow t s)
  else onlyIf x.resetDue (tileResetNow t) s

/-- The outcome of a completed Calendar is fixed (R90): halted if a halt of it is known, completed otherwise. -/
def fixOutcome (s : State) : State :=
  match s.frames.run with
  | none => s
  | some r =>
    match r.completed with
    | none => s
    | some a =>
      let s := { s with frames := { s.frames with run := none } }
      if r.halted then
        let s := eachTile stopTile { s with frames := { s.frames with haltedHeld := true } }
        let d := if r.aborted ∧ r.abortFrom.toNat ≠ ownKey s then r.abortFrom.toNat else a
        endLaunch r.cal (if r.aborted then 3 else 1) r.haltCode.toNat r.executed d (failStart s)
      else endLaunch r.cal 0 0 r.executed a s

/-! ## The Calend (R50, R82, R94) -/

/-- A write-token imbalance is the Conservation fault (R384). -/
def calendTokens (s : State) : State :=
  forEach s.tiles (fun x s => forEach x.2.toks (fun y s =>
    let k := y.2
    if k.i = k.k + k.x + k.o then s else raiseTile 0x5F00 x.1 y.1 s) s) s

/-- The running Calendar at the Calend of index `c`: its halt first, then a continuation, then the end of its frame; with none
running, an armed one may begin. -/
def calendFrames (c : Nat) (s : State) : State :=
  match s.frames.run with
  | none =>
    match s.frames.held with
    | some h => if h.armed ∧ s.frames.haltedHeld = false ∧ h.start ≤ c * 2 ^ h.hdr.k then beginCalendar c h s else s
    | none => s
  | some r =>
    if r.halting.isSome then s
    else
      let closes := decide (closingIndex r ≤ c)
      let s := onlyIf closes (closeFrame r.leaped) s
      match r.haltAt with
      | some h => if h ≤ c then passHalt c s else onlyIf closes (advanceFrame c) s
      | none => onlyIf closes (advanceFrame c) s

/-- The Calend of index `c` is a continuation (R53). -/
def isContinuation (s : State) (c : Nat) : Bool :=
  match s.frames.run with
  | some r => r.leaped && decide (c < closingIndex r) && r.halting.isNone
  | none => false

/-- The index of the Calend that falls next (R50). -/
def nextCalend (s : State) : Nat := if s.frames.calDue = 0 then now s / 2 ^ s.frames.k + 1 else s.frames.calDue

/-- CALEND: the next Calend of the Season falls, whether the Almanac has reached it or goes to it now; an outcome still to be fixed
was fixed before it (R90). -/
def execCalend (s : State) : Host.Outcome State Fault Refusal :=
  .next (
    if s.boot.ready ∧ s.store.migrating = false then
      let s := fixOutcome s
      let c := nextCalend s
      let s := timeAtLeast (c * 2 ^ s.frames.k) { s with frames := { s.frames with calDue := c + 1 } }
      let cont := isContinuation s c
      let s := calendTokens (calendLinks c (calendNotices c s))
      calendTwin c cont (calendOptics c (calendFrames c s))
    else s)

/-- OUTCOME_FIXED: `LEAD` after the completing Calend (R90). -/
def execOutcomeFixed (s : State) : Host.Outcome State Fault Refusal :=
  .next (
    match s.frames.run with
    | some r =>
      match r.completed with
      | some a => fixOutcome (timeAtLeast (a + r.cal.hdr.lead) s)
      | none => s
    | none => s)

/-! ## Wait entries and the projection (R65, R78) -/

/-- WAIT: a Wait entry issues. -/
def execWait (t : TileNo) (s : State) : Host.Outcome State Fault Refusal :=
  .next (match issuable s t.val 7 with
    | some e => issued t.val e s
    | none => s)

/-- WAIT_COMPLETE: the Almanac reaches C + 4 · `NOT_BEFORE` ns (R65). -/
def execWaitComplete (t : TileNo) (pos : BitVec 12) (s : State) : Host.Outcome State Fault Refusal :=
  .next (match (tileOf s t.val).board.find? (fun b => decide (b.pos = pos.toNat) && decide (b.kind = 7)) with
    | some b => complete t.val pos.toNat (timeAtLeast ((tileOf s t.val).opened + 4 * b.notBefore) s)
    | none => s)

/-- PROJECTION_EVAL: the Marshal re-evaluates its projection (R78); a replay that waited for a clock change withdrawn since issues
(R156). -/
def execProjectionEval (t : TileNo) (s : State) : Host.Outcome State Fault Refusal :=
  .next (evaluate t.val (issueReplays t.val s))

/-! ## Halting (R92, R95, R536) -/

/-- Nothing of the tile that a halt lets run on is in flight. -/
def tileQuiet (x : Tile) : Bool :=
  x.runs.isEmpty && x.vec.isNone && x.lan.isNone && x.xfers.isEmpty && x.fences.isEmpty && x.her.all (fun h => !h.2.busy)

/-- Every Marshal has reached `STATE` 4: the launch ends, and one that was read since the halting Calend fails (R87). -/
def endHalted (s : State) : State :=
  match s.frames.run with
  | none => s
  | some r =>
    match r.halting with
    | none => s
    | some a =>
      if s.tiles.any (fun x => decide (x.2.st = 3)) then s
      else
        let s := { s with frames := { s.frames with run := none, haltedHeld := true } }
        let d := if r.aborted ∧ r.abortFrom.toNat ≠ ownKey s then r.abortFrom.toNat else a
        endLaunch r.cal (if r.aborted then 3 else 1) r.haltCode.toNat r.executed d (failStart s)

/-- MARSHAL_HALTED: the tile's entries in flight have ended, and it reaches `STATE` 4; a deferred Tile reset follows (R95); a
tile that hung is reset first and then reports `STATE` 4 (R536). -/
def execMarshalHalted (t : TileNo) (s : State) : Host.Outcome State Fault Refusal :=
  .next (
    let x := tileOf s t.val
    if x.st = 3 then
      if x.hung then
        if x.runs.isEmpty then endHalted (modTile t.val (fun x => { x with st := 4 }) (tileResetNow t.val s)) else s
      else if tileQuiet x then
        if x.resetDue then endHalted (tileResetNow t.val s) else endHalted (modTile t.val (fun x => { x with st := 4 }) s)
      else s
    else s)

/-! ## Frame notices (R80, R81, R83, R85, R91) -/

/-- The first copy of a notice is forwarded and takes effect; a later copy, or a malformed one, is dropped (R80). -/
def takeNotice (f typ : Nat) (n : Notice) (effect : State → State) (s : State) : State :=
  if s.boot.hub = false then s
  else
    let s := freeSlot f 3 s
    let key := (typ, n.ordinal.toNat, n.origin.toNat)
    if n.rsv ∨ n.typ.toNat ≠ typ then raise 0x6001 n.typ.toNat s
    else if s.frames.seen.contains key then s
    else
      effect (sendNotice n (some (dirOf f)) { s with frames := { s.frames with seen := key :: s.frames.seen } })

/-- The tile that a notice names. -/
def noticeTile (n : Notice) : Option Nat := if n.tile.toNat < 512 then some n.tile.toNat else none

/-- The effect of an overrun notice (R81, R83, R85), whose faults name its frame and its tile (R96). One that arrives while no
Calendar runs has been forwarded and has no other effect (DESIGN CHOICE, log entry 26). -/
def overrunEffect (n : Notice) (s : State) : State :=
  match s.frames.run with
  | none => s
  | some r =>
    let o := n.ordinal.toNat
    if n.calId ≠ r.cal.hdr.calId ∨ r.ordinal < o then raiseOf 0x1012 o (noticeTile n) n.origin.toNat s
    else if o < r.ordinal ∨ r.completed.isSome ∨ (r.openC + 1) * 2 ^ r.cal.hdr.k ≤ now s then raiseOf 0x1010 o (noticeTile n) n.origin.toNat s
    else if r.leaped ∨ r.halting.isSome then s
    else takeLeap n.origin.toNat n.tile.toNat s

/-- OVERRUN_NOTICE (R81). -/
def execOverrunNotice (f : PairNo) (n : Notice) (s : State) : Host.Outcome State Fault Refusal :=
  .next (takeNotice f.val 1 n (overrunEffect n) s)

/-- A halt or abort notice reaches the running Calendar that it names (R90, R91). -/
def haltRun (n : Notice) (aborted : Bool) (r : Run) (s : State) : State :=
  let code := if aborted then 0 else n.code.toNat
  let put (r : Run) : State := { s with frames := { s.frames with run := some r } }
  match r.completed with
  | some a =>
    if now s ≤ a + r.cal.hdr.lead ∧ r.halted = false then
      put { r with halted := true, haltCode := BitVec.ofNat 16 code, aborted := aborted, abortFrom := BitVec.ofNat 16 n.origin.toNat }
    else s
  | none =>
    let late := decide (n.haltAt.toNat * 2 ^ r.cal.hdr.k ≤ now s)
    let h := if late then now s / 2 ^ r.cal.hdr.k + 1 else n.haltAt.toNat
    onlyIf late (raise 0x1016 n.haltAt.toNat) (if r.halting.isSome then s else put (runHalt code aborted n.origin.toNat h r))

/-- The effect of a halt or abort notice (R85): a `HALT_AT` of 0 names a launch only (R89). -/
def haltEffect (n : Notice) (aborted : Bool) (s : State) : State :=
  let runs : Bool := match s.frames.run with
    | some r => decide (r.cal.hdr.calId = n.calId)
    | none => false
  let holds : Bool := match s.frames.held with
    | some c => decide (c.hdr.calId = n.calId)
    | none => false
  if runs ∧ n.haltAt ≠ 0 then
    match s.frames.run with
    | some r => haltRun n aborted r s
    | none => s
  else if holds then if aborted then dropHeld 3 0 0 n.origin.toNat s else dropHeld 2 n.code.toNat 0 0 s
  else if runs then s
  else { s with frames := { s.frames with kept := n :: s.frames.kept } }

/-- HALT_NOTICE (R85, R91). -/
def execHaltNotice (f : PairNo) (n : Notice) (s : State) : Host.Outcome State Fault Refusal :=
  .next (takeNotice f.val 2 n (haltEffect n false) s)

/-- ABORT_NOTICE (R85, R93). -/
def execAbortNotice (f : PairNo) (n : Notice) (s : State) : Host.Outcome State Fault Refusal :=
  .next (takeNotice f.val 3 n (haltEffect n true) s)

/-! ## Launch (R87 to R89, R440, R587) -/

/-- A LAUNCH that passed the checks of R439: BUSY while a Calendar is validating or armed; else validation begins, and a package
that refuses launches (R587), whose restore phase runs (R414), or that holds a notice for the Calendar (R85) ends it at once. -/
def launchRead (i : Nat) (cid : U32) (image start slot : Nat) (s : State) : State :=
  if s.frames.held.isSome then answer i slot cid 8 0x8024 0 0 (logWith 0x8024 none i [cid.toNat] s)
  else
    let c : Cal :=
      { addr := image, start := start, cid := cid, ring := i, slot := slot, hdr := hdrAt s image, readAt := now s, armed := false
        larder := {} }
    let s := setPower .run { s with frames := { s.frames with held := some c } }
    let s := holdCmd { cid := cid, ring := i, slot := slot, kind := .launch, pieces := [], unstable := false, aborted := false
                       code := 0 } s
    match s.frames.refuse with
    | some code => failHeld 2 code.toNat 0 2 s
    | none =>
      if s.twin.phase = 1 then failHeld 2 0x7013 0 2
        (logWith 0x7013 none 0 (s.twin.partnerCoord.toList.map BitVec.toNat ++ [s.twin.partnerSerial.toNat]) s)
      else match s.frames.kept.find? (fun n => decide (n.calId = c.hdr.calId)) with
      | some n => if n.typ = 3 then dropHeld 3 0 0 n.origin.toNat s else dropHeld 2 n.code.toNat 0 0 s
      | none => s

/-- LAUNCH (R87, R440). -/
def execLaunch (h : SqHead) (image start : U64) (s : State) : Host.Outcome State Fault Refusal :=
  .next (submit h.ring.val h.cid (!h.reserved) false (launchRead h.ring.val h.cid image.toNat start.toNat) s)

/-- A launch fails a check: logged with what was found, and ended with the offset of the failing structure (R88, R89). -/
def failLaunch (f : Finding) (s : State) : State := failHeld 2 f.code f.off 2 (logWith f.code f.tile f.ctx f.also s)

/-- A launch fails for a reason that no structure of the image has. -/
def failPlain (code : Nat) (s : State) : State := failLaunch { code := code, off := 0, ctx := 0 } s

/-- A descriptor fails its chapter's checks: the chapter's fault is logged, then 0x102A (R88). -/
def failDesc (f : Finding) (s : State) : State :=
  failLaunch { f with code := 0x102A, ctx := f.off, also := [] } (logWith f.code f.tile f.ctx f.also s)

/-- The launch passed every check of the image: the Larder plan, then the pages (R226, R440); then it is armed. The effective size
and the first over slot are reported whatever the plan (R225). -/
def armLaunch (c : Cal) (s : State) : State :=
  let decl := ((larderDecls s c.addr).head?.map (fun x => descAt s c.addr x.1)).getD 0
  let plan := larderPlan s c.addr c.hdr
  let s := { s with frames := { s.frames with larder := larderSize s c.addr c.hdr } }
  match plan with
  | none => failLaunch { code := 0x1136, off := decl, ctx := decl } s
  | some l =>
    let s := { s with frames := { s.frames with larder := l } }
    let s := onlyIf (decide (l.plan ≠ 0)) (raise 0x1139 l.firstOver) s
    match imagePageBad s c with
    | some p => failLaunch { code := 0x8023, off := 0, ctx := c.ring, also := [c.cid.toNat, p] } s
    | none => { s with frames := { s.frames with held := some { c with armed := true, larder := l } } }

/-- VALIDATION_COMPLETE: the checks of R88 in their order; the first failure ends the launch. It waits for the core (R534). -/
def execValidationComplete (s : State) : Host.Outcome State Fault Refusal :=
  .next (
    match s.frames.held with
    | none => s
    | some c =>
      if c.armed ∨ s.boot.mcRuns = false then s
      else
        match imageFound s c.addr c.hdr with
        | some f => failLaunch f s
        | none =>
          match descriptorFound s c with
          | some f => failDesc f s
          | none => if startBad s c then failPlain 0x102B s else armLaunch c s)

end Sys2Proof.Machine
end

