-- ==== Sys2Proof/Machine/OdValues.lean ====
section
/-!
DEFINITION. What each entry of the Object Dictionary reads as: read-only entries are computed from the state, chapter by
chapter; counters "since Cold reset" come from one table (R541); writable entries read their latest accepted value, or with
`ACTIVE` the one in force (R449).
-/

set_option Elab.async false

namespace Sys2Proof.Machine

/-! ## Encodings -/

/-- An I16 in two's complement. -/
def i16 (x : Int) : List Byte := leBytes 2 (x % 65536).toNat
/-- A value held to 16 bits signed. -/
def clamp16 (x : Int) : Int := max (-32768) (min 32767 x)
/-- Flags packed eight a byte, bit 0 first. -/
def flagBytes (l : List Bool) (n : Nat) : List Byte := leBytes n (flagBits l)
/-- The ASCII bytes of a text. -/
def ascii (s : String) : List Byte := s.toList.map (fun c => BitVec.ofNat 8 c.toNat)
/-- A list cut or filled with zeros to `n` bytes. -/
def fillTo (n : Nat) (l : List Byte) : List Byte := l.take n ++ List.replicate (n - l.length) 0

/-! ## Identity (R454, R473) and keys (R506 to R515, R524) -/

/-- The Device ID by grade (R423). -/
def deviceId (s : State) : Nat := 0x7E18 + flag s.nv.gradeS
/-- The provisional ID of an I3C port (R454). -/
def i3cPid (s : State) (portB : Bool) : Nat :=
  packFields [(s.boot.slot.toNat, 12), (flag portB, 15), (deviceId s, 16), (0x05C3, 33)]
/-- Slots in force of the core and of the Marshal microcode; the active ones before a start has chosen. -/
def slotOfMc (s : State) : Bool := if s.boot.manifestOk then s.boot.mcSlot else activeSlot s 1
def slotOfMsh (s : State) : Bool := if s.boot.manifestOk then s.boot.mshSlot else activeSlot s 2

/-- A manifest copy has been accepted (R511). -/
def manifestAccepted (s : State) : Bool :=
  match acceptManifest s.nv.copyA s.nv.copyB with
  | .ok _ => true
  | .error _ => false
/-- The commit counter of the manifest in use (OD 0x1000.05). -/
def manifestVersion (s : State) : Nat :=
  match acceptManifest s.nv.copyA s.nv.copyB with
  | .ok n => n
  | .error _ => 0

/-- The seed and the public part of the Device Identity Key (R507). -/
def dikSeed : List Byte := Config.sha3 (ascii "DIK" ++ Config.uds)
def dikPublic : List Byte := Config.mldsaPublic dikSeed
/-- M_rom, M_man, M_mc and M_msh (R515). -/
def measurements (s : State) : List Byte :=
  fillTo 32 Config.measureRom ++ fillTo 32 (Config.sha3 Config.makerSection) ++ fillTo 32 (mcImage s (slotOfMc s)).measure ++
    fillTo 32 (mshImage s (slotOfMsh s)).measure
/-- The seed of the attestation key of the measurements in force (R515). -/
def akSeed (s : State) : List Byte :=
  Config.sha3 (ascii "AK" ++ Config.sha3 (ascii "CDI" ++ Config.uds ++ measurements s))
/-- The certificate of the attestation key, signed by the DIK (R508, R515). -/
def akCert (s : State) : List Byte :=
  let m := measurements s
  let body := leBytes 2 1 ++ leBytes 1 3 ++ leBytes 1 0 ++ leBytes 8 s.nv.serial.toNat ++ leBytes 4 (Config.akCseq m) ++
    fillTo 32 (Config.sha3 dikPublic) ++ fillTo 32 (Config.sha3 m) ++ fillTo 1312 (Config.mldsaPublic (akSeed s))
  body ++ fillTo 2420 (Config.mldsaSign dikSeed body)
/-- `BOOT_FLAGS` (OD 0x7000.08). -/
def bootFlags (s : State) : Nat := packFields [(flag s.boot.fallback, 0), (flag s.boot.liveSince, 1), (flag s.boot.mshPending, 2)]

/-! ## Records -/

/-- The 32 bytes of a fault record (R531). -/
def faultBytes (r : FaultRec) : List Byte :=
  leBytes 2 r.code.toNat ++ leBytes 1 r.sev ++ leBytes 1 (flag r.persist + 2 * flag r.byVigil) ++ leBytes 4 r.seq ++
    leBytes 8 r.time.toNat ++ leBytes 6 (r.ordinal.getD 0xFFFFFFFFFFFF) ++ leBytes 2 (r.tile.getD 0xFFFF) ++ leBytes 8 r.context
/-- The bytes of a table of slots, each of `size` bytes; a slot that holds nothing is zero. -/
def slotBytes {α : Type} (slots size : Nat) (at_ : Nat → Option α) (enc : α → List Byte) : List Byte :=
  (List.range slots).flatMap (fun i => match at_ i with
    | some x => fillTo size (enc x)
    | none => List.replicate size 0)
/-- An audit entry's 128 bytes (R466). -/
def auditBytes (e : AuditEntry) : List Byte := fillTo 96 e.body ++ fillTo 32 e.chain
/-- A loss location's 16 bytes (OD 0x3003.07). -/
def lossBytes (l : List Nat) : List Byte :=
  leBytes 8 (l.getD 0 0) ++ (List.range' 1 6).flatMap (fun i => leBytes 1 (l.getD i 0)) ++ leBytes 2 0
/-- The bytes of a lane map in use or of the manifest. -/
def laneInUse (s : State) (b : Nat) : List Byte := match (bundleOf s b).map with
  | [] => laneIdentity
  | m => m

/-! ## Read-only entries by chapter: `none` leaves the entry to the counters -/

/-- Entries 0x1xxx. -/
def valManagement (s : State) (key : Nat) : Option (List Byte) :=
  let n2 (v : Nat) : Option (List Byte) := some (leBytes 8 v)
  match key with
  | 0x100001 => n2 0x1F4B
  | 0x100002 => n2 (deviceId s)
  | 0x100003 => some (ascii (if s.nv.gradeS then "GV-TN8-S" else "GV-TN8-F"))
  | 0x100004 => n2 s.nv.serial.toNat
  | 0x100005 => n2 (manifestVersion s)
  | 0x100006 => some ((List.range 81).flatMap (fun e => announceImage (mget {} s.dies.map e).rec_))
  | 0x100007 => n2 s.boot.slot.toNat
  | 0x100008 => n2 (i3cPid s false)
  | 0x100009 => n2 (i3cPid s true)
  | 0x10000A => n2 (mcImage s (slotOfMc s)).version.toNat
  | 0x10000B => n2 (flag (slotOfMc s))
  | 0x10000C => n2 (mshImage s (slotOfMsh s)).version.toNat
  | 0x10000D => n2 (flag (slotOfMsh s))
  | 0x10000E => n2 Config.vigilRomVersion.toNat
  | 0x10000F => n2 0x0100
  | 0x100010 => n2 s.boot.bootFail.toNat
  | 0x110001 => n2 s.mgmt.eidA.toNat
  | 0x110002 => n2 s.mgmt.eidB.toNat
  | 0x110003 => n2 s.mgmt.eidPcie.toNat
  | 0x110004 => n2 (packFields [(flag s.mgmt.dynA.isSome, 0), (flag s.mgmt.dynB.isSome, 1), (flag s.mgmt.ibiA, 2),
      (flag s.mgmt.ibiB, 3)])
  | 0x110201 => n2 s.mgmt.sessions.length
  | 0x110301 => n2 s.nv.auditSeq
  | 0x110302 => some (slotBytes 4096 128 (fun i => s.nv.audit.find? (fun e => decide (e.seq % 4096 = i))) auditBytes)
  | 0x110303 => some s.nv.auditAnchor
  | 0x110304 => n2 (s.pow.journal.filter (fun r => r.audit.isSome)).length
  | 0x110305 => n2 s.mgmt.auditRefused
  | 0x110401 => n2 s.mgmt.eventSeq
  | 0x110501 => n2 s.mgmt.fw.state
  | 0x110502 => n2 s.mgmt.fw.progress
  | 0x120001 => some ((List.range 108).flatMap (laneInUse s))
  | 0x120002 => some ((List.range 108).flatMap (laneManifest s))
  | 0x120004 => n2 (s.dies.bundles.filter (fun b => b.2.mapDiff)).length
  | _ => none

/-- Entries 0x2xxx. -/
def valPower (s : State) (key : Nat) : Option (List Byte) :=
  let n (v : Nat) : Option (List Byte) := some (leBytes 8 v)
  match key with
  | 0x200001 => n (pstateCode s.pow.state)
  | 0x200004 => n s.pow.latchCause.toNat
  | 0x200103 => n (limitAmps s)
  | 0x200104 => n s.pow.steps
  | 0x200105 => n s.pow.cap
  | 0x200106 => n s.pow.fscMap.toNat
  | 0x200201 => n (dyFloor s.pow.voltage.y).toNat
  | 0x200202 => n (dyFloor s.pow.current.y).toNat
  | 0x200203 => n ((dyFloor (dyMul s.pow.voltage.y s.pow.current.y)).toNat / 1000000)
  | 0x200204 => some ((List.range 25).flatMap (fun i => i16 (clamp16 (dyFloor (diodeOf s i).f.y))))
  | 0x200205 => n (s.pow.energy / 10 ^ 10)
  | 0x200302 => n (cntOf s 0x200302 / 10)
  | 0x200303 => some ((List.range 25).flatMap (fun i => i16 (clamp16 ((diodeOf s i).peak.getD 0))))
  | 0x200401 => n (flag s.pow.nvOpen)
  | 0x200402 => n s.pow.journal.length
  | 0x200403 => n s.pow.nvLost
  | _ => none

/-- The largest pre-FEC estimate of the latest windows, as FP32 (OD 0x3003.03). -/
def preFecWorst (s : State) : Nat :=
  let w := (List.range 64).foldl (fun m f =>
    let e := (fibOf s f).est
    let q := if e.2 = 0 then dyInt 0 else quotRef e.1 e.2
    if dyLt m q then q else m) (dyInt 0)
  (roundTo 9 (.fin false w.m.natAbs w.e)).1

/-- The laser lines in the order engine, input, line. -/
def laserLines (enc : Line → Int) (s : State) : List Byte :=
  (List.range 128).flatMap (fun k => i16 (clamp16 (enc (lineOf s k))))

/-- Entries 0x3xxx. -/
def valOptics (s : State) (key : Nat) : Option (List Byte) :=
  let n (v : Nat) : Option (List Byte) := some (leBytes 8 v)
  let engs (f : Eng → Bool) : List Bool := (List.range 8).map (fun i => f (engOf s i))
  match key with
  | 0x300001 => n (flagBits (engs (fun e => decide (e.state = 0))))
  | 0x300002 => some ((List.range 8).flatMap (fun i => leBytes 1 (engOf s i).state))
  | 0x300003 => n (flagBits (engs (fun e => e.sel)))
  | 0x300004 => some ((List.range 64).flatMap (fun f => leBytes 1 (fibState s f)))
  | 0x300005 => some ((List.range 64).flatMap (fun f => leBytes 1 (fibOf s f).cls))
  | 0x300006 => some ((List.range 64).flatMap (fun f => i16 (clamp16 (fibOf s f).margin)))
  | 0x300007 => n (1600 * ((List.range 64).filter (fun f => decide (fibState s f = 0))).length)
  | 0x300204 => n s.optics.icEvery
  | 0x300303 => n (preFecWorst s)
  | 0x300307 => some (slotBytes 16 16 (fun i => s.optics.losses[i]?) lossBytes)
  | 0x300401 => some (laserLines (fun l => dyFloor l.f.y) s)
  | 0x300402 => some (laserLines (fun l => match l.baseline with
      | some b => dyFloor (dySub (dyInt b) l.f.y)
      | none => 0) s)
  | _ => none

/-- Entries 0x4xxx. -/
def valFabric (s : State) (key : Nat) : Option (List Byte) :=
  let n (v : Nat) : Option (List Byte) := some (leBytes 8 v)
  match key with
  | 0x400105 => n s.fabric.egress.toNat
  | 0x400106 => n s.fabric.skipUnused.toNat
  | 0x410001 => some ((List.range 64).flatMap (fun f => leBytes 1 (pairOf s f).level))
  | 0x410005 => n (flagBits ((List.range 64).map (fun f => (pairOf s f).latched)))
  | 0x410006 => some ((List.range 64).flatMap (fun f => leBytes 4 (pairOf s f).epoch.toNat))
  | _ => none

/-- Code of a segment in OD 0x5000.04. -/
def segCode (s : State) (q : Nat) : Nat :=
  if mget false s.store.segRetired q then 2 else if mget false s.store.segMarked q then 1 else 0

/-- Rows with at least one recorded failure (OD 0x5000.05). -/
def rowsRemapped (s : State) : Nat :=
  let rows := (s.nv.rowFails.map Prod.fst) ++ (s.pow.journal.filterMap (fun r => match r.kind with
    | .remap x _ => some x
    | _ => none))
  rows.eraseDups.length

/-- Entries 0x5xxx. -/
def valMemory (s : State) (key : Nat) : Option (List Byte) :=
  let n (v : Nat) : Option (List Byte) := some (leBytes 8 v)
  match key with
  | 0x500001 => n (capacity s)
  | 0x500002 => n (segsRetired s)
  | 0x500003 => n s.store.segMarked.length
  | 0x500004 => some ((List.range 512).flatMap (fun b => leBytes 1
      (packFields ((List.range 4).map (fun i => (segCode s (4 * b + i), 2 * i))))))
  | 0x500005 => n (rowsRemapped s)
  | 0x500006 => n (s.pow.journal.filter (fun r => match r.kind with
      | .remap _ _ => true
      | _ => false)).length
  | _ => none

/-- Arrays in a state (R162). -/
def arraysIn (s : State) (p : Nat → Bool) : List Bool := (List.range 1536).map (fun a => p (arrOf s a).state)

/-- Entries 0x6xxx. -/
def valCompute (s : State) (key : Nat) : Option (List Byte) :=
  let n (v : Nat) : Option (List Byte) := some (leBytes 8 v)
  match key with
  | 0x600001 => n (calState s)
  | 0x600002 => n s.frames.calId.toNat
  | 0x600003 => n s.frames.ordinal
  | 0x600004 => n s.frames.record
  | 0x600005 => n s.frames.leaps
  | 0x600006 => n s.frames.replays
  | 0x600007 => n s.frames.bound
  | 0x601001 => n (flag s.nv.gradeS)
  | 0x601002 => n (count (arraysIn s (fun v => decide (v < 2))))
  | 0x601003 => some (flagBytes (arraysIn s (fun v => decide (v < 2))) 192)
  | 0x601004 => some ((List.range 384).flatMap (fun b => leBytes 1
      (packFields ((List.range 4).map (fun i => ((arrOf s (4 * b + i)).state, 2 * i))))))
  | 0x601005 => n s.nv.factoryOff.length
  | 0x601006 => n (count (arraysIn s (fun v => decide (v = 3))))
  | 0x601008 => n (s.pow.journal.filter (fun r => match r.kind with
      | .retire _ => true
      | _ => false)).length
  | 0x601103 => n (count (arraysIn s (fun v => decide (v = 1))))
  | 0x602007 => n s.frames.vecPaced
  | 0x603103 => n s.frames.larder.effective
  | 0x603104 => n s.frames.larder.firstOver
  | 0x603105 => n s.frames.larder.plan
  | _ => none

/-- Entries 0x7xxx. -/
def valSecurity (s : State) (key : Nat) : Option (List Byte) :=
  let n (v : Nat) : Option (List Byte) := some (leBytes 8 v)
  match key with
  | 0x700001 => some (Config.sha3 Config.rootKey)
  | 0x700002 => some dikPublic
  | 0x700003 => some Config.dikCert
  | 0x700004 => some Config.rootKey
  | 0x700005 => some (akCert s)
  | 0x700006 => some Config.makerSignCert
  | 0x700007 => some (measurements s)
  | 0x700008 => n (bootFlags s)
  | 0x700301 => n s.nv.svnFloorMc.toNat
  | 0x700302 => n s.nv.svnFloorMsh.toNat
  | _ => none

/-- Entries 0x8xxx. -/
def valHealth (s : State) (key : Nat) : Option (List Byte) :=
  let n (v : Nat) : Option (List Byte) := some (leBytes 8 v)
  match key with
  | 0x800002 => some (slotBytes 1024 32 (fun i => s.health.log.find? (fun r => decide (r.seq % 1024 = i))) faultBytes)
  | 0x800003 => n s.health.seq
  | 0x800004 => some (slotBytes 64 32 (fun i => s.nv.persist[i]?) faultBytes)
  | 0x800005 => some (slotBytes 64 16 (fun i => correctedCodes[i]?)
      (fun c => leBytes 2 c ++ leBytes 6 0 ++ leBytes 8 (corrOf s c)))
  | 0x800104 => n s.boot.lastReset
  | 0x800105 => some (leBytes 8 s.nv.resetCold ++ leBytes 8 s.nv.resetWarm ++ leBytes 8 s.nv.resetSeason)
  | 0x800301 => n (score s.health.p)
  | 0x800302 => n s.health.band
  | 0x800303 => n s.health.p
  | 0x800306 => some ((reckInputs s).flatMap (leBytes 8))
  | _ => none

/-- Entries 0x9xxx. -/
def valTwin (s : State) (key : Nat) : Option (List Byte) :=
  let n (v : Nat) : Option (List Byte) := some (leBytes 8 v)
  let bitmap (m : SMap Bool) : List Byte := flagBytes ((List.range 2048).map (mget false m)) 256
  match key with
  | 0x900001 => n s.twin.state
  | 0x900002 => n s.twin.partnerSerial.toNat
  | 0x900003 => n s.twin.keepSealed
  | 0x900004 => n s.twin.mirrorSealed
  | 0x900005 => n s.twin.phase
  | 0x900006 => n (dirtyPages s)
  | 0x900404 => n (mget 0 s.health.cnt 0x900404 + (if s.twin.stall then (now s - s.twin.stallSince) / 1000 else 0))
  | 0x900007 => some (bitmap s.twin.dirtyR ++ bitmap s.twin.dirtyP)
  | 0x900102 => n (keepTotalOf s.twin.keep)
  | _ => none

/-- The mean of the latest offsets in ps, rounded down (OD 0xA000.08). -/
def meanOffset (s : State) : Int :=
  if s.time.thetas = [] then 0 else (s.time.thetas.foldl (· + ·) 0) / (s.time.thetas.length * 131072)

/-- Entries 0xAxxx. -/
def valTiming (s : State) (key : Nat) : Option (List Byte) :=
  let n (v : Nat) : Option (List Byte) := some (leBytes 8 v)
  match key with
  | 0xA00001 => n (now s)
  | 0xA00003 => n s.time.root.toNat
  | 0xA00004 => n s.time.gen.toNat
  | 0xA00005 => n s.time.state
  | 0xA00006 => n (s.time.parent.getD 0xFF)
  | 0xA00007 => n s.time.depth
  | 0xA00008 => some (leBytes 4 (meanOffset s % 2 ^ 32).toNat)
  | 0xA00009 => some ((List.range 11).flatMap (fun d =>
      leBytes 4 (if (upPairs s d).isEmpty then 0xFFFFFFFF else mget 0 s.time.delays d)))
  | 0xA0000B => n (if s.time.lastBeacon = 0 then 0 else (now s - s.time.lastBeacon) / 1000)
  | _ => none

/-! ## Counters (R541) -/

/-- The unit in which an entry reports its counter. -/
def odUnit (key : Nat) : Nat :=
  if [0x110106, 0x500206].contains key then 2 ^ 10
  else if [0x500205, 0x400401, 0x400402, 0x400403, 0x601104, 0x601105, 0x602003, 0x900401].contains key then 2 ^ 20 else 1

/-! ## Values -/

/-- The default of a writable entry (R447). -/
def odDefault (r : OdRow) : List Byte :=
  if r.key = 0x800305 then reckDefault.flatMap (leBytes 4)
  else if r.typ = 9 then List.replicate r.size 0 else leBytes r.size r.dflt

/-- The latest accepted value of a writable entry (R449). -/
def odStored (s : State) (r : OdRow) : List Byte :=
  match mget [] s.mgmt.latest r.key with
  | [] => odDefault r
  | v => v

/-- The value in force of a writable entry. -/
def odActive (s : State) (r : OdRow) : List Byte :=
  match mget [] s.mgmt.inForce r.key with
  | [] => odStored s r
  | v => v

/-- The chapter's value of a read-only entry. -/
def valChapter (s : State) (r : OdRow) : Option (List Byte) :=
  match r.index / 0x1000 with
  | 1 => valManagement s r.key
  | 2 => valPower s r.key
  | 3 => valOptics s r.key
  | 4 => valFabric s r.key
  | 5 => valMemory s r.key
  | 6 => valCompute s r.key
  | 7 => valSecurity s r.key
  | 8 => valHealth s r.key
  | 9 => valTwin s r.key
  | 10 => valTiming s r.key
  | _ => none

/-- What a read-only entry reads as. -/
def odFixed (s : State) (r : OdRow) : List Byte :=
  match valChapter s r with
  | some v => fillTo r.size v
  | none => leBytes r.size (cntOf s r.key / odUnit r.key)

/-- What an entry reads as: zeros where it is write-only (R448), the highest subindex at subindex 0 (R447). -/
def odValue (s : State) (r : OdRow) (active : Bool) : List Byte :=
  if r.sub = 0 then leBytes 1 r.dflt
  else if r.wo then List.replicate r.size 0
  else if r.wr.isNone then odFixed s r
  else if active then odActive s r else odStored s r

end Sys2Proof.Machine
end

