-- ==== Sys2Proof/Machine/Requests.lean ====
section
/-!
DEFINITION. Dictionary requests (13): who serves a request, in what role, and how it is answered (R448, R456 to R461).
Statuses are those of R459.
-/

set_option Elab.async false

namespace Sys2Proof.Machine

/-- Dictionary statuses (R459). -/
def odOk : Nat := 0
def odNoObject : Nat := 1
def odAccess : Nat := 2
def odRange : Nat := 3
def odSize : Nat := 4
def odSession : Nat := 5
def odUnavailable : Nat := 6
def odNvBusy : Nat := 7
def odMalformed : Nat := 8
def odBusy : Nat := 9
def odState : Nat := 10

/-- Send a response (R458). -/
def respondWith (q : OdReq) (status : Nat) (lost : Bool) (data : List Byte) (s : State) : State :=
  { s with out := { s.out with od := s.out.od ++
    [{ via := q.via, tag := q.tag, session := q.session, status := status, overrun := lost, length := data.length, data := data }] } }

/-- Send a response with no record lost. -/
def respond (q : OdReq) (status : Nat) (data : List Byte) (s : State) : State := respondWith q status false data s

/-- Who serves a request: the core (false) while it answers; else Vigil (true), on the I3C ports only (R456). -/
def serverOf (s : State) (v : Via) : Option Bool :=
  if s.boot.mcRuns then some false
  else match v with
    | .i3cA | .i3cB => if s.pow.state = .off then none else some true
    | _ => none

/-- Vigil serves the identity reads alone: no manifest copy was accepted at the latest start (R511). -/
def identityOnly (s : State) : Bool := decide (s.boot.bootFail = 0xA011 ∨ s.boot.bootFail = 0xA012)

/-- The open session that a request names, bound to its endpoint and its server (R457, R461). -/
def sessionOf (s : State) (q : OdReq) (vigil : Bool) : Option Sess :=
  s.mgmt.sessions.find? (fun x => decide (x.num = q.session.toNat ∧ x.via = q.via ∧ x.byVigil = vigil))

/-- The role of a request and the fingerprint of its key: session 0 is anonymous; none for a session that is not open. -/
def roleOf (s : State) (q : OdReq) (vigil : Bool) : Option (Role × List Byte) :=
  if q.session = 0 then some (.anonymous, List.replicate 32 0)
  else match sessionOf s q vigil with
    | some x => if x.proven then some (x.role, x.keyFp) else none
    | none => none

/-- A role ranks at or above another (R448). -/
def rankAtLeast (r need : Role) : Bool := decide (roleRank need ≤ roleRank r)

/-- A malformed request is answered, logged and counted (R459, R472). -/
def malformed (q : OdReq) (s : State) : State := respond q odMalformed [] (raise 0xB001 0 (bump 0x110005 1 s))

/-- Serve a request: its form first, then what Vigil answers, then its session (R456, R459). `act` is given whether Vigil
serves, the role and the key's fingerprint. -/
def serve (q : OdReq) (vigilOk : State → Bool) (act : Bool → Role → List Byte → State → State) (s : State) : State :=
  match serverOf s q.via with
  | none => s
  | some vigil =>
    if q.bad then malformed q s
    else if vigil && !vigilOk s then respond q odUnavailable [] s
    else match roleOf s q vigil with
      | none => respond q odSession [] s
      | some (r, fp) => act vigil r fp s

/-! ## Updates end with their session (R470) -/

/-- A firmware update ends with 0xB004; a component being downloaded is left invalid in its inactive slot. -/
def cancelUpdate (s : State) : State :=
  postEvent 4 0 0 0 0 (raise 0xB004 s.mgmt.fw.component { tearUpdate s with mgmt := { s.mgmt with fw := {} } })

/-- The session of a firmware update in progress is open. -/
def updateHeld (s : State) : Bool := s.mgmt.sessions.any (fun x => decide (x.num = s.mgmt.fw.session) && x.proven)

/-- An update whose session has closed is cancelled (R470). -/
def settleUpdate (s : State) : State :=
  if s.mgmt.fw.state = 0 ∨ s.mgmt.fw.state = 6 ∨ updateHeld s then s else cancelUpdate s

/-- Sessions close, each with its event (R462), and an update of one of them ends. -/
def closeWhere (p : Sess → Bool) (s : State) : State := settleUpdate (closeSessions p s)

/-! ## Reading (R458, R464) -/

/-- Vigil answers reads of this entry (R456, R482). -/
def vigilReads (key : Nat) (s : State) : Bool :=
  (decide (0x100001 ≤ key) && decide (key ≤ 0x100010)) ||
    (!identityOnly s && [0x200001, 0x200002, 0x200003, 0x200004, 0x200201, 0x200202, 0x200204].contains key)

/-- READ: bytes of an entry from an offset (R458). -/
def odRead (q : OdReq) (index sub : Nat) (active : Bool) (offset length : Nat) (s : State) : State :=
  serve q (vigilReads (odKey index sub)) (fun _ role _ s =>
    match odRow index sub with
    | none => respond q odNoObject [] s
    | some r =>
      if rankAtLeast role r.rd then
        let v := odValue s r active
        if v.length ≤ offset then respond q odSize [] s
        else respond q odOk (slice v offset (min 8168 (if length = 0 then v.length else length))) s
      else respond q odNoObject [] s) s

/-- The code of a role (R458). -/
def roleByte (r : Option Role) : Nat :=
  match r with
  | some r => roleRank r
  | none => 0xFF

/-- The 32 bytes that INFO returns (R458). -/
def infoBytes (r : OdRow) : List Byte :=
  let num := decide (r.typ ≤ 7)
  leBytes 1 r.typ ++ leBytes 1 (roleByte (some r.rd)) ++ leBytes 1 (roleByte r.wr) ++ leBytes 1 r.apply ++ leBytes 4 r.size ++
    leBytes 8 (if num then r.dflt else 0) ++ leBytes 8 (if num then r.lo else 0) ++ leBytes 8 (if num then r.hi else 0)

/-- INFO: an entry's type, roles, apply rule and range (R458). -/
def odInfo (q : OdReq) (index sub : Nat) (s : State) : State :=
  serve q (fun _ => false) (fun _ role _ s =>
    match odRow index sub with
    | none => respond q odNoObject [] s
    | some r => if rankAtLeast role r.rd then respond q odOk (infoBytes r) s else respond q odNoObject [] s) s

/-- Every name of the dictionary in ascending order, subindex 0 included. -/
def odNames : List Nat :=
  odRows.foldr (fun r l => if r.sub = 1 then odKey r.index 0 :: r.key :: l else r.key :: l) []

/-- LIST: the names readable by the role from a start on, at most 1,024 (R458). -/
def odList (q : OdReq) (start : Nat) (s : State) : State :=
  serve q (fun _ => false) (fun _ role _ s =>
    let names := odNames.filter (fun k => decide (start ≤ k) && match odRow (k / 256) (k % 256) with
      | some r => rankAtLeast role r.rd
      | none => false)
    respond q odOk ((names.take 1024).flatMap (leBytes 4)) s) s

/-- An event record's 24 bytes (R462). -/
def eventBytes (e : Event) : List Byte :=
  leBytes 8 e.seq ++ leBytes 8 e.time.toNat ++ leBytes 1 e.kind ++ leBytes 1 e.sev ++ leBytes 2 e.code ++ leBytes 2 e.index ++
    leBytes 1 e.sub ++ leBytes 1 0

/-- The full number of the first event wanted, from its low 32 bits: the one that lies nearest to the next number. -/
def eventStart (s : State) (low : Nat) : Nat :=
  let next := s.mgmt.eventSeq
  let c := next / 2 ^ 32 * 2 ^ 32 + low
  if next < c then (if 2 ^ 32 ≤ c ∧ 2 ^ 31 ≤ c - next then c - 2 ^ 32 else c) else c

/-- EVENT_READ: at most 64 records from a number on; the first read after held records were lost reports it too (R464, R521). -/
def odEvents (q : OdReq) (low : Nat) (s : State) : State :=
  serve q (fun _ => false) (fun _ role _ s =>
    if rankAtLeast role .operator then
      let start := eventStart s low
      let oldest := (s.mgmt.events.head?.map (·.seq)).getD s.mgmt.eventSeq
      let l := (s.mgmt.events.filter (fun e => decide (start ≤ e.seq))).take 64
      respondWith q odOk (decide (start < oldest) || s.boot.heldLost) (l.flatMap eventBytes)
        { s with boot := { s.boot with heldLost := false } }
    else respond q odAccess [] s) s

end Sys2Proof.Machine
end

