-- ==== Sys2Proof/Machine/TimeSync.lean ====
section
/-!
DEFINITION. The Almanac's commands (09): requests and responses, lock, beacons, root claims, holdover; and slice records (10).
-/

set_option Elab.async false

namespace Sys2Proof.Machine

/-! ## Messages (R343, R344) -/

/-- The directions with a fibre in service. -/
def liveDirs (s : State) : List Nat := (List.range 11).filter (fun d => !(upPairs s d).isEmpty)

/-- Send a time message on a direction, on VC5 (R343). -/
def sendTime (m : TimeMsg) (d : Nat) (s : State) : State := sendDir d 5 (.time m) s

/-- A time message of this package. -/
def timeMsg (s : State) (kind : Nat) : TimeMsg :=
  { kind := BitVec.ofNat 8 kind, depth := BitVec.ofNat 8 (if s.time.state = 4 then 0 else s.time.depth), root := s.time.root
    gen := s.time.gen, t1 := 0, t2 := 0, t3 := 0 }

/-- TIME_REQUEST_TICK: a request on the lowest in-service slot of every direction (R344). -/
def execTimeRequestTick (s : State) : Host.Outcome State Fault Refusal :=
  .next (
    if s.boot.hub then
      forEach (liveDirs s) (sendTime { timeMsg s 1 with t1 := now s * 65536 }) s
    else s)

/-- TIME_REQUEST: a request is answered with the stamps of its arrival and of the answer (R344), in units of 2^-16 ns. -/
def execTimeRequest (f : PairNo) (m : TimeMsg) (arrived sent : Nat) (s : State) : Host.Outcome State Fault Refusal :=
  .next (
    if s.boot.hub then
      enqueue f.val 5 (.time { timeMsg s 2 with t1 := m.t1, t2 := arrived, t3 := sent }) (freeSlot f.val 5 s)
    else s)

/-- The compensation of a pair in ps (OD 0xA001.01). -/
def asymOf (s : State) (f : Nat) : Int := signed 16 (fieldAt (odBlob s 0xA00101 128) (2 * f) 2)

/-- θ of one exchange in units of 2^-17 ps: 2 θ in 2^-16 ns is (T2 - T1) - (T4 - T3) + a (R344). -/
def thetaOf (s : State) (f : Nat) (m : TimeMsg) (t4 : Nat) : Int :=
  1000 * (((m.t2 : Int) - m.t1) - ((t4 : Int) - m.t3)) + 65536 * asymOf s f

/-- The one-way delay of one exchange in ns, rounded down (R344). -/
def delayOf (s : State) (f : Nat) (m : TimeMsg) (t4 : Nat) : Nat :=
  ((1000 * (((m.t2 : Int) - m.t1) + ((t4 : Int) - m.t3)) - 65536 * asymOf s f) / (1000 * 131072)).toNat

/-- One nanosecond in the units of θ. -/
def thetaNs : Int := 1000 * 131072

/-- The lock and its limits after an exchange with the parent (R345). -/
def judgeTheta (d : Nat) (t : Int) (s : State) : State :=
  let good := decide (t.natAbs ≤ thetaNs.natAbs)
  let goods := if good then min 16 (s.time.goods + 1) else 0
  let s := { s with time := { s.time with
    goods := goods, thetas := (t :: s.time.thetas).take 8
    state := if 16 ≤ goods ∧ (s.time.state = 1 ∨ s.time.state = 3) then 2 else s.time.state } }
  if s.time.state = 2 then
    let wide := decide (4 * thetaNs.natAbs < t.natAbs)
    let far := decide (8 * thetaNs.natAbs < t.natAbs)
    let w0 := s.time.offAdvised
    let f0 := s.time.offFatal
    let s := { s with time := { s.time with offAdvised := wide, offFatal := far } }
    let s := onlyIf (wide && !w0) (raiseWith 0xC004 none d [t.natAbs]) s
    onlyIf (far && !f0) (raiseWith 0xC005 none d [t.natAbs]) s
  else s

/-- TIME_RESPONSE: T4 is `arrived` (R344). Every direction's delay is kept; an exchange with the parent steers and locks
(R345). While it acquires before Ready the package steps its Almanac once to its parent's value (R342). -/
def execTimeResponse (f : PairNo) (m : TimeMsg) (arrived : Nat) (s : State) : Host.Outcome State Fault Refusal :=
  .next (
    if s.boot.hub then
      let s := freeSlot f.val 5 s
      let d := dirOf f.val
      let s := { s with time := { s.time with delays := mset 0 s.time.delays d (delayOf s f.val m arrived) } }
      let t := thetaOf s f.val m arrived
      if s.time.parent = some d ∧ m.gen = s.time.gen then
        let s := { s with time := { s.time with
          lastResp := now s, state := if s.time.state = 3 then 1 else s.time.state, holdRaised := false } }
        if s.time.state = 1 ∧ s.time.stepped = false ∧ s.boot.ready = false then
          let alm := s.time.alm + BitVec.ofInt 64 (t.fdiv thetaNs)
          resumeCalends { s with time := { s.time with
            alm := alm, stepped := true, thetas := [], goods := 0, lastResp := alm.toNat, lastBeacon := alm.toNat } }
        else if s.time.state = 1 ∨ s.time.state = 2 then judgeTheta d t s else s
      else s
    else s)

/-! ## Beacons and the root (R343, R347) -/

/-- BEACON_TICK: the root sends a beacon in every direction (R343). -/
def execBeaconTick (s : State) : Host.Outcome State Fault Refusal :=
  .next (
    if s.boot.hub ∧ s.time.state = 4 then
      forEach (liveDirs s) (sendTime (timeMsg s 3)) { s with time := { s.time with lastBeacon := now s } }
    else s)

/-- Steps from a lost root's key to a key, in coordinate order (R347). -/
def rankOf (lost key : Nat) : Nat := (key % 16384 + 16384 - lost % 16384) % 16384

/-- A root of another generation, or the winner of two of one generation, is taken over (R347); each succession is 0xC001. -/
def adoptRoot (d : Nat) (gen : U32) (root : U16) (s : State) : State :=
  let known := s.time.parent.isSome || decide (s.time.state = 4) || decide (s.time.gen ≠ 0)
  let lost := if gen = s.time.gen then s.time.lostRoot else s.time.root
  let s := { s with time := { s.time with
    gen := gen, root := root, lostRoot := lost, heard := [], parent := none, myRank := none
    state := if s.time.state = 4 then 1 else s.time.state, stepped := s.time.stepped || decide (s.time.state = 4)
    goods := 0 } }
  onlyIf known (raiseWith 0xC001 none d [root.toNat]) s

/-- A message of this generation and root prevails over what the package follows (R347). -/
def prevails (s : State) (m : TimeMsg) : Bool :=
  decide (s.time.gen.toNat < m.gen.toNat) || (decide (m.gen = s.time.gen) && decide (m.root ≠ s.time.root) &&
    decide (rankOf s.time.lostRoot.toNat m.root.toNat < rankOf s.time.lostRoot.toNat s.time.root.toNat))

/-- The parent: the direction of least depth with a fibre in service, ties to the lowest code (R343). -/
def chooseParent (s : State) : Option Nat :=
  ((liveDirs s).filter (fun d => decide (mget 0 s.time.heard d ≠ 0))).foldl (fun b d =>
    match b with
    | none => some d
    | some c => if mget 0 s.time.heard d < mget 0 s.time.heard c then some d else some c) none

/-- BEACON: it sets or renews the parent, and is passed on with this package's depth when the parent sent it (R343). -/
def execBeacon (f : PairNo) (m : TimeMsg) (s : State) : Host.Outcome State Fault Refusal :=
  .next (
    if s.boot.hub then
      let s := freeSlot f.val 5 s
      let d := dirOf f.val
      let s := if prevails s m then adoptRoot d m.gen m.root s else s
      if m.gen = s.time.gen ∧ m.root = s.time.root ∧ s.time.state ≠ 4 then
        let s := { s with time := { s.time with
          heard := mset 0 s.time.heard d (m.depth.toNat + 1), lastBeacon := now s } }
        let p := chooseParent s
        let depth := match p with
          | some d => mget 0 s.time.heard d
          | none => s.time.depth
        let fresh := decide (p ≠ s.time.parent)
        let deep := decide (44 < depth)
        let deep0 := s.time.deepAdvised
        let s := { s with time := { s.time with
          parent := p, depth := depth, deepAdvised := deep
          thetas := if fresh then [] else s.time.thetas, lastResp := if fresh then now s else s.time.lastResp } }
        let s := onlyIf (deep && !deep0) (raiseWith 0xC006 none d [depth]) s
        if p = some d then
          forEach ((liveDirs s).filter (fun e => decide (e ≠ d))) (sendTime (timeMsg s 3)) s
        else s
      else s
    else s)

/-- CLAIM: the higher generation prevails, and within one the smaller rank (R347); an adopted claim is passed on. -/
def execClaim (f : PairNo) (m : TimeMsg) (s : State) : Host.Outcome State Fault Refusal :=
  .next (
    if s.boot.hub then
      let s := freeSlot f.val 5 s
      if prevails s m then
        let s := adoptRoot (dirOf f.val) m.gen m.root s
        let s := { s with time := { s.time with lastBeacon := now s } }
        forEach ((liveDirs s).filter (fun e => decide (e ≠ dirOf f.val))) (sendTime m) s
      else s
    else s)

/-- Claim rootship with the next generation (R347): the package keeps its Almanac and starts sending beacons. -/
def claimRoot (s : State) : State :=
  let first := decide (s.time.gen = 0) && s.time.heard.isEmpty
  let own := BitVec.ofNat 16 (ownKey s)
  let r := rankOf s.time.root.toNat own.toNat
  let s := { s with time := { s.time with
    lostRoot := s.time.root, gen := s.time.gen + 1, root := own, state := 4, parent := none, depth := 0, heard := []
    myRank := some r, stepped := true, lastBeacon := now s, goods := 0, thetas := [] } }
  let s := onlyIf (!first) (raiseWith 0xC001 none 0 [own.toNat]) s
  forEach (liveDirs s) (sendTime (timeMsg s 4)) s

/-- ROOT_CLAIM: with no beacon for 1 ms + 100 µs × r the package claims rootship (R347, R557). -/
def execRootClaim (s : State) : Host.Outcome State Fault Refusal :=
  .next (
    let r := rankOf s.time.root.toNat (ownKey s)
    if s.boot.hub ∧ s.time.state ≠ 0 ∧ s.time.state ≠ 4 ∧ s.fabric.coord.isSome ∧
        s.time.lastBeacon + 1000000 + 100000 * r ≤ now s then claimRoot s
    else s)

/-! ## Holdover (R346) -/

/-- HOLDOVER_ENTRY: no valid response from the parent for 256 µs (R346). -/
def execHoldoverEntry (s : State) : Host.Outcome State Fault Refusal :=
  .next (
    match s.time.parent with
    | none => s
    | some d =>
      if (s.time.state = 1 ∨ s.time.state = 2) ∧ s.time.lastResp + 256000 ≤ now s then
        raise 0xC002 d { s with time := { s.time with
          state := 3, holdSince := now s, parent := none, heard := mset 0 s.time.heard d 0, goods := 0, thetas := []
          holdRaised := false } }
      else s)

/-- HOLDOVER_TIMEOUT: holdover has lasted longer than `HOLDOVER_MAX` (R346). -/
def execHoldoverTimeout (s : State) : Host.Outcome State Fault Refusal :=
  .next (
    if s.time.state = 3 ∧ s.time.holdRaised = false ∧ s.time.holdSince + 1000000 * odNum s 0xA0000A 20 < now s then
      raise 0xC003 0 { s with time := { s.time with holdRaised := true } }
    else s)

/-! ## Slice records (R357, R528) -/

/-- The slice record of this package. -/
def ownSlice (s : State) : SliceRec :=
  { seasonId := s.fabric.seasonId, origin := BitVec.ofNat 16 s.fabric.origin.toNat, size := s.fabric.size
    splice := s.fabric.splice, coord := s.fabric.coord.getD 0, outOfService := s.boot.outOfService.isSome }

/-- Settings or a Z neighbour disagree: 0x6014, and no launch until the next Season reset (R357, R587). -/
def sliceDisagrees (ctx : Nat) (s : State) : State :=
  raise 0x6014 ctx (refuseLaunches 0x6014 s)

/-- SLICE_RECORD: a neighbour's record is compared with the own settings (R357); one marked out of service disagrees (R528). -/
def execSliceRecord (f : PairNo) (r : SliceRec) (s : State) : Host.Outcome State Fault Refusal :=
  .next (
    if s.boot.hub then
      let s := freeSlot f.val 5 s
      let own := ownSlice s
      if dirInside s (dirOf f.val) ∧ (r.seasonId ≠ own.seasonId ∨ r.origin ≠ own.origin ∨ r.size ≠ own.size ∨
          r.splice ≠ own.splice ∨ r.outOfService) then sliceDisagrees (dirOf f.val) s
      else s
    else s)

end Sys2Proof.Machine
end

