-- ==== Sys2Proof/Machine/Season.lean ====
section
/-!
DEFINITION. The Season reset and Ready (16, 17): the steps of R540, the settings that a Season takes into force, and the
first Season.
-/

set_option Elab.async false

namespace Sys2Proof.Machine

/-! ## Step 1: Marshals and their microcode (R522, R541) -/

/-- The pending Marshal microcode is verified again and loaded; a failure keeps the previous one (R522). -/
def loadMicrocode (s : State) : State :=
  if s.boot.mshPending then
    let slot := !activeSlot s 2
    let i := mshImage s slot
    let s := { s with boot := { s.boot with mshPending := false } }
    if imageValid s 2 i then
      let s := modImage 2 slot (fun i => { i with ready := false }) { s with boot := { s.boot with mshSlot := slot } }
      journalPut { kind := .activate 2 slot (if s.nv.svnFloorMsh.toNat ≤ i.svnFloor.toNat then i.svnFloor else s.nv.svnFloorMsh) } s
    else logWith 0xA032 none (flag slot) [2] (modImage 2 slot (fun i => { i with invalid := true, ready := false }) s)
  else s

/-- Every tile is reset with its clock and counts kept, and every tile buffer's content becomes undefined (R541). -/
def seasonTiles (s : State) : State :=
  freshen { s with
    tiles := []
    tkeep := mmapv {} (fun k => { k with buf := [], bufGen := 0 }) s.tkeep
    store := { s.store with bufGen := s.fresh + 1, waits := s.store.waits.filter (fun w => w.req.isNone) }
    fabric := { s.fabric with reqs := [] } }

/-! ## Step 2: segments (R258) -/

/-- The content of the withdrawn addresses is lost (R258). -/
def loseWithdrawn (s : State) : State :=
  let cap := capacity s
  storeKeep (fun a => decide (a < cap)) { s with store := { s.store with
    poison := s.store.poison.filter (fun c => decide (c.1 * 128 < cap)) } }

/-- Marked segments are retired, and their lines begin to migrate (R258). -/
def retireMarked (s : State) : State :=
  if s.store.segMarked = [] then s
  else
    let s := loseWithdrawn (retireSegments s)
    { s with store := { s.store with migrating := true } }

/-! ## Step 3: deferred values (R313, R352, R355, R396, R398, R449) -/

/-- The window period E (R313): `IC_EVERY`, or the smallest multiple of 8 above it that keeps the windows apart, with 0x4041. -/
def takeWindows (s : State) : State :=
  let every := odNum s 0x300201 4096
  let span := odNum s 0x300202 1000
  let fits (e : Nat) : Bool := decide (span * 1000 < (e / 8 - 1) * 2 ^ s.frames.k)
  if fits every then { s with optics := { s.optics with icEvery := every } }
  else
    let e := 8 * (span * 1000 / 2 ^ s.frames.k + 2)
    raise 0x4041 e { s with optics := { s.optics with icEvery := e } }

/-- The coordinate, lengths and slice of the Season (R352, R355). -/
def takeSlice (s : State) : State :=
  let k := odNum s 0x400001 0xFFFF
  { s with fabric := { s.fabric with
    coord := if k < 16384 then some (BitVec.ofNat 14 k) else s.fabric.coord
    ly := odNum s 0x400002 32, lz := odNum s 0x400003 64
    seasonId := BitVec.ofNat 64 (odNum s 0x400101 0), origin := BitVec.ofNat 14 (odNum s 0x400102 0)
    size := BitVec.ofNat 32 (odNum s 0x400103 0), splice := decide (odNum s 0x400104 0 = 1)
    rwtMode := decide (odNum s 0x400201 0 = 1), deadTimeout := odNum s 0x400301 64 } }

/-- The Keep table and the Mirror area of the Season (R396, R398); a new coordinate ends a detachment (R418). -/
def takeTwin (moved : Bool) (s : State) : State :=
  { s with twin := { s.twin with
    keep := keepEntries (odBlob s 0x900101 256), mirrorBase := odNum s 0x900201 0, mirrorSize := odNum s 0x900202 4294967296
    detached := s.twin.detached && !moved } }

/-- Arrays whose retirement a Maker has cleared are in service again, with no history (R155). -/
def clearRetired (s : State) : State :=
  { s with arrs := mmapv {} (fun a => if a.clear then {} else a) s.arrs }

/-- Every deferred value comes into force (R449). -/
def takeValues (s : State) : State :=
  let before := s.fabric.coord
  let s := { s with mgmt := { s.mgmt with inForce := s.mgmt.inForce.filter (fun x => decide (x.1 = 0x410101)) } }
  let s := takeSlice { s with frames := { s.frames with k := odNum s 0x600101 13 } }
  trimFar (clearRetired (takeTwin (decide (s.fabric.coord ≠ before)) (takeWindows (resumeCalends s))))

/-! ## Step 4: queues and meshes (R305, R316, R359) -/

/-- VC0 to VC3 of a pair are discarded, link notices apart, and the slots they held are freed (R359). -/
def dropQueues (p : Pair) : Pair :=
  let isLink (x : Bool × Payload) : Bool := match x.2 with
    | .link _ _ => true
    | _ => false
  (List.range 4).foldl (fun p v => { p with
    q := mset [] p.q v ((mget [] p.q v).filter isLink)
    d := mmod 0 p.d v (fun d => d + mget 0 p.b v)
    b := mset 0 p.b v 0
    ackDue := p.ackDue || decide (mget 0 p.b v ≠ 0) }) p

/-- Fabric queues are discarded, windows end, and every engine returns to its base setting. -/
def baseFabric (s : State) : State :=
  let s := { s with links := { s.links with
    pairs := mmapv {} dropQueues s.links.pairs, splits := s.links.splits.map (fun x => { x with queue := [] }) } }
  baseEngines (forEach (List.range 8) endWindow s)

/-! ## Step 5: egress, records, twin (R357, R358, R367, R400, R417) -/

/-- A skip axis of which a direction has no fibre in service is routed in single hops this Season (R367). -/
def takeSkips (s : State) : State :=
  let dead (d : Nat) : Bool := (upPairs s d).isEmpty
  let x := dead 4 || dead 5
  let y := dead 6 || dead 7
  let s := { s with fabric := { s.fabric with skipUnused := BitVec.ofNat 2 (flag x + 2 * flag y) } }
  onlyIf y (raise 0x6002 1) (onlyIf x (raise 0x6002 0) s)

/-- The egress filter (R358): the inside links, and none of a package out of service (R528). -/
def takeEgress (s : State) : State :=
  let inside := (List.range 10).filter (linkInside s (ownKey s))
  let bits := if s.boot.outOfService.isSome then 0 else (inside.map (fun d => 2 ^ d)).foldl (· + ·) 0
  { s with fabric := { s.fabric with egress := BitVec.ofNat 11 bits } }

/-- Some trained pair of a direction heard another neighbour at training (R357). -/
def farWrong (s : State) (d : Nat) : Bool :=
  (dirPairs d).any (fun f => match (pairOf s f).farCoord with
    | some c => decide ((pairOf s f).level ≠ 0) && decide (c.toNat ≠ neighbour s (ownKey s) d)
    | none => false)

/-- Slice records go out over every inside link; a neighbour that is not the expected one disagrees (R357). -/
def exchangeSlice (s : State) : State :=
  let inside := (List.range 10).filter (linkInside s (ownKey s))
  let s := forEach inside (fun d s => sendDir d 5 (.slice (ownSlice s)) s) s
  match inside.find? (farWrong s) with
  | some d => sliceDisagrees d s
  | none => s

/-- A slice member that is not Paired takes part with 0x7005 or refuses launches with 0x7004 (R417). -/
def judgeSolo (s : State) : State :=
  if inSlice s (ownKey s) ∧ s.twin.state ≠ 2 then
    if odNum s 0x900203 0 = 0 then twinFault 0x7005 s.twin.state [] s
    else twinFault 0x7004 s.twin.state [] (refuseLaunches 0x7004 s)
  else s

/-- The designated root claims with the next generation (R347). -/
def claimDesignated (s : State) : State :=
  if s.time.claimDue then
    let s := { s with time := { s.time with claimDue := false } }
    if odNum s 0xA00002 0 = ownKey s then claimRoot s else s
  else s

/-- What the last Season left is cleared: notices, refusals, the once-per-Season reports (R31, R430, R532, R587), and the counts since
the last Season reset of `FIB_STAT`, `LNK_STAT` and `TWIN_STAT` (R319, R348, R406, R419). -/
def clearSeason (s : State) : State :=
  { s with
    frames := { s.frames with
      haltedHeld := false, seen := [], kept := []
      refuse := s.boot.outOfService }
    boot := { s.boot with oosSeason := s.boot.outOfService.isSome }
    health := { s.health with corrLogged := [] }
    host := { s.host with goneLogged := [] }
    twin := { s.twin with lag := false, lagAdvised := false }
    dies := { s.dies with bundles := mmapv {} (fun b => { b with advised := false }) s.dies.bundles }
    optics := { s.optics with fibs := mmapv {} (fun x => { x with uncorr := 0 }) s.optics.fibs }
    links := { s.links with pairs := mmapv {} (fun p => { p with replays := 0 }) s.links.pairs } }

/-- The pages that an open piece has written are torn (R379). -/
def tearOpen (s : State) : State :=
  let pages := s.fabric.openPieces.flatMap (·.pages)
  tearPages pages { s with fabric := { s.fabric with openPieces := [] } }

/-- The Season's links and records: steps 4 and 5 of R540. -/
def startSeason (s : State) : State :=
  let s := takeEgress (takeSkips (baseFabric s))
  let s := computeBound (judgeSolo (exchangeSlice s))
  claimDesignated (onlyIf (!(upPairs s 10).isEmpty) sendPairing s)

/-- The first Season (R558): the steps of R540 from the third on. -/
def firstSeason (s : State) : State := startSeason (takeValues (clearSeason s))

/-- A Season reset (R540); steps 4 and 5 wait for a migration to end (R258). -/
def seasonReset (s : State) : State :=
  let s := retireMarked (tearOpen (seasonTiles (loadMicrocode s)))
  let s := takeValues (clearSeason s)
  let s := { s with
    boot := { s.boot with lastReset := 6 }
    nv := { s.nv with resetSeason := s.nv.resetSeason + 1 } }
  if s.store.migrating then s else startSeason s

/-- SEGMENT_MIGRATION_DONE: the lines of the retired segments have moved, and the Season starts (R258). -/
def execSegmentMigrationDone (s : State) : Host.Outcome State Fault Refusal :=
  .next (
    if s.store.migrating then startSeason { s with store := { s.store with migrating := false } } else s)

/-! ## Ready (R288, R557, R558) -/

/-- A lit and locked pair has trained, been parked or gone out of service (R558). -/
def pairSettled (s : State) (f : Nat) : Bool :=
  let p := pairOf s f
  let x := fibOf s f
  !(x.lit && x.locked) || p.parked || p.latched || p.outOfService || x.parked || (!p.training && decide (p.level ≠ 0))

/-- Every condition of Ready holds (R558). -/
def readyNow (s : State) : Bool :=
  s.boot.starting && decide (s.boot.step = 8) && !s.boot.blocked && s.boot.hub && decide (s.time.state = 2 ∨ s.time.state = 4) &&
    decide (((List.range 8).filter (fun n => decide ((engOf s n).state = 2))).length ≤ 1) &&
    (List.range 64).all (pairSettled s)

/-- READY: the package reports Ready and begins its first Season (R558). -/
def execReadyReport (s : State) : Host.Outcome State Fault Refusal :=
  .next (
    if readyNow s then
      let s := { s with boot := { s.boot with step := 9, starting := false, waiting := false, ready := true, odLive := true } }
      let s := firstSeason (setPower .ready s)
      forEach (List.range 8) (fun n s => autoCommission n true (autoCommission n false s)) s
    else s)

end Sys2Proof.Machine
end

