-- ==== Sys2Proof/Machine/OdRules.lean ====
section
/-!
DEFINITION. What the dictionary accepts (13): the range of each entry, the constraints between entries (R450), and the writes
that a chapter refuses in the package's present state.
-/

set_option Elab.async false

namespace Sys2Proof.Machine

/-! ## Ranges (R447, R450) -/

/-- 2 MiB divides a number. -/
def mib2 (v : Nat) : Bool := decide (v % 2 ^ 21 = 0)

/-- The latest accepted values of the Mirror area, put where the table of a Keep write is judged (R396). -/
def withMirror (s : State) : State :=
  { s with twin := { s.twin with mirrorBase := odLatest s 0x900201 0, mirrorSize := odLatest s 0x900202 4294967296 } }

/-- `SLICE_SIZE` against machine lengths (R355). -/
def sliceSizeOk (v ly lz : Nat) : Bool :=
  let x := v % 256
  let y := v / 256 % 256
  let z := v / 65536
  decide (v = 0) || (decide (1 ≤ x ∧ x ≤ 8) && decide (1 ≤ y ∧ y ≤ ly) && decide (1 ≤ z ∧ z ≤ lz))

/-- Every I16 of a list of 64 lies in ±5,000 (OD 0xA001.01). -/
def asymOk (v : List Byte) : Bool :=
  (List.range 64).all (fun f => decide ((signed 16 (fieldAt v (2 * f) 2)).natAbs ≤ 5000))

/-- The constraints that tables state between entries, and the shapes of single ones, on the latest accepted values (R450);
each is judged for the entries it names. -/
def constraintsOk (s : State) (key : Nat) : Bool :=
  let l (k d : Nat) : Nat := odLatest s k d
  match key with
  | 0x200101 | 0x200102 => decide (l 0x200101 60 ≤ l 0x200102 70)
  | 0x300101 | 0x300102 | 0x300103 | 0x300104 =>
    decide (l 0x300101 15 < l 0x300102 30 ∧ l 0x300102 30 < l 0x300103 45 ∧ l 0x300103 45 ≤ l 0x300104 60)
  | 0x300201 => decide (l 0x300201 4096 % 8 = 0)
  | 0x400002 => decide (l 0x400002 32 % 2 = 0) && sliceSizeOk (l 0x400103 0) (l 0x400002 32) (l 0x400003 64)
  | 0x400003 | 0x400103 => sliceSizeOk (l 0x400103 0) (l 0x400002 32) (l 0x400003 64)
  | 0x500101 => decide (l 0x500101 16 % 4 = 0)
  | 0x600101 | 0x600102 | 0x600103 =>
    decide (l 0x600102 10 ≤ l 0x600103 16 ∧ l 0x600102 10 ≤ l 0x600101 13 ∧ l 0x600101 13 ≤ l 0x600103 16)
  | 0x600104 | 0x600105 => decide (l 0x600105 4 ≤ l 0x600104 16)
  | 0x603102 => mib2 (l 0x603102 17179869184)
  | 0x900101 => keepOk (withMirror s) (keepEntries (mget [] s.mgmt.latest 0x900101))
  | 0x900201 => mib2 (l 0x900201 0)
  | 0x900202 => mib2 (l 0x900202 4294967296)
  | 0xA00101 => asymOk (mget [] s.mgmt.latest 0xA00101)
  | _ => true

/-- The keys of the Installer and of the Operator entries (R524). -/
def installerKeys : List Nat := (List.range' 0x700101 8)
def operatorKeyEntries : List Nat := (List.range' 0x700201 32)
def isKeyEntry (key : Nat) : Bool := installerKeys.contains key || operatorKeyEntries.contains key

/-- The public key that a key entry holds; none where it is empty (R519). -/
def enrolled (s : State) (key : Nat) : Option (List Byte) :=
  match mget [] s.mgmt.latest key with
  | [] => none
  | v => if fieldAt v 1312 1 % 2 = 1 then some (v.take 1312) else none

/-- The form of a key entry: a key with `VALID`, or all zeros; and the key is in neither table (R519). -/
def keyWriteOk (s : State) (v : List Byte) : Bool :=
  if v.all (fun b => decide (b = 0)) then true
  else decide (v.drop 1312 = (1 : Byte) :: List.replicate 31 0) &&
    !((installerKeys ++ operatorKeyEntries).any (fun k => decide (enrolled s k = some (v.take 1312))))

/-- The value lies in the entry's range and breaks no constraint. -/
def rangeOk (s : State) (r : OdRow) (data : List Byte) : Bool :=
  let v := leNat data
  let num := decide (9 ≤ r.typ) || decide (r.lo ≤ v ∧ v ≤ r.hi)
  if isKeyEntry r.key then keyWriteOk s data
  else if r.key = 0x300109 then num && decide (v % 128 < 64)
  else if r.key = 0x400001 then num || decide (v = 0xFFFF)
  else if r.key = 0x700303 then decide (odLatest s 0x700303 0 ≤ v)
  else num && constraintsOk { s with mgmt := { s.mgmt with latest := mset [] s.mgmt.latest r.key data } } r.key

/-! ## Refusals by state -/

/-- The engine and the input that a laser write names. -/
def laserOf (v : Nat) : Nat × Bool := (v % 8, decide (v / 8 % 2 = 1))

/-- The chapter refuses the write in the package's present state (STATE): R38, R155, R294, R342, R480, R482, R519, R539. -/
def stateRefuses (s : State) (role : Role) (key : Nat) (data : List Byte) : Bool :=
  let v := leNat data
  match key with
  | 0x120003 => s.mgmt.laneCommit
  | 0x200002 =>
    decide (s.pow.state = .latched) ||
      (decide (v = 1) && decide (s.pow.state = .ready ∨ s.pow.state = .run) && (calBusy s || decide (s.twin.phase ≠ 0)))
  | 0x300106 => !inputBelow s v (!(engOf s v).sel) (fadeA s)
  | 0x300107 =>
    let n := (laserOf v).1
    decide ((engOf s n).sel = (laserOf v).2) && !inputBelow s n (!(engOf s n).sel) (fadeB s)
  | 0x601007 => mget false s.nv.factoryOff v
  | 0x800101 => decide (v = 1) && calBusy s
  | 0xA0000C => decide (s.time.state ≠ 0)
  | k =>
    installerKeys.contains k && decide (v = 0) && (enrolled s k).isSome && decide (role ≠ .maker) &&
      decide ((installerKeys.filter (fun j => (enrolled s j).isSome)).length = 1)

end Sys2Proof.Machine
end

