-- ==== Sys2Proof/Machine/OdEffects.lean ====
section
/-!
DEFINITION. What an accepted dictionary write brings about beside its value (13): the actions of the write-only entries and
of the writable entries that act at once.
-/

set_option Elab.async false

namespace Sys2Proof.Machine

/-! ## Activation of firmware (R470, R471, R520, R522) -/

/-- The firmware update's state changes, with its event (R462). -/
def setFw (st : Nat) (s : State) : State :=
  postEvent 4 0 st 0 0 { s with mgmt := { s.mgmt with fw := { s.mgmt.fw with state := st } } }

/-- A ready image of the Marshal microcode becomes pending (R522). -/
def activateMsh (s : State) : State :=
  if (mshImage s (!activeSlot s 2)).ready then { s with boot := { s.boot with mshPending := true } } else s

/-- A ready image of the core is activated live (R520): it is verified again, and the core stops for it. -/
def activateMc (s : State) : State :=
  let slot := !activeSlot s 1
  let i := mcImage s slot
  if i.ready = false then s
  else if imageValid s 1 i then
    let s := stopCore { s with mgmt := { s.mgmt with fw := { s.mgmt.fw with state := 6 } } }
    { s with boot := { s.boot with actSlot := some slot, mcSlot := slot } }
  else raise 0xB004 1 s

/-- Activate every ready component, the Marshal microcode first, since the core's activation closes the dictionary. -/
def activateReady (s : State) : State := if s.boot.activating then s else activateMc (activateMsh s)

/-! ## Lasers and fibres (R288, R291, R294, R563) -/

/-- A planned switchover is due (R292). -/
def planSwitch (n : Nat) (release : Option Bool) (s : State) : State :=
  modEng n (fun e => { e with switchPend := true, pendSince := now s, releaseAfter := release, icSent := false }) s

/-- `LASER_RELEASE` (R294). -/
def releaseLaser (n : Nat) (sp : Bool) (s : State) : State :=
  if (engOf s n).sel = sp then planSwitch n (some sp) s else dropPin n sp s

/-- `LASER_RESTORE` (R294): the pin rises, and a new baseline is recorded at the next light. -/
def restoreLaser (n : Nat) (sp : Bool) (s : State) : State :=
  raisePin n sp (modEng n (fun e => if sp then { e with rebaseS := true } else { e with rebaseP := true }) s)

/-- `FIBRE_PARK` (R291, R321, R563): a parked pair is withdrawn; an unparked one, restored to service (R282), retrains and is
measured. -/
def parkFibre (f : Nat) (park : Bool) (s : State) : State :=
  if park then modFib f (fun x => { x with parked := true }) (withdraw f s)
  else
    let s := modFib f (fun x => { x with parked := false, fecOver := false, fecRetry := false, measureDue := true }) s
    startTraining f (modPair f (fun p => { p with parked := p.latched, outOfService := false, trainFails := 0 }) s)

/-- `COMMISSION`: baselines of the named inputs and their monitors (R288). -/
def commissionInputs (v : Nat) (s : State) : State :=
  forEach ((List.range 16).filter (bit v)) (fun i => recordBaseline (i / 2) (decide (i % 2 = 1)) none) s

/-! ## Keys (R519) -/

/-- Sessions proven with the key that an entry held before close. -/
def closeKey (old : Option (List Byte)) (s : State) : State :=
  match old with
  | some k => closeWhere (fun x => x.proven && decide (x.keyFp = Config.sha3 k)) s
  | none => s

/-! ## Power and resets (R95, R480, R539) -/

/-- Fibre `f` sends what it has to, until VC4 has nothing left to send or nothing can leave. -/
def drainTwin (f : Nat) : Nat → State → State
  | 0, s => s
  | k + 1, s =>
    if mget [] (pairOf s f).q 4 = [] ∧ (pairOf s f).resend = 0 then s
    else match turn f s with
      | some t => drainTwin f k t
      | none => s

/-- The flits that a pair has to send before its VC4 is empty. -/
def twinBacklog (s : State) (f : Nat) : Nat :=
  ((pairOf s f).q.map (fun x => x.2.length)).foldl (· + ·) 0 + (pairOf s f).resend + 1

/-- Enter Standby (R481): the departure notice leaves on every Twin fibre, the lasers go, the PCIe port stops, and the hub loses its
power; P is saved (R548). -/
def enterStandby (s : State) : State :=
  let s := departTwin (savePenalty s)
  let s := pcieStop (forEach (upPairs s 10) (fun f s => drainTwin f (twinBacklog s f) s) s)
  setPower .standby (clearVolatile s)

/-- `POWER_TARGET` is written (R480). -/
def powerTarget (v : Nat) (s : State) : State :=
  if v = 1 then
    if s.pow.state = .ready ∨ s.pow.state = .run ∨
        (s.pow.state = .standby ∧ s.boot.starting ∧ s.boot.blocked = false ∧ s.boot.bootBlocked = false) then enterStandby s
    else s
  else if s.pow.state = .standby ∧ s.pow.railsOk ∧ s.boot.starting = false ∧ s.boot.blocked = false ∧ s.boot.bootBlocked = false
    then beginStart s
  else s

/-- A Season reset is asked for (R539); one asked for while a larger or the same reset runs is absorbed (R542). -/
def askSeason (s : State) : State := if s.boot.ready ∧ s.store.migrating = false then seasonReset s else s

/-- A Tile reset is asked for: deferred with 0x1015 while a Calendar runs (R95). Between the completing Calend and the outcome no
Calendar is taken to run, although `CAL_STATE` still reads 3 or 4, and the reset is applied at once (DESIGN CHOICE, log entry
26). -/
def askTileReset (t : Nat) (s : State) : State :=
  match s.frames.run with
  | some r =>
    if r.completed.isSome ∨ (tileOf s t).st = 4 then tileResetNow t s
    else raiseTile 0x1015 t 0 (modTile t (fun x => { x with resetDue := true }) s)
  | none => tileResetNow t s

/-! ## Twin, time, coordinate (R342, R347, R352, R416, R418, R556) -/

/-- Lost becomes Solo, and the pair is formed afresh (R416). -/
def clearLost (s : State) : State :=
  if s.twin.state = 4 then
    let s := { s with twin := { s.twin with
      state := 0, partnerCoord := none, held := false, frozen := false, journal := [], markers := [], receiver := false
      source := false, mirrored := false, ownProt := false, phase := 0, dirtyR := [], dirtyP := [], flying := []
      partnerTable := [], sentRec := none, keepValid := false } }
    onlyIf (!(upPairs s 10).isEmpty) sendPairing s
  else s

/-- The first coordinate of a package is taken at once: start-up step 6 passes, with an event (R352, R556). -/
def firstCoord (s : State) : State := leaveStep6 (postEvent 2 0 (pstateCode s.pow.state) 0 0 s)

/-! ## The write's effect -/

/-- Set the levels' offer: pairs parked for want of a common level train again (R341). -/
def offerLevels (s : State) : State :=
  forEach (s.links.pairs.filter (fun x => x.2.levelPark)) (fun x s =>
    startTraining x.1 (modPair x.1 (fun p => { p with parked := p.latched, levelPark := false }) s)) s

/-- What an accepted write of an entry does. `old` is what the entry held before. -/
def odEffect (key : Nat) (data old : List Byte) (s : State) : State :=
  let v := leNat data
  match key with
  | 0x110503 => onlyIf (decide (v = 1)) activateReady s
  | 0x200002 => powerTarget v s
  | 0x300105 => commissionInputs v s
  | 0x300106 => planSwitch v none s
  | 0x300107 => releaseLaser (laserOf v).1 (laserOf v).2 s
  | 0x300108 => restoreLaser (laserOf v).1 (laserOf v).2 s
  | 0x300109 => parkFibre (v % 64) (decide (128 ≤ v)) s
  | 0x400001 => if old = leBytes 2 0xFFFF ∧ v < 16384 then firstCoord s else s
  | 0x410101 => onlyIf (decide (data ≠ old)) offerLevels s
  | 0x601007 => modArr v (fun a => { a with clear := decide (a.state = 3) }) s
  | 0x800101 => onlyIf (decide (v = 1)) askSeason s
  | 0x800102 => onlyIf (decide (v = 1)) (fun s => warmReset 4 (raise 0xD020 0 s)) s
  | 0x800103 => askTileReset v s
  | 0x800307 => onlyIf (decide (leNat old ≠ 0) && decide (v = 0)) (bandFault s.health.band) s
  | 0x900301 => { s with twin := { s.twin with detaching := some (decide (v = 1)) } }
  | 0x900302 => onlyIf (decide (v = 1)) clearLost s
  | 0xA00002 => { s with time := { s.time with claimDue := true } }
  | 0xA0000C => resumeCalends { s with time := { s.time with alm := BitVec.ofNat 64 v } }
  | k => if isKeyEntry k then closeKey (if fieldAt old 1312 1 % 2 = 1 then some (old.take 1312) else none) s else s

end Sys2Proof.Machine
end

