-- ==== Sys2Proof/Machine/OdWrite.lean ====
section
/-!
DEFINITION. The dictionary's WRITE (13): its checks, its audit entry, its value and its effect (R449, R450, R466, R468, R585),
the commands READ, WRITE, INFO, LIST, EVENT_READ, and the writes that have a row of their own.
-/

set_option Elab.async false

namespace Sys2Proof.Machine

/-- A write of the entry is audited: its write role is Installer or Maker (R466). -/
def isAudited (r : OdRow) : Bool := decide (r.wr = some .installer ∨ r.wr = some .maker)

/-- What becomes of a write by a role (R459): unreadable, read-only or beyond the role, of a wrong size, out of range, refused. -/
def writeStatus (s : State) (r : OdRow) (role : Role) (offset : Nat) (data : List Byte) : Nat :=
  if !rankAtLeast role r.rd then odNoObject
  else match r.wr with
    | none => odAccess
    | some w =>
      if !rankAtLeast role w then odAccess
      else if data.length ≠ r.size ∨ offset ≠ 0 then odSize
      else if !rangeOk s r data then odRange
      else if stateRefuses s role r.key data then odState
      else odOk

/-- What the journal record of an accepted audited write carries (R38, R155, R585). The spec gives OD 0x1200.03 a meaning for 1
only: a write of 0 is accepted and audited, and commits nothing (DESIGN CHOICE, log entry 25). -/
def recordKind (s : State) (r : OdRow) (data : List Byte) : JKind :=
  if r.key = 0x120003 then
    if leNat data = 1 then
      .laneMaps (((List.range 108).filter (fun b => (bundleOf s b).mapDiff)).map (fun b => (b, laneInUse s b)))
    else .auditOnly
  else if r.key = 0x601007 then .unretire (leNat data)
  else if r.wo then .auditOnly
  else .stored r.key data

/-- The audit entry of a write (R466). -/
def auditOf (s : State) (q : OdReq) (r : OdRow) (role : Role) (fp : List Byte) (status : Nat) (data : List Byte) : Audit :=
  { time := s.time.alm, index := r.index, sub := r.sub, role := roleRank role, status := status, via := q.via, keyFp := fp
    value := Config.sha3 data }

/-- The value is the latest accepted one; a deferred write leaves the old one in force (R449). A package that has never held a
coordinate takes the first at once (R352). -/
def takeValue (s : State) (r : OdRow) (data : List Byte) : State :=
  if r.wo then s
  else
    let deferred := decide (r.apply ≠ 0) || (decide (r.key = 0x400001) && decide (odStored s r ≠ leBytes 2 0xFFFF))
    let held := decide (mget [] s.mgmt.inForce r.key ≠ [])
    { s with mgmt := { s.mgmt with
      inForce := if deferred && !held then mset [] s.mgmt.inForce r.key (odStored s r) else s.mgmt.inForce
      latest := mset [] s.mgmt.latest r.key data
      mirror := mset [] s.mgmt.mirror r.key data, mirrorGen := s.mgmt.mirrorGen + 2 } }

/-- An accepted write: its value, its event (R462) and its effect. -/
def acceptWrite (r : OdRow) (data : List Byte) (s : State) : State :=
  let old := odStored s r
  let s := takeValue s r data
  let s := onlyIf (isAudited r) (postEvent 3 0 0 r.index r.sub) s
  odEffect r.key data old s

/-- WRITE, in the role of the request: an audited one is recorded before it is applied, or refused with NV_BUSY (R468). -/
def writeAs (q : OdReq) (r : OdRow) (role : Role) (fp : List Byte) (offset : Nat) (data : List Byte) (s : State) : State :=
  let status := writeStatus s r role offset data
  if isAudited r then
    if journalRoom s then
      let kind := if status = odOk then recordKind s r data else .auditOnly
      let commit := decide (status = odOk) && decide (r.key = 0x120003) && decide (leNat data = 1)
      let s := onlyIf commit (fun s => { s with mgmt := { s.mgmt with laneCommit := true } }) s
      let s := journalPut { kind := kind, audit := some (auditOf s q r role fp status data) } s
      let s := onlyIf (decide (status = odAccess ∨ status = odNoObject)) (raise 0xB002 r.key) s
      respond q status [] (onlyIf (decide (status = odOk)) (acceptWrite r data) s)
    else respond q odNvBusy [] { s with mgmt := { s.mgmt with auditRefused := s.mgmt.auditRefused + 1 } }
  else respond q status [] (onlyIf (decide (status = odOk)) (acceptWrite r data) s)

/-- Vigil takes writes of this entry (R482). -/
def vigilWrites (key : Nat) (s : State) : Bool := !identityOnly s && decide (key = 0x200002 ∨ key = 0x200003)

/-- WRITE (R450, R458). -/
def odWrite (q : OdReq) (index sub offset : Nat) (data : List Byte) (s : State) : State :=
  serve q (vigilWrites (odKey index sub)) (fun _ role fp s =>
    match odRow index sub with
    | none => respond q odNoObject [] s
    | some r => writeAs q r role fp offset data s) s

/-- A number as the value of an entry. -/
def odPut (q : OdReq) (index sub size v : Nat) (s : State) : Host.Outcome State Fault Refusal :=
  .next (odWrite q index sub 0 (leBytes size v) s)

/-! ## The dictionary's operations -/

/-- READ (R458). -/
def execReadEntry (q : OdReq) (index : U16) (sub : Byte) (active : Bool) (offset length : U32) (s : State) :
    Host.Outcome State Fault Refusal :=
  .next (odRead q index.toNat sub.toNat active offset.toNat length.toNat s)

/-- WRITE (R450). -/
def execWriteEntry (q : OdReq) (index : U16) (sub : Byte) (offset : U32) (data : List Byte) (s : State) :
    Host.Outcome State Fault Refusal :=
  .next (odWrite q index.toNat sub.toNat offset.toNat data s)

/-- INFO (R458). -/
def execInfoEntry (q : OdReq) (index : U16) (sub : Byte) (s : State) : Host.Outcome State Fault Refusal :=
  .next (odInfo q index.toNat sub.toNat s)

/-- LIST (R458). -/
def execListEntries (q : OdReq) (start : BitVec 24) (s : State) : Host.Outcome State Fault Refusal :=
  .next (odList q start.toNat s)

/-- EVENT_READ (R464). -/
def execEventRead (q : OdReq) (start : U32) (s : State) : Host.Outcome State Fault Refusal :=
  .next (odEvents q start.toNat s)

/-! ## Writes with a row of their own -/

/-- LANE_MAP_COMMIT: OD 0x1200.03 (R38). -/
def execLaneMapCommit (q : OdReq) (v : Byte) (s : State) : Host.Outcome State Fault Refusal := odPut q 0x1200 3 1 v.toNat s
/-- RETIRE_CLEAR: OD 0x6010.07 (R155). -/
def execRetireClear (q : OdReq) (a : U16) (s : State) : Host.Outcome State Fault Refusal := odPut q 0x6010 7 2 a.toNat s
/-- COMMISSION: OD 0x3001.05 (R288). -/
def execCommission (q : OdReq) (inputs : U16) (s : State) : Host.Outcome State Fault Refusal := odPut q 0x3001 5 2 inputs.toNat s
/-- LASER_RETURN: OD 0x3001.06 (R294). -/
def execLaserReturn (q : OdReq) (v : Byte) (s : State) : Host.Outcome State Fault Refusal := odPut q 0x3001 6 1 v.toNat s
/-- LASER_RELEASE: OD 0x3001.07 (R294). -/
def execLaserRelease (q : OdReq) (v : Byte) (s : State) : Host.Outcome State Fault Refusal := odPut q 0x3001 7 1 v.toNat s
/-- LASER_RESTORE: OD 0x3001.08 (R294). -/
def execLaserRestore (q : OdReq) (v : Byte) (s : State) : Host.Outcome State Fault Refusal := odPut q 0x3001 8 1 v.toNat s
/-- FIBRE_PARK: OD 0x3001.09 with bit 7 set (R291). -/
def execFibrePark (q : OdReq) (v : Byte) (s : State) : Host.Outcome State Fault Refusal :=
  odPut q 0x3001 9 1 (128 + v.toNat % 128) s
/-- FIBRE_UNPARK: OD 0x3001.09 with bit 7 clear (R563). -/
def execFibreUnpark (q : OdReq) (v : Byte) (s : State) : Host.Outcome State Fault Refusal :=
  odPut q 0x3001 9 1 (v.toNat % 128) s
/-- ALMANAC_SET: OD 0xA000.0C (R342). -/
def execAlmanacSet (q : OdReq) (v : U64) (s : State) : Host.Outcome State Fault Refusal := odPut q 0xA000 0x0C 8 v.toNat s
/-- COORD: OD 0x4000.01 (R352, R556). -/
def execCoordWrite (q : OdReq) (v : U16) (s : State) : Host.Outcome State Fault Refusal := odPut q 0x4000 1 2 v.toNat s
/-- TILE_CLOCK: OD 0x6001.04 (R70); the change is pending on every tile whose clock differs. -/
def execTileClock (q : OdReq) (v : Byte) (s : State) : Host.Outcome State Fault Refusal := odPut q 0x6001 4 1 v.toNat s
/-- CURRENT_LIMIT: OD 0x2001.01 (R483); L follows at once. -/
def execCurrentLimit (q : OdReq) (v : Byte) (s : State) : Host.Outcome State Fault Refusal := odPut q 0x2001 1 1 v.toNat s
/-- UNPAIR_RELEASE: OD 0x9003.01 is written 0 (R418). -/
def execUnpairRelease (q : OdReq) (s : State) : Host.Outcome State Fault Refusal := odPut q 0x9003 1 1 0 s
/-- UNPAIR_KEEP: OD 0x9003.01 is written 1 (R418). -/
def execUnpairKeep (q : OdReq) (s : State) : Host.Outcome State Fault Refusal := odPut q 0x9003 1 1 1 s
/-- LOST_CLEAR: OD 0x9003.02 (R416). -/
def execLostClear (q : OdReq) (v : Byte) (s : State) : Host.Outcome State Fault Refusal := odPut q 0x9003 2 1 v.toNat s
/-- FW_ACTIVATE: OD 0x1105.03 (R471). -/
def execFwActivate (q : OdReq) (v : Byte) (s : State) : Host.Outcome State Fault Refusal := odPut q 0x1105 3 1 v.toNat s
/-- KEY_ENROLMENT: a write of a key entry of OD 0x7001 or 0x7002 (R519). -/
def execKeyEnrolment (q : OdReq) (installer : Bool) (sub : Byte) (data : List Byte) (s : State) :
    Host.Outcome State Fault Refusal :=
  .next (odWrite q (if installer then 0x7001 else 0x7002) sub.toNat 0 data s)
/-- CERT_FLOOR: OD 0x7003.03 (R524). -/
def execCertFloor (q : OdReq) (v : U32) (s : State) : Host.Outcome State Fault Refusal := odPut q 0x7003 3 4 v.toNat s
/-- POWER_TARGET_STANDBY: OD 0x2000.02 is written 1 (R480). -/
def execPowerTargetStandby (q : OdReq) (s : State) : Host.Outcome State Fault Refusal := odPut q 0x2000 2 1 1 s
/-- POWER_TARGET_READY: OD 0x2000.02 is written 2 (R480). -/
def execPowerTargetReady (q : OdReq) (s : State) : Host.Outcome State Fault Refusal := odPut q 0x2000 2 1 2 s
/-- SEASON_RESET: OD 0x8001.01 (R539, R540). -/
def execSeasonReset (q : OdReq) (v : Byte) (s : State) : Host.Outcome State Fault Refusal := odPut q 0x8001 1 1 v.toNat s
/-- WARM_RESET: OD 0x8001.02 (R539). -/
def execWarmReset (q : OdReq) (v : Byte) (s : State) : Host.Outcome State Fault Refusal := odPut q 0x8001 2 1 v.toNat s
/-- TILE_RESET: OD 0x8001.03 (R95). -/
def execTileReset (q : OdReq) (v : U16) (s : State) : Host.Outcome State Fault Refusal := odPut q 0x8001 3 2 v.toNat s
/-- PROBATION: OD 0x8003.07 (R547). -/
def execProbationWrite (q : OdReq) (v : U16) (s : State) : Host.Outcome State Fault Refusal := odPut q 0x8003 7 2 v.toNat s

end Sys2Proof.Machine
end

