-- ==== Sys2Proof/Machine/Security.lean ====
section
/-!
DEFINITION. Sessions and authentication (15): the challenge exchange BEGIN, PROVE, END, the attestation report, and the timers
of sessions (R457, R461, R508, R509, R516 to R518).
-/

set_option Elab.async false

namespace Sys2Proof.Machine

/-- Serve a session operation: its form first, then what Vigil answers; its session is the operation's own matter. -/
def serveOp (q : OdReq) (vigilOk : State → Bool) (act : Bool → State → State) (s : State) : State :=
  match serverOf s q.via with
  | none => s
  | some vigil =>
    if q.bad then malformed q s
    else if vigil && !vigilOk s then respond q odUnavailable [] s
    else act vigil s

/-- Vigil opens sessions: a manifest copy has been accepted (R457, R511). -/
def vigilSessions (s : State) : Bool := !identityOnly s && manifestAccepted s

/-- The role that BEGIN names (R517). -/
def roleNamed (b : Byte) : Option Role :=
  match b.toNat with
  | 1 => some .operator
  | 2 => some .installer
  | 3 => some .maker
  | _ => none

/-- The endpoint is in lockout (R518). -/
def lockedOut (s : State) (v : Via) : Bool := mget false s.mgmt.lockout (viaCode v)

/-- No session is free for a BEGIN: 16 of the core's are open (R461), or Vigil holds one on the port (R457). -/
def noSessionFree (s : State) (v : Via) (vigil : Bool) : Bool :=
  if vigil then s.mgmt.sessions.any (fun x => x.byVigil && decide (x.via = v))
  else decide (16 ≤ (s.mgmt.sessions.filter (fun x => !x.byVigil)).length)

/-- The next session number that no session has, from 1 to 65,535. -/
def freeNum (s : State) : Nat :=
  (((List.range 20).map (fun i => (s.mgmt.nextSession + i - 1) % 65535 + 1)).find?
    (fun n => !s.mgmt.sessions.any (fun x => decide (x.num = n)))).getD 1

/-- A provisional session opens, with a fresh nonce (R517, R518). -/
def openProvisional (q : OdReq) (role : Role) (keyFp : List Byte) (vigil : Bool) (s : State) : State :=
  let n := freeNum s
  let nonce := fillTo 32 (Config.nonce s.fresh)
  let x : Sess :=
    { num := n, via := q.via, role := role, proven := false, nonce := nonce, keyFp := fillTo 32 keyFp, byVigil := vigil }
  let s := { s with mgmt := { s.mgmt with sessions := s.mgmt.sessions ++ [x], nextSession := n % 65535 + 1 } }
  respond q odOk (leBytes 2 n ++ leBytes 2 0 ++ nonce) (freshen s)

/-- BEGIN (R457, R461, R517, R518). -/
def odBegin (q : OdReq) (role : Byte) (keyFp : List Byte) (s : State) : State :=
  serveOp q vigilSessions (fun vigil s =>
    if lockedOut s q.via || noSessionFree s q.via vigil then respond q odBusy [] s
    else match roleNamed role with
      | none => respond q odRange [] s
      | some r => openProvisional q r keyFp vigil s) s

/-- BEGIN_SESSION. -/
def execBeginSession (q : OdReq) (role : Byte) (keyFp : List Byte) (s : State) : Host.Outcome State Fault Refusal :=
  .next (odBegin q role keyFp s)

/-! ## PROVE (R517, R518) -/

/-- The 74 bytes that a PROVE signs (R517). -/
def challenge (s : State) (x : Sess) : List Byte :=
  x.nonce ++ leBytes 8 s.nv.serial.toNat ++ leBytes 1 (viaCode x.via) ++ leBytes 1 (roleRank x.role) ++ x.keyFp

/-- The enrolled keys of a role (R519, R524). -/
def roleKeys (s : State) (r : Role) : List (List Byte) :=
  match r with
  | .operator => operatorKeyEntries.filterMap (enrolled s)
  | .installer => installerKeys.filterMap (enrolled s)
  | _ => []

/-- A key certificate of a `USE` to which the maker root is entitled verifies under it (R508, R509). -/
def rootCertOk (c : List Byte) (use : Nat) : Bool :=
  decide (c.length = 3812) && decide (fieldAt c 0 2 = 1) && decide (fieldAt c 2 1 = use) && decide (fieldAt c 3 1 = 0) &&
    decide (slice c 16 32 = Config.sha3 Config.rootKey) && Config.mldsaVerify Config.rootKey (c.take 1392) (c.drop 1392)

/-- A key certificate is accepted with `USE` 0x05, at or above `CERT_FLOOR` (R509). -/
def makerCertOk (s : State) (c : List Byte) : Bool := rootCertOk c 5 && decide (odNum s 0x700303 0 ≤ fieldAt c 12 4)

/-- The conditions of the session's role hold (R518). -/
def proofOk (s : State) (x : Sess) (sig cert : List Byte) : Bool :=
  decide (sig.length = 2420) &&
    match x.role with
    | .maker =>
      makerCertOk s cert && decide (Config.sha3 (slice cert 80 1312) = x.keyFp) &&
        Config.mldsaVerify (slice cert 80 1312) (challenge s x) sig
    | r => (roleKeys s r).any (fun k => decide (Config.sha3 k = x.keyFp) && Config.mldsaVerify k (challenge s x) sig)

/-- A session is dropped without an event: it was never open. -/
def dropSession (num : Nat) (s : State) : State :=
  { s with mgmt := { s.mgmt with sessions := s.mgmt.sessions.filter (fun x => decide (x.num ≠ num)) } }

/-- A PROVE failed (R518): the provisional number closes with 0xA020, and the eighth failure within 60 s locks the endpoint. -/
def proofFailed (v : Via) (num : Nat) (keyFp : List Byte) (s : State) : State :=
  let s := raiseWith 0xA020 none (viaCode v) [leNat keyFp] (bump 0x700401 1 (dropSession num s))
  let times := now s :: recent (now s) 60000000000 (mget [] s.mgmt.failures (viaCode v))
  let s := { s with mgmt := { s.mgmt with failures := mset [] s.mgmt.failures (viaCode v) times } }
  if 8 ≤ times.length ∧ lockedOut s v = false then
    raise 0xA021 (viaCode v) (bump 0x700402 1 { s with mgmt := { s.mgmt with
      lockout := mset false s.mgmt.lockout (viaCode v) true } })
  else s

/-- A session is proven, and opens with its event (R462, R518). -/
def openSession (num : Nat) (s : State) : State :=
  sessionEvent num { s with mgmt := { s.mgmt with
    sessions := s.mgmt.sessions.map (fun x => if x.num = num then { x with proven := true } else x) } }

/-- PROVE (R517, R518). -/
def odProve (q : OdReq) (sig cert : List Byte) (s : State) : State :=
  serveOp q vigilSessions (fun vigil s =>
    match sessionOf s q vigil with
    | none => respond q odSession [] s
    | some x =>
      if x.proven then respond q odSession [] s
      else if proofOk s x sig cert then respond q odOk [] (openSession x.num s)
      else respond q odAccess [] (proofFailed q.via x.num x.keyFp s)) s

/-- PROVE. -/
def execProve (q : OdReq) (sig cert : List Byte) (s : State) : Host.Outcome State Fault Refusal := .next (odProve q sig cert s)

/-- END closes the request's session (R461, R517); the anonymous session has nothing to close. -/
def odEnd (q : OdReq) (s : State) : State :=
  serveOp q vigilSessions (fun vigil s =>
    if q.session = 0 then respond q odOk [] s
    else match sessionOf s q vigil with
      | none => respond q odSession [] s
      | some x => respond q odOk [] (closeWhere (fun y => decide (y.num = x.num)) s)) s

/-- END_SESSION. -/
def execEndSession (q : OdReq) (s : State) : Host.Outcome State Fault Refusal := .next (odEnd q s)

/-! ## ATTEST (R515, R516) -/

/-- Bytes 0 to 4,067 of the attestation report (R516). -/
def reportBody (s : State) (nonce : List Byte) : List Byte :=
  leBytes 2 1 ++ leBytes 2 0 ++ leBytes 8 s.nv.serial.toNat ++ leBytes 8 (now s) ++ fillTo 32 nonce ++ measurements s ++
    leBytes 4 (mcImage s (slotOfMc s)).version.toNat ++ leBytes 4 (mshImage s (slotOfMsh s)).version.toNat ++
    leBytes 4 (manifestVersion s) ++
    leBytes 4 (packFields [(flag s.boot.fallback, 0), (flag s.boot.liveSince, 1), (flag (!s.pow.journal.isEmpty), 2)]) ++
    List.replicate 60 0 ++ akCert s

/-- The report with its signature by the attestation key in force. -/
def report (s : State) (nonce : List Byte) : List Byte :=
  let b := reportBody s nonce
  b ++ fillTo 2420 (Config.mldsaSign (akSeed s) b)

/-- ATTEST: from any session; Vigil answers UNAVAILABLE (R457, R516). -/
def odAttest (q : OdReq) (nonce : List Byte) (s : State) : State :=
  serve q (fun _ => false) (fun _ _ _ s => respond q odOk (report s nonce) s) s

/-- ATTEST. -/
def execAttest (q : OdReq) (nonce : List Byte) (s : State) : Host.Outcome State Fault Refusal := .next (odAttest q nonce s)

/-! ## Timers (R461, R518) -/

/-- SESSION_IDLE_TIMEOUT: OD 0x1102.02 seconds without a request close a session (R461). -/
def execSessionIdleTimeout (num : U16) (s : State) : Host.Outcome State Fault Refusal :=
  .next (closeWhere (fun x => x.proven && decide (x.num = num.toNat)) s)

/-- PROVISIONAL_SESSION_EXPIRY: 10 s after BEGIN (R518). -/
def execProvisionalSessionExpiry (num : U16) (s : State) : Host.Outcome State Fault Refusal :=
  .next (closeWhere (fun x => !x.proven && decide (x.num = num.toNat)) s)

/-- LOCKOUT_END: the 60 s of a lockout are over (R518). -/
def execLockoutEnd (v : Via) (s : State) : Host.Outcome State Fault Refusal :=
  .next { s with mgmt := { s.mgmt with lockout := mset false s.mgmt.lockout (viaCode v) false } }

end Sys2Proof.Machine
end

