-- ==== Sys2Proof/Machine/HostMgmt.lean ====
section
/-!
DEFINITION. The host's MGMT commands (12): a request message as bytes is read as R458 lays it out, served as one endpoint of the
dictionary, and answered in host memory (R443, R461).
-/

set_option Elab.async false

namespace Sys2Proof.Machine

/-! ## Messages as bytes (R458) -/

/-- The header and the operands of a request message. -/
structure Message where
  q : OdReq
  opc : Nat
  active : Bool
  index : Nat
  sub : Nat
  offset : Nat
  length : Nat
  data : List Byte
  deriving DecidableEq, Repr

/-- An operation that R458 and R517 define. -/
def opcKnown (opc : Nat) : Bool := [1, 2, 3, 4, 5, 0x10, 0x11, 0x12, 0x13].contains opc

/-- The message has a fault of form (R459): a wrong type, vendor or version, a reserved operation, a non-zero reserved bit, or
fewer bytes than its `LENGTH` says. -/
def messageBad (m : List Byte) : Bool :=
  let opc := fieldAt m 4 1
  let length := fieldAt m 20 4
  decide (slice m 0 4 ≠ [0x7E, 0x1F, 0x4B, 0x01]) || !opcKnown opc || decide (fieldAt m 5 1 ≠ 0) ||
    decide (4 ≤ fieldAt m 11 1) || decide (fieldAt m 15 1 ≠ 0) ||
    (decide (opc ≠ 1) && decide (m.length < 24 + length)) ||
    (decide (opc = 0x10) && decide (fieldAt m 25 3 ≠ 0))

/-- Read a request message of an endpoint. -/
def parseMessage (v : Via) (m : List Byte) : Message :=
  { q := { via := v, tag := BitVec.ofNat 16 (fieldAt m 6 2), session := BitVec.ofNat 16 (fieldAt m 8 2), bad := messageBad m }
    opc := fieldAt m 4 1, active := decide (fieldAt m 11 1 % 2 = 1), index := fieldAt m 12 2, sub := fieldAt m 14 1
    offset := fieldAt m 16 4, length := fieldAt m 20 4, data := (m.drop 24).take (fieldAt m 20 4) }

/-- Serve a message: the operation that its `OPC` names (R458, R517). -/
def serveMessage (x : Message) (s : State) : State :=
  match x.opc with
  | 0x02 => odWrite x.q x.index x.sub x.offset x.data s
  | 0x03 => odInfo x.q x.index x.sub s
  | 0x04 => odList x.q (x.offset % 2 ^ 24) s
  | 0x05 => odEvents x.q x.offset s
  | 0x10 => odBegin x.q (BitVec.ofNat 8 (fieldAt x.data 0 1)) (slice x.data 4 32) s
  | 0x11 => odProve x.q (x.data.take 2420) (x.data.drop 2420) s
  | 0x12 => odEnd x.q s
  | 0x13 => odAttest x.q (x.data.take 32) s
  | _ => odRead x.q x.index x.sub x.active x.offset x.length s

/-- The bytes of a response (R458): the request's header with `RSP`, `STATUS`, `OVERRUN` and `LENGTH`. -/
def responseBytes (m : List Byte) (r : OdResp) : List Byte :=
  [0x7E, 0x1F, 0x4B, 0x01] ++ slice m 4 1 ++ [0x01] ++ leBytes 2 r.tag.toNat ++ leBytes 2 r.session.toNat ++
    leBytes 1 r.status ++ leBytes 1 (fieldAt m 11 1 % 2 + 2 * flag r.overrun) ++ fillTo 3 (slice m 12 3) ++ [0x00] ++
    leBytes 4 (fieldAt m 16 4) ++ leBytes 4 r.length ++ r.data

/-! ## MGMT (R443) -/

/-- The command's request reaches the core: the response goes to `RSP`, cut to `RSP_LEN`, and the record follows (R443). -/
def runMgmt (cid : U32) (message : List Byte) (rsp rspLen : Nat) (s : State) : State :=
  let before := s.out.od
  let s := serveMessage (parseMessage .mgmt message) s
  match s.out.od.drop before.length with
  | [] => s
  | r :: _ =>
    let bytes := responseBytes message r
    let s := { s with out := { s.out with od := before } }
    if cmdOutstanding s cid then
      let s := hostOut (.write rsp (bytes.take rspLen)) s
      finishCmd cid (if rspLen < bytes.length then 6 else 0) 0 bytes.length 0 s
    else s

/-- MGMT commands that waited for `OD_LIVE` reach the core, in the order in which they were read. -/
def drainMgmt (s : State) : State :=
  if s.boot.odLive then
    forEach s.host.cmds (fun c s => match c.kind with
      | .mgmt message rsp rspLen => if s.boot.odLive && cmdOutstanding s c.cid then runMgmt c.cid message rsp rspLen s else s
      | _ => s) s
  else s

/-- What a step does when no command waits: a nanosecond passes, and waiting MGMT commands proceed (DESIGN CHOICE). -/
def idleStep (s : State) : State := drainMgmt (idleTick s)

/-- A MGMT command that passed the checks of R439 waits for the core, or is served at once. -/
def mgmtRead (i : Nat) (cid : U32) (message : List Byte) (rsp rspLen slot : Nat) (s : State) : State :=
  let s := holdCmd { cid := cid, ring := i, slot := slot, kind := .mgmt message rsp rspLen, pieces := [], unstable := false
                     aborted := false, code := 0 } s
  if s.boot.odLive then runMgmt cid message rsp rspLen s else s

/-- The lengths of R437. -/
def mgmtForm (reqLen rspLen : Nat) : Bool := decide (24 ≤ reqLen ∧ reqLen ≤ 8192 ∧ 24 ≤ rspLen ∧ rspLen ≤ 8192)

/-- MGMT: `message` holds the bytes at `REQ`, of which `REQ_LEN` are the request. -/
def execMgmt (h : SqHead) (_reqAddr : U64) (reqLen : U16) (rspAddr : U64) (rspLen : U16) (message : List Byte) (s : State) :
    Host.Outcome State Fault Refusal :=
  .next (submit h.ring.val h.cid (!h.reserved && mgmtForm reqLen.toNat rspLen.toNat) true
    (mgmtRead h.ring.val h.cid (fillTo reqLen.toNat message) rspAddr.toNat rspLen.toNat) s)

end Sys2Proof.Machine
end

