-- ==== Sys2Proof/Machine/Ports.lean ====
section
/-!
DEFINITION. The management ports (13) and firmware (13, 15): MCTP control messages, I3C addresses and interrupts, the BAR0 mirror,
PLDM firmware update, and the end of a live activation or restart of the core.
-/

set_option Elab.async false

namespace Sys2Proof.Machine

/-- Send a control or PLDM response. -/
def control (v : Via) (code : Nat) (data : List Byte) (s : State) : State :=
  { s with out := { s.out with ctl := s.out.ctl ++ [{ via := v, code := code, data := data }] } }

/-! ## MCTP control (R453) -/

/-- The endpoint answers MCTP control messages: an I3C port while Vigil runs, the host port while the core does and the link is up
(R453, R456). -/
def mctpAnswers (s : State) (v : Via) : Bool :=
  match v with
  | .i3cA | .i3cB => decide (s.pow.state ≠ .off)
  | .vdm => s.boot.mcRuns && s.host.linkUp
  | .mgmt => false

/-- Answer a control message where the endpoint answers. -/
def mctp (v : Via) (act : State → State) (s : State) : State := if mctpAnswers s v then act s else s

/-- The endpoint ID of a binding. -/
def endpointId (s : State) (v : Via) : Byte :=
  match v with
  | .i3cA => s.mgmt.eidA
  | .i3cB => s.mgmt.eidB
  | _ => s.mgmt.eidPcie

/-- Assign an endpoint ID. -/
def setEid (v : Via) (eid : Byte) (s : State) : State :=
  match v with
  | .i3cA => { s with mgmt := { s.mgmt with eidA := eid } }
  | .i3cB => { s with mgmt := { s.mgmt with eidB := eid } }
  | .vdm => { s with mgmt := { s.mgmt with eidPcie := eid } }
  | .mgmt => s

/-- The message types supported (R453). -/
def mctpTypes : List Byte := [0x00, 0x01, 0x7E]

/-- SET_ENDPOINT_ID: the bus owner assigns the binding's endpoint ID (R453). 0 and 0xFF are no endpoint's ID (PRESUMED, DSP0236). -/
def execSetEndpointId (v : Via) (eid : Byte) (s : State) : Host.Outcome State Fault Refusal :=
  .next (mctp v (fun s => if eid = 0 ∨ eid = 0xFF then control v 2 [] s else control v 0 [eid] (setEid v eid s)) s)

/-- GET_ENDPOINT_ID (R453). -/
def execGetEndpointId (v : Via) (s : State) : Host.Outcome State Fault Refusal :=
  .next (mctp v (fun s => control v 0 [endpointId s v] s) s)

/-- GET_MCTP_VERSION_SUPPORT (R453): a supported type, or 0xFF for the base protocol, is answered. -/
def execGetMctpVersionSupport (v : Via) (typ : Byte) (s : State) : Host.Outcome State Fault Refusal :=
  .next (mctp v (fun s => control v (if typ = 0xFF ∨ mctpTypes.contains typ then 0 else 0x80) [] s) s)

/-- GET_MESSAGE_TYPE_SUPPORT (R453). -/
def execGetMessageTypeSupport (v : Via) (s : State) : Host.Outcome State Fault Refusal :=
  .next (mctp v (control v 0 mctpTypes) s)

/-- GET_VENDOR_DEFINED_MESSAGE_SUPPORT (R453, R458): one set, Isakar's vendor ID. -/
def execGetVendorDefinedMessageSupport (v : Via) (selector : Byte) (s : State) : Host.Outcome State Fault Refusal :=
  .next (mctp v (fun s => if selector = 0 then control v 0 [0x1F, 0x4B] s else control v 2 [] s) s)

/-! ## I3C (R454, R463) -/

/-- Set the dynamic address of a port. -/
def setDyn (portB : Bool) (addr : BitVec 7) (s : State) : State :=
  let a : Option Byte := some (addr.zeroExtend 8)
  if portB then { s with mgmt := { s.mgmt with dynB := a } } else { s with mgmt := { s.mgmt with dynA := a } }

/-- ENTDAA: the controller assigns a dynamic address to a port by its provisional ID (R454). A port that has one keeps it. -/
def execEntdaa (portB : Bool) (addr : BitVec 7) (s : State) : Host.Outcome State Fault Refusal :=
  .next (
    let has := if portB then s.mgmt.dynB.isSome else s.mgmt.dynA.isSome
    if s.pow.state = .off ∨ has then s else setDyn portB addr s)

/-- The static address of a port for SETDASA (R454). -/
def staticAddr (s : State) (portB : Bool) : Nat := (if portB then 0x48 else 0x40) + s.boot.slot.toNat

/-- SETDASA: from the static address (R454). -/
def execSetdasa (portB : Bool) (static addr : BitVec 7) (s : State) : Host.Outcome State Fault Refusal :=
  .next (if s.pow.state = .off ∨ static.toNat ≠ staticAddr s portB then s else setDyn portB addr s)

/-- IN_BAND_INTERRUPT_ACKNOWLEDGE: the next event may raise another (R463). -/
def execInBandInterruptAcknowledge (portB : Bool) (s : State) : Host.Outcome State Fault Refusal :=
  .next (
    if portB then { s with mgmt := { s.mgmt with ibiPendB := false } } else { s with mgmt := { s.mgmt with ibiPendA := false } })

/-- IN_BAND_INTERRUPT_ENABLE (R463). -/
def execInBandInterruptEnable (portB on : Bool) (s : State) : Host.Outcome State Fault Refusal :=
  .next (
    if s.pow.state = .off then s
    else if portB then { s with mgmt := { s.mgmt with ibiB := on } } else { s with mgmt := { s.mgmt with ibiA := on } })

/-! ## The BAR0 mirror (R465) -/

/-- The entries that the mirror shows: those readable by the Operator role. -/
def mirrored (r : OdRow) : Bool := rankAtLeast .operator r.rd

/-- The mirror's entries in ascending order, subindex 0 of every index included. -/
def mirrorRows : List OdRow := (odNames.filterMap (fun k => odRow (k / 256) (k % 256))).filter mirrored

/-- The mirror's values now. -/
def mirrorValues (s : State) : SMap (List Byte) :=
  mirrorRows.foldl (fun m r => mset [] m r.key (odValue s r false)) []

/-- The core refreshes the mirror: `GEN` is odd while it does, so it advances by 2. -/
def refreshMirror (s : State) : State :=
  { s with mgmt := { s.mgmt with mirror := mirrorValues s, mirrorGen := s.mgmt.mirrorGen + 2, mirrorTime := s.time.alm } }

/-- MIRROR_REFRESH (R465). -/
def execMirrorRefresh (s : State) : Host.Outcome State Fault Refusal := .next (if s.boot.mcRuns then refreshMirror s else s)

/-! ## PLDM firmware update (R469 to R472, R513) -/

/-- Completion codes of PLDM (DSP0240, DSP0267; PRESUMED). -/
def pldmNotReady : Nat := 0x04
def pldmNotInUpdate : Nat := 0x80
def pldmAlreadyInUpdate : Nat := 0x81
def pldmOutOfRange : Nat := 0x82
def pldmWrongState : Nat := 0x84
def pldmUnable : Nat := 0x8A

/-- Serve a PLDM request: NOT_READY while Vigil answers (R456). -/
def pldm (v : Via) (act : State → State) (s : State) : State :=
  if v = .mgmt then s
  else match serverOf s v with
    | none => s
    | some true => control v pldmNotReady [] s
    | some false => act s

/-- Serve a request of the update in progress from its own endpoint, in one of the states that allow it. -/
def inUpdate (v : Via) (states : List Nat) (act : State → State) (s : State) : State :=
  pldm v (fun s =>
    if s.mgmt.fw.state = 0 ∨ s.mgmt.fw.via ≠ some v then control v pldmNotInUpdate [] s
    else if states.contains s.mgmt.fw.state then act s
    else control v pldmWrongState [] s) s

/-- QUERY_DEVICE_IDENTIFIERS: the PCI vendor and device IDs (R423, R470). -/
def execQueryDeviceIdentifiers (v : Via) (s : State) : Host.Outcome State Fault Refusal :=
  .next (pldm v (fun s => control v 0 (leBytes 2 0x1F4B ++ leBytes 2 (deviceId s)) s) s)

/-- GET_FIRMWARE_PARAMETERS: of each component its classification, identifier and active and ready versions (R469, R470). -/
def execGetFirmwareParameters (v : Via) (s : State) : Host.Outcome State Fault Refusal :=
  .next (pldm v (fun s =>
    let part (c : Nat) (now_ next : Image) : List Byte :=
      leBytes 2 0x000A ++ leBytes 2 c ++ leBytes 4 now_.version.toNat ++ leBytes 4 (if next.ready then next.version.toNat else 0)
    control v 0 (part 1 (mcImage s (activeSlot s 1)) (mcImage s (!activeSlot s 1)) ++
      part 2 (mshImage s (activeSlot s 2)) (mshImage s (!activeSlot s 2))) s) s)

/-- GET_STATUS: the state of the update and its progress (R470). -/
def execGetStatus (v : Via) (s : State) : Host.Outcome State Fault Refusal :=
  .next (pldm v (fun s => control v 0 (leBytes 1 s.mgmt.fw.state ++ leBytes 4 s.mgmt.fw.progress) s) s)

/-- An open Installer or Maker session of an endpoint. -/
def updaterSession (s : State) (v : Via) : Option Sess :=
  s.mgmt.sessions.find? (fun x => x.proven && decide (x.via = v) && !x.byVigil && rankAtLeast x.role .installer)

/-- REQUEST_UPDATE: one update at a time, from an endpoint with an open Installer or Maker session (R470). -/
def execRequestUpdate (v : Via) (s : State) : Host.Outcome State Fault Refusal :=
  .next (pldm v (fun s =>
    if s.mgmt.fw.state ≠ 0 then control v pldmAlreadyInUpdate [] s
    else match updaterSession s v with
      | none => control v pldmUnable [] s
      | some x =>
        control v 0 [] (setFw 1 { s with mgmt := { s.mgmt with fw := { via := some v, session := x.num } } })) s)

/-- PASS_COMPONENT_TABLE (R470). -/
def execPassComponentTable (v : Via) (components : List U16) (s : State) : Host.Outcome State Fault Refusal :=
  .next (inUpdate v [1] (fun s =>
    control v 0 [] { s with mgmt := { s.mgmt with fw := { s.mgmt.fw with table := components.map BitVec.toNat } } }) s)

/-- The largest image of a component: its header and its body (R513). -/
def imageMax (component : Nat) : Nat := 6400 + (if component = 1 then 2 ^ 22 else 2 ^ 20)

/-- UPDATE_COMPONENT: a component of the table passed is downloaded into the slot that is not active (R469, R470). -/
def execUpdateComponent (v : Via) (component : U16) (size : U32) (s : State) : Host.Outcome State Fault Refusal :=
  .next (inUpdate v [1, 5] (fun s =>
    let c := component.toNat
    if (c = 1 ∨ c = 2) ∧ s.mgmt.fw.table.contains c ∧ 6400 ≤ size.toNat ∧ size.toNat ≤ imageMax c then
      let s := modImage c (!activeSlot s c) (fun _ => {}) s
      control v 0 [] (setFw 2 { s with mgmt := { s.mgmt with
        fw := { s.mgmt.fw with component := c, size := size.toNat, bytes := [], progress := 0 } } })
    else control v pldmOutOfRange [] s) s)

/-- The image that bytes hold, with what its verification finds (R513). -/
def imageOf (b : List Byte) : Image :=
  let cert := slice b 64 3812
  let body := b.drop 6400
  let zeros (o n : Nat) : Bool := decide (slice b o n = List.replicate n 0)
  { component := BitVec.ofNat 16 (fieldAt b 0 2), version := BitVec.ofNat 32 (fieldAt b 4 4), svn := BitVec.ofNat 32 (fieldAt b 8 4)
    svnFloor := BitVec.ofNat 32 (fieldAt b 12 4)
    sigOk := rootCertOk cert 4 && Config.mldsaVerify (slice cert 80 1312) (b.take 3876) (slice b 3876 2420)
    cseq := BitVec.ofNat 32 (fieldAt cert 12 4)
    bodyOk := decide (fieldAt b 2 2 = 1) && zeros 52 12 && zeros 6296 104 && decide (fieldAt b 16 4 = body.length) &&
      decide (b.length ≤ imageMax (fieldAt b 0 2)) && decide (fieldAt b 12 4 ≤ fieldAt b 8 4) &&
      decide (Config.sha3 body = slice b 20 32)
    measure := Config.sha3 (b.take 6296), ready := false, invalid := false }

/-- Every byte of the component has come: it is verified, and is ready in its slot, or fails with 0xB004 (R470, R513). -/
def verifyComponent (s : State) : State :=
  let c := s.mgmt.fw.component
  let i := imageOf s.mgmt.fw.bytes
  let s := setFw 3 s
  if imageValid s c i then setFw 5 (setFw 4 (modImage c (!activeSlot s c) (fun _ => { i with ready := true }) s))
  else setFw 1 (raise 0xB004 c (modImage c (!activeSlot s c) (fun _ => { i with invalid := true }) s))

/-- Bytes that one RequestFirmwareData asks for (R470). -/
def requestBytes (v : Via) : Nat := if v = .vdm then 4096 else 1024

/-- REQUEST_FIRMWARE_DATA: data for the device's request arrive (R470). -/
def execRequestFirmwareData (v : Via) (data : List Byte) (s : State) : Host.Outcome State Fault Refusal :=
  .next (inUpdate v [2] (fun s =>
    let f := s.mgmt.fw
    let d := data.take (min (requestBytes v) (f.size - f.progress))
    let s := control v 0 [] { s with mgmt := { s.mgmt with fw := { f with bytes := f.bytes ++ d, progress := f.progress + d.length } } }
    if f.progress + d.length = f.size then verifyComponent s else s) s)

/-- ACTIVATE_FIRMWARE: the core live, the Marshal microcode at the next Season reset (R520, R522). -/
def execActivateFirmware (v : Via) (s : State) : Host.Outcome State Fault Refusal :=
  .next (inUpdate v [5] (fun s =>
    let s := activateReady (control v 0 [] s)
    if s.mgmt.fw.state = 6 then s else setFw 0 { s with mgmt := { s.mgmt with fw := {} } }) s)

/-- CANCEL_UPDATE_COMPONENT: the component's slot is left invalid, and the update goes on (R470). -/
def execCancelUpdateComponent (v : Via) (s : State) : Host.Outcome State Fault Refusal :=
  .next (inUpdate v [2, 3] (fun s => control v 0 [] (setFw 1 (tearUpdate s))) s)

/-- CANCEL_UPDATE (R470, R472). -/
def execCancelUpdate (v : Via) (s : State) : Host.Outcome State Fault Refusal :=
  .next (inUpdate v [1, 2, 3, 4, 5] (fun s => control v 0 [] (cancelUpdate s)) s)

/-- FW_UPDATE_TIMEOUT: the update agent has sent nothing for 60 s (R470). -/
def execFwUpdateTimeout (s : State) : Host.Outcome State Fault Refusal :=
  .next (if s.mgmt.fw.state = 0 ∨ s.mgmt.fw.state = 6 then s else cancelUpdate s)

/-! ## The core comes back (R520, R521, R534) -/

/-- A live activation ends well: the manifest is to record the slot and its floor, with 0xA030 (R518, R520). -/
def activationDone (slot : Bool) (s : State) : State :=
  let i := mcImage s slot
  let floor : U32 := if s.nv.svnFloorMc.toNat ≤ i.svnFloor.toNat then i.svnFloor else s.nv.svnFloorMc
  let s := modImage 1 slot (fun i => { i with ready := false }) s
  let s := journalPut { kind := .activate 1 slot floor } s
  let s := setFw 0 { s with
    boot := { s.boot with liveSince := true, actSlot := none }
    mgmt := { s.mgmt with fw := {} } }
  raiseWith 0xA030 none (flag slot) [1] (bump 0x700403 1 s)

/-- A launch that was validating begins its validation again (R534). -/
def restartValidation (s : State) : State :=
  match s.frames.held with
  | some c => if c.armed then s else { s with frames := { s.frames with held := some { c with readAt := now s } } }
  | none => s

/-- Records of launches that waited for `OD_LIVE` are written (R521). -/
def writeWaiting (s : State) : State :=
  forEach s.host.waitLive (fun x s => finishCmd x.2.cid x.2.status x.2.code.toNat x.2.detail0 x.2.detail1 s)
    { s with host := { s.host with waitLive := [] } }

/-- MC_LIVE: the new or restarted core closes Vigil's sessions (R457), rebuilds the mirror, posts the held events and sets
`OD_LIVE`; an activation is then committed (R520). -/
def execMcLive (s : State) : Host.Outcome State Fault Refusal :=
  .next (
    if s.boot.activating ∧ s.boot.mcStopped = false ∧ s.boot.hub then
      let s := postHeld (refreshMirror { s with boot := { s.boot with mcRuns := true, activating := false } })
      let s := closeSessions (fun x => x.byVigil) s
      let s := { s with boot := { s.boot with odLive := s.boot.ready || s.boot.blocked } }
      let s := writeWaiting (restartValidation s)
      let s := match s.boot.actSlot with
        | some slot => activationDone slot s
        | none => settleUpdate s
      drainMgmt s
    else s)

/-- LIVE_ACTIVATION_REVERT: the new core has not set `OD_LIVE` in time; the previous slot's core is started (R521). -/
def execLiveActivationRevert (s : State) : Host.Outcome State Fault Refusal :=
  .next (
    match s.boot.activating, s.boot.actSlot with
    | true, some slot =>
      let s := modImage 1 slot (fun i => { i with ready := false, invalid := true }) s
      raiseWith 0xA031 none (flag slot) [1] { s with
        boot := { s.boot with mcSlot := !slot, actSlot := none }
        mgmt := { s.mgmt with fw := {} } }
    | _, _ => s)

end Sys2Proof.Machine
end

