-- ==== Sys2Proof/Machine/HostPort.lean ====
section
/-!
DEFINITION. The host port (12): the PCIe link, the shared window and its page flags, the rings and their doorbells, host Transfers,
OWN, ABORT, and the registers the host writes.
-/

set_option Elab.async false

namespace Sys2Proof.Machine

/-! ## The link (R422, R424, R446) -/

/-- An outstanding command is a host Transfer. -/
def isTransfer (c : Cmd) : Bool :=
  match c.kind with
  | .xin .. | .xout .. => true
  | _ => false

/-- The Store range, the piece shift and the direction (true: into the Store) of a host Transfer. -/
def transferOf (c : Cmd) : Nat × Nat × Nat × Bool :=
  match c.kind with
  | .xin _ a n p => (a, n, p, true)
  | .xout _ a n p => (a, n, p, false)
  | _ => (0, 0, 12, false)

/-- The bus address in host memory that a host Transfer starts at. -/
def hostAddress (c : Cmd) : Nat :=
  match c.kind with
  | .xin host _ _ _ | .xout host _ _ _ => host
  | _ => 0

/-- The number of pieces of a host Transfer (R437). -/
def transferPieces (c : Cmd) : Nat := ceilDiv (transferOf c).2.1 (2 ^ (transferOf c).2.2.1)

/-- The bytes of one piece. -/
def hostPieceSize (c : Cmd) (p : Nat) : Nat :=
  let (_, n, sh, _) := transferOf c
  min (2 ^ sh) (n - p * 2 ^ sh)

/-- A piece of a host Transfer. -/
def hostPiece (c : Cmd) (p : Nat) : HPiece := mget {} c.pieces p

/-- A piece has moved all its bytes. -/
def hostPieceDone (c : Cmd) (p : Nat) : Bool := !(hostPiece c p).failed && decide ((hostPiece c p).got = hostPieceSize c p)

/-- A piece is final: done or failed. -/
def hostPieceFinal (c : Cmd) (p : Nat) : Bool := (hostPiece c p).failed || hostPieceDone c p

/-- Every unfinished piece of a host Transfer fails. -/
def failPieces (c : Cmd) : Cmd :=
  if isTransfer c then
    { c with pieces := (List.range (transferPieces c)).foldl (fun m p =>
        if hostPieceDone c p then m else mmod {} m p (fun x => { x with failed := true })) c.pieces }
  else c

/-- PCIE_LINK_DOWN: fault 0x8040; host Transfers fail at their unfinished pieces, and the steps of an FLR are due (R424). -/
def execPcieLinkDown (s : State) : Host.Outcome State Fault Refusal :=
  .next (
    if s.host.linkUp then
      let s := pcieDown s
      { s with host := { s.host with flrDue := true, cmds := s.host.cmds.map failPieces } }
    else s)

/-- PCIE_LINK_UP: the link trains, with 0x8001 below 64 GT/s x16 (R422), and the steps of an FLR follow a link-down (R424). -/
def execPcieLinkUp (gen : BitVec 3) (width : BitVec 5) (s : State) : Host.Outcome State Fault Refusal :=
  .next (
    if s.boot.hub ∧ s.host.perst ∧ s.host.linkUp = false ∧ 3 ≤ gen.toNat ∧ gen.toNat ≤ 6 ∧ [1, 2, 4, 8, 16].contains width.toNat then
      let s := { s with host := { s.host with linkUp := true, gen := gen.toNat, width := width.toNat } }
      let s := if s.host.flrDue then
          let s := hostInterfaceReset s
          { s with host := { s.host with flrDue := false } }
        else s
      onlyIf (!(decide (gen.toNat = 6) && decide (width.toNat = 16))) (logFault 0x8001 none 0) s
    else s)

/-- FUNCTION_LEVEL_RESET: a host-interface reset, with 0x8003 (R424). -/
def execFunctionLevelReset (s : State) : Host.Outcome State Fault Refusal :=
  .next (if s.host.linkUp then logFault 0x8003 none 0 (bump 0x110102 1 (hostInterfaceReset s)) else s)

/-- PCIE_CORRECTABLE_ERROR: counted as 0x8002 (R446). -/
def execPcieCorrectableError (s : State) : Host.Outcome State Fault Refusal :=
  .next (if s.boot.hub then corrected 0x8002 none 0 (bump 0x110101 1 s) else s)

/-- CONFIGURATION_REQUEST: Request Retry Status until the configuration space is ready (R424). -/
def execConfigurationRequest (s : State) : Host.Outcome State Fault Refusal :=
  .next (if s.boot.hub then hostOut (.config s.host.cfgReady) s else s)

/-! ## The shared window (R426 to R431) -/

/-- A TRANSFER_OUT has a source page that is not host-owned (R441). -/
def outUnstable (s : State) (c : Cmd) : Bool :=
  match c.kind with
  | .xout _ a n _ => (pagesOf a n).any (fun p => decide (pageFlag s p ≠ 1))
  | _ => false

/-- Outstanding TRANSFER_OUTs take note of the flags of their source pages. -/
def noteUnstable (s : State) : State :=
  { s with host := { s.host with cmds := s.host.cmds.map (fun c => { c with unstable := c.unstable || outUnstable s c }) } }

/-- Change a page's flag; the next dropped write to it is logged again (R427, R429). -/
def setFlag (p v : Nat) (s : State) : State :=
  if mget 0 s.host.pages p = BitVec.ofNat 2 v then s
  else { s with host := { s.host with
    pages := mset 0 s.host.pages p (BitVec.ofNat 2 v), dropLogged := mset false s.host.dropLogged p false } }

/-- A host access to a withdrawn page: 0x8011 once per page per Season (R430). -/
def goneAccess (p : Nat) (s : State) : State :=
  if pageGone s p ∧ mget false s.host.goneLogged p = false then
    logFault 0x8011 none p { s with host := { s.host with goneLogged := mset false s.host.goneLogged p true } }
  else s

/-- Bytes that a host access reads at their home slices, line by line; those of withdrawn pages read 0xFF (R426, R430). The class
of the host's requests is not given: they are bulk (DESIGN CHOICE, log entry 27). -/
def readLines (reads : LineReads) : Nat → Nat → Nat → State → List Byte × State
  | 0, _, _, s => ([], s)
  | k + 1, a, n, s =>
    if n = 0 then ([], s)
    else
      let m := min n (128 - a % 128)
      if pageGone s (a / 2 ^ 21) then
        let (rest, s) := readLines reads k (a + m) (n - m) s
        (List.replicate m 0xFF ++ rest, s)
      else
        let (l, _, s) := homeRead a m false (readAt reads (a / 128)) none [] s
        let (rest, s) := readLines reads k (a + m) (n - m) s
        (l ++ rest, s)

/-- HOST_READ: the data, and the unstable bit of every page that is not host-owned (R428, R430); it stalls while a row that it reads
is copied (R256) or a channel grants others (R250). -/
def execHostRead (addr : BitVec 34) (len : BitVec 13) (reads : LineReads) (s : State) : Host.Outcome State Fault Refusal :=
  .next (
    let a := addr.toNat
    let n := min len.toNat (2 ^ 34 - a)
    if s.host.linkUp = false ∨ n = 0 ∨ linesReady s false reads a n = false then s
    else
      let odd := (pagesOf a n).filter (fun p => decide (pageFlag s p ≠ 1))
      let (l, s) := readLines reads (n + 1) a n s
      let s := { s with host := { s.host with unstable := odd.foldl (fun m p => mset false m p true) s.host.unstable } }
      let s := forEach odd goneAccess (onlyIf (!odd.isEmpty) (bump 0x110106 1) s)
      hostOut (.read a l) s)

/-- A masked write at its home slices, line by line; far copies are dropped (R46, R426). -/
def writeLines (reads : LineReads) (a : Nat) (l : List (Byte × Byte)) (s : State) : State :=
  forEach (linesOf a l.length) farDrop (homeWriteLines false reads (l.length + 1) a l s)

/-- A host write to a page that is not host-owned is dropped (R429, R430). -/
def dropWrite (p : Nat) (s : State) : State :=
  let first := !mget false s.host.dropLogged p
  let s := bump 0x110104 1 { s with host := { s.host with
    dropped := min 0xFFFFFFFF (s.host.dropped + 1), dropLogged := mset false s.host.dropLogged p true } }
  goneAccess p (onlyIf first (logFault 0x8010 none p) s)

/-- One page's part of a host write. -/
def hostWritePage (reads : LineReads) (a : Nat) (cells : List (Byte × Byte)) (p : Nat) (s : State) : State :=
  let skip := p * 2 ^ 21 - a
  let start := max a (p * 2 ^ 21)
  let part := (cells.drop skip).take ((p + 1) * 2 ^ 21 - start)
  if pageFlag s p = 1 then writeLines reads start part s else dropWrite p s

/-- HOST_WRITE (R426, R429). -/
def execHostWrite (addr : BitVec 34) (data : List Byte) (enables : List Bool) (reads : LineReads) (s : State) :
    Host.Outcome State Fault Refusal :=
  .next (
    let a := addr.toNat
    let cells := (data.zipIdx.map (fun x => (x.1, if enables.getD x.2 true then (0xFF : Byte) else 0))).take (2 ^ 34 - a)
    let n := cells.length
    if s.host.linkUp = false ∨ n = 0 then s
    else
      let mine := (linesOf a n).filter (fun l => decide (pageFlag s (l * 128 / 2 ^ 21) = 1))
      match mine.find? (fun l => !writeRoom s (l * 128)) with
      | some l => writeWaits (l * 128) s
      | none =>
        if (mine.filter (partLines a n).contains).all (fun l => lineTurn s false l (readAt reads l) none) then
          forEach (pagesOf a n) (hostWritePage reads a cells) s
        else s)

/-- Clear bits of the unstable-read bitmap (R428). -/
def clearUnstable (byte bits : Nat) (s : State) : State :=
  { s with host := { s.host with unstable := ((List.range 8).filter (bit bits)).foldl (fun m i =>
      mset false m (8 * byte + i) false) s.host.unstable } }

/-- UNSTABLE_READ_CLEAR (R428). -/
def execUnstableReadClear (byte : Fin 1024) (bits : Byte) (s : State) : Host.Outcome State Fault Refusal :=
  .next (if s.host.linkUp then clearUnstable byte.val bits.toNat s else s)

/-! ## Aborts (R436, R444) -/

/-- What an abort of a command found: 4 its outcome is fixed, 3 it is aborted. -/
def abortCmd (c : Cmd) (s : State) : Nat × State :=
  match c.kind with
  | .abort _ _ => (5, s)
  | .mgmt _ _ _ => (3, finishCmd c.cid 3 0 0 0 s)
  | .xin .. | .xout .. =>
    if (List.range (transferPieces c)).all (hostPieceFinal c) then (4, s)
    else (3, { s with host := { s.host with
      cmds := s.host.cmds.map (fun x => if x.cid = c.cid then { x with aborted := true } else x) } })
  | .launch =>
    match s.frames.held, s.frames.run with
    | some h, r =>
      if h.cid = c.cid then
        (3, dropHeld 3 0 0 0 (sendOwn (ownNotice s 3 0 0 0 0xFFFF h.hdr.calId) s))
      else abortRun c r s
    | none, r => abortRun c r s
where
  /-- An abort of the running Calendar (R93, R444). -/
  abortRun (c : Cmd) (r : Option Run) (s : State) : Nat × State :=
    match r with
    | some r =>
      let h := calendAt r.cal.hdr.k (now s + r.cal.hdr.lead)
      if r.cal.cid ≠ c.cid ∨ r.haltAt.isSome ∨ r.halted ∨ r.completed.isSome ∨ completingIndex s r < h then (4, s)
      else
        let s := { s with frames := { s.frames with run := some (runHalt 0 true (ownKey s) h r) } }
        (3, sendOwn (ownNotice s 3 r.ordinal 0 h 0xFFFF r.cal.hdr.calId) s)
    | none => (4, s)

/-- Entries of other rings that have been announced and not read (R444). -/
def unreadOf (s : State) (own : Nat) : List (Nat × Nat) :=
  (List.range 32).filterMap (fun i =>
    let r := ringOf s i
    let n := (r.sqTail + 2 ^ r.sqLog - r.sqHead) % 2 ^ r.sqLog
    if i = own ∨ r.en = false ∨ r.stopped ∨ n = 0 then none else some (i, n))

/-- An ABORT that passed the checks of R439 waits for the entries announced before it. -/
def abortRead (i : Nat) (cid target : U32) (slot : Nat) (s : State) : State :=
  holdCmd { cid := cid, ring := i, slot := slot, kind := .abort target (unreadOf s i), pieces := [], unstable := false
            aborted := false, code := 0 } s

/-- ABORT (R444). -/
def execAbortCommand (h : SqHead) (target : U32) (s : State) : Host.Outcome State Fault Refusal :=
  .next (submit h.ring.val h.cid (!h.reserved) true (abortRead h.ring.val h.cid target) s)

/-- Every entry that an ABORT waits for has been read, or will not be (R444). -/
def abortMayRun (s : State) (left : List (Nat × Nat)) : Bool :=
  left.all (fun x => decide (x.2 = 0) || !(ringOf s x.1).en || (ringOf s x.1).stopped)

/-- The abort's result, with what it does to its target (R444). -/
def abortResult (target : U32) (s : State) : Nat × State :=
  match s.host.cmds.find? (fun c => decide (c.cid = target)) with
  | some c => abortCmd c s
  | none => if s.host.done.contains (target, false) then (4, s) else (5, s)

/-- ABORT_EVALUATE (R444). -/
def execAbortEvaluate (cid : U32) (s : State) : Host.Outcome State Fault Refusal :=
  .next (
    match s.host.cmds.find? (fun c => decide (c.cid = cid)) with
    | some { kind := .abort target left, .. } =>
      if abortMayRun s left then
        let (status, t) := abortResult target s
        finishCmd cid status 0 target.toNat (now s) t
      else s
    | _ => s)

/-! ## Rings (R433 to R436) -/

/-- The sizes that a `RING_CTL` word names. -/
def ringLogs (ctl : Nat) (i : Nat) (s : State) : State :=
  if (ringOf s i).en then s else modRing i (fun r => { r with sqLog := ctl % 32, cqLog := ctl / 256 % 32 }) s

/-- A ring's bases and sizes allow it to be enabled (R433). -/
def ringConfigOk (r : Ring) : Bool :=
  decide (r.sqBase.toNat % 4096 = 0 ∧ r.cqBase.toNat % 4096 = 0 ∧ 4 ≤ r.sqLog ∧ r.sqLog ≤ 16 ∧ 4 ≤ r.cqLog ∧ r.cqLog ≤ 16)

/-- A configuration or doorbell error stops a ring (R433, R434). -/
def ringError (i : Nat) (s : State) : State :=
  logFault 0x8021 none i (modRing i (fun r => { r with err := true, stopped := true }) s)

/-- `EN` = 1 is written (R433). A ring starts at the first slot of both its rings (DESIGN CHOICE, log entry 19). -/
def enableRing (i ctl : Nat) (s : State) : State :=
  if (ringOf s i).en then modRing i (fun r => { r with err := false }) s
  else
    let s := ringLogs ctl i s
    if ringConfigOk (ringOf s i) then
      modRing i (fun r => { r with
        en := true, err := false, stopped := false, idle := false, sqHead := 0, sqTail := 0, cqTail := 0, cqHead := 0
        phase := true, unsignalled := 0 }) s
    else ringError i s

/-- RING_ENABLE (R433). -/
def execRingEnable (i : Fin 32) (ctl : U32) (s : State) : Host.Outcome State Fault Refusal :=
  .next (if s.host.linkUp then enableRing i.val ctl.toNat s else s)

/-- `EN` = 0 is written: reading stops, and every outstanding command of the ring is aborted (R436). -/
def disableRing (i ctl : Nat) (s : State) : State :=
  if (ringOf s i).en then
    let s := modRing i (fun r => { r with en := false, stopped := false, sqTail := r.sqHead }) s
    let forget (c : Cmd) : Cmd := match c.kind with
      | .abort t left => { c with kind := .abort t (left.filter (fun x => decide (x.1 ≠ i))) }
      | _ => c
    let s := { s with host := { s.host with cmds := s.host.cmds.map forget } }
    forEach (s.host.cmds.filter (fun c => decide (c.ring = i))) (fun c s => (abortCmd c s).2) s
  else ringLogs ctl i s

/-- RING_DISABLE (R436). -/
def execRingDisable (i : Fin 32) (ctl : U32) (s : State) : Host.Outcome State Fault Refusal :=
  .next (if s.host.linkUp then disableRing i.val ctl.toNat s else s)

/-- RING_IDLE: a disabled ring has written every record (R436). -/
def execRingIdle (i : Fin 32) (s : State) : Host.Outcome State Fault Refusal :=
  .next (
    let r := ringOf s i.val
    if r.en = false ∧ r.held = [] ∧ s.host.cmds.all (fun c => decide (c.ring ≠ i.val)) then
      modRing i.val (fun r => { r with idle := true }) s
    else s)

/-- `CQ_HEAD` is written (R434, R435); an idle ring has no slots to free. -/
def cqHead (i head : Nat) (s : State) : State :=
  if (ringOf s i).idle then s
  else if 2 ^ (ringOf s i).cqLog ≤ head then ringError i s
  else
    let s := modRing i (fun r => { r with cqHead := head }) s
    releaseHeld i ((ringOf s i).held.length + 1) s

/-- CQ_DOORBELL (R435). -/
def execCqDoorbell (i : Fin 32) (head : U32) (s : State) : Host.Outcome State Fault Refusal :=
  .next (if s.host.linkUp then cqHead i.val head.toNat s else s)

/-- MSIX_COALESCE_TIMER (R445). -/
def execMsixCoalesceTimer (i : Fin 32) (s : State) : Host.Outcome State Fault Refusal :=
  .next (
    if (ringOf s i.val).unsignalled = 0 then s
    else msix (i.val + 2) (modRing i.val (fun r => { r with unsignalled := 0 }) s))

/-! ## Host Transfers (R437, R441) -/

/-- The fields of a Transfer entry are in range (R437). -/
def transferForm (len pshift : Nat) : Bool :=
  decide (1 ≤ len ∧ len ≤ 17179869184 ∧ 12 ≤ pshift ∧ pshift ≤ 30 ∧ ceilDiv len (2 ^ pshift) ≤ 64)

/-- The first page of a range that a command may not touch: beyond the capacity, or in a state that `bad` refuses (R441). -/
def firstBad (s : State) (a n : Nat) (bad : Nat → Bool) : Option Nat :=
  if capacity s ≤ a then some (a / 2 ^ 21)
  else (pagesOf a (min n (capacity s + 1 - a))).find? (fun p => pageGone s p || bad (pageFlag s p))

/-- A host Transfer that passed the checks of R439 is accepted, or REFUSED (R441). -/
def transferRead (i : Nat) (cid : U32) (kind : CmdKind) (slot : Nat) (s : State) : State :=
  let c : Cmd := { cid := cid, ring := i, slot := slot, kind := kind, pieces := [], unstable := false, aborted := false, code := 0 }
  let (a, n, _, into) := transferOf c
  match firstBad s a n (fun f => if into then decide (f ≠ 1) else decide (f = 2)) with
  | some p => answer i slot cid 7 0 p 0 s
  | none =>
    let s := onlyIf into (forEach (pagesOf a n) (fun p => setFlag p 2)) s
    noteUnstable (holdCmd c s)

/-- TRANSFER_IN (R441). -/
def execTransferIn (h : SqHead) (host store len : U64) (pshift : Byte) (s : State) : Host.Outcome State Fault Refusal :=
  .next (submit h.ring.val h.cid (!h.reserved && transferForm len.toNat pshift.toNat) false
    (transferRead h.ring.val h.cid (.xin host.toNat store.toNat len.toNat pshift.toNat)) s)

/-- TRANSFER_OUT (R441). -/
def execTransferOut (h : SqHead) (host store len : U64) (pshift : Byte) (s : State) : Host.Outcome State Fault Refusal :=
  .next (submit h.ring.val h.cid (!h.reserved && transferForm len.toNat pshift.toNat) false
    (transferRead h.ring.val h.cid (.xout host.toNat store.toNat len.toNat pshift.toNat)) s)

/-- Change an outstanding command. -/
def modCmd (cid : U32) (f : Cmd → Cmd) (s : State) : State :=
  { s with host := { s.host with cmds := s.host.cmds.map (fun c => if c.cid = cid then f c else c) } }

/-- An outstanding host Transfer. -/
def transferCmd (s : State) (cid : U32) : Option Cmd := s.host.cmds.find? (fun c => decide (c.cid = cid) && isTransfer c)

/-- The pieces of a host Transfer that touch a page. -/
def piecesOn (c : Cmd) (page : Nat) : List Nat :=
  let (a, _, sh, _) := transferOf c
  (List.range (transferPieces c)).filter (fun p => (pagesOf (a + p * 2 ^ sh) (hostPieceSize c p)).contains page)

/-- Pages of a TRANSFER_IN whose pieces are all done return to host-owned; `p` is the piece just done (R441). -/
def returnPages (cid : U32) (p : Nat) (s : State) : State :=
  match transferCmd s cid with
  | none => s
  | some c =>
    let (a, _, sh, into) := transferOf c
    if into ∧ hostPieceDone c p then
      forEach (pagesOf (a + p * 2 ^ sh) (hostPieceSize c p)) (fun q s =>
        if (piecesOn c q).all (hostPieceDone c) then setFlag q 1 s else s) s
    else s

/-- A piece fails with 0x8030, logged with the ring, the `CID` and the bus address of the piece (R441, R446). -/
def failHostPiece (cid : U32) (p : Nat) (s : State) : State :=
  let (ring, bus) := match transferCmd s cid with
    | some c => (c.ring, hostAddress c + p * 2 ^ (transferOf c).2.2.1)
    | none => (0, 0)
  logWith 0x8030 none ring [cid.toNat, bus] (modCmd cid (fun c => { c with
    pieces := mmod {} c.pieces p (fun x => { x with failed := true }), code := if c.code = 0 then 0x8030 else c.code }) s)

/-- HOST_MEMORY_COMPLETION: a completion for the bytes from an offset of a host Transfer: data read from host memory are written
to the Store, or as many bytes of the Store as `data` has have been written to host memory; an error fails the piece (R441). -/
def execHostMemoryCompletion (cid : U32) (offset : BitVec 35) (ok : Bool) (data : List Byte) (reads : LineReads) (s : State) :
    Host.Outcome State Fault Refusal :=
  .next (
    match transferCmd s cid with
    | none => s
    | some c =>
      let (a, n, sh, into) := transferOf c
      let o := offset.toNat
      let p := o / 2 ^ sh
      if s.host.linkUp = false ∨ n ≤ o ∨ hostPieceFinal c p then s
      else if ok = false then failHostPiece cid p s
      else
        let d := data.take (min (p * 2 ^ sh + hostPieceSize c p - o) (hostPieceSize c p - (hostPiece c p).got))
        let advance (s : State) : State :=
          returnPages cid p (modCmd cid (fun c => { c with pieces := mmod {} c.pieces p (fun x => { x with
            got := x.got + d.length, wrote := if into then (x.wrote ++ pagesOf (a + o) d.length).eraseDups else x.wrote }) }) s)
        if d = [] then s
        else if into then
          if fillReady s false reads (a + o) d.length then advance (homeFill false reads (a + o) d s)
          else fillWaits 0 (a + o) d.length s
        else if linesReady s false reads (a + o) d.length = false then s
        else
          let (l, s) := readLines reads (d.length + 1) (a + o) d.length (noteUnstable s)
          advance (hostOut (.write (hostAddress c + o) l) s))

/-- HOST_MEMORY_TIMEOUT: a completion of a piece times out; `wrote` are bytes of it that had come in before, with their offsets in
the Transfer (R441). -/
def execHostMemoryTimeout (cid : U32) (piece : Fin 64) (wrote : List (Nat × Byte)) (reads : LineReads) (s : State) :
    Host.Outcome State Fault Refusal :=
  .next (
    match transferCmd s cid with
    | none => s
    | some c =>
      let (a, _, sh, into) := transferOf c
      let p := piece.val
      if transferPieces c ≤ p ∨ hostPieceFinal c p then s
      else
        let mine := if into then wrote.filter (fun x => decide (p * 2 ^ sh ≤ x.1 ∧ x.1 < p * 2 ^ sh + hostPieceSize c p)) else []
        let s := forEach mine (fun x => homeFill false reads (a + x.1) [x.2]) s
        failHostPiece cid p (modCmd cid (fun c => { c with pieces := mmod {} c.pieces p (fun x => { x with
          wrote := (x.wrote ++ mine.map (fun (y : Nat × Byte) => (a + y.1) / 2 ^ 21)).eraseDups }) }) s))

/-- The flags of a TRANSFER_IN's pages at its end: torn where a piece that is not done wrote any byte, host-owned elsewhere; pages
that have returned already stay as they are (R441). -/
def settlePages (c : Cmd) (s : State) : State :=
  let (a, n, _, into) := transferOf c
  onlyIf into (forEach (pagesOf a n) (fun q s =>
    let on := piecesOn c q
    if on.all (hostPieceDone c) then s
    else setFlag q (if on.any (fun p => !hostPieceDone c p && (hostPiece c p).wrote.contains q) then 3 else 1) s)) s

/-- HOST_TRANSFER_COMPLETE: every piece is final, or no packet of an aborted Transfer is in flight any more (R441, R444). -/
def execHostTransferComplete (cid : U32) (s : State) : Host.Outcome State Fault Refusal :=
  .next (
    match transferCmd s cid with
    | none => s
    | some c =>
      let all := List.range (transferPieces c)
      if s.host.linkUp ∧ (c.aborted ∨ all.all (hostPieceFinal c)) then
        let done := all.filter (hostPieceDone c)
        let s := settlePages c (noteUnstable s)
        let status := if c.aborted then 3 else if done.length = all.length then 0 else 6
        finishCmd cid status c.code.toNat ((done.map (fun p => 2 ^ p)).foldl (· + ·) 0)
          ((done.map (hostPieceSize c)).foldl (· + ·) 0) s
      else s)

/-! ## OWN (R442) -/

/-- A range of OWN is in range (R437). -/
def ownForm (first count : Nat) : Bool := decide (first ≤ 8191 ∧ 1 ≤ count ∧ first + count ≤ 8192)

/-- The page holds bytes of the Mirror area. -/
def mirrorPageOf (s : State) (p : Nat) : Bool := overlaps (p * 2 ^ 21) (2 ^ 21) s.twin.mirrorBase (mirrorEnd s - s.twin.mirrorBase)

/-- OWN refuses a page (R399, R430, R442). -/
def ownRefuses (s : State) (take : Bool) (p : Nat) : Bool :=
  decide (pageFlag s p = 2) ||
    (take && (pageGone s p || (decide (pageFlag s p ≠ 1) && mirrorPageOf s p) ||
      (decide (pageFlag s p = 0) && inImage s (p * 2 ^ 21) (2 ^ 21))))

/-- OWN of pages that passed the checks of R439: all in one step, or REFUSED (R442). -/
def ownRead (i : Nat) (cid : U32) (take : Bool) (first count slot : Nat) (s : State) : State :=
  let pages := List.range' first count
  match pages.find? (ownRefuses s take) with
  | some p => answer i slot cid 7 0 p 0 s
  | none =>
    let s := noteUnstable s
    let s := forEach pages (fun p => setFlag p (if take then 1 else 0)) s
    answer i slot cid 0 0 0 0 (noteUnstable s)

/-- OWN_GIVE (R442). -/
def execOwnGive (h : SqHead) (first count : U16) (s : State) : Host.Outcome State Fault Refusal :=
  .next (submit h.ring.val h.cid (!h.reserved && ownForm first.toNat count.toNat) false
    (ownRead h.ring.val h.cid false first.toNat count.toNat) s)

/-- OWN_TAKE (R442). -/
def execOwnTake (h : SqHead) (first count : U16) (s : State) : Host.Outcome State Fault Refusal :=
  .next (submit h.ring.val h.cid (!h.reserved && ownForm first.toNat count.toNat) false
    (ownRead h.ring.val h.cid true first.toNat count.toNat) s)

/-! ## The SQ doorbell (R434, R437, R439) -/

/-- Bytes of an entry from an offset on are zero. -/
def restZero (b : List Byte) (o : Nat) : Bool := (b.drop o).all (fun x => decide (x = 0))

/-- Read one entry as its bytes lie in the ring (R437), padded or cut to 64 bytes. -/
def readEntry (i : Nat) (e : SqRaw) (s : State) : State :=
  let b := fillTo 64 e.bytes
  let cid : U32 := BitVec.ofNat 32 (fieldAt b 4 4)
  let head := decide (fieldAt b 1 3 = 0)
  let f (o n : Nat) : Nat := fieldAt b o n
  match f 0 1 with
  | 1 => submit i cid (head && restZero b 24) false (launchRead i cid (f 8 8) (f 16 8)) s
  | 2 => submit i cid (head && restZero b 33 && transferForm (f 24 8) (f 32 1)) false
      (transferRead i cid (.xin (f 8 8) (f 16 8) (f 24 8) (f 32 1))) s
  | 3 => submit i cid (head && restZero b 33 && transferForm (f 24 8) (f 32 1)) false
      (transferRead i cid (.xout (f 8 8) (f 16 8) (f 24 8) (f 32 1))) s
  | 4 => submit i cid (head && restZero b 13 && ownForm (f 8 2) (f 10 2) && decide (f 12 1 ≤ 1)) false
      (ownRead i cid (decide (f 12 1 = 1)) (f 8 2) (f 10 2)) s
  | 5 => submit i cid (head && restZero b 12) true (abortRead i cid (BitVec.ofNat 32 (f 8 4))) s
  | 6 => submit i cid (head && decide (f 18 6 = 0) && restZero b 34 && mgmtForm (f 16 2) (f 32 2)) true
      (mgmtRead i cid (fillTo (f 16 2) e.message) (f 24 8) (f 32 2)) s
  | _ => submit i cid false true (fun _ s => s) s

/-- Read the entries that lie from `SQ_HEAD` up to the tail, as far as they are given and the ring reads. -/
def readEntries (i : Nat) : List SqRaw → State → State
  | [], s => s
  | e :: l, s =>
    if ringReads s i ∧ (ringOf s i).sqHead ≠ (ringOf s i).sqTail then readEntries i l (readEntry i e s) else s

/-- `SQ_TAIL` is written (R434); a ring that is disabled reads nothing. -/
def sqTail (i tail : Nat) (entries : List SqRaw) (s : State) : State :=
  if (ringOf s i).en = false then s
  else if 2 ^ (ringOf s i).sqLog ≤ tail then ringError i s
  else readEntries i entries (modRing i (fun r => { r with sqTail := tail }) s)

/-- SQ_DOORBELL: `entries` are the new entries' bytes; those not given are read by the commands' own rows. -/
def execSqDoorbell (i : Fin 32) (tail : U32) (entries : List SqRaw) (s : State) : Host.Outcome State Fault Refusal :=
  .next (if s.host.linkUp then sqTail i.val tail.toNat entries s else s)

/-! ## Other registers (R120, R425, R433, R445) -/

/-- Put `n` bytes of a value at byte `o` of a word of `w` bytes. -/
def mergeBytes (old w o n v : Nat) : Nat :=
  let l := leBytes w old
  leNat (l.take o ++ leBytes n v ++ l.drop (o + n))

/-- A write to the MSI-X table: an entry that becomes unmasked sends its pending message (R445). -/
def writeMsix (a n v : Nat) (s : State) : State :=
  let e := a / 16
  let s := { s with host := { s.host with
    msix := mmod 0 s.host.msix e (fun x => BitVec.ofNat 128 (mergeBytes x.toNat 16 (a % 16) n v)) } }
  if bit s.host.pba.toNat e ∧ (mget 0 s.host.msix e).toNat / 2 ^ 96 % 2 = 0 then
    msix e { s with host := { s.host with pba := s.host.pba &&& ~~~((1 : BitVec 64) <<< e) } }
  else s

/-- A write to a ring's registers: bases are ignored while it is enabled (R433). -/
def writeRing (i a n v : Nat) (s : State) : State :=
  let r := ringOf s i
  if a < 8 then if r.en then s else modRing i (fun r => { r with sqBase := BitVec.ofNat 64 (mergeBytes r.sqBase.toNat 8 a n v) }) s
  else if a < 16 then
    if r.en then s else modRing i (fun r => { r with cqBase := BitVec.ofNat 64 (mergeBytes r.cqBase.toNat 8 (a - 8) n v) }) s
  else if a = 16 then
    let s := if bit v 16 then enableRing i (v % 2 ^ 32) s else disableRing i (v % 2 ^ 32) s
    if n = 8 then coalesce (v / 2 ^ 32) s else s
  else if a = 20 then coalesce v s
  else s
where
  /-- `RING_COAL` is written. -/
  coalesce (v : Nat) (s : State) : State :=
    ringSignal i (modRing i (fun r => { r with coalCount := v % 256, coalTime := v / 256 % 1024 }) s)

/-- A write to BAR0 at an offset; writes to read-only and reserved places are ignored (R425). -/
def writeBar0 (a n v : Nat) (s : State) : State :=
  if 0x1000 ≤ a ∧ a < 0x1800 then writeRing ((a - 0x1000) / 64) (a % 64) n v s
  else if 0x10000 ≤ a ∧ a < 0x30000 then
    let i := (a - 0x10000) / 0x1000
    match a % 0x1000, decide (n = 8) with
    | 0, false => sqTail i v [] s
    | 0, true => cqHead i (v / 2 ^ 32) (sqTail i (v % 2 ^ 32) [] s)
    | 4, _ => cqHead i v s
    | _, _ => s
  else if 0x30000 ≤ a ∧ a < 0x30400 then writeMsix (a - 0x30000) n v s
  else if 0x41000 ≤ a ∧ a < 0x41400 then
    forEach (List.range n) (fun k => clearUnstable (a - 0x41000 + k) (v / 2 ^ (8 * k) % 256)) s
  else s

/-- A write to the device registers: `ARITH_FLAGS` clears the bits written 1 (R120); every other one is read-only. -/
def writeDevice (a v : Nat) (s : State) : State :=
  if 0x21000 ≤ a ∧ a < 0x21800 then modTile ((a - 0x21000) / 4) (fun x => { x with flags := x.flags &&& ~~~(BitVec.ofNat 8 v) }) s
  else s

/-- REGISTER_WRITE: 4 bytes, or 8 where `wide`, at a multiple of their size (R120, R361, R425). -/
def execRegisterWrite (device : Bool) (addr : U64) (val : U64) (wide : Bool) (s : State) : Host.Outcome State Fault Refusal :=
  .next (
    let a := addr.toNat
    let n := if wide then 8 else 4
    let v := if wide then val.toNat else val.toNat % 2 ^ 32
    if s.boot.hub = false ∨ a % n ≠ 0 then s
    else if device then
      let s := writeDevice a (v % 2 ^ 32) s
      if wide then writeDevice (a + 4) (v / 2 ^ 32) s else s
    else if s.host.linkUp then writeBar0 a n v s
    else s)

end Sys2Proof.Machine
end

