-- ==== Sys2Proof/Machine/Dispatch.lean ====
section
/-!
DEFINITION. The dispatch: one arm for each command, each a direct call of that command's meaning.
-/

namespace Sys2Proof.Machine

def exec (i : Instr) (s : State) : Host.Outcome State Fault Refusal :=
  match i with
  | .vigilPresent retentionOk => Sys2Proof.Machine.execVigilPresent retentionOk s
  | .coldReset powerCycle => Sys2Proof.Machine.execColdReset powerCycle s
  | .mainRailsStart slot => Sys2Proof.Machine.execMainRailsStart slot s
  | .undervoltageLockout => Sys2Proof.Machine.execUndervoltageLockout s
  | .overVoltageTrip => Sys2Proof.Machine.execOverVoltageTrip s
  | .inputOutOfRange => Sys2Proof.Machine.execInputOutOfRange s
  | .perstNLow => Sys2Proof.Machine.execPerstNLow s
  | .refclkFault => Sys2Proof.Machine.execRefclkFault s
  | .boot refclk => Sys2Proof.Machine.execBoot refclk s
  | .discovery tests => Sys2Proof.Machine.execDiscovery tests s
  | .dieAnnounce e r => Sys2Proof.Machine.execDieAnnounce e r s
  | .dieAnnounceTimeout e => Sys2Proof.Machine.execDieAnnounceTimeout e s
  | .storeSelfTest channel channelOk badRows badSpares => Sys2Proof.Machine.execStoreSelfTest channel channelOk badRows badSpares s
  | .opticsBringUp n b => Sys2Proof.Machine.execOpticsBringUp n b s
  | .engineInputRecheck n b => Sys2Proof.Machine.execEngineInputRecheck n b s
  | .rxLightAppear f failed => Sys2Proof.Machine.execRxLightAppear f failed s
  | .readyReport => Sys2Proof.Machine.execReadyReport s
  | .calend => Sys2Proof.Machine.execCalend s
  | .outcomeFixed => Sys2Proof.Machine.execOutcomeFixed s
  | .pass t w => Sys2Proof.Machine.execPass t w s
  | .stream t => Sys2Proof.Machine.execStream t s
  | .procession t => Sys2Proof.Machine.execProcession t s
  | .masqueRun t => Sys2Proof.Machine.execMasqueRun t s
  | .lanternOp t => Sys2Proof.Machine.execLanternOp t s
  | .transfer t reads => Sys2Proof.Machine.execTransfer t reads s
  | .fence t => Sys2Proof.Machine.execFence t s
  | .release t pos => Sys2Proof.Machine.execRelease t pos s
  | .acquire t pos => Sys2Proof.Machine.execAcquire t pos s
  | .wait t => Sys2Proof.Machine.execWait t s
  | .waitComplete t pos => Sys2Proof.Machine.execWaitComplete t pos s
  | .tallyCheck t a column index err => Sys2Proof.Machine.execTallyCheck t a column index err s
  | .arrayParityError t a => Sys2Proof.Machine.execArrayParityError t a s
  | .passCommit t a => Sys2Proof.Machine.execPassCommit t a s
  | .tileClockChange t => Sys2Proof.Machine.execTileClockChange t s
  | .projectionEval t => Sys2Proof.Machine.execProjectionEval t s
  | .overrunNotice f n => Sys2Proof.Machine.execOverrunNotice f n s
  | .haltNotice f n => Sys2Proof.Machine.execHaltNotice f n s
  | .abortNotice f n => Sys2Proof.Machine.execAbortNotice f n s
  | .marshalHalted t => Sys2Proof.Machine.execMarshalHalted t s
  | .launch h image start => Sys2Proof.Machine.execLaunch h image start s
  | .validationComplete => Sys2Proof.Machine.execValidationComplete s
  | .streamComplete t h => Sys2Proof.Machine.execStreamComplete t h s
  | .heraldRequest t h c w => Sys2Proof.Machine.execHeraldRequest t h c w s
  | .heraldLineReturn r => Sys2Proof.Machine.execHeraldLineReturn r s
  | .vectorRunComplete t => Sys2Proof.Machine.execVectorRunComplete t s
  | .vmodeReloadDone t => Sys2Proof.Machine.execVmodeReloadDone t s
  | .vectorEccError t corrected => Sys2Proof.Machine.execVectorEccError t corrected s
  | .vectorRunStop t beats => Sys2Proof.Machine.execVectorRunStop t beats s
  | .lanternOpComplete t rows w lw => Sys2Proof.Machine.execLanternOpComplete t rows w lw s
  | .ledgerFetch t x => Sys2Proof.Machine.execLedgerFetch t x s
  | .homeSliceLoad r x => Sys2Proof.Machine.execHomeSliceLoad r x s
  | .homeSliceStore r x => Sys2Proof.Machine.execHomeSliceStore r x s
  | .homeSliceAtomic r x => Sys2Proof.Machine.execHomeSliceAtomic r x s
  | .farInvalidateAck line die => Sys2Proof.Machine.execFarInvalidateAck line die s
  | .rowCopyDone row words => Sys2Proof.Machine.execRowCopyDone row words s
  | .scrub addr w => Sys2Proof.Machine.execScrub addr w s
  | .onchipBlockReceive c path herald data crc => Sys2Proof.Machine.execOnchipBlockReceive c path herald data crc s
  | .bundleBlockReceive b reverse place block err herald => Sys2Proof.Machine.execBundleBlockReceive b reverse place block err herald s
  | .segmentMigrationDone => Sys2Proof.Machine.execSegmentMigrationDone s
  | .codewordReceive f lines => Sys2Proof.Machine.execCodewordReceive f lines s
  | .markerCodeword f m => Sys2Proof.Machine.execMarkerCodeword f m s
  | .preFecWindow f => Sys2Proof.Machine.execPreFecWindow f s
  | .laserSample n primary spare => Sys2Proof.Machine.execLaserSample n primary spare s
  | .laserLightTimeout n spare => Sys2Proof.Machine.execLaserLightTimeout n spare s
  | .laserFadeTrip n => Sys2Proof.Machine.execLaserFadeTrip n s
  | .plannedSwitchover n => Sys2Proof.Machine.execPlannedSwitchover n s
  | .switchoverComplete n failed => Sys2Proof.Machine.execSwitchoverComplete n failed s
  | .ringLockAttempt f transmit line heater => Sys2Proof.Machine.execRingLockAttempt f transmit line heater s
  | .groupFault n g => Sys2Proof.Machine.execGroupFault n g s
  | .meshChangeDone n => Sys2Proof.Machine.execMeshChangeDone n s
  | .trimmerUpdate n readings trims => Sys2Proof.Machine.execTrimmerUpdate n readings trims s
  | .intercalaryWindowEnd n ok margin cal => Sys2Proof.Machine.execIntercalaryWindowEnd n ok margin cal s
  | .engineLost n => Sys2Proof.Machine.execEngineLost n s
  | .rxLightLoss f => Sys2Proof.Machine.execRxLightLoss f s
  | .flitSend f => Sys2Proof.Machine.execFlitSend f s
  | .flitCrcFailure f => Sys2Proof.Machine.execFlitCrcFailure f s
  | .idleFlit h => Sys2Proof.Machine.execIdleFlit h s
  | .dataFlit h vc p => Sys2Proof.Machine.execDataFlit h vc p s
  | .creditFlit h counts => Sys2Proof.Machine.execCreditFlit h counts s
  | .ledgerFlit h b => Sys2Proof.Machine.execLedgerFlit h b s
  | .nakFlit h => Sys2Proof.Machine.execNakFlit h s
  | .nakRepeat f phase => Sys2Proof.Machine.execNakRepeat f phase s
  | .replayTimeout f phase => Sys2Proof.Machine.execReplayTimeout f phase s
  | .creditFlitDue f => Sys2Proof.Machine.execCreditFlitDue f s
  | .phaseFlit h phaseId p reads => Sys2Proof.Machine.execPhaseFlit h phaseId p reads s
  | .trainFlit f r => Sys2Proof.Machine.execTrainFlit f r s
  | .resumeFlit f expected => Sys2Proof.Machine.execResumeFlit f expected s
  | .withdrawalNotice f n => Sys2Proof.Machine.execWithdrawalNotice f n s
  | .returnNotice f n => Sys2Proof.Machine.execReturnNotice f n s
  | .intercalaryNotice f n => Sys2Proof.Machine.execIntercalaryNotice f n s
  | .timeRequestTick => Sys2Proof.Machine.execTimeRequestTick s
  | .timeRequest f m arrived sent => Sys2Proof.Machine.execTimeRequest f m arrived sent s
  | .timeResponse f m arrived => Sys2Proof.Machine.execTimeResponse f m arrived s
  | .beaconTick => Sys2Proof.Machine.execBeaconTick s
  | .beacon f m => Sys2Proof.Machine.execBeacon f m s
  | .claim f m => Sys2Proof.Machine.execClaim f m s
  | .rootClaim => Sys2Proof.Machine.execRootClaim s
  | .holdoverEntry => Sys2Proof.Machine.execHoldoverEntry s
  | .holdoverTimeout => Sys2Proof.Machine.execHoldoverTimeout s
  | .sliceRecord f r => Sys2Proof.Machine.execSliceRecord f r s
  | .loadPacket f p x => Sys2Proof.Machine.execLoadPacket f p x s
  | .storePacket f p x => Sys2Proof.Machine.execStorePacket f p x s
  | .atomicPacket f p x => Sys2Proof.Machine.execAtomicPacket f p x s
  | .loadData f p => Sys2Proof.Machine.execLoadData f p s
  | .writeAcknowledgement f p => Sys2Proof.Machine.execWriteAcknowledgement f p s
  | .atomicData f p => Sys2Proof.Machine.execAtomicData f p s
  | .transferData f p reads => Sys2Proof.Machine.execTransferData f p reads s
  | .transferRead f p reads => Sys2Proof.Machine.execTransferRead f p reads s
  | .transferReadData f p reads => Sys2Proof.Machine.execTransferReadData f p reads s
  | .pieceAcknowledgement f p => Sys2Proof.Machine.execPieceAcknowledgement f p s
  | .undeliverable f p => Sys2Proof.Machine.execUndeliverable f p s
  | .releasePacket f p => Sys2Proof.Machine.execReleasePacket f p s
  | .releaseAcknowledgement f p => Sys2Proof.Machine.execReleaseAcknowledgement f p s
  | .transferComplete t pos => Sys2Proof.Machine.execTransferComplete t pos s
  | .fenceComplete t pos => Sys2Proof.Machine.execFenceComplete t pos s
  | .deadTargetTimeout r => Sys2Proof.Machine.execDeadTargetTimeout r s
  | .haltRequestResolve => Sys2Proof.Machine.execHaltRequestResolve s
  | .mirrorWrite f poison epochLow addr benables data => Sys2Proof.Machine.execMirrorWrite f poison epochLow addr benables data s
  | .sealMarker f c => Sys2Proof.Machine.execSealMarker f c s
  | .sealCommit => Sys2Proof.Machine.execSealCommit s
  | .sealAcknowledgement f c => Sys2Proof.Machine.execSealAcknowledgement f c s
  | .pairingRecord f r => Sys2Proof.Machine.execPairingRecord f r s
  | .rebuildSend => Sys2Proof.Machine.execRebuildSend s
  | .rebuildData f protect poison page offset data => Sys2Proof.Machine.execRebuildData f protect poison page offset data s
  | .pageAcknowledgement f protect page => Sys2Proof.Machine.execPageAcknowledgement f protect page s
  | .departureNotice f c => Sys2Proof.Machine.execDepartureNotice f c s
  | .unpairReleaseNotice f c => Sys2Proof.Machine.execUnpairReleaseNotice f c s
  | .unpairKeepNotice f c => Sys2Proof.Machine.execUnpairKeepNotice f c s
  | .partnerLossTimeout => Sys2Proof.Machine.execPartnerLossTimeout s
  | .pcieLinkDown => Sys2Proof.Machine.execPcieLinkDown s
  | .pcieLinkUp gen width => Sys2Proof.Machine.execPcieLinkUp gen width s
  | .functionLevelReset => Sys2Proof.Machine.execFunctionLevelReset s
  | .pcieCorrectableError => Sys2Proof.Machine.execPcieCorrectableError s
  | .hostRead addr len reads => Sys2Proof.Machine.execHostRead addr len reads s
  | .hostWrite addr data enables reads => Sys2Proof.Machine.execHostWrite addr data enables reads s
  | .unstableReadClear byte bits => Sys2Proof.Machine.execUnstableReadClear byte bits s
  | .registerWrite device addr val wide => Sys2Proof.Machine.execRegisterWrite device addr val wide s
  | .ringEnable ring ctl => Sys2Proof.Machine.execRingEnable ring ctl s
  | .ringDisable ring ctl => Sys2Proof.Machine.execRingDisable ring ctl s
  | .ringIdle ring => Sys2Proof.Machine.execRingIdle ring s
  | .sqDoorbell ring tail entries => Sys2Proof.Machine.execSqDoorbell ring tail entries s
  | .cqDoorbell ring head => Sys2Proof.Machine.execCqDoorbell ring head s
  | .transferIn h host store len pshift => Sys2Proof.Machine.execTransferIn h host store len pshift s
  | .transferOut h host store len pshift => Sys2Proof.Machine.execTransferOut h host store len pshift s
  | .hostTransferComplete cid => Sys2Proof.Machine.execHostTransferComplete cid s
  | .hostMemoryTimeout cid piece wrote reads => Sys2Proof.Machine.execHostMemoryTimeout cid piece wrote reads s
  | .ownGive h first count => Sys2Proof.Machine.execOwnGive h first count s
  | .ownTake h first count => Sys2Proof.Machine.execOwnTake h first count s
  | .abortCommand h target => Sys2Proof.Machine.execAbortCommand h target s
  | .abortEvaluate cid => Sys2Proof.Machine.execAbortEvaluate cid s
  | .mgmt h reqAddr reqLen rspAddr rspLen message => Sys2Proof.Machine.execMgmt h reqAddr reqLen rspAddr rspLen message s
  | .msixCoalesceTimer ring => Sys2Proof.Machine.execMsixCoalesceTimer ring s
  | .setEndpointId v eid => Sys2Proof.Machine.execSetEndpointId v eid s
  | .getEndpointId v => Sys2Proof.Machine.execGetEndpointId v s
  | .getMctpVersionSupport v typ => Sys2Proof.Machine.execGetMctpVersionSupport v typ s
  | .getMessageTypeSupport v => Sys2Proof.Machine.execGetMessageTypeSupport v s
  | .getVendorDefinedMessageSupport v selector => Sys2Proof.Machine.execGetVendorDefinedMessageSupport v selector s
  | .entdaa portB addr => Sys2Proof.Machine.execEntdaa portB addr s
  | .setdasa portB static addr => Sys2Proof.Machine.execSetdasa portB static addr s
  | .readEntry q index sub active offset length => Sys2Proof.Machine.execReadEntry q index sub active offset length s
  | .writeEntry q index sub offset data => Sys2Proof.Machine.execWriteEntry q index sub offset data s
  | .infoEntry q index sub => Sys2Proof.Machine.execInfoEntry q index sub s
  | .listEntries q start => Sys2Proof.Machine.execListEntries q start s
  | .eventRead q start => Sys2Proof.Machine.execEventRead q start s
  | .beginSession q role keyFp => Sys2Proof.Machine.execBeginSession q role keyFp s
  | .prove q sig cert => Sys2Proof.Machine.execProve q sig cert s
  | .endSession q => Sys2Proof.Machine.execEndSession q s
  | .attest q nonce => Sys2Proof.Machine.execAttest q nonce s
  | .sessionIdleTimeout num => Sys2Proof.Machine.execSessionIdleTimeout num s
  | .provisionalSessionExpiry num => Sys2Proof.Machine.execProvisionalSessionExpiry num s
  | .lockoutEnd v => Sys2Proof.Machine.execLockoutEnd v s
  | .mirrorRefresh => Sys2Proof.Machine.execMirrorRefresh s
  | .queryDeviceIdentifiers v => Sys2Proof.Machine.execQueryDeviceIdentifiers v s
  | .getFirmwareParameters v => Sys2Proof.Machine.execGetFirmwareParameters v s
  | .getStatus v => Sys2Proof.Machine.execGetStatus v s
  | .requestUpdate v => Sys2Proof.Machine.execRequestUpdate v s
  | .passComponentTable v components => Sys2Proof.Machine.execPassComponentTable v components s
  | .updateComponent v component size => Sys2Proof.Machine.execUpdateComponent v component size s
  | .requestFirmwareData v data => Sys2Proof.Machine.execRequestFirmwareData v data s
  | .activateFirmware v => Sys2Proof.Machine.execActivateFirmware v s
  | .cancelUpdateComponent v => Sys2Proof.Machine.execCancelUpdateComponent v s
  | .cancelUpdate v => Sys2Proof.Machine.execCancelUpdate v s
  | .fwUpdateTimeout => Sys2Proof.Machine.execFwUpdateTimeout s
  | .mcLive => Sys2Proof.Machine.execMcLive s
  | .liveActivationRevert => Sys2Proof.Machine.execLiveActivationRevert s
  | .laneMapCommit q v => Sys2Proof.Machine.execLaneMapCommit q v s
  | .retireClear q a => Sys2Proof.Machine.execRetireClear q a s
  | .commission q inputs => Sys2Proof.Machine.execCommission q inputs s
  | .laserReturn q v => Sys2Proof.Machine.execLaserReturn q v s
  | .laserRelease q v => Sys2Proof.Machine.execLaserRelease q v s
  | .laserRestore q v => Sys2Proof.Machine.execLaserRestore q v s
  | .fibrePark q v => Sys2Proof.Machine.execFibrePark q v s
  | .fibreUnpark q v => Sys2Proof.Machine.execFibreUnpark q v s
  | .almanacSet q v => Sys2Proof.Machine.execAlmanacSet q v s
  | .coordWrite q v => Sys2Proof.Machine.execCoordWrite q v s
  | .tileClock q v => Sys2Proof.Machine.execTileClock q v s
  | .currentLimit q v => Sys2Proof.Machine.execCurrentLimit q v s
  | .unpairRelease q => Sys2Proof.Machine.execUnpairRelease q s
  | .unpairKeep q => Sys2Proof.Machine.execUnpairKeep q s
  | .lostClear q v => Sys2Proof.Machine.execLostClear q v s
  | .fwActivate q v => Sys2Proof.Machine.execFwActivate q v s
  | .keyEnrolment q installer sub data => Sys2Proof.Machine.execKeyEnrolment q installer sub data s
  | .certFloor q v => Sys2Proof.Machine.execCertFloor q v s
  | .powerTargetStandby q => Sys2Proof.Machine.execPowerTargetStandby q s
  | .powerTargetReady q => Sys2Proof.Machine.execPowerTargetReady q s
  | .seasonReset q v => Sys2Proof.Machine.execSeasonReset q v s
  | .warmReset q v => Sys2Proof.Machine.execWarmReset q v s
  | .tileReset q v => Sys2Proof.Machine.execTileReset q v s
  | .probationWrite q v => Sys2Proof.Machine.execProbationWrite q v s
  | .governorTick current voltage => Sys2Proof.Machine.execGovernorTick current voltage s
  | .overCurrentStretch => Sys2Proof.Machine.execOverCurrentStretch s
  | .stretchRelease => Sys2Proof.Machine.execStretchRelease s
  | .overCurrentTrip => Sys2Proof.Machine.execOverCurrentTrip s
  | .diodeSample readings => Sys2Proof.Machine.execDiodeSample readings s
  | .shutdownDeadline => Sys2Proof.Machine.execShutdownDeadline s
  | .throttleStepUp => Sys2Proof.Machine.execThrottleStepUp s
  | .throttleStepDown => Sys2Proof.Machine.execThrottleStepDown s
  | .converterStatusRead flags => Sys2Proof.Machine.execConverterStatusRead flags s
  | .nvRecordWrite => Sys2Proof.Machine.execNvRecordWrite s
  | .manifestCommit verified => Sys2Proof.Machine.execManifestCommit verified s
  | .mcWatchdog => Sys2Proof.Machine.execMcWatchdog s
  | .marshalWatchdog t => Sys2Proof.Machine.execMarshalWatchdog t s
  | .vigilWatchdog => Sys2Proof.Machine.execVigilWatchdog s
  | .reckoningUpdate => Sys2Proof.Machine.execReckoningUpdate s
  | .probationCountdown => Sys2Proof.Machine.execProbationCountdown s
  | .penaltySave => Sys2Proof.Machine.execPenaltySave s
  | .trainingFailed f => Sys2Proof.Machine.execTrainingFailed f s
  | .perstNRelease => Sys2Proof.Machine.execPerstNRelease s
  | .configurationRequest => Sys2Proof.Machine.execConfigurationRequest s
  | .hostMemoryCompletion cid offset ok data reads => Sys2Proof.Machine.execHostMemoryCompletion cid offset ok data reads s
  | .inBandInterruptAcknowledge portB => Sys2Proof.Machine.execInBandInterruptAcknowledge portB s
  | .inBandInterruptEnable portB on => Sys2Proof.Machine.execInBandInterruptEnable portB on s

end Sys2Proof.Machine
end

