-- ==== Sys2Proof/Safety.lean ====
section
/-!
DEFINITION. What a safe run of the block is, in the terms the statements use: the canonical form of the Store, the bounds
that the spec puts on its records and settings, what it means that a command gives a state, and host entries as bytes.
-/

set_option Elab.async false

namespace Sys2Proof

/-- The Store is held in its one canonical form: addresses strictly rising, no entry equal to the unlisted byte 0 (R240). -/
def Memory.wf (s : Machine.State) : Bool := Machine.mwf 0 s.store.cells

/-- A step runs: it answers a next state. -/
def Runs (s : Machine.State) : Prop := ∃ t, Machine.step s = .next t

/-- The command is carried out on the state: it answers a next state, of which `P` holds. -/
def Gives (c : Instr) (s : Machine.State) (P : Machine.State → Prop) : Prop := ∃ t, Machine.exec c s = .next t ∧ P t

/-- The records that the spec bounds keep their bounds: the pending journal (R500), the fault log (R531), the events (R462),
the persistent log (R533), the audit log (R466), the records held while the core is down (R520) and the completed commands
(R444). -/
structure RecordsBounded (s : Machine.State) : Prop where
  journal : s.pow.journal.length ≤ 64
  log : s.health.log.length ≤ 1024
  events : s.mgmt.events.length ≤ 256
  persist : s.nv.persist.length ≤ 64
  audit : s.nv.audit.length ≤ 4096
  held : s.boot.held.length ≤ 256
  done : s.host.done.length ≤ 1024

/-- The clock cap lies in the governor's range (R484) and the throttle steps in theirs (R491). -/
structure PowerInRange (s : Machine.State) : Prop where
  capLow : 4 ≤ s.pow.cap
  capHigh : s.pow.cap ≤ 16
  steps : s.pow.steps ≤ 32

/-! ## The parts of the state -/

/-- The clock cap, the throttle steps and the stretch (R484 to R491). -/
abbrev clocksOf (x : Machine.Power) :=
  (x.cap, x.steps, x.stretch, x.stretchAt, x.stretched, x.hotEpisode, x.lowRun, x.overRun)

/-- The pending journal (R500). -/
abbrev journalOf (x : Machine.Power) :=
  (x.journal, x.nvAdvised)

/-- The input, the sensors, the converters and the shutdown sequence (R475 to R499). -/
abbrev sensorsOf (x : Machine.Power) :=
  (x.railsOk, x.outOfRange, x.fscMap, x.current, x.voltage, x.diodes, x.conv, x.shutdown, x.latchCause, x.nvOpen,
    x.nvLost, x.energy)

/-- The management core and the firmware in force. -/
abbrev coreOf (x : Machine.Boot) :=
  (x.engOut, x.bootBlocked, x.bootFail, x.slot, x.slotTaken, x.manifestOk, x.mcSlot, x.mshSlot, x.fallback, x.liveSince,
    x.mshPending, x.mcRuns, x.activating, x.actSlot, x.mcStopped, x.hub, x.mcRestarts, x.vigilRestarts, x.step8,
    x.lastReset)

/-- The start-up, Ready and service (R528, R569). -/
abbrev startUpOf (x : Machine.Boot) :=
  (x.step, x.blocked, x.waiting, x.fail, x.starting, x.ready, x.odLive, x.outOfService, x.oosSeason, x.latched)

/-- The records held while the core is down (R520). -/
abbrev heldRecordsOf (x : Machine.Boot) :=
  (x.held, x.heldLost)

/-- The values of the dictionary (R449). -/
abbrev valuesOf (x : Machine.Mgmt) :=
  (x.latest, x.inForce)

/-- The sessions and lockouts (R461, R518). -/
abbrev sessionsOf (x : Machine.Mgmt) :=
  (x.sessions, x.nextSession, x.failures, x.lockout)

/-- The addresses and interrupt enables of the endpoints (R453, R454, R463). -/
abbrev endpointsOf (x : Machine.Mgmt) :=
  (x.eidA, x.eidB, x.eidPcie, x.dynA, x.dynB, x.ibiA, x.ibiB)

/-- The event records (R462). -/
abbrev eventsOf (x : Machine.Mgmt) :=
  (x.events, x.eventSeq, x.ibiPendA, x.ibiPendB)

/-- The mirror of BAR0, the refused audits and the lane commit that waits. -/
abbrev mirrorAreaOf (x : Machine.Mgmt) :=
  (x.mirrorGen, x.mirrorTime, x.mirror, x.auditRefused, x.laneCommit)

/-- Poison, channels, rows, segments, dirty lines, far copies and release counts. -/
abbrev storeRestOf (x : Machine.Store) :=
  (x.poison, x.chans, x.rowCorr, x.spares, x.copying, x.segRetired, x.segMarked, x.migrating, x.dirty, x.far,
    x.waits, x.epochs, x.bufGen)

/-- The page ownership flags and unstable bits (R427, R428). -/
abbrev pagesOf (x : Machine.HostPort) :=
  (x.pages, x.unstable, x.dropLogged, x.goneLogged)

/-- The rings and the outstanding commands (R433 to R444). -/
abbrev ringsOf (x : Machine.HostPort) :=
  (x.rings, x.cmds, x.done, x.waitLive)

/-- The PCIe link and configuration space (R424). -/
abbrev hostLinkOf (x : Machine.HostPort) :=
  (x.linkUp, x.gen, x.width, x.perst, x.cfgReady, x.flrDue)

/-- The host status registers and MSI-X (R425, R445). -/
abbrev hostStatusOf (x : Machine.HostPort) :=
  (x.faultLast, x.faultSev, x.faultTime, x.dropped, x.msix, x.pba)

/-- The penalty and the bands (R545, R546). -/
abbrev reckoningOf (x : Machine.Health) :=
  (x.p, x.atLast, x.band)

/-- The fault log and the counters (R531, R541). -/
abbrev faultLogOf (x : Machine.Health) :=
  (x.log, x.seq, x.corr, x.corrLogged, x.cnt, x.evt)

/-- The flits and the marker codewords sent. -/
abbrev wireOf (x : Machine.Out) :=
  (x.wire, x.markers)

/-- The parts of the state, as the statements about what a command leaves alone name them. -/
inductive Part where
  /-- the power state (R479) -/
  | powerState
  /-- the clock cap, the throttle steps and the stretch (R484 to R491) -/
  | clocks
  /-- the pending journal (R500) -/
  | journal
  /-- the input, the sensors, the converters and the shutdown sequence (R475 to R499) -/
  | sensors
  /-- the NV store: manifest, firmware, audit and persistent logs -/
  | nvStore
  /-- the management core and the firmware in force -/
  | core
  /-- the start-up, Ready and service (R528, R569) -/
  | startUp
  /-- the records held while the core is down (R520) -/
  | heldRecords
  /-- the values of the dictionary (R449) -/
  | values
  /-- the sessions and lockouts (R461, R518) -/
  | sessions
  /-- the firmware update in progress (R470) -/
  | update
  /-- the addresses and interrupt enables of the endpoints (R453, R454, R463) -/
  | endpoints
  /-- the event records (R462) -/
  | events
  /-- the mirror of BAR0, the refused audits and the lane commit that waits -/
  | mirrorArea
  /-- the dies and bundles (01) -/
  | dies
  /-- the bytes of the Store -/
  | storeBytes
  /-- poison, channels, rows, segments, dirty lines, far copies and release counts -/
  | storeRest
  /-- what a Tile reset resets of the tiles -/
  | tiles
  /-- the tile buffers, tile clocks and kept tile counters -/
  | buffers
  /-- the array states (R150) -/
  | arrays
  /-- the Calendars, launches and notices (02) -/
  | frames
  /-- the engines, fibres and laser lines (08) -/
  | optics
  /-- the link spaces and splits (09) -/
  | links
  /-- the Almanac and its synchronisation (R342 to R347) -/
  | almanac
  /-- the slice, the egress filter and the requests (10) -/
  | fabric
  /-- the twin (11) -/
  | twin
  /-- the page ownership flags and unstable bits (R427, R428) -/
  | pages
  /-- the rings and the outstanding commands (R433 to R444) -/
  | rings
  /-- the PCIe link and configuration space (R424) -/
  | hostLink
  /-- the host status registers and MSI-X (R425, R445) -/
  | hostStatus
  /-- the penalty and the bands (R545, R546) -/
  | reckoning
  /-- the fault log and the counters (R531, R541) -/
  | faultLog
  /-- the flits and the marker codewords sent -/
  | wire
  /-- what the host saw -/
  | hostOut
  /-- the dictionary responses -/
  | answers
  /-- the control and PLDM responses -/
  | controls
  /-- (model) the counter of free values -/
  | freeCount
  deriving DecidableEq, Repr

/-- A part of the state is the same in two states. -/
def Part.same (p : Part) (s t : Machine.State) : Prop :=
  match p with
  | .powerState => t.pow.state = s.pow.state
  | .clocks => clocksOf t.pow = clocksOf s.pow
  | .journal => journalOf t.pow = journalOf s.pow
  | .sensors => sensorsOf t.pow = sensorsOf s.pow
  | .nvStore => t.nv = s.nv
  | .core => coreOf t.boot = coreOf s.boot
  | .startUp => startUpOf t.boot = startUpOf s.boot
  | .heldRecords => heldRecordsOf t.boot = heldRecordsOf s.boot
  | .values => valuesOf t.mgmt = valuesOf s.mgmt
  | .sessions => sessionsOf t.mgmt = sessionsOf s.mgmt
  | .update => t.mgmt.fw = s.mgmt.fw
  | .endpoints => endpointsOf t.mgmt = endpointsOf s.mgmt
  | .events => eventsOf t.mgmt = eventsOf s.mgmt
  | .mirrorArea => mirrorAreaOf t.mgmt = mirrorAreaOf s.mgmt
  | .dies => t.dies = s.dies
  | .storeBytes => t.store.cells = s.store.cells
  | .storeRest => storeRestOf t.store = storeRestOf s.store
  | .tiles => t.tiles = s.tiles
  | .buffers => t.tkeep = s.tkeep
  | .arrays => t.arrs = s.arrs
  | .frames => t.frames = s.frames
  | .optics => t.optics = s.optics
  | .links => t.links = s.links
  | .almanac => t.time = s.time
  | .fabric => t.fabric = s.fabric
  | .twin => t.twin = s.twin
  | .pages => pagesOf t.host = pagesOf s.host
  | .rings => ringsOf t.host = ringsOf s.host
  | .hostLink => hostLinkOf t.host = hostLinkOf s.host
  | .hostStatus => hostStatusOf t.host = hostStatusOf s.host
  | .reckoning => reckoningOf t.health = reckoningOf s.health
  | .faultLog => faultLogOf t.health = faultLogOf s.health
  | .wire => wireOf t.out = wireOf s.out
  | .hostOut => t.out.host = s.out.host
  | .answers => t.out.od = s.out.od
  | .controls => t.out.ctl = s.out.ctl
  | .freeCount => t.fresh = s.fresh

/-- How often a fault code has been detected since Cold reset, for Reckoning and the log (R531, R544). -/
def faultCount (s : Machine.State) (code : Nat) : Nat := Machine.mget 0 s.health.evt code

/-- The fault code is detected once from the one state to the other (R531). -/
def Raised (code : Nat) (s t : Machine.State) : Prop := faultCount t code = faultCount s code + 1

/-- One dictionary response more has gone out, to the request `q`, with this status (R458, R459) and this data. -/
def Answers (q : OdReq) (status : Nat) (data : List Byte) (s t : Machine.State) : Prop :=
  t.out.od = s.out.od ++
    [{ via := q.via, tag := q.tag, session := q.session, status := status, overrun := false, length := data.length, data := data }]

/-- One control or PLDM response more has gone out. -/
def Controls (v : Via) (code : Nat) (data : List Byte) (s t : Machine.State) : Prop :=
  t.out.ctl = s.out.ctl ++ [{ via := v, code := code, data := data }]

/-- The core serves the request, which is well-formed and made in a session of the Maker role, and a record finds room in the
journal (R448, R450, R456, R468): what an accepted write needs beside its range and its chapter's own conditions. -/
structure MakerWrites (s : Machine.State) (q : OdReq) : Prop where
  core : s.boot.mcRuns = true
  form : q.bad = false
  role : (Machine.roleOf s q false).map Prod.fst = some .maker
  room : s.pow.journal.length < 64

/-- No deferred write of the entry waits (R449). -/
def NotDeferred (s : Machine.State) (key : Nat) : Prop := Machine.mget [] s.mgmt.inForce key = []

/-- The completion ring has room: nothing is held, and it is not full (R435). -/
abbrev RingRoom (s : Machine.State) (ring : Nat) : Prop :=
  (Machine.ringOf s ring).held = [] ∧ Machine.cqFull (Machine.ringOf s ring) = false

/-- Between the two states the ring's record with this `CID`, slot, `STATUS`, `CODE` and detail went to the host (R438). -/
def Records (ring : Nat) (cid : U32) (slot status code d0 d1 : Nat) (s t : Machine.State) : Prop :=
  ∃ l n x, t.out.host = s.out.host ++ l ∧ Machine.HostOut.record ring n x ∈ l ∧ x.cid = cid ∧ x.slot = slot ∧
    x.status = status ∧ x.code = BitVec.ofNat 16 code ∧ x.detail0 = d0 ∧ x.detail1 = d1

/-- Thenil takes the next entry of a ring: it reads the ring, the `CID` is free, the entry is well-formed, and its record finds
room (R434, R439). -/
structure Submits (s : Machine.State) (h : SqHead) : Prop where
  reads : Machine.ringReads s h.ring.val = true
  cid : h.cid ≠ 0xFFFFFFFF
  fresh : Machine.cmdOutstanding s h.cid = false
  form : h.reserved = false
  room : RingRoom s h.ring.val

/-- An engine's inputs as Vigil's 1 ms sample leaves them (R287). -/
def inputsSampled (n : Nat) (lp ls : List Int) (s : Machine.State) : Machine.State :=
  Machine.takeSample n true ls (Machine.takeSample n false lp s)

/-- A Calend finds no fault in the links and the tokens: every space holds its local invariants and its last Ledger has been
acknowledged (R336, R337), and every write token is accounted for (R384). -/
structure CalendClean (s : Machine.State) : Prop where
  spaces : ∀ f, Machine.localBreaks (Machine.pairOf s f) = false
  ledgerDue : ∀ f, (Machine.pairOf s f).ledgerDue = none
  ledgerSeq : ∀ f n, (Machine.pairOf s f).ledgerSeq = some n → n < (Machine.pairOf s f).u
  tokens : ∀ x ∈ s.tiles, ∀ y ∈ x.2.toks, y.2.i = y.2.k + y.2.x + y.2.o

/-- The vector entry `e` can issue on tile `t`: the unit and its control store are free, and so are the Heralds of its ports (R176, R194). -/
structure VectorFree (s : Machine.State) (t : Nat) (masque : Bool) (e : Machine.Entry) : Prop where
  entry : Machine.issuable s t (if masque then 3 else 2) = some e
  unit : (Machine.tileOf s t).vec = none
  store : (Machine.tileOf s t).reload = false
  heralds : ∀ p ∈ Machine.portsOf masque (Machine.runBytes s masque
    (Machine.runImg s + Machine.descAt s (Machine.runImg s) e.desc)), (Machine.herOf s t p.herald).busy = false

/-- The entry `e` has issued on the vector unit of tile `t` (R176, R194): the run holds the unit, a place on the scoreboard, and the
Heralds of its ports. -/
def VectorIssued (s : Machine.State) (t : Nat) (masque : Bool) (e : Machine.Entry) (u : Machine.State) : Prop :=
  let desc := Machine.runImg s + Machine.descAt s (Machine.runImg s) e.desc
  let ports := Machine.portsOf masque (Machine.runBytes s masque desc)
  (Machine.tileOf u t).vec = some { masque := masque, pos := (Machine.tileOf s t).pos, desc := desc
                                    ports := ports.map (fun p => (p.num, p.herald)), computed := false } ∧
    Machine.onBoard (Machine.tileOf u t) (Machine.tileOf s t).pos = true ∧
    ∀ p ∈ ports, (Machine.herOf u t p.herald).busy = true

/-- A pair may train once its rings are locked (R329, R557): neither parked nor out of service, and start-up has reached step 7. -/
def startTrainingMay (s : Machine.State) (f : Nat) : Bool :=
  !(Machine.pairOf s f).latched && !(Machine.pairOf s f).parked && !(Machine.pairOf s f).outOfService &&
    !(Machine.fibOf s f).parked && decide (7 ≤ s.boot.step)

/-- The packet has a virtual channel and a next hop inside the slice (R358, R364, R368). -/
def Routed (s : Machine.State) (p : Packet) : Prop :=
  ∃ d vc, Machine.kindVc p.kind.toNat = some vc ∧ Machine.nextDir s (Machine.packetDest p) = some d ∧ Machine.dirInside s d = true

/-- The packet waits in some pair's queue for its first sending. -/
def Queued (p : Packet) (t : Machine.State) : Prop :=
  ∃ f vc b, (b, Payload.packet p) ∈ Machine.mget [] (Machine.pairOf t f).q vc

/-- A packet of kind `k` that this package's hub serves: well-formed, of that kind, and addressed to it (R368). -/
structure Arrives (s : Machine.State) (k : Nat) (p : Packet) : Prop where
  hub : s.boot.hub = true
  kind : p.kind.toNat = k
  form : p.rsv = false
  here : Machine.packetDest p = Machine.ownKey s
  service : s.boot.outOfService = none

/-- The filtered input current that the governor judges once the sample `c` mA has arrived (R497, shift 3). -/
def inputFiltered (s : Machine.State) (c : Nat) : Dy := (Machine.filterStep 3 c s.pow.current).y

/-- The inputs of an engine as its bring-up reads them: baselines loaded, pins raised, one sample of each lit input (R295). -/
def inputsRead (n : Nat) (b : BringUp) (s : Machine.State) : Machine.State :=
  Machine.sampleInput n false (b.primary.getD []) (Machine.sampleInput n true (b.spare.getD [])
    (Machine.setLight n false b.primary.isSome (Machine.setLight n true b.spare.isSome
      (Machine.loadBaselines n (Machine.raisePin n false (Machine.raisePin n true s))))))

end Sys2Proof
end

