-- ==== Sys2Proof/MayChange.lean ====
section
/-!
DEFINITION. The frame of each command: the parts of the state that it may change; a part that is not named stays as it was. The
commands that share a frame share a line.
-/

set_option Elab.async false

namespace Sys2Proof

/-- What logging a fault may change (R445, R462, R531). -/
def logParts : List Part := [.heldRecords, .events, .hostStatus, .faultLog, .hostOut]

/-- What a pending journal record may change (R500). -/
def journalParts : List Part :=
  [.journal, .nvStore, .heldRecords, .events, .mirrorArea, .hostStatus, .faultLog, .hostOut]

/-- What raising a fault of any severity may change (R525 to R533): the log, the journal, the launches and the notices that
a halt brings, the start or the service of the package. -/
def faultParts : List Part :=
  [.powerState, .journal, .nvStore, .startUp, .heldRecords, .events, .mirrorArea, .frames, .links, .rings,
    .hostStatus, .faultLog, .hostOut]

/-- What a write of the dictionary may change beside its entry's own effect (R449, R462, R466). -/
def writeParts : List Part := faultParts ++ [.values, .answers]

/-- Every part. -/
def everyPart : List Part :=
  [.powerState, .clocks, .journal, .sensors, .nvStore, .core, .startUp, .heldRecords, .values, .sessions, .update,
    .endpoints, .events, .mirrorArea, .dies, .storeBytes, .storeRest, .tiles, .buffers, .arrays, .frames, .optics,
    .links, .almanac, .fabric, .twin, .pages, .rings, .hostLink, .hostStatus, .reckoning, .faultLog, .wire, .hostOut,
    .answers, .controls, .freeCount]

/-- Every part but these. -/
def allBut (l : List Part) : List Part := everyPart.filter (fun p => !l.contains p)

/-- The parts that a command may change. -/
def Instr.mayChange : Instr → List Part
  | .vigilPresent _ => journalParts ++ [.powerState, .sensors, .core, .startUp, .values, .reckoning]
  | .coldReset _ => allBut [.storeBytes, .wire, .hostOut, .answers, .controls]
  | .mainRailsStart _ => [.sensors, .core, .startUp]
  | .undervoltageLockout | .perstNLow => allBut [.storeBytes, .reckoning, .wire, .answers, .controls]
  | .overVoltageTrip | .governorTick _ _ | .overCurrentTrip | .diodeSample _ | .converterStatusRead _ =>
    faultParts ++ [.clocks, .sensors]
  | .inputOutOfRange => faultParts ++ [.sensors]
  | .refclkFault | .haltNotice _ _ | .abortNotice _ _ | .validationComplete | .sliceRecord _ _ => faultParts
  | .boot _ => faultParts ++ [.core, .sessions, .hostLink]
  | .discovery _ => faultParts ++ [.core, .dies]
  | .dieAnnounce _ _ | .dieAnnounceTimeout _ => faultParts ++ [.dies]
  | .storeSelfTest _ _ _ _ => faultParts ++ [.storeBytes, .storeRest, .arrays]
  | .opticsBringUp _ _ | .engineInputRecheck _ _ | .engineLost _ =>
    faultParts ++ [.core, .values, .optics, .almanac, .fabric]
  | .rxLightAppear _ _ | .preFecWindow _ | .ringLockAttempt _ _ _ _ => faultParts ++ [.values, .optics]
  | .readyReport =>
    faultParts ++ [.values, .dies, .storeRest, .arrays, .optics, .almanac, .fabric, .twin, .pages, .freeCount]
  | .calend => faultParts ++ [.tiles, .buffers, .optics, .almanac, .fabric, .twin, .freeCount]
  | .outcomeFixed => faultParts ++ [.tiles, .buffers, .almanac, .fabric, .freeCount]
  | .pass _ _ | .projectionEval _ => faultParts ++ [.tiles, .freeCount]
  | .stream _ | .procession _ | .masqueRun _ | .lanternOp _ | .fence _ | .wait _ | .overrunNotice _ _
  | .marshalWatchdog _ => faultParts ++ [.tiles]
  | .transfer _ _ | .storePacket _ _ _ | .transferData _ _ _ | .transferReadData _ _ _ =>
    faultParts ++ [.storeBytes, .storeRest, .tiles, .buffers, .fabric, .twin]
  | .release _ _ | .acquire _ _ | .farInvalidateAck _ _ | .loadPacket _ _ _ | .transferRead _ _ _ | .releasePacket _ _ =>
    faultParts ++ [.storeRest, .tiles, .fabric]
  | .waitComplete _ _ => faultParts ++ [.tiles, .almanac]
  | .tallyCheck _ _ _ _ _ => faultParts ++ [.tiles, .buffers, .arrays, .freeCount]
  | .arrayParityError _ _ | .tileClockChange _ => faultParts ++ [.tiles, .buffers, .freeCount]
  | .passCommit _ _ => faultParts ++ [.tiles, .buffers, .arrays]
  | .marshalHalted _ => logParts ++ [.powerState, .tiles, .buffers, .frames, .links, .fabric, .rings, .freeCount]
  | .launch _ _ _ | .ringDisable _ _ | .abortEvaluate _ => logParts ++ [.powerState, .frames, .links, .rings]
  | .streamComplete _ _ => faultParts ++ [.storeBytes, .tiles, .buffers, .freeCount]
  | .heraldRequest _ _ _ _ => faultParts ++ [.storeRest, .tiles, .buffers, .fabric, .freeCount]
  | .heraldLineReturn _ => [.tiles, .buffers, .fabric]
  | .vectorRunComplete _ => faultParts ++ [.tiles, .fabric, .freeCount]
  | .vmodeReloadDone _ => [.tiles]
  | .vectorEccError _ _ => faultParts ++ [.storeBytes, .tiles, .buffers, .fabric, .freeCount]
  | .vectorRunStop _ _ => [.storeBytes, .tiles, .buffers, .fabric, .faultLog, .freeCount]
  | .lanternOpComplete _ _ _ _ => faultParts ++ [.storeBytes, .storeRest, .tiles, .buffers, .twin, .freeCount]
  | .ledgerFetch _ _ => faultParts ++ [.storeBytes, .storeRest, .tiles, .twin, .freeCount]
  | .homeSliceLoad _ _ | .loadData _ _ => faultParts ++ [.storeRest, .tiles, .fabric, .freeCount]
  | .homeSliceStore _ _ | .homeSliceAtomic _ _ | .atomicPacket _ _ _ =>
    faultParts ++ [.storeBytes, .storeRest, .tiles, .fabric, .twin]
  | .rowCopyDone _ _ => logParts ++ [.storeRest]
  | .scrub _ _ => faultParts ++ [.storeRest]
  | .onchipBlockReceive _ _ _ _ _ => faultParts ++ [.storeRest, .tiles]
  | .bundleBlockReceive _ _ _ _ _ _ => faultParts ++ [.dies, .tiles]
  | .segmentMigrationDone => faultParts ++ [.storeRest, .optics, .almanac, .fabric]
  | .codewordReceive _ _ => logParts ++ [.optics]
  | .markerCodeword _ _ => faultParts ++ [.optics, .wire]
  | .laserSample _ _ _ | .laserLightTimeout _ _ | .laserFadeTrip _ | .plannedSwitchover _ | .switchoverComplete _ _
  | .groupFault _ _ | .intercalaryWindowEnd _ _ _ _ | .withdrawalNotice _ _ | .returnNotice _ _
  | .intercalaryNotice _ _ => faultParts ++ [.optics]
  | .meshChangeDone _ | .trimmerUpdate _ _ _ => [.optics]
  | .rxLightLoss _ => faultParts ++ [.core, .optics, .almanac]
  | .flitSend _ | .flitCrcFailure _ | .nakRepeat _ _ | .creditFlitDue _ => [.links, .wire]
  | .idleFlit _ | .timeRequestTick | .timeRequest _ _ _ _ => [.links]
  | .dataFlit _ _ _ => faultParts ++ [.twin, .wire]
  | .creditFlit _ _ => [.links, .twin, .wire]
  | .ledgerFlit _ _ => faultParts ++ [.optics, .twin, .wire]
  | .nakFlit _ | .replayTimeout _ _ | .probationCountdown => faultParts ++ [.values]
  | .phaseFlit _ _ _ _ => faultParts ++ [.storeBytes, .storeRest, .buffers, .optics, .fabric, .twin, .wire]
  | .trainFlit _ _ => faultParts ++ [.core, .values, .tiles, .almanac, .fabric, .twin, .pages, .wire]
  | .resumeFlit _ _ => faultParts ++ [.wire]
  | .timeResponse _ _ _ | .beacon _ _ | .claim _ _ | .rootClaim | .holdoverEntry | .holdoverTimeout =>
    faultParts ++ [.almanac]
  | .beaconTick => [.links, .almanac]
  | .writeAcknowledgement _ _ | .atomicData _ _ | .pieceAcknowledgement _ _ | .undeliverable _ _
  | .releaseAcknowledgement _ _ | .deadTargetTimeout _ | .haltRequestResolve => faultParts ++ [.tiles, .fabric]
  | .transferComplete _ _ | .fenceComplete _ _ => faultParts ++ [.tiles, .buffers]
  | .mirrorWrite _ _ _ _ _ _ | .sealMarker _ _ | .rebuildSend => [.links, .twin]
  | .sealCommit | .unpairReleaseNotice _ _ => [.storeBytes, .storeRest, .links, .twin]
  | .sealAcknowledgement _ _ => [.links, .twin, .faultLog]
  | .pairingRecord _ _ => faultParts ++ [.values, .storeBytes, .twin, .freeCount]
  | .rebuildData _ _ _ _ _ _ | .hostMemoryTimeout _ _ _ _ => faultParts ++ [.storeBytes, .storeRest, .twin]
  | .pageAcknowledgement _ _ _ => faultParts ++ [.twin]
  | .departureNotice _ _ | .unpairKeepNotice _ _ | .partnerLossTimeout => faultParts ++ [.storeBytes, .twin, .freeCount]
  | .pcieLinkDown => logParts ++ [.rings, .hostLink]
  | .pcieLinkUp _ _ => logParts ++ [.frames, .pages, .rings, .hostLink]
  | .functionLevelReset => logParts ++ [.frames, .pages, .rings]
  | .pcieCorrectableError => logParts
  | .hostRead _ _ _ => faultParts ++ [.storeRest, .pages]
  | .hostWrite _ _ _ _ | .hostMemoryCompletion _ _ _ _ _ => faultParts ++ [.storeBytes, .storeRest, .twin, .pages]
  | .unstableReadClear _ _ => [.pages]
  | .registerWrite _ _ _ _ | .sqDoorbell _ _ _ | .mgmt _ _ _ _ _ _ | .writeEntry _ _ _ _ _ | .mcLive
  | .keyEnrolment _ _ _ _ => allBut [.reckoning, .controls]
  | .ringEnable _ _ | .cqDoorbell _ _ | .abortCommand _ _ => logParts ++ [.rings]
  | .ringIdle _ => [.rings]
  | .transferIn _ _ _ _ _ | .transferOut _ _ _ _ _ | .hostTransferComplete _ | .ownGive _ _ _ | .ownTake _ _ _ =>
    logParts ++ [.pages, .rings]
  | .msixCoalesceTimer _ => [.rings, .hostStatus, .hostOut]
  | .setEndpointId _ _ => [.endpoints, .controls]
  | .getEndpointId _ | .getMctpVersionSupport _ _ | .getMessageTypeSupport _ | .getVendorDefinedMessageSupport _ _
  | .queryDeviceIdentifiers _ | .getFirmwareParameters _ | .getStatus _ => [.controls]
  | .entdaa _ _ | .setdasa _ _ _ | .inBandInterruptEnable _ _ => [.endpoints]
  | .readEntry _ _ _ _ _ _ | .infoEntry _ _ _ | .listEntries _ _ | .eventRead _ _ | .attest _ _ =>
    faultParts ++ [.answers]
  | .beginSession _ _ _ => faultParts ++ [.sessions, .answers, .freeCount]
  | .prove _ _ _ => faultParts ++ [.sessions, .answers]
  | .endSession _ => faultParts ++ [.sessions, .update, .answers]
  | .sessionIdleTimeout _ | .provisionalSessionExpiry _ => faultParts ++ [.sessions, .update]
  | .lockoutEnd _ => [.sessions]
  | .mirrorRefresh => [.mirrorArea]
  | .requestUpdate _ => [.heldRecords, .update, .events, .hostStatus, .hostOut, .controls]
  | .passComponentTable _ _ => [.update, .controls]
  | .updateComponent _ _ _ | .cancelUpdateComponent _ =>
    [.nvStore, .heldRecords, .update, .events, .hostStatus, .hostOut, .controls]
  | .requestFirmwareData _ _ | .cancelUpdate _ => faultParts ++ [.update, .controls]
  | .activateFirmware _ => faultParts ++ [.core, .sessions, .update, .controls]
  | .fwUpdateTimeout => faultParts ++ [.update]
  | .liveActivationRevert => faultParts ++ [.core, .update]
  | .laneMapCommit _ _ | .tileClock _ _ | .currentLimit _ _ | .certFloor _ _ | .probationWrite _ _ => writeParts
  | .retireClear _ _ => writeParts ++ [.arrays]
  | .commission _ _ | .laserReturn _ _ | .laserRelease _ _ | .laserRestore _ _ | .fibrePark _ _ | .fibreUnpark _ _ =>
    writeParts ++ [.optics]
  | .almanacSet _ _ => writeParts ++ [.almanac]
  | .coordWrite _ _ => writeParts ++ [.core, .almanac, .fabric]
  | .unpairRelease _ | .unpairKeep _ | .lostClear _ _ => writeParts ++ [.twin]
  | .fwActivate _ _ => writeParts ++ [.core, .sessions, .update]
  | .powerTargetStandby _ | .powerTargetReady _ => allBut [.clocks, .sensors, .storeBytes, .reckoning, .controls]
  | .seasonReset _ _ =>
    allBut [.clocks, .sensors, .sessions, .update, .endpoints, .hostLink, .reckoning, .wire, .controls]
  | .warmReset _ _ => allBut [.storeBytes, .reckoning, .wire, .controls]
  | .tileReset _ _ => writeParts ++ [.tiles, .buffers, .fabric, .freeCount]
  | .overCurrentStretch | .stretchRelease => faultParts ++ [.clocks, .sensors, .tiles]
  | .shutdownDeadline => allBut [.journal, .values, .storeBytes, .reckoning, .wire, .answers, .controls]
  | .throttleStepUp | .throttleStepDown => [.clocks]
  | .nvRecordWrite | .manifestCommit _ => [.journal, .nvStore, .mirrorArea]
  | .mcWatchdog => faultParts ++ [.core, .sessions]
  | .vigilWatchdog => faultParts ++ [.sensors, .core, .sessions, .optics]
  | .reckoningUpdate => faultParts ++ [.reckoning, .freeCount]
  | .penaltySave => journalParts
  | .trainingFailed _ => faultParts ++ [.core, .almanac]
  | .perstNRelease => [.hostLink]
  | .configurationRequest => [.hostOut]
  | .inBandInterruptAcknowledge _ => [.events]

end Sys2Proof
end

