-- ==== Sys2Proof/WellFormed.lean ====
section
/-!
DEFINITION. Well-formed commands: the bounds that the spec puts on operands whose types are wider than it allows. A meaning is
total all the same; an ill-formed command is one that the surroundings cannot give.
-/

set_option Elab.async false

namespace Sys2Proof

/-- Why a command is ill-formed. -/
inductive IllFormed where
  /-- a key fingerprint is not 32 bytes (R506, R517) -/
  | fingerprintLength
  /-- a signature is not 2,420 bytes, or a certificate present is not 3,812 (R508, R517) -/
  | proofLength
  /-- a nonce is not 32 bytes (R517) -/
  | nonceLength
  /-- a key entry's value is not 1,344 bytes (R524) -/
  | keyLength
  /-- a diode sample has not 25 readings (R488) -/
  | diodeCount
  /-- a converter read has not 24 readings (R492) -/
  | converterCount
  /-- a laser sample of a lit input has not 8 lines (R287) -/
  | laserLines
  /-- a block is not 64 bytes (R21, R253) -/
  | blockLength
  /-- a host access has no byte, more than 4,096, or an enable too many or too few (R423, R426) -/
  | hostAccess
  /-- a submission entry is not 64 bytes (R433) -/
  | entryLength
  /-- a link rate or width that is never reported (R425) -/
  | linkRate
  /-- a register access is not aligned to its size (R425) -/
  | registerAlignment
  /-- an MCTP or PLDM message is said to come by the MGMT command (R453) -/
  | notAnEndpoint
  /-- a codeword is not 34 symbols on each of eight lines (R279) -/
  | codewordLines
  /-- a marker codeword or its receive report has not one lane word for each of eight lines (R281, R284) -/
  | markerWords
  /-- a Credit flit's or a Resume flit's counts are not one for each channel or slot (R323) -/
  | countsLength
  deriving DecidableEq, Repr

/-- A list has this length. -/
def hasLength {α : Type} (l : List α) (n : Nat) : Bool := decide (l.length = n)

/-- The reason when a check fails. -/
def require (ok : Bool) (e : IllFormed) : Option IllFormed := if ok then none else some e

/-- The first reason for which a command is ill-formed. -/
def Instr.illFormed : Instr → Option IllFormed
  | .beginSession _ _ fp => require (hasLength fp 32) .fingerprintLength
  | .prove _ sig cert => require (hasLength sig 2420 && (cert.isEmpty || hasLength cert 3812)) .proofLength
  | .attest _ nonce => require (hasLength nonce 32) .nonceLength
  | .keyEnrolment _ _ _ data => require (hasLength data 1344) .keyLength
  | .diodeSample r => require (hasLength r 25) .diodeCount
  | .converterStatusRead l => require (hasLength l 24) .converterCount
  | .laserSample _ p q => require ((p.isEmpty || hasLength p 8) && (q.isEmpty || hasLength q 8)) .laserLines
  | .onchipBlockReceive _ _ _ d _ => require (hasLength d 64) .blockLength
  | .bundleBlockReceive _ _ _ d _ _ => require (hasLength d 64) .blockLength
  | .hostRead _ n _ => require (decide (1 ≤ n.toNat ∧ n.toNat ≤ 4096)) .hostAccess
  | .hostWrite _ d e _ => require (decide (1 ≤ d.length ∧ d.length ≤ 4096) && hasLength e d.length) .hostAccess
  | .sqDoorbell _ _ l => require (l.all (fun x => hasLength x.bytes 64)) .entryLength
  | .pcieLinkUp g w => require (decide (3 ≤ g.toNat ∧ g.toNat ≤ 6) && [1, 2, 4, 8, 16].contains w.toNat) .linkRate
  | .registerWrite _ a _ wide => require (decide (a.toNat % (if wide then 8 else 4) = 0)) .registerAlignment
  | .setEndpointId v _ => require (decide (v ≠ .mgmt)) .notAnEndpoint
  | .getEndpointId v => require (decide (v ≠ .mgmt)) .notAnEndpoint
  | .getMctpVersionSupport v _ => require (decide (v ≠ .mgmt)) .notAnEndpoint
  | .getMessageTypeSupport v => require (decide (v ≠ .mgmt)) .notAnEndpoint
  | .getVendorDefinedMessageSupport v _ => require (decide (v ≠ .mgmt)) .notAnEndpoint
  | .queryDeviceIdentifiers v => require (decide (v ≠ .mgmt)) .notAnEndpoint
  | .getFirmwareParameters v => require (decide (v ≠ .mgmt)) .notAnEndpoint
  | .getStatus v => require (decide (v ≠ .mgmt)) .notAnEndpoint
  | .requestUpdate v => require (decide (v ≠ .mgmt)) .notAnEndpoint
  | .passComponentTable v _ => require (decide (v ≠ .mgmt)) .notAnEndpoint
  | .updateComponent v _ _ => require (decide (v ≠ .mgmt)) .notAnEndpoint
  | .requestFirmwareData v _ => require (decide (v ≠ .mgmt)) .notAnEndpoint
  | .activateFirmware v => require (decide (v ≠ .mgmt)) .notAnEndpoint
  | .cancelUpdateComponent v => require (decide (v ≠ .mgmt)) .notAnEndpoint
  | .cancelUpdate v => require (decide (v ≠ .mgmt)) .notAnEndpoint
  | .codewordReceive _ l => require (hasLength l 8 && l.all (fun x => hasLength x 34)) .codewordLines
  | .markerCodeword _ m => require (hasLength m.words 8 && hasLength m.report 8) .markerWords
  | .creditFlit _ l => require (hasLength l 6) .countsLength
  | .resumeFlit _ l => require (hasLength l 8) .countsLength
  | _ => none

/-- A command is well-formed. -/
def Instr.wf (i : Instr) : Bool := i.illFormed.isNone

end Sys2Proof
end

