-- ==== Sys2Proof/Certificates/Slice0/Obligations.lean ====
section
/-!
DEFINITION. The statements for the provers.
-/

set_option Elab.async false

section

open Sys2Proof Sys2Proof.Machine

/-! ## The dictionary and the management ports (13) -/

/-- READ, INFO, LIST and EVENT_READ answer what R458 and R464 say, in a role that may read the entry. -/
def Obligations.DictionaryReadsReturnTheEntry : Prop :=
  ∀ (s : State) (q : OdReq) (index : U16) (sub : Byte) (active : Bool) (r : OdRow) (role : Role) (fp : List Byte),
    s.boot.mcRuns = true → q.bad = false → roleOf s q false = some (role, fp) → odRow index.toNat sub.toNat = some r →
    rankAtLeast role r.rd = true →
    (odValue s r active ≠ [] → Gives (.readEntry q index sub active 0 0) s (fun t =>
      Answers q odOk ((odValue s r active).take 8168) s t)) ∧
    Gives (.infoEntry q index sub) s (fun t => Answers q odOk (infoBytes r) s t) ∧
    (∀ start : BitVec 24, Gives (.listEntries q start) s (fun t => ∃ d, Answers q odOk d s t ∧
      (start.toNat ≤ r.key → ((odNames.filter (fun k => decide (start.toNat ≤ k))).length ≤ 1024 →
        ∃ a b, d = a ++ leBytes 4 r.key ++ b)))) ∧
    (rankAtLeast role .operator = true → s.boot.heldLost = false → ∀ low : U32,
      (∀ e ∈ s.mgmt.events, low.toNat ≤ e.seq) → s.mgmt.eventSeq < 2 ^ 31 → low.toNat ≤ s.mgmt.eventSeq →
      (s.mgmt.events.head?.map (·.seq)).getD s.mgmt.eventSeq ≤ low.toNat →
      Gives (.eventRead q low) s (fun t => Answers q odOk ((s.mgmt.events.take 64).flatMap eventBytes) s t))

/-- A WRITE is refused with the first status that applies (R450, R459), and then no value of the dictionary changes: a malformed
message, an entry that does not exist, a role below the entry's, a wrong size, a value out of range. -/
def Obligations.RefusedWritesChangeNoValue : Prop :=
  ∀ (s : State) (q : OdReq) (index : U16) (sub : Byte) (offset : U32) (data : List Byte) (role : Role) (fp : List Byte),
    s.boot.mcRuns = true → roleOf s q false = some (role, fp) → s.pow.journal.length < 64 →
    (q.bad = true → Gives (.writeEntry q index sub offset data) s (fun t =>
      Answers q odMalformed [] s t ∧ t.mgmt.latest = s.mgmt.latest ∧ Raised 0xB001 s t)) ∧
    (q.bad = false → odRow index.toNat sub.toNat = none → Gives (.writeEntry q index sub offset data) s (fun t =>
      Answers q odNoObject [] s t ∧ t.mgmt.latest = s.mgmt.latest)) ∧
    (∀ r, q.bad = false → odRow index.toNat sub.toNat = some r → rankAtLeast role r.rd = true →
      (r.wr.map (rankAtLeast role)).getD false = false → Gives (.writeEntry q index sub offset data) s (fun t =>
        Answers q odAccess [] s t ∧ t.mgmt.latest = s.mgmt.latest)) ∧
    (∀ r w, q.bad = false → odRow index.toNat sub.toNat = some r → rankAtLeast role r.rd = true → r.wr = some w →
      rankAtLeast role w = true → data.length ≠ r.size → Gives (.writeEntry q index sub offset data) s (fun t =>
        Answers q odSize [] s t ∧ t.mgmt.latest = s.mgmt.latest)) ∧
    (∀ r w, q.bad = false → odRow index.toNat sub.toNat = some r → rankAtLeast role r.rd = true → r.wr = some w →
      rankAtLeast role w = true → data.length = r.size → offset = 0 → rangeOk s r data = false →
      Gives (.writeEntry q index sub offset data) s (fun t => Answers q odRange [] s t ∧ t.mgmt.latest = s.mgmt.latest))

/-- An accepted write of a readable entry with no action of its own (the health half-life, OD 0x8003.04, and the watch on
`SESSION_IDLE`, OD 0x1102.02, stand for the kind) is the latest accepted value, is journalled with its audit entry where its
write role is Installer or Maker, and is refused with NV_BUSY where the journal is full (R449, R466, R468). -/
def Obligations.AcceptedWritesAreKeptAndAudited : Prop :=
  ∀ (s : State) (q : OdReq) (v : U16), 1 ≤ v.toNat → v.toNat ≤ 720 →
    (MakerWrites s q → s.pow.nvOpen = false → Gives (.writeEntry q 0x8003 4 0 (leBytes 2 v.toNat)) s (fun t =>
      Answers q odOk [] s t ∧ odLatest t 0x800304 24 = v.toNat ∧
        ∃ a, t.pow.journal = s.pow.journal ++ [{ kind := .stored 0x800304 (leBytes 2 v.toNat), audit := some a }] ∧
          a.index = 0x8003 ∧ a.sub = 4 ∧ a.role = 3 ∧ a.status = 0 ∧ a.via = q.via ∧
          a.value = Config.sha3 (leBytes 2 v.toNat))) ∧
    (s.boot.mcRuns = true → q.bad = false → (roleOf s q false).map Prod.fst = some .maker → s.pow.journal.length = 64 →
      Gives (.writeEntry q 0x8003 4 0 (leBytes 2 v.toNat)) s (fun t =>
        Answers q odNvBusy [] s t ∧ t.mgmt.latest = s.mgmt.latest ∧ t.pow.journal = s.pow.journal ∧
          t.mgmt.auditRefused = s.mgmt.auditRefused + 1))

/-- The MCTP control messages (R453). -/
def Obligations.MctpControlMessagesAreAnswered : Prop :=
  ∀ (s : State) (v : Via), mctpAnswers s v = true →
    (∀ eid : Byte, eid ≠ 0 → eid ≠ 0xFF → Gives (.setEndpointId v eid) s (fun t =>
      endpointId t v = eid ∧ Controls v 0 [eid] s t ∧ ∀ w : Via, w ≠ v → w ≠ .mgmt → endpointId t w = endpointId s w)) ∧
    Gives (.getEndpointId v) s (fun t => Controls v 0 [endpointId s v] s t) ∧
    (∀ typ : Byte, (typ = 0xFF ∨ typ = 0x00 ∨ typ = 0x01 ∨ typ = 0x7E) → Gives (.getMctpVersionSupport v typ) s (fun t =>
      Controls v 0 [] s t)) ∧
    Gives (.getMessageTypeSupport v) s (fun t => Controls v 0 [0x00, 0x01, 0x7E] s t) ∧
    Gives (.getVendorDefinedMessageSupport v 0) s (fun t => Controls v 0 [0x1F, 0x4B] s t)

/-- The I3C ports take their addresses (R454), and In-Band Interrupts are enabled and acknowledged port by port (R463); the core
refreshes the mirror of BAR0 (R465). -/
def Obligations.I3cPortsAndMirrorFollowTheirRules : Prop :=
  ∀ (s : State) (a : BitVec 7) (on : Bool),
    (s.pow.state ≠ .off →
      (s.mgmt.dynA = none → Gives (.entdaa false a) s (fun t => t.mgmt.dynA = some (a.zeroExtend 8) ∧ t.mgmt.dynB = s.mgmt.dynB)) ∧
      (s.mgmt.dynB = none → Gives (.entdaa true a) s (fun t => t.mgmt.dynB = some (a.zeroExtend 8) ∧ t.mgmt.dynA = s.mgmt.dynA)) ∧
      Gives (.setdasa false (BitVec.ofNat 7 (0x40 + s.boot.slot.toNat)) a) s (fun t => t.mgmt.dynA = some (a.zeroExtend 8)) ∧
      Gives (.setdasa true (BitVec.ofNat 7 (0x48 + s.boot.slot.toNat)) a) s (fun t => t.mgmt.dynB = some (a.zeroExtend 8)) ∧
      Gives (.inBandInterruptEnable false on) s (fun t => t.mgmt.ibiA = on ∧ t.mgmt.ibiB = s.mgmt.ibiB) ∧
      Gives (.inBandInterruptEnable true on) s (fun t => t.mgmt.ibiB = on ∧ t.mgmt.ibiA = s.mgmt.ibiA)) ∧
    Gives (.inBandInterruptAcknowledge false) s (fun t => t.mgmt.ibiPendA = false ∧ t.mgmt.ibiPendB = s.mgmt.ibiPendB) ∧
    Gives (.inBandInterruptAcknowledge true) s (fun t => t.mgmt.ibiPendB = false ∧ t.mgmt.ibiPendA = s.mgmt.ibiPendA) ∧
    (s.boot.mcRuns = true → Gives .mirrorRefresh s (fun t =>
      t.mgmt.mirrorGen = s.mgmt.mirrorGen + 2 ∧ t.mgmt.mirrorTime = s.time.alm))

/-- A firmware update passes through its states (R470): identification, the table, the download into the slot that is not active,
its end, cancellation and the agent's silence, which cancel it with 0xB004. The completion codes are the model's (PRESUMED, log
entry 17). -/
def Obligations.FirmwareUpdatePassesThroughItsStates : Prop :=
  ∀ (s : State) (v : Via), v ≠ .mgmt → s.boot.mcRuns = true →
    Gives (.queryDeviceIdentifiers v) s (fun t => Controls v 0 (leBytes 2 0x1F4B ++ leBytes 2 (deviceId s)) s t) ∧
    Gives (.getFirmwareParameters v) s (fun t => ∃ d, Controls v 0 d s t ∧ d.length = 24) ∧
    Gives (.getStatus v) s (fun t => Controls v 0 (leBytes 1 s.mgmt.fw.state ++ leBytes 4 s.mgmt.fw.progress) s t) ∧
    (∀ x, s.mgmt.fw.state = 0 → updaterSession s v = some x → Gives (.requestUpdate v) s (fun t =>
      t.mgmt.fw.state = 1 ∧ t.mgmt.fw.via = some v ∧ t.mgmt.fw.session = x.num ∧ Controls v 0 [] s t)) ∧
    (∀ l, s.mgmt.fw.state = 1 → s.mgmt.fw.via = some v → Gives (.passComponentTable v l) s (fun t =>
      t.mgmt.fw.table = l.map BitVec.toNat ∧ t.mgmt.fw.state = 1 ∧ Controls v 0 [] s t)) ∧
    (∀ size : U32, s.mgmt.fw.state = 1 → s.mgmt.fw.via = some v → 2 ∈ s.mgmt.fw.table → 6400 ≤ size.toNat →
      size.toNat ≤ 6400 + 2 ^ 20 → Gives (.updateComponent v 2 size) s (fun t =>
        t.mgmt.fw.state = 2 ∧ t.mgmt.fw.component = 2 ∧ t.mgmt.fw.size = size.toNat ∧ t.mgmt.fw.progress = 0 ∧
          mshImage t (!activeSlot s 2) = {} ∧ mshImage t (activeSlot s 2) = mshImage s (activeSlot s 2))) ∧
    (∀ data, s.mgmt.fw.state = 2 → s.mgmt.fw.via = some v → data.length ≤ requestBytes v →
      s.mgmt.fw.progress + data.length < s.mgmt.fw.size → Gives (.requestFirmwareData v data) s (fun t =>
        t.mgmt.fw.state = 2 ∧ t.mgmt.fw.progress = s.mgmt.fw.progress + data.length ∧
          t.mgmt.fw.bytes = s.mgmt.fw.bytes ++ data)) ∧
    (s.mgmt.fw.state = 5 → s.mgmt.fw.via = some v → s.boot.activating = false → (mcImage s (!activeSlot s 1)).ready = false →
      Gives (.activateFirmware v) s (fun t => t.mgmt.fw.state = 0 ∧ Controls v 0 [] s t ∧
        t.boot.mshPending = (s.boot.mshPending || (mshImage s (!activeSlot s 2)).ready))) ∧
    (s.mgmt.fw.state = 2 → s.mgmt.fw.via = some v → s.mgmt.fw.component = 2 → Gives (.cancelUpdateComponent v) s (fun t =>
      t.mgmt.fw.state = 1 ∧ (mshImage t (!activeSlot s 2)).invalid = true)) ∧
    (s.mgmt.fw.state = 1 → s.mgmt.fw.via = some v → Gives (.cancelUpdate v) s (fun t =>
      t.mgmt.fw.state = 0 ∧ Raised 0xB004 s t)) ∧
    (s.mgmt.fw.state = 2 → Gives .fwUpdateTimeout s (fun t => t.mgmt.fw.state = 0 ∧ Raised 0xB004 s t))

/-! ## Power (14) -/

/-- The levels of the input (R475 to R477): Vigil starts at 18 V; a power cycle empties the retention store and clears the
latched state, a shorter interruption keeps both; the main rails start at 34.5 V; undervoltage lockout is a Warm reset that
keeps the latch cause and the records that the journal holds. PERST_N (R424, R482): low is a Warm reset of a package that is up, and does
nothing to one whose hub is off; high makes the configuration space ready where the hub is up. -/
def Obligations.InputLevelsActAsTheirTableSays : Prop :=
  ∀ (s : State) (b : Bool) (slot : BitVec 3),
    (s.pow.state = .off → Gives (.vigilPresent b) s (fun t => t.pow.state = .standby)) ∧
    (s.pow.state ≠ .off → Gives (.coldReset true) s (fun t =>
      t.pow.state = .off ∧ t.pow.journal = [] ∧ t.pow.latchCause = 0 ∧ t.boot.latched = [] ∧ t.pow.fscMap = 0xFF ∧
        t.boot.lastReset = 2 ∧ t.nv.resetCold = s.nv.resetCold + 1)) ∧
    (s.pow.state ≠ .off → Gives (.coldReset false) s (fun t =>
      (t.pow.state = .latched ↔ s.pow.state = .latched) ∧ t.pow.journal = s.pow.journal ∧
        t.pow.latchCause = s.pow.latchCause ∧ t.pow.fscMap = s.pow.fscMap ∧ t.boot.lastReset = 1 ∧
        t.nv.resetCold = s.nv.resetCold + 1)) ∧
    (s.pow.state ≠ .off → Gives (.mainRailsStart slot) s (fun t =>
      t.pow.railsOk = true ∧ (s.boot.slotTaken = false → t.boot.slot = slot) ∧
        (s.boot.slotTaken = true → t.boot.slot = s.boot.slot) ∧
        (s.pow.state = .standby → odNum s 0x200003 2 = 2 → t.boot.starting = true))) ∧
    (s.pow.railsOk = true → s.pow.state ≠ .off → s.pow.state ≠ .latched → Gives .undervoltageLockout s (fun t =>
      t.pow.state = .standby ∧ t.pow.railsOk = false ∧ t.boot.hub = false ∧ (∃ l, t.pow.journal = s.pow.journal ++ l) ∧
        t.pow.latchCause = s.pow.latchCause ∧ t.boot.lastReset = 5 ∧ Raised 0x9002 s t)) ∧
    (s.host.perst = true → s.boot.hub = true → Gives .perstNLow s (fun t =>
      t.host.perst = false ∧ t.host.cfgReady = false ∧ t.boot.lastReset = 3 ∧ t.nv.resetWarm = s.nv.resetWarm + 1 ∧
        t.pow.state = .standby ∧ t.store.poison = [] ∧ t.mgmt.sessions = [])) ∧
    (s.boot.hub = false → Gives .perstNLow s (fun t =>
      t = { s with host := { s.host with perst := false, cfgReady := false } })) ∧
    Gives .perstNRelease s (fun t => t.host.perst = true ∧ t.host.cfgReady = s.boot.hub)

/-- The events that begin a shutdown on the input, the next rows of its sequence (R475, R487, R493, R494), the input outside
its operating range, and the loss of REFCLK (R574). -/
def Obligations.TripsShutThePackageDown : Prop :=
  ∀ s : State,
    ((s.pow.state = .standby ∨ s.pow.state = .ready ∨ s.pow.state = .run) → s.pow.shutdown = 0 →
      Gives .overVoltageTrip s (fun t => t.pow.latchCause = 0x9022 ∧ t.pow.stretch = true ∧ t.pow.shutdown = 1 ∧
        Raised 0x9022 s t ∧ (s.boot.ready = true → s.boot.outOfService = none → t.boot.outOfService = some 0x9022))) ∧
    (s.boot.hub = true → (s.pow.state = .standby ∨ s.pow.state = .ready ∨ s.pow.state = .run) → s.pow.shutdown = 0 →
      Gives .overCurrentTrip s (fun t => t.pow.latchCause = 0x9021 ∧ t.pow.stretch = true ∧ t.pow.shutdown = 1 ∧
        Raised 0x9021 s t ∧ (s.boot.ready = true → s.boot.outOfService = none → t.boot.outOfService = some 0x9021))) ∧
    (s.pow.shutdown = 1 → Gives .shutdownDeadline s (fun t =>
      t.pow.shutdown = 2 ∧ t.host.linkUp = false ∧ t.host.cmds = [] ∧ (∀ i, (ringOf t i).en = false ∧ (ringOf t i).held = []) ∧
        ∀ n, (engOf t n).reqP = false ∧ (engOf t n).reqS = false)) ∧
    (s.pow.shutdown = 2 → Gives .shutdownDeadline s (fun t =>
      t.pow.state = .latched ∧ t.pow.shutdown = 0 ∧ t.boot.hub = false ∧ t.pow.latchCause = s.pow.latchCause)) ∧
    (s.boot.hub = true → s.pow.outOfRange = false → Gives .inputOutOfRange s (fun t =>
      t.pow.outOfRange = true ∧ t.pow.state = s.pow.state ∧ Raised 0x9003 s t)) ∧
    (s.boot.hub = true → s.boot.ready = true → s.boot.outOfService = none → Gives .refclkFault s (fun t =>
      t.boot.outOfService = some 0xC010 ∧ Raised 0xC010 s t))

/-- The governor makes at most one step a period (R484), the stretch takes one step at once (R486), and a released stretch is
gone. L in mA is 1000 times the limit of R483. -/
def Obligations.GovernorStepsTheClockCap : Prop :=
  ∀ (s : State) (c v : Nat),
    (s.pow.state ≠ .off → s.boot.hub = true → 4 < s.pow.cap → dyLt (dyInt (1000 * limitAmps s)) (inputFiltered s c) = true →
      Gives (.governorTick c v) s (fun t => t.pow.cap = s.pow.cap - 1 ∧ t.pow.current = {} ∧ t.pow.lowRun = 0)) ∧
    (s.pow.state ≠ .off → s.boot.hub = true → s.pow.cap < 16 → 9 ≤ s.pow.lowRun →
      dyLt (dyInt (1000 * limitAmps s)) (inputFiltered s c) = false →
      dyLe (inputFiltered s c) (dyInt (1000 * limitAmps s - 3000)) = true →
      Gives (.governorTick c v) s (fun t => t.pow.cap = s.pow.cap + 1 ∧ t.pow.current = {} ∧ t.pow.lowRun = 0)) ∧
    (s.pow.state ≠ .off → s.boot.hub = true → dyLt (dyInt (1000 * limitAmps s)) (inputFiltered s c) = false →
      dyLe (inputFiltered s c) (dyInt (1000 * limitAmps s - 3000)) = false →
      Gives (.governorTick c v) s (fun t => t.pow.cap = s.pow.cap ∧ t.pow.lowRun = 0 ∧
        t.pow.current = filterStep 3 c s.pow.current ∧ t.pow.voltage = filterStep 3 v s.pow.voltage)) ∧
    (s.boot.hub = true → s.pow.stretch = false → 4 ≤ s.pow.cap →
      Gives .overCurrentStretch s (fun t => t.pow.stretch = true ∧ t.pow.cap = max 4 (s.pow.cap - 1) ∧
        corrOf t 0x9005 = corrOf s 0x9005 + 1 ∧ cntOf t 0x200301 = cntOf s 0x200301 + 1)) ∧
    (s.pow.stretch = true → s.pow.shutdown = 0 →
      Gives .stretchRelease s (fun t => t.pow.stretch = false ∧ t.pow.cap = s.pow.cap ∧ t.pow.current = {}))

/-- The temperatures (R490, R491) and the converters (R492): every diode's sample passes through its filter; n rises by one to
at most 32 while a die is hot and falls by one while every die is cool; the first FSC that reports a flag in two reads running
leaves service with 0x9024, and a PLS that does so begins a shutdown with 0x9023. -/
def Obligations.ThermalAndConverterFaultsActAsStated : Prop :=
  ∀ s : State,
    (∀ (l : List Int) (i : Nat) (h : i < l.length), l.length = 25 → s.pow.state ≠ .off →
      Gives (.diodeSample l) s (fun t => diodeOf t i = diodeStep l[i] (diodeOf s i))) ∧
    (anyHot s = true → s.pow.hotEpisode = true → s.pow.state ≠ .latched →
      Gives .throttleStepUp s (fun t => t.pow.steps = min 32 (s.pow.steps + 1))) ∧
    (allCool s = true → s.pow.steps ≠ 0 → s.pow.state ≠ .latched →
      Gives .throttleStepDown s (fun t => t.pow.steps = s.pow.steps - 1)) ∧
    (∀ (i : Nat) (f : BitVec 4), i < 8 → s.pow.railsOk = true → s.pow.state ≠ .latched → s.pow.state ≠ .off →
      s.pow.fscMap = 0xFF → f &&& mget 0 s.pow.conv i ≠ 0 →
      Gives (.converterStatusRead ((List.replicate 24 0).set i f)) s (fun t =>
        t.pow.fscMap = 0xFF &&& ~~~(BitVec.ofNat 8 (2 ^ i)) ∧ Raised 0x9024 s t)) ∧
    (∀ (i : Nat) (f : BitVec 4), 8 ≤ i → i < 24 → s.pow.railsOk = true → s.pow.state ≠ .latched → s.pow.state ≠ .off →
      s.pow.shutdown = 0 → f &&& mget 0 s.pow.conv i ≠ 0 →
      Gives (.converterStatusRead ((List.replicate 24 0).set i f)) s (fun t =>
        t.pow.latchCause = 0x9023 ∧ t.pow.shutdown = 1 ∧ Raised 0x9023 s t))

/-- The pending journal (R500, R501, R512, R548): with the window open the record at the front is written, a record of the
manifest waiting there for its commit; a verified commit releases it; P goes to the NV store at once, or waits in the journal
while the window is closed. -/
def Obligations.JournalRecordsReachTheNvStore : Prop :=
  ∀ s : State,
    (∀ p rest, s.pow.nvOpen = true → s.pow.journal = { kind := .penalty p } :: rest →
      Gives .nvRecordWrite s (fun t => t.pow.journal = rest ∧ t.nv.penalty = p)) ∧
    (∀ a rest, s.pow.nvOpen = true → s.pow.journal = { kind := .retire a } :: rest →
      Gives .nvRecordWrite s (fun t => t.pow.journal = s.pow.journal ∧ t.nv.committing = true)) ∧
    (∀ a rest, s.nv.committing = true → s.pow.journal = { kind := .retire a } :: rest → (∀ r ∈ rest, jDirect r.kind = true) →
      Gives (.manifestCommit true) s (fun t => t.pow.journal = rest ∧ mget false t.nv.retired a = true ∧
        t.nv.committing = false ∧
        max t.nv.copyA.counter t.nv.copyB.counter = max s.nv.copyA.counter s.nv.copyB.counter + 1)) ∧
    (s.nv.committing = true → Gives (.manifestCommit false) s (fun t =>
      t.pow.journal = s.pow.journal ∧ t.nv.committing = false)) ∧
    (s.pow.state ≠ .off → s.pow.nvOpen = true → s.pow.journal = [] →
      Gives .penaltySave s (fun t => t.nv.penalty = s.health.p ∧ t.pow.journal = [])) ∧
    (s.pow.state ≠ .off → s.pow.nvOpen = false → s.pow.journal.length < 64 →
      Gives .penaltySave s (fun t => t.pow.journal = s.pow.journal ++ [{ kind := .penalty s.health.p }] ∧ t.nv = s.nv))

/-! ## Identity, sessions and keys (15) -/

/-- BEGIN, PROVE and END (R517, R518): a challenge opens a provisional session; a proof opens it, or closes its number with
0xA020; END closes it; an endpoint in lockout is answered BUSY; the timers close what they name. -/
def Obligations.SessionsOpenAndCloseByChallenge : Prop :=
  ∀ (s : State) (q : OdReq), s.boot.mcRuns = true → q.bad = false →
    (∀ (role : Byte) (r : Role) (fp : List Byte), lockedOut s q.via = false →
      (s.mgmt.sessions.filter (fun x => !x.byVigil)).length < 16 → roleNamed role = some r → fp.length = 32 →
      Gives (.beginSession q role fp) s (fun t => ∃ x d, t.mgmt.sessions = s.mgmt.sessions ++ [x] ∧ x.proven = false ∧
        x.role = r ∧ x.via = q.via ∧ x.keyFp = fp ∧ x.nonce.length = 32 ∧ d = leBytes 2 x.num ++ leBytes 2 0 ++ x.nonce ∧
        Answers q odOk d s t)) ∧
    (∀ (role : Byte) (fp : List Byte), lockedOut s q.via = true → Gives (.beginSession q role fp) s (fun t =>
      t.mgmt.sessions = s.mgmt.sessions ∧ Answers q odBusy [] s t)) ∧
    (∀ (x : Sess) (sig cert : List Byte), sessionOf s q false = some x → x.proven = false →
      Gives (.prove q sig cert) s (fun t =>
        if proofOk s x sig cert = true then
          (∀ y ∈ t.mgmt.sessions, y.num = x.num → y.proven = true) ∧ Answers q odOk [] s t
        else (∀ y ∈ t.mgmt.sessions, y.num ≠ x.num) ∧ Answers q odAccess [] s t ∧ Raised 0xA020 s t)) ∧
    (∀ x : Sess, q.session ≠ 0 → sessionOf s q false = some x → Gives (.endSession q) s (fun t =>
      t.mgmt.sessions = s.mgmt.sessions.filter (fun y => decide (y.num ≠ x.num)) ∧ Answers q odOk [] s t)) ∧
    (∀ num : U16, Gives (.sessionIdleTimeout num) s (fun t =>
      t.mgmt.sessions = s.mgmt.sessions.filter (fun y => !(y.proven && decide (y.num = num.toNat))))) ∧
    (∀ num : U16, Gives (.provisionalSessionExpiry num) s (fun t =>
      t.mgmt.sessions = s.mgmt.sessions.filter (fun y => !(!y.proven && decide (y.num = num.toNat))))) ∧
    (∀ v : Via, s.mgmt.lockout = [(viaCode v, true)] → Gives (.lockoutEnd v) s (fun t => lockedOut t v = false))

/-- The attestation report (R516) begins with its format, the serial number, the Almanac and the requester's nonce. -/
def Obligations.AttestationReportsCarryTheNonce : Prop :=
  ∀ (s : State) (q : OdReq) (nonce : List Byte), s.boot.mcRuns = true → q.bad = false → (roleOf s q false).isSome = true →
    nonce.length = 32 →
    Gives (.attest q nonce) s (fun t => ∃ d, Answers q odOk d s t ∧
      d.take 52 = leBytes 2 1 ++ leBytes 2 0 ++ leBytes 8 s.nv.serial.toNat ++ leBytes 8 (now s) ++ nonce)

/-- Keys and the certificate floor (R519, R524): a Maker enrols a key that neither table holds; the floor rises, and never falls. -/
def Obligations.KeysAndFloorsAreMakerWrites : Prop :=
  ∀ (s : State) (q : OdReq), MakerWrites s q →
    (∀ (installer : Bool) (sub : Byte) (key : List Byte), key.length = 1312 → 1 ≤ sub.toNat →
      sub.toNat ≤ (if installer then 8 else 32) →
      (∀ k ∈ installerKeys ++ operatorKeyEntries, enrolled s k ≠ some key) →
      Gives (.keyEnrolment q installer sub (key ++ (1 : Byte) :: List.replicate 31 0)) s (fun t =>
        enrolled t (odKey (if installer then 0x7001 else 0x7002) sub.toNat) = some key ∧ Answers q odOk [] s t)) ∧
    (∀ v : U32, odLatest s 0x700303 0 ≤ v.toNat → Gives (.certFloor q v) s (fun t =>
      odLatest t 0x700303 0 = v.toNat ∧ Answers q odOk [] s t)) ∧
    (∀ v : U32, v.toNat < odLatest s 0x700303 0 → Gives (.certFloor q v) s (fun t =>
      odLatest t 0x700303 0 = odLatest s 0x700303 0 ∧ Answers q odRange [] s t))

/-! ## Watchdogs, resets, health (16) -/

/-- The watchdogs (R534 to R537): the core's is restarted with 0xD001, and stopped with 0xD010 at the third time within 1 h; a
Marshal's raises 0xD002; Vigil's restarts it with 0xD003, its filters afresh and n and f_cap held. -/
def Obligations.WatchdogsRestartTheirPart : Prop :=
  ∀ s : State,
    (s.boot.hub = true → s.boot.mcRuns = true → Gives .mcWatchdog s (fun t =>
      t.boot.mcRuns = false ∧ t.boot.odLive = false ∧ t.mgmt.sessions = [] ∧ t.frames.run.isSome = s.frames.run.isSome ∧
        Raised 0xD001 s t ∧ cntOf t 0x800201 = cntOf s 0x800201 + 1 ∧
        (2 ≤ (recent (now s) 3600000000000 s.boot.mcRestarts).length → t.boot.mcStopped = true ∧ Raised 0xD010 s t) ∧
        ((recent (now s) 3600000000000 s.boot.mcRestarts).length < 2 → t.boot.activating = true))) ∧
    (∀ t : TileNo, ((tileOf s t.val).st = 1 ∨ (tileOf s t.val).st = 2 ∨ (tileOf s t.val).st = 3) →
      Gives (.marshalWatchdog t) s (fun u => (tileOf u t.val).hung = true ∧ Raised 0xD002 s u ∧
        cntOf u 0x800202 = cntOf s 0x800202 + 1)) ∧
    (s.pow.state ≠ .off → Gives .vigilWatchdog s (fun t =>
      t.pow.current = {} ∧ t.pow.voltage = {} ∧ t.pow.steps = s.pow.steps ∧ t.pow.cap = s.pow.cap ∧ Raised 0xD003 s t ∧
        cntOf t 0x800203 = cntOf s 0x800203 + 1 ∧
        (2 ≤ (recent (now s) 600000000000 s.boot.vigilRestarts).length → Raised 0xD011 s t)))

/-- Reckoning (R545 to R547): every second P decays and takes the weighted rises, up to 2^32 - 1, the band follows the score,
and Watch is reported on entry unless the package is on probation, which counts down each hour. -/
def Obligations.ReckoningFollowsItsFormula : Prop :=
  ∀ s : State,
    (s.pow.state ≠ .off → Gives .reckoningUpdate s (fun t =>
      (∃ r, r ≤ 1 ∧ (s.health.p = 0 → r = 0) ∧ t.health.p = min (2 ^ 32 - 1) (decayFloor s.health.p (odNum s 0x800304 24) + r +
        ((((reckInputs s).zip s.health.atLast).map (fun x => x.1 - x.2)).zip (reckWeights s)).foldl
          (fun a x => a + x.1 * x.2) 0)) ∧
      t.health.atLast = reckInputs s ∧ t.health.band = nextBand s.health.band (score t.health.p) ∧
      (s.health.band = 0 → t.health.band = 1 → probation s = 0 → Raised 0xD030 s t) ∧
      (s.health.band ≠ 2 → t.health.band = 2 → probation s = 0 → Raised 0xD031 s t) ∧
      (probation s ≠ 0 → faultCount t 0xD030 = faultCount s 0xD030 ∧ faultCount t 0xD031 = faultCount s 0xD031))) ∧
    (probation s ≠ 0 → probation s ≤ 720 → NotDeferred s 0x800307 → Gives .probationCountdown s (fun t =>
      probation t = probation s - 1 ∧ (probation s = 1 → s.health.band = 1 → Raised 0xD030 s t))) ∧
    (∀ (q : OdReq) (v : U16), MakerWrites s q → v.toNat ≤ 720 → NotDeferred s 0x800307 →
      Gives (.probationWrite q v) s (fun t => probation t = v.toNat ∧ Answers q odOk [] s t ∧
        (probation s ≠ 0 → v = 0 → s.health.band = 2 → Raised 0xD031 s t)))

/-- The core comes back (R520, R534): it serves again, posts what was held, and sets `OD_LIVE`; a live activation that does not
come up in time reverts to the previous slot with 0xA031 (R521). -/
def Obligations.TheCoreComesBackOrReverts : Prop :=
  ∀ s : State,
    (s.boot.activating = true → s.boot.mcStopped = false → s.boot.hub = true → s.host.cmds = [] → s.boot.actSlot = none →
      Gives .mcLive s (fun t => t.boot.mcRuns = true ∧ t.boot.activating = false ∧ t.boot.held = [] ∧
        t.boot.odLive = (s.boot.ready || s.boot.blocked) ∧ t.host.waitLive = [])) ∧
    (∀ slot, s.boot.activating = true → s.boot.mcStopped = false → s.boot.hub = true → s.host.cmds = [] →
      s.boot.actSlot = some slot → Gives .mcLive s (fun t =>
        t.boot.mcRuns = true ∧ t.boot.activating = false ∧ t.boot.actSlot = none ∧ t.boot.liveSince = true ∧
          t.mgmt.fw.state = 0 ∧ Raised 0xA030 s t ∧ cntOf t 0x700403 = cntOf s 0x700403 + 1)) ∧
    (∀ slot, s.boot.activating = true → s.boot.actSlot = some slot → Gives .liveActivationRevert s (fun t =>
      t.boot.mcSlot = !slot ∧ t.boot.actSlot = none ∧ (mcImage t slot).invalid = true ∧ (mcImage t slot).ready = false ∧
        t.mgmt.fw.state = 0 ∧ Raised 0xA031 s t)) ∧
    (∀ q : OdReq, MakerWrites s q → s.boot.activating = false → (mshImage s (!activeSlot s 2)).ready = true →
      (mcImage s (!activeSlot s 1)).ready = false → Gives (.fwActivate q 1) s (fun t =>
        t.boot.mshPending = true ∧ t.boot.mcRuns = true ∧ Answers q odOk [] s t))

/-- The resets by command and the power target (R480, R481, R539 to R541): a Season reset leaves the Store and the Almanac and
resets every tile; a Warm reset raises 0xD020 and starts afresh; Standby drops the hub and the link; target Ready begins a start;
the current limit and the tile clock take their new values at once (R70, R483). -/
def Obligations.ResetAndPowerWritesTakeEffect : Prop :=
  ∀ (s : State) (q : OdReq), q.bad = false →
    (MakerWrites s q → s.boot.ready = true → s.store.migrating = false → calBusy s = false → s.store.segMarked = [] →
      Gives (.seasonReset q 1) s (fun t => t.tiles = [] ∧ t.store.cells = s.store.cells ∧ t.boot.lastReset = 6 ∧
        t.nv.resetSeason = s.nv.resetSeason + 1 ∧ (∀ k, k ≠ 0x410101 → NotDeferred t k) ∧ t.frames.haltedHeld = false ∧
        Answers q odOk [] s t)) ∧
    (MakerWrites s q → Gives (.warmReset q 1) s (fun t => t.boot.lastReset = 4 ∧ t.nv.resetWarm = s.nv.resetWarm + 1 ∧
      t.pow.state = .standby ∧ t.boot.hub = false ∧ Raised 0xD020 s t ∧ Answers q odOk [] s t)) ∧
    (MakerWrites s q → (s.pow.state = .ready ∨ s.pow.state = .run) → calBusy s = false → s.twin.phase = 0 →
      Gives (.powerTargetStandby q) s (fun t => t.pow.state = .standby ∧ t.boot.hub = false ∧ t.host.linkUp = false ∧
        t.host.rings = [] ∧ Answers q odOk [] s t)) ∧
    (MakerWrites s q → (s.pow.state = .ready ∨ s.pow.state = .run) → calBusy s = true →
      Gives (.powerTargetStandby q) s (fun t => t.pow.state = s.pow.state ∧ Answers q odState [] s t)) ∧
    (serverOf s q.via = some true → identityOnly s = false → (roleOf s q true).map Prod.fst = some .maker →
      s.pow.state = .standby → s.pow.railsOk = true → s.boot.starting = false → s.boot.blocked = false →
      s.boot.bootBlocked = false → Gives (.powerTargetReady q) s (fun t =>
        t.boot.starting = true ∧ t.pow.state = .standby ∧ Answers q odOk [] s t)) ∧
    (∀ v : Byte, MakerWrites s q → NotDeferred s 0x200101 → 20 ≤ v.toNat → v.toNat ≤ 70 → v.toNat ≤ odLatest s 0x200102 70 →
      Gives (.currentLimit q v) s (fun t => Answers q odOk [] s t ∧
        limitAmps t = max 6 (min v.toNat (875 * fscCount s / 100) - 2 * s.pow.steps))) ∧
    (∀ v : Byte, MakerWrites s q → NotDeferred s 0x600104 → v.toNat ≤ 16 → 4 ≤ v.toNat → odLatest s 0x600105 4 ≤ v.toNat →
      Gives (.tileClock q v) s (fun t => Answers q odOk [] s t ∧ clockTarget t = min v.toNat s.pow.cap))

/-! ## From power-on to Ready (17, 15, 01, 07) -/

/-- Step 2 (R511 to R514, R551, R552, R574): it waits for a good REFCLK, and for valid, cool diodes after a Cold reset; it starts the core from the active
slot when the manifest and the image hold; a package without a good image or manifest is Boot-blocked with its code. -/
def Obligations.BootStartsTheCoreOrBlocks : Prop :=
  ∀ s : State, s.boot.starting = true → s.boot.blocked = false → s.pow.railsOk = true →
    (s.boot.step = 1 → (diodesValid s = false ∨ anyHot s = true) → Gives (.boot true) s (fun t =>
      t.boot.waiting = true ∧ t.boot.step = 1 ∧ t.boot.hub = s.boot.hub)) ∧
    (s.boot.step ≤ 2 → Gives (.boot false) s (fun t =>
      t.boot.waiting = true ∧ t.boot.step = s.boot.step ∧ t.boot.hub = s.boot.hub)) ∧
    (∀ n, s.boot.step = 2 → acceptManifest s.nv.copyA s.nv.copyB = .ok n → imageValid s 1 (mcImage s s.nv.slotMc) = true →
      Gives (.boot true) s (fun t => t.boot.step = 3 ∧ t.boot.hub = true ∧ t.boot.mcRuns = true ∧ t.boot.mcSlot = s.nv.slotMc ∧
        t.boot.bootBlocked = s.boot.bootBlocked ∧ t.host.cfgReady = s.host.perst)) ∧
    (∀ n, s.boot.step = 2 → acceptManifest s.nv.copyA s.nv.copyB = .ok n → imageValid s 1 (mcImage s false) = false →
      imageValid s 1 (mcImage s true) = false → Gives (.boot true) s (fun t =>
        t.boot.bootBlocked = true ∧ t.boot.bootFail = 0xA010 ∧ t.boot.hub = s.boot.hub ∧ Raised 0xA010 s t)) ∧
    (s.boot.step = 2 → s.nv.copyA.makerOk = false → s.nv.copyB.makerOk = false → Gives (.boot true) s (fun t =>
      t.boot.bootBlocked = true ∧ t.boot.bootFail = 0xA011 ∧ Raised 0xA011 s t))

/-- The lane test and discovery (R25 to R29, R35, R553): with 64 good lanes or more a bundle runs at full width, with 32 to 63 at
half with 0x3002, with fewer, or with a failed clock or valid signal, it is out of service with 0x3010. A record whose check,
position and identity hold makes its die answered; a wrong position is 0x3021, a wrong identity 0x3022, a die that the manifest
does not list 0x3023, and silence 0x3020. -/
def Obligations.DiscoveryJudgesLanesAndDies : Prop :=
  (∀ (s : State) (x : LaneTest), s.boot.starting = true → s.boot.step = 3 → s.dies.tested = false →
     s.dies.bundles = [] → imageValid s 2 (mshImage s s.nv.slotMsh) = true →
     Gives (.discovery [x]) s (fun t =>
       t.dies.tested = true ∧ t.boot.mshSlot = s.nv.slotMsh ∧
       (bundleOf t x.bundle.val).good = (goodLanes x.bad).length ∧
       (x.clkFail = false → x.validFail = false → 64 ≤ (goodLanes x.bad).length → (bundleOf t x.bundle.val).width = 0) ∧
       (x.clkFail = false → x.validFail = false → 32 ≤ (goodLanes x.bad).length → (goodLanes x.bad).length < 64 →
         (bundleOf t x.bundle.val).width = 1 ∧ Raised 0x3002 s t) ∧
       ((goodLanes x.bad).length < 32 ∨ x.clkFail = true ∨ x.validFail = true →
         (bundleOf t x.bundle.val).width = 2 ∧ Raised 0x3010 s t ∧ (s.boot.ready = false → t.boot.blocked = true)))) ∧
  (∀ (s : State) (e : Fin 81) (r : AnnounceRec), s.boot.hub = true → s.boot.starting = true → s.boot.step = 3 →
     (mget {} s.dies.map e.val).reported = false → (mget {} s.dies.map e.val).answered = false →
     (crc16 (announceBytes r) = r.check.toNat → (r.typ.toNat, r.pos.toNat) = dieExpected e.val →
       mget false s.nv.unlisted e.val = false → r.build = mget 0 s.nv.dieBuild e.val → r.serial = mget 0 s.nv.dieSerial e.val →
       Gives (.dieAnnounce e r) s (fun t => (mget {} t.dies.map e.val).answered = true ∧
         (mget {} t.dies.map e.val).reported = false ∧ t.health = s.health)) ∧
     (crc16 (announceBytes r) = r.check.toNat → (r.typ.toNat, r.pos.toNat) ≠ dieExpected e.val →
       Gives (.dieAnnounce e r) s (fun t => Raised 0x3021 s t)) ∧
     (crc16 (announceBytes r) = r.check.toNat → (r.typ.toNat, r.pos.toNat) = dieExpected e.val →
       mget false s.nv.unlisted e.val = false → r.serial ≠ mget 0 s.nv.dieSerial e.val →
       Gives (.dieAnnounce e r) s (fun t => Raised 0x3022 s t)) ∧
     (crc16 (announceBytes r) = r.check.toNat → (r.typ.toNat, r.pos.toNat) = dieExpected e.val →
       mget false s.nv.unlisted e.val = true →
       Gives (.dieAnnounce e r) s (fun t => Raised 0x3023 s t)) ∧
     Gives (.dieAnnounceTimeout e) s (fun t => (mget {} t.dies.map e.val).reported = true ∧ Raised 0x3020 s t))

/-- The self-test of a channel (R260): a good channel is tested and every byte of it reads zero; a failed one raises 0x2014. Ready
is reported, with the power state, once its conditions hold (R558). -/
def Obligations.SelfTestZeroesItsChannelAndReadyIsReported : Prop :=
  ∀ s : State,
    (∀ i : TileNo, s.boot.starting = true → s.boot.hub = true → (s.boot.step = 3 ∨ s.boot.step = 4) →
      (chanOf s i.val).tested = false → (mget {} s.dies.map (1 + i.val / 64)).answered = true →
      Gives (.storeSelfTest i true [] []) s (fun t => (chanOf t i.val).tested = true ∧
        (∀ a, storeChan a = i.val → storeByte t a = 0) ∧ (∀ a, storeChan a ≠ i.val → storeByte t a = storeByte s a)) ∧
      Gives (.storeSelfTest i false [] []) s (fun t => (chanOf t i.val).failed = true ∧ Raised 0x2014 s t)) ∧
    (readyNow s = true → Gives .readyReport s (fun t =>
      t.boot.ready = true ∧ t.boot.odLive = true ∧ t.boot.starting = false ∧ t.pow.state = .ready))

/-! ## Frames and Calendars (02) -/

/-- A Calend (R50, R57, R58, R66, R83, R87, R90, R92): time advances to it; an armed Calendar whose `START` it reaches begins with
record 0, unless the package holds a halt; at a closing Calend the next record's frame opens or the Calendar completes; the middle Calend of a leaped frame
changes no tile; at the halting Calend every Marshal halts. -/
def Obligations.CalendsOpenCloseAndHaltFrames : Prop :=
  ∀ s : State, s.boot.ready = true → s.store.migrating = false →
    (s.frames.run = none → s.frames.held = none → nextCalend s * 2 ^ s.frames.k < 2 ^ 64 →
      Gives .calend s (fun t => now t = max (now s) (nextCalend s * 2 ^ s.frames.k) ∧ nextCalend t = nextCalend s + 1 ∧
        t.tiles = s.tiles ∧ t.frames.run = none)) ∧
    (∀ h, s.frames.run = none → s.frames.held = some h → s.frames.haltedHeld = false → CalendClean s → h.armed = true → h.start ≤ nextCalend s * 2 ^ h.hdr.k →
      (∀ t, (tileOf s t).stuck = false) →
      Gives .calend s (fun u => u.frames.calId = h.hdr.calId ∧ u.frames.leaps = 0 ∧
        (∃ r, u.frames.run = some r ∧ r.cal = h ∧ r.ordinal = 0 ∧ r.record = 0 ∧ r.openC = nextCalend s ∧ r.leaped = false) ∧
        ∀ t : TileNo, (tileOf u t.val).st = (if listOffset s h.addr (listSetOf s h 0) t.val = 0xFFFFFFFF then 2 else 1))) ∧
    (∀ r, s.frames.run = some r → CalendClean s → r.completed = none → r.halting = none → r.haltAt = none →
      closingIndex r ≤ nextCalend s → (∀ x ∈ s.tiles, x.2.st ≠ 1) →
      Gives .calend s (fun u => ∃ r', u.frames.run = some r' ∧ r'.cal = r.cal ∧ r'.executed = r.executed + 1 ∧
        (r.cal.hdr.frames ≤ (nextRecord (frameAt s r.cal.addr r.record) r.record r.remaining).1 →
          r'.completed = some (nextCalend s * 2 ^ r.cal.hdr.k)) ∧
        ((nextRecord (frameAt s r.cal.addr r.record) r.record r.remaining).1 < r.cal.hdr.frames →
          r'.completed = none ∧ r'.ordinal = r.ordinal + 1 ∧ r'.leaped = false ∧ r'.openC = nextCalend s ∧
          r'.record = (nextRecord (frameAt s r.cal.addr r.record) r.record r.remaining).1 ∧
          r'.remaining = (nextRecord (frameAt s r.cal.addr r.record) r.record r.remaining).2))) ∧
    (∀ r, s.frames.run = some r → CalendClean s → r.completed = none → r.halting = none → r.haltAt = none →
      nextCalend s < closingIndex r →
      Gives .calend s (fun u => u.tiles = s.tiles ∧
        ∃ r', u.frames.run = some r' ∧ r'.ordinal = r.ordinal ∧ r'.record = r.record ∧ r'.executed = r.executed)) ∧
    (∀ r h, s.frames.run = some r → r.completed = none → r.halting = none → r.haltAt = some h → h ≤ nextCalend s →
      Gives .calend s (fun u => u.frames.held = none ∧ (∃ r', u.frames.run = some r' ∧ r'.halting.isSome = true) ∧
        ∀ t : TileNo, (tileOf u t.val).st = 3))

/-- An incomplete tile at its closing Calend raises 0x1013 and takes no part in later frames (R84, R586). -/
def Obligations.IncompleteTilesFailAtTheClosingCalend : Prop :=
  ∀ (s : State) (r : Run) (t : TileNo), s.boot.ready = true → s.store.migrating = false → s.frames.run = some r →
    r.completed = none → r.halting = none → r.haltAt = none → closingIndex r ≤ nextCalend s → r.leaped = false →
    (tileOf s t.val).st = 1 → (tileOf s t.val).stuck = false →
    Gives .calend s (fun u => (tileOf u t.val).stuck = true ∧ faultCount s 0x1013 < faultCount u 0x1013 ∧
      ∃ r', u.frames.run = some r' ∧ r'.halted = true)

/-- The outcome of a completed Calendar, `LEAD` later (R90, R94): completed with the frames executed and the completing Calend, or
halted with the halt's code, when the package holds it until the Season reset. -/
def Obligations.OutcomesAreFixedAfterTheLead : Prop :=
  ∀ (s : State) (r : Run) (a : Nat), s.frames.run = some r → r.completed = some a → s.boot.activating = false →
    s.frames.held = none → (∃ c, s.host.cmds = [c] ∧ c.cid = r.cal.cid ∧ c.ring = r.cal.ring ∧ c.slot = r.cal.slot ∧ RingRoom s c.ring) →
    (r.halted = false → Gives .outcomeFixed s (fun t => t.frames.run = none ∧ t.frames.haltedHeld = s.frames.haltedHeld ∧
      Records r.cal.ring r.cal.cid r.cal.slot 0 0 r.executed a s t ∧ t.tiles = s.tiles)) ∧
    (r.halted = true → r.aborted = false → Gives .outcomeFixed s (fun t => t.frames.run = none ∧ t.frames.haltedHeld = true ∧
      Records r.cal.ring r.cal.cid r.cal.slot 1 r.haltCode.toNat r.executed a s t ∧
      ∀ i : TileNo, ((tileOf s i.val).resetDue = false ∨ (tileOf s i.val).hung = true) → (tileOf t i.val).st = 4))

/-- Wait entries and the projection (R63 to R66, R78, R79, R81, R84): the Wait entry that may issue takes a scoreboard slot and the
position advances; at its time it leaves the board, and the tile's frame is complete when nothing else is left of it. A
projection past the closing Calend, before the deadline, leaps the frame with 0x1001; one within it does nothing; one past the
moved Calend of a leaped frame is Job-fatal 0x1011. -/
def Obligations.MarshalsWaitAndProject : Prop :=
  (∀ (s : State) (t : TileNo),
     (∀ e, issuable s t.val 7 = some e → Gives (.wait t) s (fun u =>
       (tileOf u t.val).pos = (tileOf s t.val).pos + 1 ∧
         (tileOf u t.val).board = (tileOf s t.val).board ++
           [{ pos := (tileOf s t.val).pos, kind := 7, cost := e.cost, at_ := cycleUnits s t.val, notBefore := e.notBefore }])) ∧
     (issuable s t.val 7 = none → Gives (.wait t) s (fun u => u = s)) ∧
     (∀ (pos : BitVec 12) b, (tileOf s t.val).st = 1 →
       (tileOf s t.val).board.find? (fun b => decide (b.pos = pos.toNat) && decide (b.kind = 7)) = some b →
       (tileOf s t.val).opened + 4 * b.notBefore < 2 ^ 64 →
       Gives (.waitComplete t pos) s (fun u => now u = max (now s) ((tileOf s t.val).opened + 4 * b.notBefore) ∧
         (tileOf u t.val).board = (tileOf s t.val).board.filter (fun b => decide (b.pos ≠ pos.toNat)) ∧
         ((tileOf u t.val).board = [] → allIssued (tileOf s t.val) = true → (tileOf u t.val).st = 2)))) ∧
  (∀ (s : State) (t : TileNo) (r : Run), s.frames.run = some r → (tileOf s t.val).st = 1 → (tileOf s t.val).stuck = false →
     r.halting = none → (∀ x ∈ (tileOf s t.val).runs, x.2.stopped = false) →
     (r.leaped = false → now s ≤ (tileOf s t.val).opened + 2 ^ r.cal.hdr.k - r.cal.hdr.lead →
       ((tileOf s t.val).opened + 2 ^ r.cal.hdr.k) * (projection s t.val 0).2 < (projection s t.val 0).1 →
       Gives (.projectionEval t) s (fun u => u.frames.leaps = s.frames.leaps + 1 ∧ Raised 0x1001 s u ∧
         (tileOf u t.val).declared = true ∧ (1, r.ordinal, ownKey s) ∈ u.frames.seen ∧
         ∃ r', u.frames.run = some r' ∧ r'.leaped = true ∧ r'.ordinal = r.ordinal ∧ r'.openC = r.openC)) ∧
     (r.leaped = false → (projection s t.val 0).1 ≤ ((tileOf s t.val).opened + 2 ^ r.cal.hdr.k) * (projection s t.val 0).2 →
       Gives (.projectionEval t) s (fun u => u = s)) ∧
     (r.leaped = true → r.completed = none → r.haltAt = none → (tileOf s t.val).second = false →
       ((tileOf s t.val).opened + 2 * 2 ^ r.cal.hdr.k) * (projection s t.val 0).2 < (projection s t.val 0).1 →
       Gives (.projectionEval t) s (fun u => (tileOf u t.val).second = true ∧ Raised 0x1011 s u ∧
         ∃ r', u.frames.run = some r' ∧ r'.halted = true)))

/-- Frame notices (R80, R81, R83, R85, R91): the first copy is remembered and takes effect, a later one changes nothing of the
frames, and a malformed one raises 0x6001. An overrun notice of the current frame leaps it; one that comes late is 0x1010, one of
another Calendar 0x1012. A halt or abort notice sets the halting Calend of the Calendar it names (at the next Calend, with
0x1016, when it comes late), ends the launch it names, or is kept for one. -/
def Obligations.NoticesActOnTheCalendarTheyName : Prop :=
  ∀ (s : State) (f : PairNo) (n : Notice), s.boot.hub = true → n.rsv = false →
    (n.typ ≠ 1 → Gives (.overrunNotice f n) s (fun t => t.frames = s.frames ∧ Raised 0x6001 s t)) ∧
    (n.typ ≠ 2 → Gives (.haltNotice f n) s (fun t => t.frames = s.frames ∧ Raised 0x6001 s t)) ∧
    (n.typ ≠ 3 → Gives (.abortNotice f n) s (fun t => t.frames = s.frames ∧ Raised 0x6001 s t)) ∧
    (n.typ = 1 → s.frames.seen.contains (1, n.ordinal.toNat, n.origin.toNat) = true →
      Gives (.overrunNotice f n) s (fun t => t.frames = s.frames ∧ t.health = s.health)) ∧
    (∀ r, s.frames.run = some r → n.typ = 1 → s.frames.seen.contains (1, n.ordinal.toNat, n.origin.toNat) = false →
      (n.calId = r.cal.hdr.calId → n.ordinal.toNat = r.ordinal → r.completed = none → r.leaped = false → r.halting = none →
        s.frames.held = none → now s < (r.openC + 1) * 2 ^ r.cal.hdr.k →
        Gives (.overrunNotice f n) s (fun t => t.frames.leaps = s.frames.leaps + 1 ∧ Raised 0x1001 s t ∧
          t.frames.seen = (1, n.ordinal.toNat, n.origin.toNat) :: s.frames.seen ∧
          ∃ r', t.frames.run = some r' ∧ r'.leaped = true)) ∧
      (n.calId = r.cal.hdr.calId → n.ordinal.toNat < r.ordinal → Gives (.overrunNotice f n) s (fun t => Raised 0x1010 s t)) ∧
      (n.calId ≠ r.cal.hdr.calId → Gives (.overrunNotice f n) s (fun t => Raised 0x1012 s t))) ∧
    (∀ r, s.frames.run = some r → n.calId = r.cal.hdr.calId → n.haltAt ≠ 0 → r.completed = none → r.halting = none →
      r.haltAt = none →
      (n.typ = 2 → s.frames.seen.contains (2, n.ordinal.toNat, n.origin.toNat) = false →
        now s < n.haltAt.toNat * 2 ^ r.cal.hdr.k →
        Gives (.haltNotice f n) s (fun t => t.health = s.health ∧ ∃ r', t.frames.run = some r' ∧
          r'.haltAt = some n.haltAt.toNat ∧ r'.halted = true ∧ r'.haltCode = n.code ∧ r'.aborted = false)) ∧
      (n.typ = 2 → s.frames.seen.contains (2, n.ordinal.toNat, n.origin.toNat) = false →
        n.haltAt.toNat * 2 ^ r.cal.hdr.k ≤ now s →
        Gives (.haltNotice f n) s (fun t => Raised 0x1016 s t ∧ ∃ r' h, t.frames.run = some r' ∧ r'.haltAt = some h ∧
          h ≤ now s / 2 ^ r.cal.hdr.k + 1 ∧ r'.halted = true)) ∧
      (n.typ = 3 → s.frames.seen.contains (3, n.ordinal.toNat, n.origin.toNat) = false →
        now s < n.haltAt.toNat * 2 ^ r.cal.hdr.k →
        Gives (.abortNotice f n) s (fun t => ∃ r', t.frames.run = some r' ∧
          r'.haltAt = some n.haltAt.toNat ∧ r'.aborted = true ∧ r'.abortFrom.toNat = n.origin.toNat))) ∧
    (s.frames.run = none →
      (n.typ = 2 → s.frames.seen.contains (2, n.ordinal.toNat, n.origin.toNat) = false → Gives (.haltNotice f n) s (fun t =>
        match s.frames.held with
        | some c => if c.hdr.calId = n.calId then t.frames.held = none else t.frames.kept = n :: s.frames.kept
        | none => t.frames.kept = n :: s.frames.kept)) ∧
      (n.typ = 3 → s.frames.seen.contains (3, n.ordinal.toNat, n.origin.toNat) = false → Gives (.abortNotice f n) s (fun t =>
        match s.frames.held with
        | some c => if c.hdr.calId = n.calId then t.frames.held = none else t.frames.kept = n :: s.frames.kept
        | none => t.frames.kept = n :: s.frames.kept)))

/-- A halted Marshal, the tile clock and the Tile reset (R70, R92, R95, R536): with its entries ended a halted Marshal reaches
`STATE` 4, and a hung tile is reset first; when no Marshal is left in `STATE` 3 the Calendar ends, held until the Season reset. A
pending tile clock takes effect with no pass running; a Tile reset while no Calendar runs takes the buffer's content away. -/
def Obligations.HaltedMarshalsClocksAndTileResets : Prop :=
  (∀ (s : State) (t : TileNo), (tileOf s t.val).st = 3 →
     ((tileOf s t.val).hung = false → tileQuiet (tileOf s t.val) = true → (tileOf s t.val).resetDue = false →
       Gives (.marshalHalted t) s (fun u => (tileOf u t.val).st = 4 ∧
         ((∃ r, s.frames.run = some r ∧ r.halting.isSome = true) → (∀ x ∈ u.tiles, x.2.st ≠ 3) →
           u.frames.run = none ∧ u.frames.haltedHeld = true))) ∧
     ((tileOf s t.val).hung = true → (tileOf s t.val).runs = [] →
       Gives (.marshalHalted t) s (fun u => (tileOf u t.val).st = 4 ∧ (keepOf u t.val).buf = [] ∧
         (keepOf u t.val).bufGen = s.fresh + 1)) ∧
     ((tileOf s t.val).hung = false → tileQuiet (tileOf s t.val) = false → Gives (.marshalHalted t) s (fun u => u = s))) ∧
  (∀ (s : State) (t : TileNo),
     (clockPending s t.val = true → (tileOf s t.val).runs = [] → Gives (.tileClockChange t) s (fun u =>
       u.tkeep = mmod {} s.tkeep t.val (fun k => { k with
         clock := clockTarget s, cycles := cycleUnits s t.val, cyclesAt := cycleTime s }))) ∧
     (clockPending s t.val = false → (tileOf s t.val).runs = [] → Gives (.tileClockChange t) s (fun u => u = s)) ∧
     (∀ q : OdReq, MakerWrites s q → s.frames.run = none →
       Gives (.tileReset q (BitVec.ofNat 16 t.val)) s (fun u => (keepOf u t.val).buf = [] ∧
         (keepOf u t.val).bufGen = s.fresh + 1 ∧ (keepOf u t.val).clock = (keepOf s t.val).clock ∧ Answers q odOk [] s u)))

/-- LAUNCH (R87, R439, R440, R587): the entry that passes its checks begins validation and the package runs; while one is
validating or armed it is answered BUSY with 0x8024; before Ready it is answered NOT_READY; a package that refuses launches fails
it at once. -/
def Obligations.LaunchBeginsValidation : Prop :=
  ∀ (s : State) (h : SqHead) (image start : U64), Submits s h →
    (s.boot.ready = true → s.frames.held = none → s.frames.refuse = none → s.twin.phase ≠ 1 →
      s.frames.kept.find? (fun n => decide (n.calId = (hdrAt s image.toNat).calId)) = none →
      Gives (.launch h image start) s (fun t => t.pow.state = .run ∧ cmdOutstanding t h.cid = true ∧
        ∃ c, t.frames.held = some c ∧ c.addr = image.toNat ∧ c.start = start.toNat ∧ c.cid = h.cid ∧ c.armed = false ∧
          c.readAt = now s)) ∧
    (s.boot.ready = true → s.frames.held.isSome = true → Gives (.launch h image start) s (fun t =>
      t.frames = s.frames ∧ Raised 0x8024 s t ∧
        Records h.ring.val h.cid (ringOf s h.ring.val).sqHead 8 0x8024 0 0 s t)) ∧
    (s.boot.ready = false → Gives (.launch h image start) s (fun t => t.frames = s.frames ∧
      Records h.ring.val h.cid (ringOf s h.ring.val).sqHead 11 0 0 0 s t)) ∧
    (∀ code, s.boot.ready = true → s.boot.activating = false → s.frames.held = none → s.frames.refuse = some code →
      Gives (.launch h image start) s (fun t => t.frames.held = none ∧
        Records h.ring.val h.cid (ringOf s h.ring.val).sqHead 2 code.toNat 0 0 s t))

/-- Validation ends (R88, R89, R226, R440): an image without a fault, with a good `START`, a plan and its pages is armed; the
first failed check ends the launch with its code, and a descriptor's fault is logged beside 0x102A. -/
def Obligations.ValidationArmsTheCalendarOrFailsIt : Prop :=
  ∀ (s : State) (c : Cal), s.frames.held = some c → c.armed = false →
    (s.boot.mcRuns = false → Gives .validationComplete s (fun t => t = s)) ∧
    (s.boot.mcRuns = true → Gives .validationComplete s (fun t =>
      match imageFound s c.addr c.hdr with
      | some x => t.frames.held = none ∧ faultCount s x.code < faultCount t x.code
      | none => match descriptorFound s c with
        | some x => t.frames.held = none ∧ faultCount s x.code < faultCount t x.code ∧
            faultCount s 0x102A < faultCount t 0x102A
        | none => if startBad s c then t.frames.held = none ∧ Raised 0x102B s t
          else match larderPlan s c.addr c.hdr with
            | none => t.frames.held = none ∧ Raised 0x1136 s t
            | some l => if (imagePageBad s c).isSome then t.frames.held = none ∧ Raised 0x8023 s t
              else t.frames.held = some { c with armed := true, larder := l } ∧ t.frames.larder = l)) ∧
    (s.boot.mcRuns = true → s.boot.activating = false →
      (∃ d, s.host.cmds = [d] ∧ d.cid = c.cid ∧ d.ring = c.ring ∧ d.slot = c.slot ∧ RingRoom s d.ring) →
      ∀ x, imageFound s c.addr c.hdr = some x → Gives .validationComplete s (fun t =>
        Records c.ring c.cid c.slot 2 x.code x.off 0 s t))


/-! ## The matrix arrays (03, 04) -/

/-- PASS and PASS_COMMIT (R63, R64, R69, R128, R140, R141, R151): the pass that its array takes computes into staging and holds a
scoreboard slot while the buffer stays as it was, one whose reads were corrected is counted besides; an output over a pass in flight is
0x1116, once, and the entry never issues; the commit writes the staging in one
step, frees the slot, counts the multiply-accumulates and the array's history, and reports a replay's success with 0x1006. -/
def Obligations.PassesIssueAndCommit : Prop :=
  ∀ (s : State) (t : TileNo),
    (∀ e d, issuable s t.val 0 = some e → d = passOf (descBytes s e 64) → s.pow.shutdown = 0 → clockPending s t.val = false →
      arrayTakes s t.val d.array = true → mfind (tileOf s t.val).runs d.array = none →
      (tileOf s t.val).refusedAt ≠ some ((tileOf s t.val).ordinal, (tileOf s t.val).pos) →
      ((List.range' (passLines d).1 ((passLines d).2 + 1 - (passLines d).1)).any (linePending s t.val) = false →
        (passInputs d).any (fun x => pendingIn s t.val x.1 x.2) = false →
        Gives (.pass t .clean) s (fun u => u.tkeep = s.tkeep ∧ (tileOf u t.val).pos = (tileOf s t.val).pos + 1 ∧
          onBoard (tileOf u t.val) (tileOf s t.val).pos = true ∧
          ∃ r, mfind (tileOf u t.val).runs d.array = some r ∧ r.pos = (tileOf s t.val).pos ∧
            r.out = (runPass s t.val d).cells ∧ r.macs = d.rows * d.cols * d.n ∧ r.replay = false ∧ r.stopped = false) ∧
        (∀ k : Fin 5, k.val ≠ 0 → Gives (.pass t (.corrected k)) s (fun u => corrOf u 0x2008 = corrOf s 0x2008 + 1 ∧
          cntOf u 0x500204 = cntOf s 0x500204 + 1 ∧ (tileOf u t.val).pos = (tileOf s t.val).pos + 1)) ∧
        Gives (.pass t .uncorrectable) s (fun u => Raised 0x2012 s u ∧ (tileOf u t.val).pos = (tileOf s t.val).pos + 1)) ∧
      ((List.range' (passLines d).1 ((passLines d).2 + 1 - (passLines d).1)).any (linePending s t.val) = true →
        ∀ w, Gives (.pass t w) s (fun u => u.tkeep = s.tkeep ∧ (tileOf u t.val).pos = (tileOf s t.val).pos ∧
          (tileOf u t.val).runs = (tileOf s t.val).runs ∧ (tileOf u t.val).board = (tileOf s t.val).board ∧
          (tileOf u t.val).refusedAt = some ((tileOf s t.val).ordinal, (tileOf s t.val).pos) ∧ Raised 0x1116 s u))) ∧
    ((tileOf s t.val).refusedAt = some ((tileOf s t.val).ordinal, (tileOf s t.val).pos) → ∀ w,
      Gives (.pass t w) s (fun u => u = s)) ∧
    (∀ (a : Fin 3) r, mfind (tileOf s t.val).runs a.val = some r → r.stopped = false → r.macs ≠ 0 → (tileOf s t.val).st ≠ 0 →
      Gives (.passCommit t a) s (fun u =>
        u.tkeep = mmod {} s.tkeep t.val (fun k => { k with buf := r.out.foldl (fun m x => mput m x.1 x.2) k.buf }) ∧
        (tileOf u t.val).board = (tileOf s t.val).board.filter (fun b => decide (b.pos ≠ r.pos)) ∧
        arrOf u (3 * t.val + a.val) = arrayCommits (arrOf s (3 * t.val + a.val)) ∧
        cntOf u (if r.is_ then 0x601105 else 0x601104) = cntOf s (if r.is_ then 0x601105 else 0x601104) + r.macs ∧
        corrOf u 0x1006 = corrOf s 0x1006 + (if r.replay then 1 else 0)))

/-- TALLY_CHECK (R146 to R149, R151 to R153): a skipped check is counted, a check that holds does nothing, and a mismatch counts
on the tile and as 0x1110 and is charged to its array: the first starts the history, one within a million passes makes the array
suspect with 0x1111, and one of a suspect array retires it with 0x1112, which is not raised after the halting Calend (R157). -/
def Obligations.TallyMismatchesAreChargedToTheArray : Prop :=
  ∀ (s : State) (t : TileNo) (a : Fin 3) (col : Bool) (i : BitVec 12) (err : Dy) (r : PassRun) (c : Tally),
    mfind (tileOf s t.val).runs a.val = some r → r.stopped = false →
    (if col then r.cchecks else r.vchecks)[i.toNat]? = some c →
    (c = .skip → Gives (.tallyCheck t a col i err) s (fun u => u.tiles = s.tiles ∧ u.arrs = s.arrs ∧
      cntOf u 0x601102 = cntOf s 0x601102 + 1)) ∧
    (c ≠ .skip → tallyFails c r.tau err = false → Gives (.tallyCheck t a col i err) s (fun u => u = s)) ∧
    (c ≠ .skip → tallyFails c r.tau err = true → Gives (.tallyCheck t a col i err) s (fun u =>
      (keepOf u t.val).mismatch = (keepOf s t.val).mismatch + 1 ∧ cntOf u 0x601101 = cntOf s 0x601101 + 1 ∧
      corrOf u 0x1110 = corrOf s 0x1110 + 1 ∧
      ((arrOf s (3 * t.val + a.val)).prior = false ∨ 1000000 ≤ (arrOf s (3 * t.val + a.val)).p →
        (arrOf u (3 * t.val + a.val)).prior = true ∧ (arrOf u (3 * t.val + a.val)).p = 0 ∧
        (arrOf u (3 * t.val + a.val)).state = (arrOf s (3 * t.val + a.val)).state) ∧
      ((arrOf s (3 * t.val + a.val)).prior = true → (arrOf s (3 * t.val + a.val)).p < 1000000 →
        (arrOf s (3 * t.val + a.val)).state = 0 → (arrOf u (3 * t.val + a.val)).state = 1 ∧ Raised 0x1111 s u) ∧
      ((arrOf s (3 * t.val + a.val)).prior = true → (arrOf s (3 * t.val + a.val)).p < 1000000 →
        (arrOf s (3 * t.val + a.val)).state ≠ 0 → (arrOf u (3 * t.val + a.val)).state = 3 ∧
          (haltPassed s = false → Raised 0x1112 s u) ∧
          (haltPassed s = true → faultCount u 0x1112 = faultCount s 0x1112))))

/-- ARRAY_PARITY_ERROR (R72, R156, R159): counted as 0x1117 and not as a mismatch; the pass is replayed once when the replay fits
its frame, else it fails with 0x1003, and a replay that fails is 0x1004. -/
def Obligations.ParityErrorsReplayThePassOnce : Prop :=
  ∀ (s : State) (t : TileNo) (a : Fin 3) (r : PassRun), mfind (tileOf s t.val).runs a.val = some r → r.stopped = false →
    Gives (.arrayParityError t a) s (fun u =>
      corrOf u 0x1117 = corrOf s 0x1117 + 1 ∧ (keepOf u t.val).mismatch = (keepOf s t.val).mismatch ∧ u.arrs = s.arrs ∧
      (haltPassed s = false → r.replay = true → Raised 0x1004 s u) ∧
      (haltPassed s = false → r.replay = false → (replayFits s t.val r.pos).1 = false → Raised 0x1003 s u) ∧
      (haltPassed s = false → r.replay = false → replayFits s t.val r.pos = (true, false) →
        (tileOf s t.val).runs = [(a.val, r)] → clockPending s t.val = false → s.pow.shutdown = 0 →
        (passOf (readStore s r.desc 64)).array = a.val →
        u.frames.replays = s.frames.replays + 1 ∧
          ∃ r', mfind (tileOf u t.val).runs a.val = some r' ∧ r'.replay = true ∧ r'.stopped = false ∧ r'.pos = r.pos))

/-- Numbers (R103, R116, R266, R267): an unscaled integer pass wraps once, its accumulator being the start value plus the sum of
the exact products, modulo 2^32, however the products are grouped (R116, item 5); and an element written to its near place reads
back, in every format and at every place, over whatever the buffer held. -/
def Obligations.SumsWrapOnceAndNearElementsReadBack : Prop :=
  (∀ (init : Nat) (v col : List Val), init < 2 ^ 32 →
     (accumulateInt init v col).1 =
       intEnc 10 (signed 32 init + (List.zipWith (fun a b => valIntOf a * valIntOf b) v col).foldl (· + ·) 0)) ∧
  (∀ (s : State) (t : Nat) (d : StreamD) (n enc : Nat), nearRead (nearWrite t d n enc s) t d n = enc % 2 ^ fmtWidth (nearFmt d))

/-- RETIRE_CLEAR and LANE_MAP_COMMIT (R38, R155): the array waits to return at the next Season, with the removal of its record in
the journal; the maps in use of the changed bundles go to the journal as one record. -/
def Obligations.MakersClearRetirementsAndCommitLaneMaps : Prop :=
  ∀ (s : State) (q : OdReq), MakerWrites s q → s.pow.nvOpen = false →
    (∀ a : U16, a.toNat < 1536 → mget false s.nv.factoryOff a.toNat = false → (arrOf s a.toNat).state = 3 →
      Gives (.retireClear q a) s (fun t => (arrOf t a.toNat).clear = true ∧ (arrOf t a.toNat).state = 3 ∧ Answers q odOk [] s t ∧
        ∃ r, t.pow.journal = s.pow.journal ++ [r] ∧ r.kind = .unretire a.toNat)) ∧
    (∀ a : U16, a.toNat < 1536 → mget false s.nv.factoryOff a.toNat = true → Gives (.retireClear q a) s (fun t =>
      t.arrs = s.arrs ∧ Answers q odState [] s t)) ∧
    (s.mgmt.laneCommit = false → Gives (.laneMapCommit q 1) s (fun t => t.mgmt.laneCommit = true ∧ Answers q odOk [] s t ∧
      ∃ r, t.pow.journal = s.pow.journal ++ [r] ∧
        r.kind = .laneMaps (((List.range 108).filter (fun b => (bundleOf s b).mapDiff)).map (fun b => (b, laneInUse s b))))) ∧
    (s.mgmt.laneCommit = true → Gives (.laneMapCommit q 1) s (fun t => Answers q odState [] s t ∧ t.nv.laneMaps = s.nv.laneMaps))

/-! ## The vector unit (05) -/

/-- Vector runs (R176, R185, R194 to R197): an entry issues onto the idle unit and its Heralds; once its inputs are in, the run
computes: its draws are taken, and its flags and empty reductions wait for its end; it completes once its outputs are written; a reload ends
with the frame's `VMODE`; a corrected register error is counted as 0x1126, another stops the run with 0x1127, and so does a
halt. -/
def Obligations.VectorRunsIssueComputeAndEnd : Prop :=
  ∀ (s : State) (t : TileNo),
    (∀ e, VectorFree s t.val false e → Gives (.procession t) s (VectorIssued s t.val false e)) ∧
    (∀ e, VectorFree s t.val true e → Gives (.masqueRun t) s (VectorIssued s t.val true e)) ∧
    (∀ v o, (tileOf s t.val).vec = some v → v.computed = false → (∀ p ∈ v.ports, p.1 < 4 → herDone (herOf s t.val p.2) = true) →
      (∃ p ∈ v.ports, herDone (herOf s t.val p.2) = false) →
      o = runOut s t.val v (runLength v.masque (runBytes s v.masque v.desc)) →
      Gives (.vectorRunComplete t) s (fun u => (tileOf u t.val).gen = o.gen.1 ∧ (tileOf u t.val).draws = o.gen.2 ∧
        (tileOf u t.val).flags = (tileOf s t.val).flags ∧ (tileOf u t.val).board = (tileOf s t.val).board ∧
        ∃ v', (tileOf u t.val).vec = some v' ∧ v'.computed = true ∧ v'.flags = o.flags ∧ v'.empties = o.empties ∧
          v'.pos = v.pos ∧ v'.ports = v.ports)) ∧
    (∀ v, (tileOf s t.val).vec = some v → (tileOf s t.val).st ≠ 0 → v.computed = true →
      (∀ p ∈ v.ports, herDone (herOf s t.val p.2) = true) →
      Gives (.vectorRunComplete t) s (fun u => (tileOf u t.val).vec = none ∧
        (tileOf u t.val).flags = (tileOf s t.val).flags ||| BitVec.ofNat 8 v.flags ∧
        (tileOf u t.val).board = (tileOf s t.val).board.filter (fun b => decide (b.pos ≠ v.pos)) ∧
        cntOf u 0x602005 = cntOf s 0x602005 + v.empties ∧
        cntOf u (if v.masque then 0x602002 else 0x602001) = cntOf s (if v.masque then 0x602002 else 0x602001) + 1)) ∧
    ((tileOf s t.val).reload = true → (tileOf s t.val).st ≠ 0 → Gives (.vmodeReloadDone t) s (fun u =>
      (tileOf u t.val).reload = false ∧ (tileOf u t.val).vecMode = (tileOf s t.val).vmode ∧
        ∀ i, i ≠ t.val → tileOf u i = tileOf s i)) ∧
    (∀ v, (tileOf s t.val).vec = some v → (tileOf s t.val).st ≠ 0 →
      Gives (.vectorEccError t true) s (fun u => u.tiles = s.tiles ∧ (keepOf u t.val).eccCorr = (keepOf s t.val).eccCorr + 1 ∧
        corrOf u 0x1126 = corrOf s 0x1126 + 1 ∧ cntOf u 0x602006 = cntOf s 0x602006 + 1) ∧
      Gives (.vectorEccError t false) s (fun u => (tileOf u t.val).vec = none ∧ Raised 0x1127 s u) ∧
      (∀ beats, haltPassed s = true → Gives (.vectorRunStop t beats) s (fun u => (tileOf u t.val).vec = none ∧
        (tileOf u t.val).board = (tileOf s t.val).board.filter (fun b => decide (b.pos ≠ v.pos)))))

/-! ## The Lantern (06) -/

/-- Lantern ops (R203, R211, R221): an op issues when the unit is free; it completes, counted, once its rows have run, or waits
for the ledger line that a read lacks; a Larder declaration completes at once; a halt ends the op; the fetched line brings its
valid records back from the spill area and counts as a miss. -/
def Obligations.LanternOpsRunTheirRows : Prop :=
  ∀ (s : State) (t : TileNo),
    (∀ e, issuable s t.val 4 = some e → (tileOf s t.val).lan = none → Gives (.lanternOp t) s (fun u =>
      (tileOf u t.val).lan = some { pos := (tileOf s t.val).pos, desc := runImg s + descAt s (runImg s) e.desc, row := 0, waitLine := none } ∧
        onBoard (tileOf u t.val) (tileOf s t.val).pos = true)) ∧
    (∀ l d, (tileOf s t.val).lan = some l → d = { lanternAt s l.desc with off := l.desc - runImg s, pos := l.pos } →
      (tileOf s t.val).st ≠ 0 →
      (haltPassed s = false → d.op = 15 → ∀ rows w lw, Gives (.lanternOpComplete t rows w lw) s (fun u =>
        (tileOf u t.val).lan = none ∧ cntOf u 0x603001 = cntOf s 0x603001 + 1 ∧ u.tkeep = s.tkeep ∧
        (tileOf u t.val).board = (tileOf s t.val).board.filter (fun b => decide (b.pos ≠ l.pos)))) ∧
      (haltPassed s = false → d.op ≠ 15 → l.waitLine = none →
        (gaccExtent d :: lanReads d).any (fun x => pendingIn s t.val x.1 x.2) = false → ∀ rows w lw,
        Gives (.lanternOpComplete t rows w lw) s (fun u =>
          u.tkeep = (lanRun t.val d (d.nrows - l.row) l.row w lw s).2.2.tkeep ∧
          match (lanRun t.val d (d.nrows - l.row) l.row w lw s).2.1 with
          | some line => (tileOf u t.val).lan =
              some { l with row := (lanRun t.val d (d.nrows - l.row) l.row w lw s).1, waitLine := some line }
          | none => (tileOf u t.val).lan = none ∧ cntOf u 0x603001 = cntOf s 0x603001 + 1 ∧
              onBoard (tileOf u t.val) l.pos = false)) ∧
      (haltPassed s = true → ∀ rows w lw, Gives (.lanternOpComplete t rows w lw) s (fun u => (tileOf u t.val).lan = none ∧
        onBoard (tileOf u t.val) l.pos = false))) ∧
    (∀ l line x, (tileOf s t.val).lan = some l → l.waitLine = some line → (tileOf s t.val).lines.length < 4096 →
      Gives (.ledgerFetch t x) s (fun u => (tileOf u t.val).lan = some { l with waitLine := none } ∧
        (tileOf u t.val).misses = (tileOf s t.val).misses + 1 ∧ (tileOf u t.val).lines.head? = some line ∧
        cntOf u 0x603004 = cntOf s 0x603004 + 1 ∧
        ∀ i, i < 8 → (mfind (tileOf s t.val).ledger (8 * line + i)).isSome = true →
          mfind (tileOf u t.val).ledger (8 * line + i) = some (BitVec.ofNat 64
            (fieldAt (homeRead (spillPlace s t.val line) 64 false x (some t.val) [] s).1 (8 * i) 8))))

/-! ## Heralds (07) -/

/-- Streams (R264, R266, R268, R270, R362): the entry takes its Herald; the Herald's line requests go out within its rights and
limits; an answered request returns its elements to the near side, to the port or to the fetch area and is gone; the stream
completes when every request has returned. -/
def Obligations.StreamsRequestReturnAndComplete : Prop :=
  ∀ (s : State) (t : TileNo),
    (∀ e d, issuable s t.val 1 = some e → d = streamOf (descBytes s e 64) → (herOf s t.val d.herald).busy = false →
      Gives (.stream t) s (fun u => (herOf u t.val d.herald).busy = true ∧ (herOf u t.val d.herald).user = false ∧
        (herOf u t.val d.herald).d = d ∧ (herOf u t.val d.herald).total = streamTotal d ∧ (herOf u t.val d.herald).next = 0 ∧
        (herOf u t.val d.herald).pos = (tileOf s t.val).pos ∧ onBoard (tileOf u t.val) (tileOf s t.val).pos = true)) ∧
    (∀ (h : Fin 8) hd x cnt half, hd = herOf s t.val h.val → nextRun hd = (x, cnt, half) → (tileOf s t.val).vec = none →
      hd.busy = true → hd.user = false → hd.next < hd.total → hd.inflight < hd.d.depth → haltPassed s = false →
      nearFree s t.val hd hd.next cnt = true → x < 2 ^ 57 →
      (gaKey (x * 128) = ownKey s → gaSpace (x * 128) = 0 →
        (hd.d.dir = 0 → farCopy s (x * 128) (tileDie t.val) = none → Gives (.heraldRequest t h .held .clean) s (fun u =>
          reqOf u s.fabric.nextReq = some (heraldReq s t.val h.val hd x cnt) ∧
            (herOf u t.val h.val).inflight = hd.inflight + 1)) ∧
        (∀ l, hd.d.dir = 0 → farCopy s (x * 128) (tileDie t.val) = some l → Gives (.heraldRequest t h .held .clean) s (fun u =>
          reqOf u s.fabric.nextReq = some { heraldReq s t.val h.val hd x cnt with answered := true, data := l })) ∧
        ((hd.d.dir = 1 ∨ hd.d.dir = 2) → outstanding s t.val (gaKey (x * 128)) (farDie 0 (gaLocal (x * 128))) < 4 →
          Gives (.heraldRequest t h .held .clean) s (fun u => (herOf u t.val h.val).inflight = hd.inflight + 1 ∧
            ∃ q, reqOf u s.fabric.nextReq = some q ∧ q.kind = (if hd.d.dir = 1 then .store else .atomic) ∧
              q.answered = false ∧ q.n0 = hd.next ∧ q.cnt = cnt)) ∧
        ((hd.d.dir = 1 ∨ hd.d.dir = 2) → 4 ≤ outstanding s t.val (gaKey (x * 128)) (farDie 0 (gaLocal (x * 128))) →
          Gives (.heraldRequest t h .held .clean) s (fun u => u = s))) ∧
      (gaKey (x * 128) ≠ ownKey s → hd.d.dir = 0 →
        rightsOk s (gaKey (x * 128)) (gaSpace (x * 128)) (gaLocal (x * 128)) (gaLocal (x * 128) + 128) 0 = false →
        Gives (.heraldRequest t h .held .clean) s (fun u => Raised 0x6010 s u ∧ cntOf u 0x400407 = cntOf s 0x400407 + 1 ∧
          ∃ q, reqOf u s.fabric.nextReq = some q ∧ q.answered = true ∧ q.poison = true))) ∧
    (∀ r q hd, reqOf s r = some q → q.answered = true → q.unit < 8 → 0 < q.cnt → hd = herOf s q.tile q.unit →
      (q.kind = .store → Gives (.heraldLineReturn r) s (fun u => u.fabric.reqs = mdel s.fabric.reqs r ∧
        (herOf u q.tile q.unit).done = hd.done + q.cnt ∧ (herOf u q.tile q.unit).inflight = hd.inflight - 1 ∧
        u.tkeep = s.tkeep)) ∧
      (q.kind = .load → q.cnt = 1 → q.poison = false → hd.user = false → hd.d.cvtEn = false →
        (farLines hd.d q.n0).1 = (farLines hd.d q.n0).2 →
        pendingIn s q.tile (nearSpan hd.d q.n0).1 (nearSpan hd.d q.n0).2 = false → Gives (.heraldLineReturn r) s (fun u =>
          u.fabric.reqs = mdel s.fabric.reqs r ∧ (herOf u q.tile q.unit).done = hd.done + 1 ∧
          nearRead u q.tile hd.d q.n0 = linePart hd.d (q.addr.toNat / 128) q.n0 q.data)) ∧
      (q.kind = .load → q.cnt = 1 → q.poison = false → hd.user = true → hd.d.cvtEn = false →
        (farLines hd.d q.n0).1 = (farLines hd.d q.n0).2 → Gives (.heraldLineReturn r) s (fun u => u.tkeep = s.tkeep ∧
          mfind (herOf u q.tile q.unit).elems q.n0 = some (linePart hd.d (q.addr.toNat / 128) q.n0 q.data))) ∧
      (q.kind = .atomic → q.poison = false → q.data.length = 4 → hd.d.fetch = true →
        pendingIn s q.tile (hd.d.fetchAddr + 4 * q.n0) 4 = false → Gives (.heraldLineReturn r) s (fun u =>
          bufBytes u q.tile (hd.d.fetchAddr + 4 * q.n0) 4 = q.data))) ∧
    (∀ h : Fin 8, (herOf s t.val h.val).busy = true → (herOf s t.val h.val).user = false → (tileOf s t.val).st ≠ 0 →
      (herDone (herOf s t.val h.val) = true → Gives (.streamComplete t h) s (fun u => u.tkeep = s.tkeep ∧
        (tileOf u t.val).board = (tileOf s t.val).board.filter (fun b => decide (b.pos ≠ (herOf s t.val h.val).pos)))) ∧
      (herDone (herOf s t.val h.val) = false → haltPassed s = false → Gives (.streamComplete t h) s (fun u => u = s)) ∧
      (haltPassed s = true → (herOf s t.val h.val).inflight = 0 → Gives (.streamComplete t h) s (fun u =>
        onBoard (tileOf u t.val) (herOf s t.val h.val).pos = false)))

/-! ## The home slice and the Store (07) -/

/-- A load at its home (R243, R246, R248, R250, R252, R254): once its class has the slots that it needs, the Store's bytes, or those of a
poisoned line as 0xFF with 0x2010; a corrected word is counted, as 0x2001 in the channel and as 0x2008 in the die cache, and delivered;
an uncorrectable one poisons its line, in the cache when the line is dirty, with 0x2012; beyond the capacity is 0x2013. -/
def Obligations.HomeSlicesAnswerLoads : Prop :=
  ∀ (s : State) (r : Nat) (q : Req) (a line : Nat), homeReq s r .load = some q → a = gaLocal q.addr.toNat → line = a / 128 →
    rowBusy s a = false →
    (a < capacity s → poisoned s line = false →
      Gives (.homeSliceLoad r {}) s (fun u => u.store.cells = s.store.cells ∧ u.health = s.health ∧
        ∃ q', reqOf u r = some q' ∧ q'.answered = true ∧ q'.poison = false ∧ q'.data = storeBytes s a q.len) ∧
      Gives (.homeSliceLoad r { cache := .corrected }) s (fun u => corrOf u 0x2008 = corrOf s 0x2008 + 1 ∧
        cntOf u 0x500204 = cntOf s 0x500204 + 1 ∧
        ∃ q', reqOf u r = some q' ∧ q'.answered = true ∧ q'.poison = false ∧ q'.data = storeBytes s a q.len) ∧
      (∀ k : Fin 5, k.val ≠ 0 → classTurn s (physChan s (line * 128)) q.prio (some r) = true →
        Gives (.homeSliceLoad r { cache := .missed, w0 := .corrected k }) s (fun u =>
          corrOf u 0x2001 = corrOf s 0x2001 + 1 ∧ cntOf u 0x500201 = cntOf s 0x500201 + 1 ∧
          ∃ q', reqOf u r = some q' ∧ q'.answered = true ∧ q'.poison = false ∧ q'.data = storeBytes s a q.len)) ∧
      (classTurn s (physChan s (line * 128)) q.prio (some r) = true →
        Gives (.homeSliceLoad r { cache := .missed, w1 := .uncorrectable }) s (fun u => Raised 0x2010 s u ∧
          poisoned u line = true ∧
          ∃ q', reqOf u r = some q' ∧ q'.answered = true ∧ q'.poison = true ∧ q'.data = List.replicate q.len 0xFF)) ∧
      (dirtyLine s line = true → Gives (.homeSliceLoad r { cache := .uncorrectable }) s (fun u => Raised 0x2012 s u ∧
        poisoned u line = true ∧
        ∃ q', reqOf u r = some q' ∧ q'.answered = true ∧ q'.poison = true ∧ q'.data = List.replicate q.len 0xFF))) ∧
    (a < capacity s → poisoned s line = true →
      Gives (.homeSliceLoad r {}) s (fun u => Raised 0x2010 s u ∧
        ∃ q', reqOf u r = some q' ∧ q'.answered = true ∧ q'.poison = true ∧ q'.data = List.replicate q.len 0xFF)) ∧
    (capacity s ≤ a → ∀ x, lineTurn s q.prio line x (some r) = true → Gives (.homeSliceLoad r x) s (fun u => Raised 0x2013 s u ∧
      ∃ q', reqOf u r = some q' ∧ q'.answered = true ∧ q'.poison = true)) ∧
    (∀ x, lineTurn s q.prio line x (some r) = false → Gives (.homeSliceLoad r x) s (fun u => u = s))

/-- A store at its home (R46, R67, R243, R246, R399, R402): it writes the bits that its masks select and no other byte; it is
acknowledged at once, or when the far copies of the line are gone; a barred one is dropped with its fault; one for which the
mirror has no room waits with `STALL`. The Store is in its canonical form (`StepsKeepTheStoreCanonical`). -/
def Obligations.HomeSlicesWriteExactlyTheMaskedBits : Prop :=
  ∀ (s : State) (r : Nat) (q : Req), Memory.wf s = true → homeReq s r .store = some q →
    (writeDenied s (gaLocal q.addr.toNat) q.len = none → writeRoom s (gaLocal q.addr.toNat) = true →
      ∀ x, (wholeLine q.wr = true ∨ lineTurn s q.prio (gaLocal q.addr.toNat / 128) x (some r) = true) →
      Gives (.homeSliceStore r x) s (fun u =>
        (∀ (i : Nat) (h : i < q.wr.length), storeByte u (gaLocal q.addr.toNat + i) =
          (storeByte s (gaLocal q.addr.toNat + i) &&& ~~~q.wr[i].2) ||| (q.wr[i].1 &&& q.wr[i].2)) ∧
        (∀ a, (a < gaLocal q.addr.toNat ∨ gaLocal q.addr.toNat + q.wr.length ≤ a) → storeByte u a = storeByte s a) ∧
        (farDies s (ownGa s (gaLocal q.addr.toNat)) = [] → ∃ q', reqOf u r = some q' ∧ q'.answered = true) ∧
        (farDies s (ownGa s (gaLocal q.addr.toNat)) ≠ [] → reqOf u r = some q ∧ u.store.waits = s.store.waits ++
          [⟨ownGa s (gaLocal q.addr.toNat) / 128, farDies s (ownGa s (gaLocal q.addr.toNat)), some r, none⟩]))) ∧
    (∀ code, writeDenied s (gaLocal q.addr.toNat) q.len = some code → ∀ x, Gives (.homeSliceStore r x) s (fun u =>
      u.store.cells = s.store.cells ∧ Raised code s u ∧ ∃ q', reqOf u r = some q' ∧ q'.answered = true)) ∧
    (writeDenied s (gaLocal q.addr.toNat) q.len = none → writeRoom s (gaLocal q.addr.toNat) = false →
      rowBusy s (gaLocal q.addr.toNat) = false → ∀ x, Gives (.homeSliceStore r x) s (fun u =>
        u.store.cells = s.store.cells ∧ u.twin.stall = true ∧ reqOf u r = some q))

/-- An atomic at its home (R261, R262): the word becomes the operation's result, the request returns the old value, and no other
byte changes; and the acknowledgement of a waiting write comes with the last die's answer (R46). -/
def Obligations.AtomicsReplaceTheWordAndReturnTheOld : Prop :=
  ∀ (s : State) (r : Nat) (q : Req), 
    (Memory.wf s = true → homeReq s r .atomic = some q → writeDenied s (gaLocal q.addr.toNat) 4 = none →
      writeRoom s (gaLocal q.addr.toNat) = true → poisoned s (gaLocal q.addr.toNat / 128) = false →
      farDies s (ownGa s (gaLocal q.addr.toNat)) = [] →
      Gives (.homeSliceAtomic r {}) s (fun u =>
        storeBytes u (gaLocal q.addr.toNat) 4 = leBytes 4 (atomicWord q.aop q.fmt
          (leNat (storeBytes s (gaLocal q.addr.toNat) 4)) q.word0.toNat q.word1.toNat) ∧
        (∀ a, (a < gaLocal q.addr.toNat ∨ gaLocal q.addr.toNat + 4 ≤ a) → storeByte u a = storeByte s a) ∧
        cntOf u 0x500205 = cntOf s 0x500205 + 1 ∧
        ∃ q', reqOf u r = some q' ∧ q'.answered = true ∧ q'.poison = false ∧
          q'.data = storeBytes s (gaLocal q.addr.toNat) 4)) ∧
    (∀ (line : BitVec 57) (die : EngineNo), s.store.waits = [⟨line.toNat, [die.val], some r, none⟩] → reqOf s r = some q →
      q.answered = false → Gives (.farInvalidateAck line die) s (fun u => u.store.waits = [] ∧
        ∃ q', reqOf u r = some q' ∧ q'.answered = true ∧ q'.data = q.data)) ∧
    (∀ (line : BitVec 57) (die other : EngineNo), die ≠ other → s.store.waits = [⟨line.toNat, [die.val, other.val], some r, none⟩] →
      Gives (.farInvalidateAck line die) s (fun u => u.store.waits = [⟨line.toNat, [other.val], some r, none⟩] ∧
        u.fabric = s.fabric))

/-- Rows, scrubbing and blocks (R21, R31, R250, R253, R254, R256, R273): a copied row is accessible again; a word is scrubbed once its class
has the slot, its correction is counted on its channel, an uncorrectable word poisons its line; an on-chip block whose CRC fails is
counted on its path and its Herald, and the sixteenth failure in a row is 0x2011; a block across a bundle stays in its retry buffer until
it has passed and every block before it has been delivered, and its sixteenth failure in a row takes the bundle out of service. -/
def Obligations.ScrubsAndBlockChecksCountErrors : Prop :=
  ∀ s : State,
    (∀ row words, mget false s.store.copying row.toNat = true → Gives (.rowCopyDone row words) s (fun u =>
      u.store.copying = mdel s.store.copying row.toNat ∧ u.store.cells = s.store.cells ∧ u.tiles = s.tiles)) ∧
    (∀ row words, mget false s.store.copying row.toNat = false → Gives (.rowCopyDone row words) s (fun u => u = s)) ∧
    (∀ addr : BitVec 34, s.boot.hub = true → (chanOf s (physChan s addr.toNat)).tested = true → rowBusy s addr.toNat = false →
      classTurn s (physChan s addr.toNat) false none = true →
      Gives (.scrub addr .clean) s (fun u => u.store.cells = s.store.cells ∧ u.store.poison = s.store.poison ∧
        corrOf u 0x2001 = corrOf s 0x2001) ∧
      (∀ k : Fin 5, k.val ≠ 0 → Gives (.scrub addr (.corrected k)) s (fun u => u.store.cells = s.store.cells ∧
        corrOf u 0x2001 = corrOf s 0x2001 + 1 ∧ cntOf u 0x500201 = cntOf s 0x500201 + 1 ∧
        (chanOf u (physChan s addr.toNat)).corr = min 0xFFFF ((chanOf s (physChan s addr.toNat)).corr + 1))) ∧
      Gives (.scrub addr .uncorrectable) s (fun u => poisoned u (addr.toNat / 128) = true)) ∧
    (∀ (c : TileNo) (p : Fin 8) data (crc : U16),
      (crc16 data = crc.toNat → (chanOf s c.val).tested = true → mwf 0 (chanOf s c.val).fails = true → ∀ h,
        Gives (.onchipBlockReceive c p h data crc) s (fun u => u.health = s.health ∧ mget 0 (chanOf u c.val).fails p.val = 0)) ∧
      (crc16 data ≠ crc.toNat → mget 0 (chanOf s c.val).fails p.val < 15 → ∀ h,
        Gives (.onchipBlockReceive c p h data crc) s (fun u =>
          corrOf u 0x2007 = corrOf s 0x2007 + 1 ∧ cntOf u 0x500203 = cntOf s 0x500203 + 1 ∧
          mget 0 (chanOf u c.val).fails p.val = mget 0 (chanOf s c.val).fails p.val + 1 ∧
          faultCount u 0x2011 = faultCount s 0x2011)) ∧
      (crc16 data ≠ crc.toNat → 15 ≤ mget 0 (chanOf s c.val).fails p.val → ∀ h,
        Gives (.onchipBlockReceive c p h data crc) s (fun u => corrOf u 0x2007 = corrOf s 0x2007 + 1 ∧ Raised 0x2011 s u)) ∧
      (∀ (t : TileNo) (h : Fin 8), crc16 data ≠ crc.toNat → Gives (.onchipBlockReceive c p (some (t, h)) data crc) s (fun u =>
        (herOf u t.val h.val).resend = min 0xFFFF ((herOf s t.val h.val).resend + 1)))) ∧
    (∀ (b : Fin 108) (p : Fin 64) (block : List Byte) (err : BitVec 528), (bundleOf s b.val).width ≠ 2 →
      (∀ d, (bundleOf s b.val).retry0 = [] → blockArrives block err = some d → ∀ h,
        Gives (.bundleBlockReceive b false p block err h) s (fun u => (bundleOf u b.val).retry0 = [] ∧
          (bundleOf u b.val).out0 = (bundleOf s b.val).out0 ++ [d] ∧ (bundleOf u b.val).retry1 = (bundleOf s b.val).retry1 ∧
          u.health = s.health)) ∧
      (∀ x y d g, (bundleOf s b.val).retry1 = [x, y] → x.got = none → y.got = some g → blockArrives x.data err = some d → ∀ h,
        Gives (.bundleBlockReceive b true 0 block err h) s (fun u => (bundleOf u b.val).retry1 = [] ∧
          (bundleOf u b.val).out1 = (bundleOf s b.val).out1 ++ [d, g])) ∧
      ((bundleOf s b.val).retry0 = [] → blockArrives block err = none → ∀ h,
        Gives (.bundleBlockReceive b false p block err h) s (fun u =>
          (bundleOf u b.val).retry0 = [{ data := block, fails := 1 }] ∧ (bundleOf u b.val).out0 = (bundleOf s b.val).out0 ∧
          (bundleOf u b.val).resend = min 0xFFFF ((bundleOf s b.val).resend + 1) ∧
          (bundleOf u b.val).width = (bundleOf s b.val).width ∧ corrOf u 0x3003 = corrOf s 0x3003 + 1)) ∧
      (∀ x, (bundleOf s b.val).retry1 = [x] → x.got = none → 15 ≤ x.fails → blockArrives x.data err = none → ∀ h,
        Gives (.bundleBlockReceive b true 0 block err h) s (fun u => (bundleOf u b.val).width = 2 ∧ Raised 0x3011 s u ∧
          corrOf u 0x3003 = corrOf s 0x3003 + 1)) ∧
      (∀ (t : TileNo) (h : Fin 8), (bundleOf s b.val).retry0 = [] → blockArrives block err = none →
        Gives (.bundleBlockReceive b false p block err (some (t, h))) s (fun u =>
          (herOf u t.val h.val).resend = min 0xFFFF ((herOf s t.val h.val).resend + 1)))) ∧
    (s.store.migrating = true → Gives .segmentMigrationDone s (fun u => u.store.migrating = false)) ∧
    (s.store.migrating = false → Gives .segmentMigrationDone s (fun u => u = s))

/-! ## Optics (08) -/

/-- Engines come up and serve their groups (R290, R295, R297, R301, R304, R306, R310, R314 to R316, R320, R333, R554, R559): on the
input that the readings choose the engine is in service and its lit fibres' rings are locked, with none it is out of service with 0x4005;
one out of service looks again; a lost one is 0x4050 and its pins fall; the first transmit group that fails has the spare stand
for it with 0x4012, the next leaves its fibres dark with 0x4013; a mesh change ends; readings and trims are taken; and a
calibration window's results are taken, unless a planned switchover took it. -/
def Obligations.EnginesComeUpAndServeTheirGroups : Prop :=
  ∀ (s : State) (n : EngineNo), s.boot.hub = true →
    (∀ b : BringUp, s.boot.starting = true → s.boot.step = 5 → s.boot.blocked = false → (engOf s n.val).state = 3 →
      (∀ sp, chooseInput (inputsRead n.val b s) n.val = some sp → Gives (.opticsBringUp n b) s (fun t =>
        (engOf t n.val).state = 0 ∧ (engOf t n.val).sel = sp ∧ (engOf t n.val).reqP = true ∧ (engOf t n.val).reqS = true ∧
        (∀ m : Nat, m < 8 → bit b.lit.toNat m = true → (fibOf t (8 * n.val + m)).lit = true ∧
          (b.lockFailed = [] → (∀ l ∈ (engOf s n.val).src, l < 8) → (fibOf t (8 * n.val + m)).locked = true ∧
            (fibOf t (8 * n.val + m)).failed = false) ∧
          (∀ k ∈ b.lockFailed, k.val / 8 = m → (fibOf t (8 * n.val + m)).locked = false ∧
            (fibOf t (8 * n.val + m)).failed = true)))) ∧
      (chooseInput (inputsRead n.val b s) n.val = none → (engOf s n.val).noInput = false → Gives (.opticsBringUp n b) s
        (fun t => (engOf t n.val).state = 2 ∧ (engOf t n.val).noInput = true ∧ Raised 0x4005 s t))) ∧
    (∀ b : BringUp, (engOf s n.val).state = 2 → (engOf s n.val).lost = false →
      (b.primary = none → b.spare = none → Gives (.engineInputRecheck n b) s (fun t =>
        (engOf t n.val).state = 2 ∧ faultCount t 0x4005 = faultCount s 0x4005)) ∧
      (∀ l sp, b.primary = some l → b.spare = none →
        inputBelow (sampleInput n.val false l (sampleInput n.val true [] (setLight n.val false true (setLight n.val true false s))))
          n.val false (fadeB s) = true → chooseInput (inputsRead n.val b s) n.val = some sp →
        Gives (.engineInputRecheck n b) s (fun t => (engOf t n.val).state = 0 ∧ (engOf t n.val).sel = sp ∧
          (engOf t n.val).noInput = false))) ∧
    ((engOf s n.val).lost = false → (engOf s n.val).state ≠ 3 → Gives (.engineLost n) s (fun t =>
      (engOf t n.val).lost = true ∧ (engOf t n.val).state = 2 ∧ (engOf t n.val).reqP = false ∧
        (engOf t n.val).reqS = false ∧ Raised 0x4050 s t)) ∧
    ((engOf s n.val).state = 0 →
      (∀ g : Fin 9, g.val ≠ 8 → bit (engOf s n.val).grpFail.toNat g.val = false →
        ((engOf s n.val).spareFor = 15 → (engOf s n.val).spareDue = 15 → bit (engOf s n.val).grpFail.toNat 8 = false →
          Gives (.groupFault n g) s (fun t => (engOf t n.val).spareDue = g.val ∧ (engOf t n.val).spareFor = 15 ∧
            bit (engOf t n.val).grpFail.toNat g.val = true ∧ Raised 0x4012 s t)) ∧
        ((engOf s n.val).spareFor ≠ 15 → (engOf s n.val).spareFor ≠ g.val → Gives (.groupFault n g) s (fun t =>
          bit (engOf t n.val).grpFail.toNat g.val = true ∧ Raised 0x4013 s t)) ∧
        ((engOf s n.val).spareFor = g.val → (engOf s n.val).icSub = true → Gives (.groupFault n g) s (fun t =>
          bit (engOf t n.val).grpFail.toNat g.val = true ∧ (engOf t n.val).spareFor = g.val ∧ (engOf t n.val).icSub = false ∧
            (engOf t n.val).icSubEnd = false ∧ Raised 0x4012 s t))) ∧
      (∀ g : Fin 9, bit (engOf s n.val).grpFail.toNat g.val = true → Gives (.groupFault n g) s (fun t => t = s)) ∧
      Gives (.meshChangeDone n) s (fun t => (engOf t n.val).paused = false ∧ t.links = s.links ∧ t.health = s.health) ∧
      (∀ (i : Fin 36) (v : Int), v ≠ 0 → Gives (.trimmerUpdate n [] [(i, v)]) s (fun t =>
        mget 0 (engOf t n.val).trims i.val = v ∧ (engOf t n.val).paused = (engOf s n.val).paused ∧ t.links = s.links)) ∧
      (∀ (c : Fin 17) (k : Fin 81) (v : Int), (256 * c.val + k.val) ∈ monKeys → Gives (.trimmerUpdate n [(c, k, v)] []) s
        (fun t => (mget {} (engOf t n.val).mons (256 * c.val + k.val)).read = some v ∧
          (mget {} (engOf t n.val).mons (256 * c.val + k.val)).base = (mget {} (engOf s n.val).mons (256 * c.val + k.val)).base)) ∧
      (∀ (ok : Bool) (margin : Int) (cal : ItemCal),
        ((engOf s n.val).icActive = false → Gives (.intercalaryWindowEnd n ok margin cal) s (fun t => t = s)) ∧
        ((engOf s n.val).icActive = true → (engOf s n.val).icSwitch = true → Gives (.intercalaryWindowEnd n ok margin cal) s
          (fun t => (engOf t n.val).icActive = false ∧ (engOf t n.val).icSwitch = false ∧
            (engOf t n.val).nextItem = (engOf s n.val).nextItem ∧ t.health = s.health))) ∧
      ((engOf s n.val).icActive = true → (engOf s n.val).icSwitch = false → ∀ (margin : Int) (cal : ItemCal),
        ((engOf s n.val).icItem < 9 → Gives (.intercalaryWindowEnd n true margin cal) s (fun t =>
          (engOf t n.val).icActive = false ∧ (engOf t n.val).nextItem = ((engOf s n.val).icItem + 1) % 17 ∧
            (cal.bias ≠ 0 → mget {} (engOf t n.val).groups (engOf s n.val).icItem = ⟨cal.bias, cal.levels⟩) ∧
            t.health = s.health)) ∧
        ((engOf s n.val).icItem < 9 → (engOf s n.val).icSub = true → Gives (.intercalaryWindowEnd n false margin cal) s
          (fun t => (engOf t n.val).icActive = false ∧ bit (engOf t n.val).grpFail.toNat (engOf s n.val).icItem = true ∧
            Raised 0x4012 s t)) ∧
        (9 ≤ (engOf s n.val).icItem → (engOf s n.val).icItem < 17 →
          Gives (.intercalaryWindowEnd n true margin cal) s (fun t => (engOf t n.val).icActive = false ∧
            (fibOf t (8 * n.val + ((engOf s n.val).icItem - 9))).cls = classOf margin ∧
            (fibOf t (8 * n.val + ((engOf s n.val).icItem - 9))).margin = margin ∧
            (fibOf t (8 * n.val + ((engOf s n.val).icItem - 9))).fecOver = false ∧
            ((fibOf s (8 * n.val + ((engOf s n.val).icItem - 9))).lit = true →
              ∀ k ∈ rxRings (8 * n.val + ((engOf s n.val).icItem - 9)), (resoOf t n.val k).locked = true ∧
                (resoOf t n.val k).failed = false)) ∧
          Gives (.intercalaryWindowEnd n false margin cal) s (fun t =>
            (fibOf t (8 * n.val + ((engOf s n.val).icItem - 9))).failed = true ∧ Raised 0x4011 s t))))

/-- Fade and switchover (R286 to R294): the selected input at or past threshold A is 0x4001, the other at or past B 0x4004, each
once; no light 1 s after a request is 0x4006; threshold C switches at once, or takes the engine out of service; a planned
switchover begins in its window, or 1 s after the crossing; its end counts it with 0x4002 or 0x4003; the writes of the Installer commission
inputs, plan a return, release and restore a laser (R288, R294). -/
def Obligations.LaserInputsFadeSwitchAndReturn : Prop :=
  ∀ (s : State) (n : EngineNo), s.boot.hub = true → (engOf s n.val).state = 0 →
    (∀ lp ls : List Int, (engOf s n.val).reqP = true → (engOf s n.val).reqS = false → (engOf s n.val).sel = false →
      (engOf s n.val).pastAP = false →
      (inputBelow (inputsSampled n.val lp ls s) n.val false (fadeA s) = false → Gives (.laserSample n lp ls) s (fun t =>
        Raised 0x4001 s t ∧ (engOf t n.val).pastAP = true)) ∧
      (inputBelow (inputsSampled n.val lp ls s) n.val false (fadeA s) = true → Gives (.laserSample n lp ls) s (fun t =>
        faultCount t 0x4001 = faultCount s 0x4001 ∧ (engOf t n.val).pastAP = false))) ∧
    (∀ lp ls : List Int, (engOf s n.val).reqP = false → (engOf s n.val).reqS = true → (engOf s n.val).sel = false →
      (engOf s n.val).pastBS = false → inputBelow (inputsSampled n.val lp ls s) n.val true (fadeB s) = false →
      Gives (.laserSample n lp ls) s (fun t => Raised 0x4004 s t ∧ (engOf t n.val).pastBS = true)) ∧
    ((engOf s n.val).reqP = true → (engOf s n.val).lightP = false → (engOf s n.val).noLightP = false →
      Gives (.laserLightTimeout n false) s (fun t => Raised 0x4006 s t ∧ (engOf t n.val).noLightP = true)) ∧
    ((engOf s n.val).lightS = true → Gives (.laserLightTimeout n true) s (fun t => t = s)) ∧
    (inputBelow s n.val (!(engOf s n.val).sel) (fadeC s) = true → Gives (.laserFadeTrip n) s (fun t =>
      (engOf t n.val).state = 1 ∧ (engOf t n.val).sel = !(engOf s n.val).sel ∧ (engOf t n.val).switching = some false)) ∧
    (inputBelow s n.val (!(engOf s n.val).sel) (fadeC s) = false → (engOf s n.val).noInput = false →
      Gives (.laserFadeTrip n) s (fun t =>
        (engOf t n.val).state = 2 ∧ (engOf t n.val).noInput = true ∧ Raised 0x4005 s t)) ∧
    ((engOf s n.val).switchPend = true → (((engOf s n.val).icActive = true ∧ (engOf s n.val).icSwitch = true) ∨
        (engOf s n.val).pendSince + 1000000000 ≤ lastCalend s) →
      inputBelow s n.val (!(engOf s n.val).sel) (fadeC s) = true → (∀ k, k < 8 → k ≠ n.val → (engOf s k).state ≠ 1) →
      Gives (.plannedSwitchover n) s (fun t => (engOf t n.val).state = 1 ∧ (engOf t n.val).sel = !(engOf s n.val).sel ∧
        (engOf t n.val).switching = some true ∧ (engOf t n.val).switchPend = false)) ∧
    (∀ failed, (engOf s n.val).switching = some true → Gives (.switchoverComplete n failed) s (fun t =>
      (engOf t n.val).state = 0 ∧ (engOf t n.val).switching = none ∧ cntOf t 0x300304 = cntOf s 0x300304 + 1 ∧
        Raised 0x4002 s t)) ∧
    (∀ failed, (engOf s n.val).switching = some false → Gives (.switchoverComplete n failed) s (fun t =>
      (engOf t n.val).state = 0 ∧ (engOf t n.val).switching = none ∧ cntOf t 0x300304 = cntOf s 0x300304 + 1 ∧
        Raised 0x4003 s t)) ∧
    (∀ q : OdReq, MakerWrites s q →
      (∀ (v : U16) (i j : Nat), i < 16 → j < 8 → bit v.toNat i = true →
        (lineOf s (lineKey (i / 2) (decide (i % 2 = 1)) j)).f.raw ≠ [] → Gives (.commission q v) s (fun t =>
          Answers q odOk [] s t ∧ (lineOf t (lineKey (i / 2) (decide (i % 2 = 1)) j)).baseline =
            some (dyFloor (lineOf s (lineKey (i / 2) (decide (i % 2 = 1)) j)).f.y))) ∧
      (inputBelow s n.val (!(engOf s n.val).sel) (fadeA s) = true →
        Gives (.laserReturn q (BitVec.ofNat 8 n.val)) s (fun t => Answers q odOk [] s t ∧ (engOf t n.val).switchPend = true ∧
          (engOf t n.val).pendSince = now s ∧ (engOf t n.val).releaseAfter = none)) ∧
      (inputBelow s n.val (!(engOf s n.val).sel) (fadeA s) = false →
        Gives (.laserReturn q (BitVec.ofNat 8 n.val)) s (fun t => Answers q odState [] s t ∧ t.optics = s.optics)) ∧
      ((engOf s n.val).sel = true → Gives (.laserRelease q (BitVec.ofNat 8 n.val)) s (fun t =>
        Answers q odOk [] s t ∧ (engOf t n.val).reqP = false ∧ (engOf t n.val).switchPend = (engOf s n.val).switchPend)) ∧
      ((engOf s n.val).sel = false → inputBelow s n.val true (fadeB s) = true →
        Gives (.laserRelease q (BitVec.ofNat 8 n.val)) s (fun t => Answers q odOk [] s t ∧
          (engOf t n.val).switchPend = true ∧ (engOf t n.val).releaseAfter = some false)) ∧
      Gives (.laserRestore q (BitVec.ofNat 8 (8 + n.val))) s (fun t => Answers q odOk [] s t ∧
        (engOf t n.val).reqS = true ∧ (engOf t n.val).rebaseS = true))

/-- Fibres (R279 to R284, R297 to R299, R333, R555, R563): light locks a fibre's rings, or takes it out of service with 0x4011; its loss
withdraws the pair; a codeword is decoded, and corrected symbols and uncorrectable codewords are counted; a marker is answered,
measures the class, and one that shows a wrong line unlocks that ring; a ring locks once four words have verified it, and fails at its
third attempt; a window above the limit retrains the pair once and then takes it out with 0x4014; an Installer parks and unparks
a fibre. -/
def Obligations.FibresLockMeasureAndFailAsStated : Prop :=
  ∀ (s : State) (f : PairNo), s.boot.hub = true → (engOf s (f.val / 8)).state = 0 →
    ((fibOf s f.val).lit = false →
      (startTrainingMay s f.val = true → (∀ k ∈ txRings s f.val, (resoOf s (f.val / 8) k).locked = true ∧
          (resoOf s (f.val / 8) k).failed = false) → Gives (.rxLightAppear f 0) s (fun t => (fibOf t f.val).lit = true ∧
        (fibOf t f.val).locked = true ∧ (fibOf t f.val).failed = false ∧ (pairOf t f.val).training = true ∧
        (pairOf t f.val).needResume = decide ((pairOf s f.val).level ≠ 0))) ∧
      (∀ j : Fin 8, Gives (.rxLightAppear f (BitVec.ofNat 8 (2 ^ j.val))) s (fun t => (fibOf t f.val).lit = true ∧
        (fibOf t f.val).locked = false ∧ (fibOf t f.val).failed = true ∧ Raised 0x4011 s t)) ∧
      Gives (.rxLightLoss f) s (fun t => t = s)) ∧
    (∀ lines v, fecDecode (codeSymbols lines) = some v →
      (v = codeSymbols lines → Gives (.codewordReceive f lines) s (fun t => t.health = s.health ∧
        (fibOf t f.val).words = (fibOf s f.val).words + 1 ∧ (fibOf t f.val).uncorr = (fibOf s f.val).uncorr)) ∧
      (v ≠ codeSymbols lines → Gives (.codewordReceive f lines) s (fun t =>
        cntOf t 0x300301 = cntOf s 0x300301 + symbolErrors v (codeSymbols lines) ∧ corrOf t 0x4020 = corrOf s 0x4020 + 1 ∧
        (fibOf t f.val).fixedBits = (fibOf s f.val).fixedBits + bitErrors v (codeSymbols lines)))) ∧
    (∀ lines, fecDecode (codeSymbols lines) = none → Gives (.codewordReceive f lines) s (fun t =>
      cntOf t 0x300302 = cntOf s 0x300302 + 1 ∧ corrOf t 0x4021 = corrOf s 0x4021 + 1 ∧
      (fibOf t f.val).uncorr = min 0xFFFF ((fibOf s f.val).uncorr + 1))) ∧
    ((fibOf s f.val).lit = true →
      ((pairOf s f.val).level ≠ 0 → Gives (.rxLightLoss f) s (fun t => (fibOf t f.val).lit = false ∧
        (fibOf t f.val).locked = false ∧ (fibOf t f.val).darkAt = some (now s) ∧ (pairOf t f.val).withdrawn = true ∧
        (pairOf t f.val).needResume = true)) ∧
      (∀ (transmit : Bool) (line : Fin 8) (heater : Int) (k : Nat),
        (if transmit then txRings s f.val else rxRings f.val)[line.val]? = some k →
        (resoOf s (f.val / 8) k).locked = false → (resoOf s (f.val / 8) k).failed = false →
        (4 ≤ (resoOf s (f.val / 8) k).ok → Gives (.ringLockAttempt f transmit line heater) s (fun t =>
          (resoOf t (f.val / 8) k).locked = true ∧ (resoOf t (f.val / 8) k).heater = max (ringStart s (f.val / 8) k) heater ∧
          ((∀ j ∈ ringsOf s f.val, j ≠ k → (resoOf s (f.val / 8) j).locked = true) → (fibOf t f.val).locked = true ∧
            ((pairOf s f.val).level = 0 → startTrainingMay s f.val = true → (pairOf t f.val).training = true)))) ∧
        ((resoOf s (f.val / 8) k).ok < 4 → (resoOf s (f.val / 8) k).attempts < 2 →
          Gives (.ringLockAttempt f transmit line heater) s (fun t => (resoOf t (f.val / 8) k).locked = false ∧
            (resoOf t (f.val / 8) k).attempts = (resoOf s (f.val / 8) k).attempts + 1 ∧ t.health = s.health)) ∧
        ((resoOf s (f.val / 8) k).ok < 4 → 2 ≤ (resoOf s (f.val / 8) k).attempts →
          Gives (.ringLockAttempt f transmit line heater) s (fun t => (resoOf t (f.val / 8) k).failed = true ∧
            (fibOf t f.val).failed = true ∧ Raised 0x4011 s t))) ∧
      (∀ m u, u = takeMarker f.val m s → wrongRings u f.val = [] →
        Gives (.markerCodeword f m) s (fun t => (fibOf t f.val).powTx = some m.ownPower ∧
          (fibOf t f.val).powRx = some m.reportPower ∧ (fibOf t f.val).rxPower = some m.ownReceive ∧
          (∃ y, t.out.markers = s.out.markers ++ [y] ∧ y.pair = f.val ∧ y.power = some m.ownReceive ∧
            y.words = (List.range 8).map (laneWord s f.val)) ∧
          ((fibOf s f.val).measured = false → txRings u f.val ≠ [] → ringsVerified u (f.val / 8) (txRings u f.val) = true →
            (fibOf t f.val).measured = true ∧ (fibOf t f.val).margin = 900 - (m.ownPower - m.reportPower) ∧
            (fibOf t f.val).cls = classOf (900 - (m.ownPower - m.reportPower))))) ∧
      (∀ m k, wrongRings (takeMarker f.val m s) f.val = [k] → (fibOf s f.val).locked = true →
        Gives (.markerCodeword f m) s (fun t => (fibOf t f.val).locked = false ∧ corrOf t 0x4010 = corrOf s 0x4010 + 1 ∧
          cntOf t 0x300305 = cntOf s 0x300305 + 1 ∧ (pairOf t f.val).withdrawn = true)) ∧
      (∀ e r : Nat, e = (fibOf s f.val).fixedBits + 100 * (fibOf s f.val).badWords → r = 2720 * (fibOf s f.val).words →
        fibreUp s f.val = true →
        (24 * r < 100000 * e → (fibOf s f.val).fecRetry = false → Gives (.preFecWindow f) s (fun t =>
          (fibOf t f.val).est = (e, r) ∧ (fibOf t f.val).words = 0 ∧ (fibOf t f.val).fecRetry = true ∧
          (pairOf t f.val).training = true ∧ (pairOf t f.val).withdrawn = true)) ∧
        (24 * r < 100000 * e → (fibOf s f.val).fecRetry = true → Gives (.preFecWindow f) s (fun t =>
          (fibOf t f.val).fecOver = true ∧ (pairOf t f.val).withdrawn = true ∧ Raised 0x4014 s t)) ∧
        (100000 * e ≤ 24 * r → Gives (.preFecWindow f) s (fun t =>
          (fibOf t f.val).est = (e, r) ∧ (fibOf t f.val).words = 0 ∧ (fibOf t f.val).fecRetry = false ∧ t.links = s.links))) ∧
      (∀ q : OdReq, MakerWrites s q → (pairOf s f.val).level ≠ 0 →
        Gives (.fibrePark q (BitVec.ofNat 8 f.val)) s (fun t => Answers q odOk [] s t ∧ (fibOf t f.val).parked = true ∧
          (pairOf t f.val).withdrawn = true) ∧
        ((pairOf s f.val).latched = false → (fibOf s f.val).locked = true → 7 ≤ s.boot.step →
          Gives (.fibreUnpark q (BitVec.ofNat 8 f.val)) s (fun t => Answers q odOk [] s t ∧
            (fibOf t f.val).parked = false ∧ (fibOf t f.val).measureDue = true ∧ (fibOf t f.val).fecOver = false ∧
            (pairOf t f.val).outOfService = false ∧ (pairOf t f.val).training = true))))

/-! ## Links (09) -/

/-- FLIT_SEND (R330, R332, R340): a fibre that cannot send sends nothing; one in training sends its training record; one in
service replays what is due, then sends its Ledger, then data by the service order, with the next `SEQ`, and else an Idle flit;
acknowledgements and credits that are due go out in a Credit flit when nothing sequenced waits (R327). -/
def Obligations.FlitsLeaveInTheServiceOrder : Prop :=
  ∀ (s : State) (f : PairNo),
    ((s.boot.hub = false ∨ (fibOf s f.val).lit = false ∨ (fibOf s f.val).locked = false) →
      Gives (.flitSend f) s (fun t => t = s)) ∧
    (s.boot.hub = true → (fibOf s f.val).lit = true → (fibOf s f.val).locked = true →
      (engOf s (f.val / 8)).paused = false → (engOf s (f.val / 8)).state = 0 →
      (trains (pairOf s f.val) = true → Gives (.flitSend f) s (fun t => ∃ x, t.out.wire = s.out.wire ++ [x] ∧
        x.pair = f.val ∧ x.typ = 6 ∧ x.train = some (ownTrain s f.val) ∧ t.links = s.links)) ∧
      (trains (pairOf s f.val) = false → txUp s f.val = true → (pairOf s f.val).returning = false → carriedHere s f.val = [] →
        (∀ y, (pairOf s f.val).resend ≠ 0 →
          (pairOf s f.val).replay[(pairOf s f.val).replay.length - (pairOf s f.val).resend]? = some y →
          Gives (.flitSend f) s (fun t => (pairOf t f.val).n = (pairOf s f.val).n ∧
            (pairOf t f.val).resend = (pairOf s f.val).resend - 1 ∧ ∃ x, t.out.wire = s.out.wire ++ [x] ∧ x.pair = f.val ∧
            x.carry = false ∧ x.seq = ((pairOf s f.val).u + ((pairOf s f.val).replay.length - (pairOf s f.val).resend)) % 65536
            ∧ (∀ v p, y.body = .data v p → x.typ = 1 ∧ x.vc = v ∧ x.payload = some p))) ∧
        ((pairOf s f.val).resend = 0 → (pairOf s f.val).replay.length < 1024 → phaseCopies f.val s = none →
          (∀ c, (pairOf s f.val).ledgerDue = some c → Gives (.flitSend f) s (fun t =>
            (pairOf t f.val).n = (pairOf s f.val).n + 1 ∧ (pairOf t f.val).ledgerDue = none ∧
            ∃ x, t.out.wire = s.out.wire ++ [x] ∧ x.typ = 3 ∧ x.seq = (pairOf s f.val).n % 65536 ∧
              x.ledger.map (fun b => (b.calend, b.n, b.u)) =
                some (BitVec.ofNat 64 c, BitVec.ofNat 64 (pairOf s f.val).n, BitVec.ofNat 64 (pairOf s f.val).u))) ∧
          (∀ v two p rest, (pairOf s f.val).ledgerDue = none → pickVc (pairOf s f.val) = some v →
            mget [] (pairOf s f.val).q v = (two, p) :: rest → Gives (.flitSend f) s (fun t =>
              (pairOf t f.val).n = (pairOf s f.val).n + 1 ∧ (pairOf t f.val).replay.length = (pairOf s f.val).replay.length + 1 ∧
              mget 0 (pairOf t f.val).t v = mget 0 (pairOf s f.val).t v + 1 ∧
              mget 0 (pairOf t f.val).spent v = mget 0 (pairOf s f.val).spent v + 1 ∧
              ∃ x, t.out.wire = s.out.wire ++ [x] ∧ x.typ = 1 ∧ x.vc = v ∧ x.seq = (pairOf s f.val).n % 65536 ∧
                x.carry = false ∧ x.payload = some p)) ∧
          ((pairOf s f.val).ledgerDue = none → pickVc (pairOf s f.val) = none → s.links.splits = [] →
            Gives (.flitSend f) s (fun t => (pairOf t f.val).n = (pairOf s f.val).n ∧
              ∃ x, t.out.wire = s.out.wire ++ [x] ∧ x.pair = f.val ∧ x.typ = 0))))) ∧
    (s.boot.hub = true → txUp s f.val = true → carried s f.val = false → (pairOf s f.val).ackDue = true →
      (pairOf s f.val).replay.length < 1024 →
      ((turn f.val s).isSome = true → Gives (.creditFlitDue f) s (fun t => t = s)) ∧
      (turn f.val s = none → (pairOf s f.val).level = 3 → Gives (.creditFlitDue f) s (fun t => (pairOf t f.val).n = (pairOf s f.val).n + 1 ∧
        (∀ v, v < 6 → mget 0 (pairOf s f.val).g v < mget 0 (pairOf s f.val).d v →
          mget 0 (pairOf t f.val).g v = mget 0 (pairOf s f.val).d v) ∧
        ∃ x, t.out.wire = s.out.wire ++ [x] ∧ x.typ = 2 ∧ x.seq = (pairOf s f.val).n % 65536 ∧
          x.counts = creditCounts (pairOf s f.val))) ∧
      (turn f.val s = none → (pairOf s f.val).level = 2 → Gives (.creditFlitDue f) s (fun t => (pairOf t f.val).n = (pairOf s f.val).n + 1 ∧
        ∃ x, t.out.wire = s.out.wire ++ [x] ∧ x.typ = 2 ∧ x.counts = List.replicate 6 0)))

/-- Receiving (R325 to R328, R334, R337, R338): the next `SEQ` of a space is accepted, counted on its virtual channel and
acknowledged; a duplicate is acknowledged again; one ahead, or one with a bad CRC, is Naked; every good flit's `ACK` advances U,
and an accepted one's credits are applied; a payload of a reserved kind is 0x6001; a Ledger that breaks an invariant is 0x5F00 and parks
the pair; a phase stream is accepted only where the setting marks its fibre, and 0x4033 elsewhere (R308); a Nak replays the space and
counts it, and the sixteenth replay in a row retrains with 0x5003 (R329). -/
def Obligations.FlitsAreAcceptedAcknowledgedAndReplayed : Prop :=
  ∀ (s : State) (h : FlitHdr) (g r : Nat), receives s h.pair.val = true → spacePair s h = g → reversePair s h = r →
    (pairOf s g).level ≠ 0 → (pairOf s r).level ≠ 0 →
    (h.rphase = false → ∀ k, 1 ≤ k → k ≤ (pairOf s r).replay.length → (pairOf s r).replay.length ≤ 1024 →
      h.ack.toNat = ((pairOf s r).u + k - 1) % 65536 → Gives (.idleFlit h) s (fun t => (pairOf t r).u = (pairOf s r).u + k ∧
        (pairOf t r).replay = (pairOf s r).replay.drop k ∧ t.out = s.out)) ∧
    (h.seq.toNat = (pairOf s g).e % 65536 →
      (∀ vc : Fin 6, Gives (.dataFlit h vc .malformed) s (fun t => (pairOf t g).e = (pairOf s g).e + 1 ∧
        (pairOf t g).ackDue = true ∧ Raised 0x6001 s t)) ∧
      (∀ (vc : Fin 6) p, strayPayload vc.val p s = none → Gives (.dataFlit h vc p) s (fun t =>
        (pairOf t g).e = (pairOf s g).e + 1 ∧ (pairOf t g).ackDue = true ∧ mget 0 (pairOf t g).a vc.val = mget 0 (pairOf s g).a vc.val + 1 ∧
        mget 0 (pairOf t g).b vc.val = mget 0 (pairOf s g).b vc.val + 1 ∧ t.out = s.out ∧
        (h.crCount ≠ 0 → mget 0 (pairOf t r).k h.crVc.val = mget 0 (pairOf s r).k h.crVc.val + h.crCount.toNat))) ∧
      (∀ (l : List U16) (v : Nat) (x : U16), (pairOf s h.pair.val).level = 3 → l.length = 6 → l[v]? = some x → x ≠ 0 →
        h.crCount = 0 → Gives (.creditFlit h l) s (fun t => (pairOf t g).e = (pairOf s g).e + 1 ∧
          mget 0 (pairOf t r).k v = mget 0 (pairOf s r).k v + x.toNat)) ∧
      (∀ b : LedgerBody, b.phaseId = 0 → b.epoch = (pairOf s g).epoch → (pairOf s g).latched = false →
        (ledgerBreaks (pairOf s g) b = false → Gives (.ledgerFlit h b) s (fun t => (pairOf t g).e = (pairOf s g).e + 1 ∧
          cntOf t 0x410004 = cntOf s 0x410004 + 1 ∧ (pairOf t g).latched = false)) ∧
        (ledgerBreaks (pairOf s g) b = true → Gives (.ledgerFlit h b) s (fun t => (pairOf t g).latched = true ∧
          (pairOf t g).parked = true ∧ Raised 0x5F00 s t)))) ∧
    (∀ b : LedgerBody, b.phaseId = 0 → b.epoch ≠ (pairOf s g).epoch → Gives (.ledgerFlit h b) s (fun t => t = s)) ∧
    (seqPlace (pairOf s g).e h.seq.toNat = .duplicate → ∀ (vc : Fin 6) p, Gives (.dataFlit h vc p) s (fun t =>
      (pairOf t g).e = (pairOf s g).e ∧ (pairOf t g).ackDue = true ∧ (pairOf t g).a = (pairOf s g).a ∧ t.out = s.out)) ∧
    (seqPlace (pairOf s g).e h.seq.toNat = .ahead → ∀ (vc : Fin 6) p, Gives (.dataFlit h vc p) s (fun t =>
      (pairOf t g).e = (pairOf s g).e ∧ (pairOf t g).nakFor = some (pairOf s g).e ∧
        ∃ x, t.out.wire = s.out.wire ++ [x] ∧ x.typ = 4 ∧ x.ack = ((pairOf s g).e + 65535) % 65536)) ∧
    Gives (.flitCrcFailure h.pair) s (fun t => (pairOf t h.pair.val).nakFor = some (pairOf s h.pair.val).e ∧
      ∃ x, t.out.wire = s.out.wire ++ [x] ∧ x.typ = 4 ∧ x.ack = ((pairOf s h.pair.val).e + 65535) % 65536) ∧
    (∀ (id : U32) (p : Packet) (x : LineReads), h.carry = false →
      (bit (engOf s (g / 8)).mcastRx.toNat (g % 8) = false → Gives (.phaseFlit h id p x) s (fun t => Raised 0x4033 s t)) ∧
      (bit (engOf s (g / 8)).mcastRx.toNat (g % 8) = true →
        putReady s (packetAccess p x) (gaSpace p.addr.toNat) (gaLocal p.addr.toNat) p.len = true →
        ((fibOf s g).phaseOpen = true → h.seq.toNat = mget 0 (pairOf s g).rxPhase id.toNat % 65536 →
          Gives (.phaseFlit h id p x) s (fun t => (pairOf t g).rphaseDue = true ∧ (pairOf t g).rphaseId = id.toNat ∧
            mget 0 (pairOf t g).rxPhase id.toNat = mget 0 (pairOf s g).rxPhase id.toNat + 1)) ∧
        ((fibOf s g).phaseOpen = false → h.seq = 0 → Gives (.phaseFlit h id p x) s (fun t => (fibOf t g).phaseOpen = true ∧
          (pairOf t g).rphaseDue = true ∧ (pairOf t g).rphaseId = id.toNat ∧ mget 0 (pairOf t g).rxPhase id.toNat = 1)))) ∧
    (h.rphase = false → h.ack.toNat = ((pairOf s r).u + 65535) % 65536 → (pairOf s r).replay.length ≤ 1024 →
      ((pairOf s r).replay ≠ [] → (pairOf s r).resend = 0 → Gives (.nakFlit h) s (fun t =>
        (pairOf t r).resend = (pairOf s r).replay.length ∧ corrOf t 0x5001 = corrOf s 0x5001 + 1 ∧
        cntOf t 0x410002 = cntOf s 0x410002 + 1 ∧
        (15 ≤ (pairOf s r).stuckReplays → (pairOf t r).training = true ∧ Raised 0x5003 s t))) ∧
      ((pairOf s r).resend ≠ 0 → Gives (.nakFlit h) s (fun t => pairOf t r = pairOf s r ∧ t.health = s.health)))

/-- The link's timers, training and link notices (R291, R315, R328, R329, R331, R332, R339 to R341, R561): a Nak is repeated and
a stuck space replayed, a phase space too; a training record retrains a pair in service, and the fourth in a row is judged: a wrong far
end parks the pair with 0x5030, no common level with 0x5020, and else the pair is trained at the highest common level and a Resume flit
goes out; a Resume flit lets the space be resent; the third failure is 0x5004; the far end's notices withdraw a pair at once or at a Calend, and return it. -/
def Obligations.PairsTrainResumeAndFollowNotices : Prop :=
  ∀ (s : State) (f : PairNo), s.boot.hub = true →
    (∀ e, (pairOf s f.val).nakFor = some e → e = (pairOf s f.val).e → Gives (.nakRepeat f false) s (fun t =>
      ∃ x, t.out.wire = s.out.wire ++ [x] ∧ x.typ = 4 ∧ x.rphase = false ∧ x.ack = (e + 65535) % 65536)) ∧
    (∀ id e, (pairOf s f.val).nakPhase = some (id, e) → mget 0 (pairOf s f.val).rxPhase id = e →
      Gives (.nakRepeat f true) s (fun t =>
        ∃ x, t.out.wire = s.out.wire ++ [x] ∧ x.typ = 4 ∧ x.rphase = true ∧ x.ack = (e + 65535) % 65536)) ∧
    ((pairOf s f.val).latched = false → upPairs s (dirOf f.val) ≠ [] → phaseAhead s f.val = true →
      Gives (.replayTimeout f true) s (fun t => corrOf t 0x5001 = corrOf s 0x5001 + 1 ∧
        cntOf t 0x410002 = cntOf s 0x410002 + 1 ∧
        ((pairOf s f.val).stuckReplays < 15 → ∀ x ∈ t.links.splits, x.members.contains f.val = true → ∀ k ∈ x.members,
          mget 0 x.acked k ≠ 0 → mget 0 x.sent k = mget 0 x.acked k))) ∧
    ((pairOf s f.val).replay ≠ [] → (pairOf s f.val).latched = false → upPairs s (dirOf f.val) ≠ [] →
      Gives (.replayTimeout f false) s (fun t => (pairOf t f.val).resend = (pairOf s f.val).replay.length ∧
        corrOf t 0x5001 = corrOf s 0x5001 + 1 ∧ cntOf t 0x410002 = cntOf s 0x410002 + 1)) ∧
    ((pairOf s f.val).replay = [] → Gives (.replayTimeout f false) s (fun t => t = s)) ∧
    ((pairOf s f.val).training = false → (pairOf s f.val).level ≠ 0 → (pairOf s f.val).parked = false →
      (pairOf s f.val).latched = false → (pairOf s f.val).outOfService = false → (pairOf s f.val).needResume = false → (pairOf s f.val).levelPark = false → (fibOf s f.val).locked = true →
      ∀ rc : TrainRec, Gives (.trainFlit f rc) s (fun t => (pairOf t f.val).training = true ∧ (pairOf t f.val).trainGood = 1 ∧
        (pairOf t f.val).needResume = true ∧ (pairOf t f.val).withdrawn = true ∧
        cntOf t 0x410003 = cntOf s 0x410003 + 1)) ∧
    ((pairOf s f.val).training = true → (fibOf s f.val).locked = true →
      Gives (.flitCrcFailure f) s (fun t => (pairOf t f.val).trainGood = 0 ∧ t.out = s.out) ∧
      ((pairOf s f.val).trainFails < 2 → Gives (.trainingFailed f) s (fun t => (pairOf t f.val).training = true ∧
        (pairOf t f.val).trainFails = (pairOf s f.val).trainFails + 1 ∧ t.health = s.health)) ∧
      (2 ≤ (pairOf s f.val).trainFails → Gives (.trainingFailed f) s (fun t => (pairOf t f.val).training = false ∧
        (pairOf t f.val).outOfService = true ∧ Raised 0x5004 s t)) ∧
      (∀ rc : TrainRec, (pairOf s f.val).trainGood < 3 → Gives (.trainFlit f rc) s (fun t =>
        (pairOf t f.val).trainGood = (pairOf s f.val).trainGood + 1 ∧ (pairOf t f.val).training = true ∧ t.out = s.out)) ∧
      (∀ rc : TrainRec, 3 ≤ (pairOf s f.val).trainGood →
        ((rc.coord.toNat = ownKey s ∨ rc.dir.toNat ≠ oppDir (dirOf f.val) ∨
            farExpected s (dirOf f.val) rc.coord.toNat = false) → Gives (.trainFlit f rc) s (fun t =>
          (pairOf t f.val).parked = true ∧ (pairOf t f.val).training = false ∧ Raised 0x5030 s t)) ∧
        (rc.coord.toNat ≠ ownKey s → rc.dir.toNat = oppDir (dirOf f.val) →
          farExpected s (dirOf f.val) rc.coord.toNat = true →
          (commonLevel s rc = none → Gives (.trainFlit f rc) s (fun t => (pairOf t f.val).parked = true ∧
            (pairOf t f.val).levelPark = true ∧ Raised 0x5020 s t)) ∧
          (∀ l, commonLevel s rc = some l → Gives (.trainFlit f rc) s (fun t => (pairOf t f.val).level = l ∧
            (pairOf t f.val).training = false ∧ (pairOf t f.val).farCoord = some rc.coord ∧
            (pairOf t f.val).farSerial = rc.serial ∧ (∃ x, t.out.wire = s.out.wire ++ [x] ∧ x.pair = f.val ∧ x.typ = 7) ∧
            (rc.slot.toNat ≠ ownSlot f.val → rc.coord.toNat < ownKey s →
              (pairOf t f.val).slot = some rc.slot.toNat ∧ Raised 0x5031 s t) ∧
            ((pairOf s f.val).epoch = rc.epoch → rc.epoch ≠ 0 → (pairOf s f.val).farSerial = rc.serial →
              (pairOf t f.val).epoch = rc.epoch ∧ (pairOf t f.val).n = (pairOf s f.val).n ∧
              (pairOf t f.val).needResume = true) ∧
            ((pairOf s f.val).epoch ≠ rc.epoch → max (pairOf s f.val).epoch.toNat rc.epoch.toNat + 1 < 2 ^ 32 →
              (pairOf t f.val).epoch.toNat = max (pairOf s f.val).epoch.toNat rc.epoch.toNat + 1 ∧
              (pairOf t f.val).n = 0 ∧ (pairOf t f.val).e = 0 ∧ (pairOf t f.val).replay = [])))))) ∧
    ((pairOf s f.val).level ≠ 0 → (pairOf s f.val).training = false →
      Gives (.resumeFlit f []) s (fun t => (pairOf t f.val).needResume = false ∧ (pairOf t f.val).stuckReplays = 0 ∧
        (pairOf t f.val).resend = (pairOf s f.val).replay.length ∧
        ((pairOf s f.val).needResume = true → ∃ x, t.out.wire = s.out.wire ++ [x] ∧ x.pair = f.val ∧ x.typ = 7)) ∧
      (∀ (l : List U16) (k j : Nat) (x : U16), (∀ g, g ∈ dirPairs (dirOf f.val) → (pairOf s g).level ≠ 0) →
        k < 8 → slotPair s (dirOf f.val) k = some f.val → l[k]? = some x →
        1 ≤ j → j ≤ (pairOf s f.val).replay.length → (pairOf s f.val).replay.length ≤ 1024 →
        x.toNat = ((pairOf s f.val).u + j) % 65536 → Gives (.resumeFlit f l) s (fun t =>
          (pairOf t f.val).u = (pairOf s f.val).u + j ∧ (pairOf t f.val).replay = (pairOf s f.val).replay.drop j))) ∧
    (∀ (n : LinkNotice) (g : Nat), g ∈ noticePairs s f.val n → (pairOf s g).level ≠ 0 → (fibOf s g).lit = true →
      (n.at_ = 0 → Gives (.withdrawalNotice f n) s (fun t => (pairOf t g).withdrawn = true ∧
        (fibOf t g).farWithdrawn = true)) ∧
      (n.at_ ≠ 0 → Gives (.withdrawalNotice f n) s (fun t => (fibOf t g).farAt = some n.at_.toNat ∧
        (pairOf t g).withdrawn = (pairOf s g).withdrawn)) ∧
      (n.at_ ≠ 0 → Gives (.intercalaryNotice f n) s (fun t => (fibOf t g).farAt = some n.at_.toNat ∧
        (fibOf t g).icFar = true ∧ (pairOf t g).withdrawn = (pairOf s g).withdrawn)) ∧
      (mayReturn (modFib g (fun x => { x with farWithdrawn := false }) s) g = true → Gives (.returnNotice f n) s (fun t =>
        (fibOf t g).farWithdrawn = false ∧ (pairOf t g).withdrawn = false)))

/-! ## Time (09) -/

/-- The Almanac (R342 to R347, R357): requests and their answers are stamped and queued on VC5; an exchange with the parent
measures the delay, steps the Almanac once before Ready, locks after 16 good ones, and is 0xC004 and 0xC005 beyond 4 and 8 ns;
beacons set the parent and its depth; the higher generation prevails; a root that falls silent is succeeded; a silent parent
means holdover with 0xC002, and too long a one 0xC003; the Almanac is written only while free-running; a neighbour's slice
record that disagrees is 0x6014. -/
def Obligations.TheAlmanacFollowsParentRootAndHoldover : Prop :=
  ∀ s : State, s.boot.hub = true →
    (∀ d, d ∈ liveDirs s →
      Gives .timeRequestTick s (fun t => (false, Payload.time { timeMsg s 1 with t1 := now s * 65536 }) ∈
        mget [] (pairOf t (leadPair s d)).q 5) ∧
      (s.time.state = 4 → Gives .beaconTick s (fun t => t.time.lastBeacon = now s ∧
        (false, Payload.time (timeMsg s 3)) ∈ mget [] (pairOf t (leadPair s d)).q 5))) ∧
    (s.time.state ≠ 4 → Gives .beaconTick s (fun t => t = s)) ∧
    (∀ (f : PairNo) (m : TimeMsg) (arrived sent : Nat), Gives (.timeRequest f m arrived sent) s (fun t =>
      (false, Payload.time { timeMsg s 2 with t1 := m.t1, t2 := arrived, t3 := sent }) ∈ mget [] (pairOf t f.val).q 5)) ∧
    (∀ (f : PairNo) (m : TimeMsg) (arrived : Nat),
      (0 < delayOf s f.val m arrived → Gives (.timeResponse f m arrived) s (fun t =>
        mget 0 t.time.delays (dirOf f.val) = delayOf s f.val m arrived)) ∧
      (s.time.parent = some (dirOf f.val) → m.gen = s.time.gen →
        (s.time.state = 1 → s.time.stepped = false → s.boot.ready = false → Gives (.timeResponse f m arrived) s (fun t =>
          t.time.alm = s.time.alm + BitVec.ofInt 64 ((thetaOf s f.val m arrived).fdiv thetaNs) ∧ t.time.stepped = true)) ∧
        ((s.time.state = 1 ∨ s.time.state = 3) → s.time.stepped = true → 15 ≤ s.time.goods →
          (thetaOf s f.val m arrived).natAbs ≤ thetaNs.natAbs → Gives (.timeResponse f m arrived) s (fun t =>
            t.time.state = 2 ∧ t.time.alm = s.time.alm ∧ t.time.lastResp = now s)) ∧
        (s.time.state = 2 → Gives (.timeResponse f m arrived) s (fun t => t.time.lastResp = now s ∧ t.time.state = 2 ∧
          (s.time.offAdvised = false → 4 * thetaNs.natAbs < (thetaOf s f.val m arrived).natAbs → Raised 0xC004 s t) ∧
          (s.time.offFatal = false → 8 * thetaNs.natAbs < (thetaOf s f.val m arrived).natAbs → Raised 0xC005 s t))))) ∧
    (∀ (f : PairNo) (m : TimeMsg),
      (m.gen = s.time.gen → m.root = s.time.root → s.time.state ≠ 4 → s.time.heard = [] → upPairs s (dirOf f.val) ≠ [] →
        Gives (.beacon f m) s (fun t => t.time.parent = some (dirOf f.val) ∧ t.time.depth = m.depth.toNat + 1 ∧
          t.time.lastBeacon = now s ∧ (s.time.deepAdvised = false → 44 ≤ m.depth.toNat → Raised 0xC006 s t))) ∧
      (s.time.gen.toNat < m.gen.toNat → s.time.gen ≠ 0 →
        Gives (.beacon f m) s (fun t => t.time.gen = m.gen ∧ t.time.root = m.root ∧ t.time.state ≠ 4 ∧ Raised 0xC001 s t) ∧
        Gives (.claim f m) s (fun t => t.time.gen = m.gen ∧ t.time.root = m.root ∧ t.time.state ≠ 4 ∧
          t.time.lastBeacon = now s ∧ Raised 0xC001 s t)) ∧
      (m.gen.toNat < s.time.gen.toNat → Gives (.claim f m) s (fun t => t.time = s.time ∧ t.health = s.health))) ∧
    (s.time.state ≠ 0 → s.time.state ≠ 4 → s.fabric.coord.isSome = true →
      (s.time.lastBeacon + 1000000 + 100000 * rankOf s.time.root.toNat (ownKey s) ≤ now s →
        Gives .rootClaim s (fun t => t.time.state = 4 ∧ t.time.gen = s.time.gen + 1 ∧
          t.time.root = BitVec.ofNat 16 (ownKey s) ∧ t.time.depth = 0 ∧ t.time.parent = none ∧ t.time.alm = s.time.alm ∧
          (s.time.gen ≠ 0 → Raised 0xC001 s t))) ∧
      (now s < s.time.lastBeacon + 1000000 + 100000 * rankOf s.time.root.toNat (ownKey s) →
        Gives .rootClaim s (fun t => t = s))) ∧
    (∀ d, s.time.parent = some d → (s.time.state = 1 ∨ s.time.state = 2) →
      (s.time.lastResp + 256000 ≤ now s → Gives .holdoverEntry s (fun t => t.time.state = 3 ∧ t.time.parent = none ∧
        t.time.holdSince = now s ∧ t.time.alm = s.time.alm ∧ Raised 0xC002 s t)) ∧
      (now s < s.time.lastResp + 256000 → Gives .holdoverEntry s (fun t => t = s))) ∧
    (s.time.state = 3 → s.time.holdRaised = false →
      (s.time.holdSince + 1000000 * odNum s 0xA0000A 20 < now s → Gives .holdoverTimeout s (fun t =>
        t.time.holdRaised = true ∧ Raised 0xC003 s t)) ∧
      (now s ≤ s.time.holdSince + 1000000 * odNum s 0xA0000A 20 → Gives .holdoverTimeout s (fun t => t = s))) ∧
    (∀ (q : OdReq) (v : U64), MakerWrites s q →
      (s.time.state = 0 → Gives (.almanacSet q v) s (fun t => t.time.alm = v ∧ Answers q odOk [] s t)) ∧
      (s.time.state ≠ 0 → Gives (.almanacSet q v) s (fun t => t.time.alm = s.time.alm ∧ Answers q odState [] s t))) ∧
    (∀ (f : PairNo) (rc : SliceRec), dirInside s (dirOf f.val) = true →
      ((rc.seasonId ≠ s.fabric.seasonId ∨ rc.size ≠ s.fabric.size ∨ rc.splice ≠ s.fabric.splice ∨
          rc.outOfService = true) → Gives (.sliceRecord f rc) s (fun t => Raised 0x6014 s t ∧
        (s.frames.refuse = none → t.frames.refuse = some 0x6014) ∧
        (∀ c, s.frames.refuse = some c → t.frames.refuse = some c))) ∧
      (rc = { ownSlice s with outOfService := false } → Gives (.sliceRecord f rc) s (fun t =>
        t.frames = s.frames ∧ t.health = s.health)))

/-! ## The fabric (10) -/

/-- Packets at their home (R246, R252, R261, R262, R364, R368, R372, R376, R377): a packet for another package is forwarded; a load
is answered with the bytes; a store writes what its masks select and is acknowledged; an atomic replaces its word and returns the
old one; a release raises its region's epoch; Transfer data is written and its piece acknowledged; a Transfer read is answered;
a barred write is dropped with its fault, and a malformed packet with 0x6001. -/
def Obligations.PacketsAreForwardedOrServedAtTheirHome : Prop :=
  ∀ (s : State) (f : PairNo) (p : Packet),
    (s.boot.hub = true → p.kind = 1 → p.rsv = false → packetDest p ≠ ownKey s →
      (∃ d, nextDir s (packetDest p) = some d ∧ dirInside s d = true) → ∀ w, Gives (.loadPacket f p w) s (fun t =>
        Queued p t ∧ t.store = s.store)) ∧
    (s.boot.hub = true → p.kind = 1 → p.rsv = true → ∀ w, Gives (.loadPacket f p w) s (fun t =>
      Raised 0x6001 s t ∧ t.store = s.store)) ∧
    (Arrives s 1 p → p.len ≠ 0 → gaLocal p.addr.toNat % 128 + p.len ≤ 128 → gaSpace p.addr.toNat = 0 →
      rowBusy s (gaLocal p.addr.toNat) = false → gaLocal p.addr.toNat < capacity s →
      poisoned s (gaLocal p.addr.toNat / 128) = false → Routed s (responseTo p 4) →
      Gives (.loadPacket f p {}) s (fun t => t.store = s.store ∧
        Queued { responseTo p 4 with data := storeBytes s (gaLocal p.addr.toNat) p.len, poison := false } t)) ∧
    (Arrives s 2 p → Memory.wf s = true → gaSpace p.addr.toNat = 0 →
      (writeDenied s (gaLocal p.addr.toNat / 128 * 128) 128 = none → writeRoom s (gaLocal p.addr.toNat / 128 * 128) = true →
        ∀ x, (wholeLine (packetCells p) = true ∨ lineTurn s p.prio (gaLocal p.addr.toNat / 128) x none = true) →
        Gives (.storePacket f p x) s (fun t =>
          (∀ (i : Nat) (h : i < (packetCells p).length), storeByte t (gaLocal p.addr.toNat / 128 * 128 + i) =
            (storeByte s (gaLocal p.addr.toNat / 128 * 128 + i) &&& ~~~(packetCells p)[i].2) |||
              ((packetCells p)[i].1 &&& (packetCells p)[i].2)) ∧
          (∀ a, a / 128 ≠ gaLocal p.addr.toNat / 128 → storeByte t a = storeByte s a) ∧
          (farDies s (ownGa s (gaLocal p.addr.toNat / 128 * 128)) = [] → Routed s (responseTo p 5) →
            Queued (responseTo p 5) t))) ∧
      (∀ code, writeDenied s (gaLocal p.addr.toNat / 128 * 128) 128 = some code → ∀ x, Gives (.storePacket f p x) s (fun t =>
        t.store.cells = s.store.cells ∧ Raised code s t))) ∧
    (Arrives s 3 p → Memory.wf s = true → gaSpace p.addr.toNat = 0 → gaLocal p.addr.toNat % 4 = 0 →
      atomicOk p.aop.toNat p.fmt.toNat = true → writeDenied s (gaLocal p.addr.toNat) 4 = none →
      writeRoom s (gaLocal p.addr.toNat) = true → poisoned s (gaLocal p.addr.toNat / 128) = false →
      farDies s (ownGa s (gaLocal p.addr.toNat)) = [] → Routed s (responseTo p 6) →
      Gives (.atomicPacket f p {}) s (fun t =>
        storeBytes t (gaLocal p.addr.toNat) 4 = leBytes 4 (atomicWord p.aop.toNat p.fmt.toNat
          (leNat (storeBytes s (gaLocal p.addr.toNat) 4)) p.word0.toNat p.word1.toNat) ∧
        (∀ a, (a < gaLocal p.addr.toNat ∨ gaLocal p.addr.toNat + 4 ≤ a) → storeByte t a = storeByte s a) ∧
        cntOf t 0x500205 = cntOf s 0x500205 + 1 ∧
        Queued { responseTo p 6 with
          word0 := BitVec.ofNat 32 (leNat (storeBytes s (gaLocal p.addr.toNat) 4)), poison := false } t)) ∧
    (Arrives s 0x0C p → mget 0 s.store.epochs p.region.toNat + 1 ≠ 0 → Routed s (responseTo p 0x0D) →
      Gives (.releasePacket f p) s (fun t =>
        mget 0 t.store.epochs p.region.toNat = mget 0 s.store.epochs p.region.toNat + 1 ∧
        Queued { responseTo p 0x0D with
          region := p.region, epoch := mget 0 s.store.epochs p.region.toNat + 1 } t)) ∧
    (Arrives s 7 p → Memory.wf s = true → gaSpace p.addr.toNat = 0 → 0 < p.len → p.len ≤ 220 → p.data.length = p.len →
      ∀ x, putReady s (packetAccess p x) 0 (gaLocal p.addr.toNat) p.len = true →
      (writeDenied s (gaLocal p.addr.toNat) p.len = none → Gives (.transferData f p x) s (fun t =>
        storeBytes t (gaLocal p.addr.toNat) p.len = p.data ∧
        (∀ a, (a < gaLocal p.addr.toNat ∨ gaLocal p.addr.toNat + p.len ≤ a) → storeByte t a = storeByte s a) ∧
        (s.fabric.openPieces = [] → p.pbytes = p.len → Routed s (responseTo p 0x0A) →
          Queued { responseTo p 0x0A with
            piece := p.piece, addr := BitVec.ofNat 64 (gaMake (ownKey s) 0 (gaLocal p.addr.toNat)) } t) ∧
        (s.fabric.openPieces = [] → p.len < p.pbytes → t.fabric.openPieces.map (fun o => (o.piece, o.left)) =
          [(p.piece, p.pbytes - p.len)]))) ∧
      (∀ code, code ≠ 0 → writeDenied s (gaLocal p.addr.toNat) p.len = some code → Gives (.transferData f p x) s (fun t =>
        t.store.cells = s.store.cells ∧ Raised code s t))) ∧
    (Arrives s 8 p → gaSpace p.addr.toNat = 0 → 0 < p.len → p.len ≤ 220 → gaLocal p.addr.toNat + p.len ≤ capacity s →
      readReady s (packetAccess p []) 0 (gaLocal p.addr.toNat) p.len = true → (∀ l ∈ linesOf (gaLocal p.addr.toNat) p.len, poisoned s l = false) →
      Routed s (responseTo p 9) → Gives (.transferRead f p []) s (fun t => t.store = s.store ∧
        Queued { responseTo p 9 with
          addr := p.aux, len := p.len, piece := p.piece, pbytes := p.len
          data := readStore s (gaLocal p.addr.toNat) p.len, poison := false } t))

/-- Responses resolve what waits for them (R368, R371, R377, R383 to R385, R389, R390): load and atomic data and write
acknowledgements answer their request and count its token; one that names nothing outstanding is late; an Undeliverable, or no
response for `DEAD_TIMEOUT`, loses it with 0x6011 or 0x6012; pull data is written and counted; a piece is done once every target
has acknowledged it; after a halt every request resolves with no fault; the first coordinate is taken at once, a later one at
the next Season (R352, R556). -/
def Obligations.ResponsesResolveWhatWaitsForThem : Prop :=
  ∀ s : State,
    (∀ (f : PairNo) (p : Packet) (r : Nat) (q : Req), reqOf s r = some q →
      (Arrives s 4 p → reqByTag s p [.load, .epochRead] = some r → q.answered = false → q.kind = .load →
        Gives (.loadData f p) s (fun t => ∃ q', reqOf t r = some q' ∧ q'.answered = true ∧ q'.data = p.data ∧
          q'.poison = p.poison ∧ t.health = s.health)) ∧
      (Arrives s 5 p → reqByTag s p [.store] = some r → q.answered = false → ∀ o, q.token = some o →
        Gives (.writeAcknowledgement f p) s (fun t => (∃ q', reqOf t r = some q' ∧ q'.answered = true ∧ q'.token = none) ∧
          (mget {} (tileOf t q.tile).toks q.dest.toNat).k = (mget {} (tileOf s q.tile).toks q.dest.toNat).k + 1)) ∧
      (Arrives s 6 p → reqByTag s p [.atomic] = some r → q.answered = false → Gives (.atomicData f p) s (fun t =>
        ∃ q', reqOf t r = some q' ∧ q'.answered = true ∧ q'.data = leBytes 4 p.word0.toNat ∧ q'.poison = p.poison)) ∧
      (Arrives s 0x0B p → p.okind ≠ 7 → p.okind ≠ 8 → q.answered = false →
        reqByTag s p [.load, .store, .atomic, .release, .epochRead] = some r → (q.kind = .load ∨ q.kind = .store) →
        Gives (.undeliverable f p) s (fun t => cntOf t 0x400405 = cntOf s 0x400405 + 1 ∧
          Raised (if q.kind = .load then 0x6011 else 0x6012) s t ∧
          ∃ q', reqOf t r = some q' ∧ q'.answered = true ∧ q'.poison = true ∧ q'.undeliverable = true)) ∧
      (q.remote = true → q.answered = false → (q.kind = .load ∨ q.kind = .store) →
        q.sent + 1000 * s.fabric.deadTimeout ≤ now s → Gives (.deadTargetTimeout r) s (fun t =>
          cntOf t 0x400404 = cntOf s 0x400404 + 1 ∧ Raised (if q.kind = .load then 0x6011 else 0x6012) s t ∧
          ∃ q', reqOf t r = some q' ∧ q'.answered = true ∧ q'.poison = true ∧ q'.undeliverable = true)) ∧
      (now s < q.sent + 1000 * s.fabric.deadTimeout → Gives (.deadTargetTimeout r) s (fun t => t = s)) ∧
      (∀ run at_, s.frames.run = some run → run.halting = some at_ → at_ + 2000 ≤ now s →
        (q.kind = .load ∨ q.kind = .store ∨ q.kind = .atomic) → Gives .haltRequestResolve s (fun t =>
          t.health = s.health ∧ ∃ q', reqOf t r = some q' ∧ q'.answered = true)) ∧
      (Arrives s 0x0D p → reqByTag s p [.release] = some r → ∀ y, fenceAt s q.tile q.unit = some y →
        Gives (.releaseAcknowledgement f p) s (fun t =>
          fenceAt t q.tile q.unit = some { y with answered := true, epoch := p.epoch }))) ∧
    (∀ (f : PairNo) (p : Packet),
      (Arrives s 5 p → reqByTag s p [.store] = none → Gives (.writeAcknowledgement f p) s (fun t =>
        Raised 0x6001 s t ∧ cntOf t 0x400406 = cntOf s 0x400406 + 1 ∧ t.fabric = s.fabric)) ∧
      (∀ x r q, xferOf s p.srcTile.toNat p.rtag.toNat = some x → (mget {} x.pieces p.piece).failed = false →
        (Arrives s 9 p → Memory.wf s = true → pieceReq s p.srcTile.toNat p.rtag.toNat p.piece .pull none = some (r, q) →
          gaSpace p.addr.toNat = 0 → p.data.length = p.len → 0 < p.len →
          ∀ y, putReady s (ownAccess p.srcTile.toNat p.prio y) 0 (gaLocal p.addr.toNat) p.len = true →
          writeDenied s (gaLocal p.addr.toNat) p.len = none → s.fabric.openPieces = [] →
          pieceSize x.bytes x.pshift p.piece = p.len → Gives (.transferReadData f p y) s (fun t =>
            storeBytes t (gaLocal p.addr.toNat) p.len = p.data ∧ cntOf t 0x400403 = cntOf s 0x400403 + p.len ∧
            ∃ x', xferOf t p.srcTile.toNat p.rtag.toNat = some x' ∧ (mget {} x'.pieces p.piece).done = true ∧
              (mget {} x'.pieces p.piece).got = (mget {} x.pieces p.piece).got + p.len)) ∧
        (Arrives s 0x0A p →
          pieceReq s p.srcTile.toNat p.rtag.toNat p.piece .piece (some (gaKey p.addr.toNat)) = some (r, q) →
          Gives (.pieceAcknowledgement f p) s (fun t => ∃ x', xferOf t p.srcTile.toNat p.rtag.toNat = some x' ∧
            (mget {} x'.pieces p.piece).acks = (mget {} x.pieces p.piece).acks + 1 ∧
            (x.need ≤ (mget {} x.pieces p.piece).acks + 1 → (mget {} x'.pieces p.piece).done = true ∧
              cntOf t 0x400403 = cntOf s 0x400403 + pieceSize x.bytes x.pshift p.piece))))) ∧
    (∀ (q : OdReq) (v : U16), MakerWrites s q → v.toNat < 16384 →
      (mget [] s.mgmt.latest 0x400001 = [] → s.boot.step = 6 → s.boot.blocked = false → Gives (.coordWrite q v) s (fun t =>
        t.fabric.coord = some (BitVec.ofNat 14 v.toNat) ∧ 7 ≤ t.boot.step ∧ Answers q odOk [] s t)) ∧
      (∀ w : U16, w ≠ 0xFFFF → mget [] s.mgmt.latest 0x400001 = leBytes 2 w.toNat → Gives (.coordWrite q v) s (fun t =>
        t.fabric.coord = s.fabric.coord ∧ odLatest t 0x400001 0xFFFF = v.toNat ∧ Answers q odOk [] s t)))

/-- Transfer and Fence entries (R362, R372, R373, R376 to R378, R382, R383): an entry that can issue takes its place on the
board; a Transfer makes a request for each piece, or is refused with 0x6010; it completes with its status once every piece is
done or has failed; a Fence records its issue ordinal; a release raises its region's epoch at its home, or goes there; an acquire
drops every far copy of its region; a Fence completes once what it waits for has resolved. -/
def Obligations.TransfersAndFencesIssueAndComplete : Prop :=
  ∀ (s : State) (t : TileNo) (e : Entry) (pos : BitVec 12),
    (issuable s t.val 5 = some e → (tileOf s t.val).xfers.length < 4 → ∀ (d : XferD) (l : LineReads),
      xferDesc (descBytes s e 64) = d → xferFree s (ownAccess t.val d.prio l) d = true → d.phase = false →
      (gaKey d.dst ≠ ownKey s → 1 ≤ xferPieces d → xferRights s d false (gaKey d.dst) = true →
        Gives (.transfer t l) s (fun u => (tileOf u t.val).pos = (tileOf s t.val).pos + 1 ∧
          (∃ x ∈ (tileOf u t.val).xfers, x.pos = (tileOf s t.val).pos ∧ x.tag = s.fabric.nextTag % 65536 ∧ x.way = 0 ∧
            x.bytes = xferBytes d ∧ x.code = 0) ∧
          ∃ q, reqOf u s.fabric.nextReq = some q ∧ q.kind = .piece ∧ q.unit = s.fabric.nextTag % 65536 ∧ q.piece = 0 ∧
            q.dest = BitVec.ofNat 14 (gaKey d.dst) ∧ q.token = some (tileOf s t.val).nextOrd)) ∧
      (gaKey d.dst = ownKey s → gaKey d.src ≠ ownKey s → 1 ≤ xferPieces d → xferRights s d true (gaKey d.src) = true →
        Gives (.transfer t l) s (fun u => (tileOf u t.val).pos = (tileOf s t.val).pos + 1 ∧
          (∃ x ∈ (tileOf u t.val).xfers, x.pos = (tileOf s t.val).pos ∧ x.tag = s.fabric.nextTag % 65536 ∧ x.way = 1 ∧
            x.bytes = xferBytes d ∧ x.code = 0) ∧
          ∃ q, reqOf u s.fabric.nextReq = some q ∧ q.kind = .pull ∧ q.unit = s.fabric.nextTag % 65536 ∧ q.piece = 0 ∧
            q.dest = BitVec.ofNat 14 (gaKey d.src) ∧ q.token = none)) ∧
      (gaKey d.dst = ownKey s → gaKey d.src = ownKey s → xferRights s d false (ownKey s) = true →
        Gives (.transfer t l) s (fun u => (tileOf u t.val).pos = (tileOf s t.val).pos + 1 ∧ u.fabric.reqs = s.fabric.reqs ∧
          ∃ x ∈ (tileOf u t.val).xfers, x.pos = (tileOf s t.val).pos ∧ x.way = 2 ∧
            ∀ k, k < xferPieces d → (mget {} x.pieces k).done = true ∨ (mget {} x.pieces k).failed = true)) ∧
      (gaKey d.dst ≠ ownKey s → xferRights s d false (gaKey d.dst) = false →
        Gives (.transfer t l) s (fun u => (tileOf u t.val).pos = (tileOf s t.val).pos + 1 ∧ Raised 0x6010 s u ∧
          cntOf u 0x400407 = cntOf s 0x400407 + 1 ∧ u.fabric.reqs = s.fabric.reqs)) ∧
      (gaKey d.dst = ownKey s → gaKey d.src ≠ ownKey s → xferRights s d true (gaKey d.src) = false →
        Gives (.transfer t l) s (fun u => (tileOf u t.val).pos = (tileOf s t.val).pos + 1 ∧ Raised 0x6010 s u ∧
          cntOf u 0x400407 = cntOf s 0x400407 + 1 ∧ u.fabric.reqs = s.fabric.reqs))) ∧
    (issuable s t.val 6 = some e → Gives (.fence t) s (fun u => (tileOf u t.val).pos = (tileOf s t.val).pos + 1 ∧
      ∃ y ∈ (tileOf u t.val).fences, y.pos = (tileOf s t.val).pos ∧ y.op = fieldAt (descBytes s e 16) 1 1 % 4 ∧
        y.region = fieldAt (descBytes s e 16) 4 1 ∧ y.ordinal = (tileOf s t.val).nextOrd ∧ y.sent = false)) ∧
    ((tileOf s t.val).st = 1 → ∀ y, fenceAt s t.val pos.toNat = some y →
      (y.op = 1 → y.sent = false → fenceClear s t.val y = true →
        (y.target.toNat = ownKey s → mget 0 s.store.epochs y.region + 1 ≠ 0 → Gives (.release t pos) s (fun u =>
          mget 0 u.store.epochs y.region = mget 0 s.store.epochs y.region + 1 ∧ fenceAt u t.val pos.toNat =
            some { y with sent := true, answered := true, epoch := mget 0 s.store.epochs y.region + 1 })) ∧
        (y.target.toNat ≠ ownKey s → rightsOk s y.target.toNat 0 (y.region * 2 ^ 26) ((y.region + 1) * 2 ^ 26) 1 = true →
          Gives (.release t pos) s (fun u => fenceAt u t.val pos.toNat = some { y with sent := true } ∧
            ∃ q, reqOf u s.fabric.nextReq = some q ∧ q.kind = .release ∧ q.dest = y.target ∧
              q.token = some (tileOf s t.val).nextOrd)) ∧
        (y.target.toNat ≠ ownKey s → rightsOk s y.target.toNat 0 (y.region * 2 ^ 26) ((y.region + 1) * 2 ^ 26) 1 = false →
          Gives (.release t pos) s (fun u => Raised 0x6010 s u ∧
            fenceAt u t.val pos.toNat = some { y with sent := true, answered := true }))) ∧
      (y.op = 2 → y.sent = false → y.target.toNat = ownKey s → Gives (.acquire t pos) s (fun u =>
        fenceAt u t.val pos.toNat =
          some { y with sent := true, answered := true, epoch := mget 0 s.store.epochs y.region } ∧
        (∀ c ∈ u.store.far, ¬(gaKey (c.1 / 8 * 128) = ownKey s ∧ gaSpace (c.1 / 8 * 128) = 0 ∧
          field (gaLocal (c.1 / 8 * 128)) 33 26 = y.region)) ∧
        u.store.epochs = s.store.epochs)) ∧
      (y.op = 2 → y.sent = false → y.target.toNat ≠ ownKey s →
        rightsOk s y.target.toNat 0 (y.region * 2 ^ 26) ((y.region + 1) * 2 ^ 26) 0 = true →
        Gives (.acquire t pos) s (fun u => fenceAt u t.val pos.toNat = some { y with sent := true } ∧
          cntOf u 0x400401 = cntOf s 0x400401 + 1 ∧ ∃ q, reqOf u s.fabric.nextReq = some q ∧ q.kind = .epochRead ∧
            q.dest = y.target)) ∧
      (y.status ≠ 0xFFFFFFFF → y.op = 0 → fenceClear s t.val y = true → Gives (.fenceComplete t pos) s (fun u =>
        bufBytes u t.val y.status 8 = leBytes 4 (y.undelivered % 2 ^ 31) ++ leBytes 4 0 ∧
        ∀ b ∈ (tileOf u t.val).board, b.pos ≠ y.pos)) ∧
      (y.status ≠ 0xFFFFFFFF → y.op ≠ 0 → y.answered = true → Gives (.fenceComplete t pos) s (fun u =>
        bufBytes u t.val y.status 8 = leBytes 4 (y.undelivered % 2 ^ 31) ++ leBytes 4 y.epoch.toNat ∧
        ∀ b ∈ (tileOf u t.val).board, b.pos ≠ y.pos)) ∧
      (y.op ≠ 0 → y.answered = false → Gives (.fenceComplete t pos) s (fun u => u = s))) ∧
    ((tileOf s t.val).st = 1 → ∀ x, (tileOf s t.val).xfers.find? (fun y => decide (y.pos = pos.toNat)) = some x → x.way ≠ 3 →
      ((∀ k, k < ceilDiv x.bytes (2 ^ x.pshift) → (mget {} x.pieces k).done = true) →
        Gives (.transferComplete t pos) s (fun u => bufBytes u t.val x.status 16 = leBytes 8 (doneMap x) ++ leBytes 1 0 ++
          leBytes 1 0 ++ leBytes 2 x.code.toNat ++ leBytes 4 0 ∧ ∀ b ∈ (tileOf u t.val).board, b.pos ≠ x.pos)) ∧
      (∀ k, k < ceilDiv x.bytes (2 ^ x.pshift) → (mget {} x.pieces k).done = false → (mget {} x.pieces k).failed = false →
        Gives (.transferComplete t pos) s (fun u => u = s)) ∧
      (∀ k, k < ceilDiv x.bytes (2 ^ x.pshift) → (mget {} x.pieces k).done = false →
        (∀ j, j < ceilDiv x.bytes (2 ^ x.pshift) → (mget {} x.pieces j).done = true ∨ (mget {} x.pieces j).failed = true) →
        Gives (.transferComplete t pos) s (fun u => bufBytes u t.val x.status 16 = leBytes 8 (doneMap x) ++ leBytes 1 1 ++
          leBytes 1 0 ++ leBytes 2 x.code.toNat ++ leBytes 4 0)))

/-! ## Twin pairing (11) -/

/-- The members of a pair (R395 to R420): the holder journals its partner's writes and markers and, with all eight markers in,
commits the epoch: it applies the journal and acknowledges; the owner's sealed index follows; a pairing record from the wrong
place is 0x7003, from a Keep too large for the Mirror area 0x7002, and else makes the package its holder; rebuild pages go out,
are written and acknowledged, and the last ends its phase with 0x7006; a partner that leaves or falls silent is lost with 0x7001,
or 0x7014 when it keeps its copy, or 0x7F01 when its rebuild was not complete; the detaches and the clearing of Lost. -/
def Obligations.TwinsMirrorSealRebuildAndPart : Prop :=
  ∀ (s : State) (f : PairNo), s.boot.hub = true → s.twin.detached = false → dirOf f.val = 10 →
    (∀ (poison : Bool) (e : U16) (a : U64) (m : BitVec 128) (d : List Byte),
      (holds s = true → s.twin.journal.length < 1048576 → Gives (.mirrorWrite f poison e a m d) s (fun t =>
        t.twin.journal = s.twin.journal ++ [⟨slotOf s f.val, e.toNat, poison, a.toNat, m, d⟩] ∧ t.store = s.store)) ∧
      (holds s = true → 1048576 ≤ s.twin.journal.length → Gives (.mirrorWrite f poison e a m d) s (fun t => t = s)) ∧
      (holds s = false → Gives (.mirrorWrite f poison e a m d) s (fun t => t.twin = s.twin ∧ t.store = s.store))) ∧
    (∀ c : U64,
      (holds s = true → Gives (.sealMarker f c) s (fun t => mfind t.twin.markers (slotOf s f.val) = some c.toNat ∧
        t.twin.journal = s.twin.journal)) ∧
      (s.twin.mirrored = true → s.twin.dirtyP = [] → s.twin.keepSealed < c.toNat → Gives (.sealAcknowledgement f c) s
        (fun t => t.twin.keepSealed = c.toNat ∧ t.twin.keepValid = true ∧ t.twin.ownProt = true ∧
          cntOf t 0x900402 = cntOf s 0x900402 + 1)) ∧
      ((s.twin.mirrored = false ∨ s.twin.dirtyP ≠ [] ∨ c.toNat ≤ s.twin.keepSealed) → Gives (.sealAcknowledgement f c) s
        (fun t => t.twin = s.twin))) ∧
    (∀ c, holds s = true → s.twin.receiver = false → (∀ k, k < 8 → mfind s.twin.markers k = some c) → s.twin.mirrorSealed < c →
      (s.twin.journal = [] → Gives .sealCommit s (fun t => t.twin.mirrorSealed = c ∧ t.twin.held = true ∧
        t.store.cells = s.store.cells ∧
        (false, Payload.twin (.sealAck (BitVec.ofNat 64 c))) ∈ mget [] (pairOf t (leadPair s 10)).q 4)) ∧
      (∀ w p, Memory.wf s = true → s.twin.journal = [w] → sealedBy c w = true → w.data.length = 128 →
        keepPageOf s.twin.partnerTable w.addr = some p → Gives .sealCommit s (fun t => t.twin.journal = [] ∧
          ∀ (i : Nat) (h : i < w.data.length), storeByte t (imageAddr s p (w.addr % 2 ^ 21) + i) =
            if w.benables.getLsbD i then w.data[i] else storeByte s (imageAddr s p (w.addr % 2 ^ 21) + i))) ∧
      (∀ w, s.twin.journal = [w] → sealedBy c w = false → Gives .sealCommit s (fun t => t.twin.journal = [w] ∧
        t.store.cells = s.store.cells))) ∧
    (∀ r : PairRec, s.twin.newEpoch = false → s.twin.state ≠ 4 →
      (r.coord.toNat ≠ neighbour s (ownKey s) 10 → Gives (.pairingRecord f r) s (fun t => t.twin.partnerCoord = none ∧
        t.twin.held = false ∧ t.twin.mirrored = false ∧ Raised 0x7003 s t)) ∧
      (r.coord.toNat = neighbour s (ownKey s) 10 → s.twin.mirrorSize < r.keepTotal.toNat → r.heldTable = none →
        Gives (.pairingRecord f r) s (fun t => t.twin.held = false ∧ t.twin.receiver = false ∧ Raised 0x7002 s t)) ∧
      (r.coord.toNat = neighbour s (ownKey s) 10 → r.keepTotal.toNat ≤ s.twin.mirrorSize → mirrorOk s = true →
        keepOk s s.twin.keep = true → s.twin.frozen = false → s.twin.state ≠ 3 → s.twin.partnerTable ≠ r.table →
        r.heldTable = none → Gives (.pairingRecord f r) s (fun t => t.twin.partnerTable = r.table ∧
          t.twin.partnerSerial = r.serial ∧ t.twin.partnerCoord = some (BitVec.ofNat 14 r.coord.toNat) ∧
          t.twin.held = false ∧ t.twin.state = 1 ∧ t.twin.receiver = decide (keepTotalOf r.table ≠ 0)))) ∧
    (∀ p a, s.twin.source = true → s.twin.dirtyR = [] → nextPage s.twin.dirtyP s.twin.flying = some p →
      keepPageAddr s.twin.keep p = some a → upPairs s 10 ≠ [] →
      (∀ g ∈ dirPairs 10, ∀ y ∈ mget [] (pairOf s g).q 4, isRebuild y.2 = false) → Gives .rebuildSend s (fun t =>
        mget false t.twin.flying p = true ∧ t.store = s.store ∧
        ∃ g y z d, (y, Payload.twin (.rebuildData true z p 0 d)) ∈ mget [] (pairOf t g).q 4 ∧
          d = readStore s a (rebuildChunk s a 0).1 ∧ z = (rebuildChunk s a 0).2)) ∧
    (∀ (page : BitVec 11) (offset : BitVec 21) (d : List Byte), Memory.wf s = true → s.twin.receiver = true → s.twin.phase = 2 →
      d ≠ [] → (mget 0 s.twin.rbGot page.toNat + d.length < 2 ^ 21 → Gives (.rebuildData f true false page offset d) s (fun t =>
        storeBytes t (imageAddr s page.toNat 0 + offset.toNat) d.length = d ∧
        (∀ x, (x < imageAddr s page.toNat 0 + offset.toNat ∨ imageAddr s page.toNat 0 + offset.toNat + d.length ≤ x) →
          storeByte t x = storeByte s x) ∧
        mget 0 t.twin.rbGot page.toNat = mget 0 s.twin.rbGot page.toNat + d.length)) ∧
      (2 ^ 21 ≤ mget 0 s.twin.rbGot page.toNat + d.length → Gives (.rebuildData f true true page offset d) s (fun t =>
        storeBytes t (imageAddr s page.toNat 0 + offset.toNat) d.length = d ∧
        poisoned t ((imageAddr s page.toNat 0 + offset.toNat) / 128) = true ∧
        (false, Payload.twin (.pageAck true page.toNat)) ∈ mget [] (pairOf t (leadPair s 10)).q 4))) ∧
    (∀ page : BitVec 11, s.twin.source = true → mget false s.twin.flying page.toNat = true → s.twin.phase = 2 →
      (mdel s.twin.dirtyP page.toNat ≠ [] → Gives (.pageAcknowledgement f true page) s (fun t =>
        t.twin.dirtyP = mdel s.twin.dirtyP page.toNat ∧ t.twin.source = true ∧ t.twin.phase = 2 ∧ t.health = s.health)) ∧
      (mdel s.twin.dirtyP page.toNat = [] → Gives (.pageAcknowledgement f true page) s (fun t => t.twin.dirtyP = [] ∧
        t.twin.source = false ∧ t.twin.phase = (if s.twin.receiver then 2 else 0) ∧
        cntOf t 0x900403 = cntOf s 0x900403 + 1 ∧ Raised 0x7006 s t))) ∧
    ((s.twin.state = 1 ∨ s.twin.state = 2) → s.twin.partnerCoord.isSome = true → ∀ c : U64,
      (s.twin.receiver = false → s.twin.held = true → Gives (.departureNotice f c) s (fun t => t.twin.state = 3 ∧
        t.twin.frozen = true ∧ t.twin.mirrored = false ∧ t.twin.journal = [] ∧ t.store.cells = s.store.cells ∧
        Raised 0x7001 s t)) ∧
      (s.twin.receiver = false → s.twin.held = false → s.twin.frozen = false → Gives (.departureNotice f c) s (fun t =>
        t.twin.state = 0 ∧ t.twin.partnerCoord = none ∧ t.health = s.health)) ∧
      (s.twin.receiver = true → s.twin.phase = 2 → Gives (.departureNotice f c) s (fun t => t.twin.state = 4 ∧
        t.twin.held = false ∧ Raised 0x7F01 s t)) ∧
      (s.twin.held = true → Gives (.unpairKeepNotice f c) s (fun t => t.twin.state = 3 ∧ t.twin.frozen = true ∧
        t.twin.mirrorSealed = c.toNat ∧ Raised 0x7014 s t)) ∧
      (s.twin.receiver = false → s.twin.held = true → s.twin.lastFlit + 1000 * odNum s 0x900204 1000 ≤ now s →
        Gives .partnerLossTimeout s (fun t => t.twin.state = 3 ∧ t.twin.frozen = true ∧ t.twin.lossByTime = true ∧
          Raised 0x7001 s t)) ∧
      (now s < s.twin.lastFlit + 1000 * odNum s 0x900204 1000 → Gives .partnerLossTimeout s (fun t => t = s))) ∧
    (∀ c : U64, Gives (.unpairReleaseNotice f c) s (fun t => t.twin.state = 0 ∧ t.twin.partnerCoord = none ∧
      t.twin.held = false ∧ t.twin.frozen = false ∧
      ∀ a, storeByte t a = if s.twin.mirrorBase ≤ a ∧ a < s.twin.mirrorBase + s.twin.mirrorSize then 0 else storeByte s a)) ∧
    (∀ q : OdReq, MakerWrites s q →
      Gives (.unpairRelease q) s (fun t => t.twin.detaching = some false ∧ t.twin.state = s.twin.state ∧
        Answers q odOk [] s t) ∧
      Gives (.unpairKeep q) s (fun t => t.twin.detaching = some true ∧ t.twin.state = s.twin.state ∧
        Answers q odOk [] s t) ∧
      (s.twin.state = 4 → Gives (.lostClear q 1) s (fun t => t.twin.state = 0 ∧ t.twin.partnerCoord = none ∧
        t.twin.held = false ∧ Answers q odOk [] s t)) ∧
      (s.twin.state ≠ 4 → Gives (.lostClear q 1) s (fun t => t.twin = s.twin ∧ Answers q odOk [] s t)))

/-! ## The host port (12) -/

/-- The link, the shared window and the registers (R120, R422, R424 to R430, R433, R445, R446): a link that goes down or comes up and a
Function Level Reset do what R424 lists; correctable errors are counted; the host reads and writes host-owned pages, a write to
another page is dropped and counted, a read of one sets its unstable bit; a write of a register takes effect on its writable bits. -/
def Obligations.LinkWindowAndRegistersActAsStated : Prop :=
  ∀ s : State,
    (s.host.linkUp = true → Gives .pcieLinkDown s (fun t => t.host.linkUp = false ∧ t.host.gen = 0 ∧ t.host.width = 0 ∧
      t.host.flrDue = true ∧ t.host.rings = s.host.rings ∧ cntOf t 0x110103 = cntOf s 0x110103 + 1 ∧ Raised 0x8040 s t)) ∧
    (s.host.linkUp = false → Gives .pcieLinkDown s (fun t => t = s)) ∧
    (∀ (gen : BitVec 3) (width : BitVec 5), s.boot.hub = true → s.host.perst = true → s.host.linkUp = false →
      3 ≤ gen.toNat → gen.toNat ≤ 6 → width.toNat ∈ [1, 2, 4, 8, 16] → Gives (.pcieLinkUp gen width) s (fun t =>
        t.host.linkUp = true ∧ t.host.gen = gen.toNat ∧ t.host.width = width.toNat ∧
        (s.host.flrDue = true → t.host.flrDue = false ∧ t.host.cmds = [] ∧
          ∀ i, (ringOf t i).en = false ∧ (ringOf t i).held = []) ∧
        (gen.toNat = 6 → width.toNat = 16 → t.health = s.health) ∧
        ((gen.toNat ≠ 6 ∨ width.toNat ≠ 16) → Raised 0x8001 s t))) ∧
    (s.host.linkUp = true → Gives .functionLevelReset s (fun t => t.host.cmds = [] ∧
      (∀ i, (ringOf t i).en = false ∧ (ringOf t i).held = [] ∧
        (mwf {} s.host.rings = true → (ringOf t i).sqBase = (ringOf s i).sqBase)) ∧
      (∀ p, mget 0 s.host.pages p = 2 → mget 0 t.host.pages p = 3) ∧ t.store = s.store ∧
      cntOf t 0x110102 = cntOf s 0x110102 + 1 ∧ Raised 0x8003 s t)) ∧
    (s.boot.hub = true → Gives .pcieCorrectableError s (fun t => corrOf t 0x8002 = corrOf s 0x8002 + 1 ∧
      cntOf t 0x110101 = cntOf s 0x110101 + 1)) ∧
    (s.boot.hub = true → Gives .configurationRequest s (fun t =>
      t = { s with out := { s.out with host := s.out.host ++ [.config s.host.cfgReady] } })) ∧
    (∀ (a : BitVec 34) (n : BitVec 13), s.host.linkUp = true → 1 ≤ n.toNat → a.toNat + n.toNat ≤ capacity s →
      (∀ l ∈ linesOf a.toNat n.toNat, poisoned s l = false) → (∀ p ∈ pagesOf a.toNat n.toNat, pageGone s p = false) →
      linesReady s false [] a.toNat n.toNat = true →
      ((∀ p ∈ pagesOf a.toNat n.toNat, pageFlag s p = 1) → Gives (.hostRead a n []) s (fun t =>
        t = { s with out := { s.out with host := s.out.host ++ [.read a.toNat (storeBytes s a.toNat n.toNat)] } })) ∧
      (∀ p ∈ pagesOf a.toNat n.toNat, pageFlag s p ≠ 1 → Gives (.hostRead a n []) s (fun t =>
        mget false t.host.unstable p = true ∧ cntOf t 0x110106 = cntOf s 0x110106 + 1 ∧
        t.out.host = s.out.host ++ [.read a.toNat (storeBytes s a.toNat n.toNat)]))) ∧
    (∀ (a : BitVec 34) (n : BitVec 13) (x : LineReads), linesReady s false x a.toNat n.toNat = false →
      a.toNat + n.toNat ≤ 2 ^ 34 → Gives (.hostRead a n x) s (fun t => t = s)) ∧
    (∀ (a : BitVec 34) (d : List Byte) (e : List Bool) (x : LineReads), s.host.linkUp = true → d ≠ [] →
      a.toNat + d.length ≤ 2 ^ 34 →
      (Memory.wf s = true → (∀ p ∈ pagesOf a.toNat d.length, pageFlag s p = 1) →
        fillReady s false x a.toNat d.length = true → Gives (.hostWrite a d e x) s (fun t =>
          (∀ (i : Nat) (h : i < d.length), storeByte t (a.toNat + i) =
            if e.getD i true then d[i] else storeByte s (a.toNat + i)) ∧
          (∀ y, (y < a.toNat ∨ a.toNat + d.length ≤ y) → storeByte t y = storeByte s y))) ∧
      (∀ p, pagesOf a.toNat d.length = [p] → pageFlag s p ≠ 1 → Gives (.hostWrite a d e x) s (fun t => t.store = s.store ∧
        t.host.dropped = min 0xFFFFFFFF (s.host.dropped + 1) ∧ cntOf t 0x110104 = cntOf s 0x110104 + 1 ∧
        (mget false s.host.dropLogged p = false → Raised 0x8010 s t)))) ∧
    (∀ (b : Fin 1024) (i : Fin 8), s.host.linkUp = true → Gives (.unstableReadClear b (BitVec.ofNat 8 (2 ^ i.val))) s (fun t =>
      t = { s with host := { s.host with unstable := mdel s.host.unstable (8 * b.val + i.val) } })) ∧
    (∀ (i : Nat) (v : U64), s.boot.hub = true →
      (i < 512 → (tileOf s i).st ≠ 0 → Gives (.registerWrite true (BitVec.ofNat 64 (0x21000 + 4 * i)) v false) s (fun t =>
        (tileOf t i).flags = (tileOf s i).flags &&& ~~~(BitVec.ofNat 8 (v.toNat % 2 ^ 32)) ∧
        (tileOf t i).st = (tileOf s i).st)) ∧
      (i < 512 → Gives (.registerWrite true (BitVec.ofNat 64 (0x20000 + 4 * i)) v false) s (fun t => t = s)) ∧
      (i < 32 → s.host.linkUp = true → (ringOf s i).en = false → v ≠ 0 →
        Gives (.registerWrite false (BitVec.ofNat 64 (0x1000 + 64 * i)) v true) s (fun t => (ringOf t i).sqBase = v ∧
          (ringOf t i).cqBase = (ringOf s i).cqBase)) ∧
      (i < 32 → (ringOf s i).en = true → Gives (.registerWrite false (BitVec.ofNat 64 (0x1000 + 64 * i)) v true) s (fun t =>
        t = s)) ∧
      (i < 64 → Gives (.registerWrite false (BitVec.ofNat 64 (4 * i)) v false) s (fun t => t = s)))

/-- Rings and their commands (R427, R433 to R445): a ring is enabled when its registers allow it, else 0x8021; its doorbells move
its tail and its head, and each entry is read once; a disabled ring aborts its commands and falls idle; host Transfers are
outstanding, move their bytes, and end with their record, or are REFUSED; OWN sets the page flags at once or is REFUSED; ABORT waits
and answers what it found; MGMT is answered in host memory; a waiting signal is sent. -/
def Obligations.RingsReadEntriesAndCommandsEndWithTheirRecord : Prop :=
  ∀ s : State, s.host.linkUp = true →
    (∀ (i : Fin 32) (v : U32),
      ((ringOf s i.val).en = false → ringConfigOk { ringOf s i.val with
          sqLog := v.toNat % 32, cqLog := v.toNat / 256 % 32 } = true → Gives (.ringEnable i v) s (fun t =>
        (ringOf t i.val).en = true ∧ (ringOf t i.val).idle = false ∧ (ringOf t i.val).err = false ∧
        (ringOf t i.val).sqLog = v.toNat % 32 ∧ (ringOf t i.val).sqHead = 0 ∧ (ringOf t i.val).cqTail = 0 ∧
        (ringOf t i.val).phase = true ∧ t.health = s.health)) ∧
      ((ringOf s i.val).en = false → (ringOf s i.val).sqBase.toNat % 4096 ≠ 0 → Gives (.ringEnable i v) s (fun t =>
        (ringOf t i.val).en = false ∧ (ringOf t i.val).err = true ∧ Raised 0x8021 s t)) ∧
      ((ringOf s i.val).en = true → (ringOf s i.val).sqLog ≠ 0 →
        (s.host.cmds = [] → Gives (.ringDisable i v) s (fun t => (ringOf t i.val).en = false ∧
          (ringOf t i.val).sqTail = (ringOf s i.val).sqHead)) ∧
        (∀ c, s.host.cmds = [c] → isTransfer c = true → c.ring = i.val →
          (List.range (transferPieces c)).all (hostPieceFinal c) = false → Gives (.ringDisable i v) s (fun t =>
            (ringOf t i.val).en = false ∧ t.host.cmds.map (fun x => (x.cid, x.aborted)) = [(c.cid, true)])) ∧
        (v.toNat < 2 ^ (ringOf s i.val).sqLog → Gives (.sqDoorbell i v []) s (fun t => (ringOf t i.val).sqTail = v.toNat ∧
          (ringOf t i.val).sqHead = (ringOf s i.val).sqHead ∧ t.health = s.health)) ∧
        (2 ^ (ringOf s i.val).sqLog ≤ v.toNat → Gives (.sqDoorbell i v []) s (fun t => (ringOf t i.val).err = true ∧
          (ringOf t i.val).stopped = true ∧ Raised 0x8021 s t)) ∧
        (∀ e : SqRaw, v.toNat < 2 ^ (ringOf s i.val).sqLog → (ringOf s i.val).stopped = false → RingRoom s i.val →
          (ringOf s i.val).sqHead ≠ v.toNat → fieldAt (fillTo 64 e.bytes) 0 1 = 0 →
          BitVec.ofNat 32 (fieldAt (fillTo 64 e.bytes) 4 4) ≠ 0xFFFFFFFF →
          cmdOutstanding s (BitVec.ofNat 32 (fieldAt (fillTo 64 e.bytes) 4 4)) = false →
          Gives (.sqDoorbell i v [e]) s (fun t =>
            (ringOf t i.val).sqHead = ((ringOf s i.val).sqHead + 1) % 2 ^ (ringOf s i.val).sqLog ∧
            Records i.val (BitVec.ofNat 32 (fieldAt (fillTo 64 e.bytes) 4 4)) (ringOf s i.val).sqHead 9 0 0 0 s t)) ∧
        ((ringOf s i.val).idle = true → Gives (.cqDoorbell i v) s (fun t => t = s)) ∧
        ((ringOf s i.val).idle = false → v.toNat < 2 ^ (ringOf s i.val).cqLog → (ringOf s i.val).held = [] →
          Gives (.cqDoorbell i v) s (fun t => (ringOf t i.val).cqHead = v.toNat ∧ (ringOf t i.val).stall = false ∧
            t.health = s.health)) ∧
        ((ringOf s i.val).idle = false → 2 ^ (ringOf s i.val).cqLog ≤ v.toNat → Gives (.cqDoorbell i v) s (fun t => (ringOf t i.val).err = true ∧
          Raised 0x8021 s t)) ∧
        Gives (.ringIdle i) s (fun t => t = s) ∧
        ((ringOf s i.val).unsignalled ≠ 0 → (mget 0 s.host.msix (i.val + 2)).toNat / 2 ^ 96 % 2 = 0 →
          Gives (.msixCoalesceTimer i) s (fun t => (ringOf t i.val).unsignalled = 0 ∧
            t.out.host = s.out.host ++ [.msix (i.val + 2)]))) ∧
      ((ringOf s i.val).unsignalled = 0 → Gives (.msixCoalesceTimer i) s (fun t => t = s)) ∧
      ((ringOf s i.val).en = false → (ringOf s i.val).sqLog ≠ 0 → (ringOf s i.val).held = [] →
        (∀ c ∈ s.host.cmds, c.ring ≠ i.val) → Gives (.ringIdle i) s (fun t => (ringOf t i.val).idle = true ∧
          (ringOf t i.val).en = false))) ∧
    (∀ h : SqHead, Submits s h →
      (∀ (host store len : U64) (sh : Byte), s.boot.ready = true → transferForm len.toNat sh.toNat = true →
        (firstBad s store.toNat len.toNat (fun f => decide (f ≠ 1)) = none → Gives (.transferIn h host store len sh) s
          (fun t => (∃ c ∈ t.host.cmds, c.cid = h.cid ∧ c.kind = .xin host.toNat store.toNat len.toNat sh.toNat ∧
            c.ring = h.ring.val ∧ c.slot = (ringOf s h.ring.val).sqHead) ∧
            ∀ p ∈ pagesOf store.toNat len.toNat, mget 0 t.host.pages p = 2)) ∧
        (∀ p, firstBad s store.toNat len.toNat (fun f => decide (f ≠ 1)) = some p → Gives (.transferIn h host store len sh) s
          (fun t => Records h.ring.val h.cid (ringOf s h.ring.val).sqHead 7 0 p 0 s t ∧ t.host.pages = s.host.pages)) ∧
        (firstBad s store.toNat len.toNat (fun f => decide (f = 2)) = none → Gives (.transferOut h host store len sh) s
          (fun t => (∃ c ∈ t.host.cmds, c.cid = h.cid ∧ c.kind = .xout host.toNat store.toNat len.toNat sh.toNat) ∧
            t.host.pages = s.host.pages)) ∧
        (∀ p, firstBad s store.toNat len.toNat (fun f => decide (f = 2)) = some p → Gives (.transferOut h host store len sh) s
          (fun t => Records h.ring.val h.cid (ringOf s h.ring.val).sqHead 7 0 p 0 s t ∧ t.host.pages = s.host.pages))) ∧
      (∀ first count : U16, s.boot.ready = true → ownForm first.toNat count.toNat = true →
        ((List.range' first.toNat count.toNat).find? (ownRefuses s true) = none → Gives (.ownTake h first count) s (fun t =>
          (∀ p, first.toNat ≤ p → p < first.toNat + count.toNat → mget 0 t.host.pages p = 1) ∧
          Records h.ring.val h.cid (ringOf s h.ring.val).sqHead 0 0 0 0 s t)) ∧
        (∀ p, (List.range' first.toNat count.toNat).find? (ownRefuses s true) = some p → Gives (.ownTake h first count) s
          (fun t => t.host.pages = s.host.pages ∧ Records h.ring.val h.cid (ringOf s h.ring.val).sqHead 7 0 p 0 s t)) ∧
        (count = 1 → ownRefuses s false first.toNat = false → mget 0 s.host.pages first.toNat ≠ 0 →
          Gives (.ownGive h first count) s (fun t => t.host.pages = mdel s.host.pages first.toNat ∧
            Records h.ring.val h.cid (ringOf s h.ring.val).sqHead 0 0 0 0 s t))) ∧
      (∀ target : U32, Gives (.abortCommand h target) s (fun t => ∃ c ∈ t.host.cmds, c.cid = h.cid ∧
        ∃ left, c.kind = .abort target left)) ∧
      (∀ (ra rsp : U64) (n k : U16) (m : List Byte), mgmtForm n.toNat k.toNat = true →
        (s.boot.odLive = false → Gives (.mgmt h ra n rsp k m) s (fun t => t.out.host = s.out.host ∧ ∃ c ∈ t.host.cmds,
          c.cid = h.cid ∧ c.kind = .mgmt (fillTo n.toNat m) rsp.toNat k.toNat)) ∧
        (∀ r role fp, s.boot.odLive = true → serverOf s .mgmt = some false →
          (parseMessage .mgmt (fillTo n.toNat m)).q.bad = false → (parseMessage .mgmt (fillTo n.toNat m)).opc = 3 →
          roleOf s (parseMessage .mgmt (fillTo n.toNat m)).q false = some (role, fp) →
          odRow (parseMessage .mgmt (fillTo n.toNat m)).index (parseMessage .mgmt (fillTo n.toNat m)).sub = some r →
          rankAtLeast role r.rd = true → Gives (.mgmt h ra n rsp k m) s (fun t =>
            Records h.ring.val h.cid (ringOf s h.ring.val).sqHead (if k.toNat < 56 then 6 else 0) 0 56 0 s t ∧
            t.out.od = s.out.od ∧ ∃ b, HostOut.write rsp.toNat b ∈ t.out.host ∧
              (56 ≤ k.toNat → b.drop 24 = infoBytes r))))) ∧
    (∀ (cid : U32) (c : Cmd), s.host.cmds.find? (fun x => decide (x.cid = cid)) = some c →
      (∀ (a n sh host : Nat) (o : BitVec 35) (d : List Byte) (x : LineReads), o.toNat < n → hostPieceFinal c (o.toNat / 2 ^ sh) = false →
        (c.kind = .xin host a n sh ∨ c.kind = .xout host a n sh) →
        (d ≠ [] → d.length ≤ min (o.toNat / 2 ^ sh * 2 ^ sh + hostPieceSize c (o.toNat / 2 ^ sh) - o.toNat)
            (hostPieceSize c (o.toNat / 2 ^ sh) - (hostPiece c (o.toNat / 2 ^ sh)).got) →
          (c.kind = .xin host a n sh → Memory.wf s = true →
            fillReady s false x (a + o.toNat) d.length = true →
            Gives (.hostMemoryCompletion cid o true d x) s (fun t => storeBytes t (a + o.toNat) d.length = d ∧
              ∃ c', t.host.cmds.find? (fun x => decide (x.cid = cid)) = some c' ∧
                (hostPiece c' (o.toNat / 2 ^ sh)).got = (hostPiece c (o.toNat / 2 ^ sh)).got + d.length)) ∧
          (c.kind = .xout host a n sh → a + o.toNat + d.length ≤ capacity s →
            (∀ l ∈ linesOf (a + o.toNat) d.length, poisoned s l = false) →
            (∀ p ∈ pagesOf (a + o.toNat) d.length, pageGone s p = false) →
            linesReady s false [] (a + o.toNat) d.length = true →
            Gives (.hostMemoryCompletion cid o true d []) s (fun t => t.store = s.store ∧
              t.out.host = s.out.host ++ [.write (host + o.toNat) (storeBytes s (a + o.toNat) d.length)]))) ∧
        Gives (.hostMemoryCompletion cid o false d x) s (fun t => Raised 0x8030 s t ∧
          ∃ c', t.host.cmds.find? (fun x => decide (x.cid = cid)) = some c' ∧
            (hostPiece c' (o.toNat / 2 ^ sh)).failed = true)) ∧
      (∀ (p : Fin 64) w x, isTransfer c = true → p.val < transferPieces c → hostPieceFinal c p.val = false →
        Gives (.hostMemoryTimeout cid p w x) s (fun t => Raised 0x8030 s t ∧
          ∃ c', t.host.cmds.find? (fun x => decide (x.cid = cid)) = some c' ∧ (hostPiece c' p.val).failed = true)) ∧
      (RingRoom s c.ring →
        (isTransfer c = true → c.aborted = false → (∀ p, p < transferPieces c → hostPieceDone c p = true) →
          Gives (.hostTransferComplete cid) s (fun t => Records c.ring cid c.slot 0 c.code.toNat
            (((List.range (transferPieces c)).map (fun p => 2 ^ p)).foldl (· + ·) 0)
            (((List.range (transferPieces c)).map (hostPieceSize c)).foldl (· + ·) 0) s t ∧
            cmdOutstanding t cid = false)) ∧
        (∀ p, isTransfer c = true → c.aborted = false → p < transferPieces c → hostPieceDone c p = false →
          (List.range (transferPieces c)).all (hostPieceFinal c) = true → Gives (.hostTransferComplete cid) s (fun t =>
            ∃ d0 d1, Records c.ring cid c.slot 6 c.code.toNat d0 d1 s t)) ∧
        (∀ target left, c.kind = .abort target left → abortMayRun s left = true →
          (cmdOutstanding s target = false → Gives (.abortEvaluate cid) s (fun t =>
            Records c.ring cid c.slot (if s.host.done.contains (target, false) then 4 else 5) 0 target.toNat (now s) s t)) ∧
          (∀ x, s.host.cmds.find? (fun y => decide (y.cid = target)) = some x → isTransfer x = true →
            (List.range (transferPieces x)).all (hostPieceFinal x) = false → Gives (.abortEvaluate cid) s (fun t =>
              Records c.ring cid c.slot 3 0 target.toNat (now s) s t ∧
              ∃ y ∈ t.host.cmds, y.cid = target ∧ y.aborted = true)))))

/-! ## Two rules in the spec's own words -/

/-- R429: a dropped host write changes nothing in Store and increments `DROPPED_WRITES` (a write that lies in several pages loses
the part of each page that drops it); 0x8010 is logged for the first dropped write to a page, later ones are only counted, until
the page's flag changes, here by OWN_TAKE and OWN_GIVE. -/
def Obligations.DroppedHostWritesAreLoggedOncePerFlagChange : Prop :=
  ∀ s : State, s.host.linkUp = true →
    (∀ (a : BitVec 34) (d : List Byte) (e : List Bool) (x : LineReads) (p : Nat), d ≠ [] → a.toNat + d.length ≤ 2 ^ 34 →
      pagesOf a.toNat d.length = [p] → pageFlag s p ≠ 1 → Gives (.hostWrite a d e x) s (fun t => t.store = s.store ∧
        t.host.dropped = min 0xFFFFFFFF (s.host.dropped + 1) ∧ mget false t.host.dropLogged p = true ∧
        (mget false s.host.dropLogged p = false → Raised 0x8010 s t) ∧
        (mget false s.host.dropLogged p = true → faultCount t 0x8010 = faultCount s 0x8010))) ∧
    (∀ (a : BitVec 34) (d : List Byte) (e : List Bool) (x : LineReads) (p : Nat), d ≠ [] → a.toNat + d.length ≤ 2 ^ 34 →
      Memory.wf s = true → p ∈ pagesOf a.toNat d.length → pageFlag s p ≠ 1 → fillReady s false x a.toNat d.length = true →
      Gives (.hostWrite a d e x) s (fun t => min 0xFFFFFFFF (s.host.dropped + 1) ≤ t.host.dropped ∧
        ∀ y, y / 2 ^ 21 = p → storeByte t y = storeByte s y)) ∧
    (∀ (h : SqHead) (first : U16), Submits s h → s.boot.ready = true → ownForm first.toNat 1 = true → mwf false s.host.dropLogged = true →
      (ownRefuses s true first.toNat = false → mget 0 s.host.pages first.toNat ≠ 1 →
        Gives (.ownTake h first 1) s (fun t => mget false t.host.dropLogged first.toNat = false)) ∧
      (ownRefuses s false first.toNat = false → mget 0 s.host.pages first.toNat ≠ 0 →
        Gives (.ownGive h first 1) s (fun t => mget false t.host.dropLogged first.toNat = false)))

/-- R95: a Tile reset that is asked for while a Calendar runs is deferred, with Job-fatal 0x1015: the tile goes on as it was. It is
applied when the tile reaches `STATE` 4: the tile's buffer loses its content, and the tile stands as after a Tile reset, which keeps the Heralds' `RESEND` (R273). -/
def Obligations.TileResetsInARunWaitForStateFour : Prop :=
  ∀ (s : State) (t : TileNo),
    (∀ (q : OdReq) r, MakerWrites s q → s.frames.run = some r → r.completed = none → (tileOf s t.val).st ≠ 4 →
      Gives (.tileReset q (BitVec.ofNat 16 t.val)) s (fun u => (tileOf u t.val).resetDue = true ∧
        (tileOf u t.val).st = (tileOf s t.val).st ∧ (tileOf u t.val).board = (tileOf s t.val).board ∧
        (keepOf u t.val) = (keepOf s t.val) ∧ Raised 0x1015 s u ∧ sevOf 0x1015 = 2 ∧ Answers q odOk [] s u)) ∧
    ((tileOf s t.val).st = 3 → (tileOf s t.val).hung = false → tileQuiet (tileOf s t.val) = true →
      (tileOf s t.val).resetDue = true → Gives (.marshalHalted t) s (fun u =>
        (keepOf u t.val).buf = [] ∧ (keepOf u t.val).bufGen = s.fresh + 1 ∧
        (mwf {} s.tiles = true →
          tileOf u t.val = { her := mmapv {} (fun h => { resend := h.resend }) (tileOf s t.val).her })))

/-! ## The machine as a whole -/

/-- A step takes the command at the front of the queue and is that command's effect on the state with the rest of the queue; with
no command waiting, the model lets one nanosecond pass (the model's own choice, log entry 2). No word spells a command, since
the command table gives no row any bits. -/
def Obligations.StepRunsTheCommandAtTheFront : Prop :=
  (∀ (c : Instr) (s : State) (rest : List Instr),
    step { s with pending := c :: rest } = exec c { s with pending := rest }) ∧
  (∀ s : State, step { s with pending := [] } = .next (idleStep { s with pending := [] })) ∧
  (∀ (s : State) (nbits w : Nat), decodeTableWord nbits w = none ∧ s.withFetchWord nbits w = s)

/-- What reset leaves, as the register tables of the chapters give it: no fault, no Calendar, no count, every tile idle, every
engine not yet started with a free spare group, every pair untrained, every page device-owned, every ring disabled, the
Almanac free-running; and the invariants hold. -/
def Obligations.ResetLeavesTheStatedValues : Prop :=
  Memory.wf State.reset = true ∧ RecordsBounded State.reset ∧ PowerInRange State.reset ∧ State.reset.pending = [] ∧
  State.reset.pow.state = .off ∧ State.reset.boot.ready = false ∧ State.reset.boot.blocked = false ∧
  State.reset.boot.outOfService = none ∧ State.reset.health.log = [] ∧ State.reset.health.cnt = [] ∧
  State.reset.mgmt.events = [] ∧ State.reset.frames.run = none ∧ State.reset.frames.held = none ∧
  State.reset.time.state = 0 ∧ State.reset.twin.state = 0 ∧ State.reset.host.linkUp = false ∧
  (∀ t : TileNo, (tileOf State.reset t.val).st = 0 ∧ (tileOf State.reset t.val).flags = 0) ∧
  (∀ n : EngineNo, (engOf State.reset n.val).state = 3 ∧ (engOf State.reset n.val).spareFor = 15) ∧
  (∀ f : PairNo, (pairOf State.reset f.val).level = 0 ∧ (pairOf State.reset f.val).n = 0 ∧
    (pairOf State.reset f.val).e = 0 ∧ (fibOf State.reset f.val).lit = false) ∧
  (∀ p, pageFlag State.reset p = 0) ∧ (∀ i : Fin 32, (ringOf State.reset i.val).en = false) ∧ ∀ a, storeByte State.reset a = 0

/-- Every command completes, and leaves alone every part of the state that its frame does not name, the queue, the ordering grade
and the factory's array map (R1, R2: no array disabled at factory test is enabled again). -/
def Obligations.EveryCommandCompletesWithinItsFrame : Prop :=
  ∀ (c : Instr) (s : State), Gives c s (fun t =>
    t.pending = s.pending ∧ t.nv.gradeS = s.nv.gradeS ∧ t.nv.factoryOff = s.nv.factoryOff ∧
      ∀ p : Sys2Proof.Part, p ∉ c.mayChange → p.same s t)

/-- Every step keeps the Store's canonical form, the bounds of the records (R444, R462, R466, R500, R520, R531, R533) and the ranges
of the clock cap and the throttle (R484, R491). -/
def Obligations.StepsKeepTheStoreCanonical : Prop :=
  ∀ s t : State, step s = .next t →
    (Memory.wf s = true → Memory.wf t = true) ∧ (RecordsBounded s → RecordsBounded t) ∧ (PowerInRange s → PowerInRange t)

end
end

