-- ==== Sys2Proof/Laws/Fec.lean ====
section
/-!
SUPPORT. The code of R279: words of zeros are codewords, leading zeros do not count in a syndrome, and what the decoder answers for a
word that is not a codeword.
-/

set_option Elab.async false

namespace Sys2Proof.Machine

theorem gfMul_zero (x : Nat) : gfMul x 0 = 0 := by simp [gfMul, gfTwice, List.range, List.range.loop]

theorem gfEval_replicate_zero (x n : Nat) : gfEval x (List.replicate n 0) = 0 := by
  induction n with
  | zero => rfl
  | succ n ih => show 0 ^^^ gfMul x (gfEval x (List.replicate n 0)) = 0; rw [ih, gfMul_zero]; rfl

theorem gfEval_zeros (x n : Nat) (p : List Nat) : gfEval x (p ++ List.replicate n 0) = gfEval x p := by
  induction p with
  | nil => exact gfEval_replicate_zero x n
  | cons c p ih => exact congrArg (fun r => c ^^^ gfMul x r) ih

theorem syndromes_zeros (n : Nat) (q : List Nat) :
    syndromes (List.replicate n 0 ++ q) = (List.range 16).map (fun i => gfEval (gfAlpha i) q.reverse) := by
  simp [syndromes, gfEval_zeros]

theorem inCode_zeros (n : Nat) : inCode (List.replicate n 0) = true := by
  simp [inCode, syndromes, gfEval_replicate_zero]

theorem fecDecode_inCode (w : List Nat) (h : inCode w = true) : fecDecode w = some w := by simp [fecDecode, h]

theorem fecDecode_error (w syn : List Nat) (h : syndromes w = syn) (hs : syn.all (fun x => decide (x = 0)) = false) :
    fecDecode w = if inCode (takeOut w syn (locator syn).loc) && decide (symbolErrors (takeOut w syn (locator syn).loc) w ≤ 8) then
      some (takeOut w syn (locator syn).loc) else none := by
  have hw : inCode w = false := by rw [inCode, h, hs]
  simp [fecDecode, h, hw]

end Sys2Proof.Machine
end

