-- ==== Sys2Proof/Laws/Frames.lean ====
section
/-!
SUPPORT. Frames: which parts of the state an operation may change, as a set of parts written as a number whose bit i stands for
the i-th part. One lemma per operation in `Sys2Proof.Laws.Operations` states its set.
-/

set_option Elab.async false

namespace Sys2Proof.Laws

open Machine

/-- The set `a` is contained in the set `L`. -/
def Sub (a L : Nat) : Prop := ∀ i, a.testBit i = true → L.testBit i = true

theorem Sub.refl (a : Nat) : Sub a a := fun _ h => h

theorem Sub.mono {a b L : Nat} (h : Sub a L) (e : b &&& a = b) : Sub b L := by
  intro i hb
  refine h i ?_
  rw [← e, Nat.testBit_and] at hb
  exact (Bool.and_eq_true_iff.mp hb).2

theorem Sub.bit {a L i : Nat} (h : Sub a L) (e : a.testBit i = true) : L.testBit i = true := h i e

/-- The number of a part. -/
def Part.index : Part → Nat
  | .powerState => 0
  | .clocks => 1
  | .journal => 2
  | .sensors => 3
  | .nvStore => 4
  | .core => 5
  | .startUp => 6
  | .heldRecords => 7
  | .values => 8
  | .sessions => 9
  | .update => 10
  | .endpoints => 11
  | .events => 12
  | .mirrorArea => 13
  | .dies => 14
  | .storeBytes => 15
  | .storeRest => 16
  | .tiles => 17
  | .buffers => 18
  | .arrays => 19
  | .frames => 20
  | .optics => 21
  | .links => 22
  | .almanac => 23
  | .fabric => 24
  | .twin => 25
  | .pages => 26
  | .rings => 27
  | .hostLink => 28
  | .hostStatus => 29
  | .reckoning => 30
  | .faultLog => 31
  | .wire => 32
  | .hostOut => 33
  | .answers => 34
  | .controls => 35
  | .freeCount => 36

/-- The set of a list of parts. -/
def Part.set (l : List Part) : Nat := l.foldl (fun a p => a ||| 2 ^ Part.index p) 0

/-- Outside the set `L`, the parts of `pow` are the same. -/
structure Same_pow (L : Nat) (a b : Power) : Prop where
  powerState : L.testBit 0 = true ∨ a.state = b.state
  clocks : L.testBit 1 = true ∨ clocksOf a = clocksOf b
  journal : L.testBit 2 = true ∨ journalOf a = journalOf b
  sensors : L.testBit 3 = true ∨ sensorsOf a = sensorsOf b

/-- Outside the set `L`, the parts of `boot` are the same. -/
structure Same_boot (L : Nat) (a b : Boot) : Prop where
  core : L.testBit 5 = true ∨ coreOf a = coreOf b
  startUp : L.testBit 6 = true ∨ startUpOf a = startUpOf b
  heldRecords : L.testBit 7 = true ∨ heldRecordsOf a = heldRecordsOf b

/-- Outside the set `L`, the parts of `mgmt` are the same. -/
structure Same_mgmt (L : Nat) (a b : Mgmt) : Prop where
  values : L.testBit 8 = true ∨ valuesOf a = valuesOf b
  sessions : L.testBit 9 = true ∨ sessionsOf a = sessionsOf b
  update : L.testBit 10 = true ∨ a.fw = b.fw
  endpoints : L.testBit 11 = true ∨ endpointsOf a = endpointsOf b
  events : L.testBit 12 = true ∨ eventsOf a = eventsOf b
  mirrorArea : L.testBit 13 = true ∨ mirrorAreaOf a = mirrorAreaOf b

/-- Outside the set `L`, the parts of `store` are the same. -/
structure Same_store (L : Nat) (a b : Store) : Prop where
  storeBytes : L.testBit 15 = true ∨ a.cells = b.cells
  storeRest : L.testBit 16 = true ∨ storeRestOf a = storeRestOf b

/-- Outside the set `L`, the parts of `host` are the same. -/
structure Same_host (L : Nat) (a b : HostPort) : Prop where
  pages : L.testBit 26 = true ∨ pagesOf a = pagesOf b
  rings : L.testBit 27 = true ∨ ringsOf a = ringsOf b
  hostLink : L.testBit 28 = true ∨ hostLinkOf a = hostLinkOf b
  hostStatus : L.testBit 29 = true ∨ hostStatusOf a = hostStatusOf b

/-- Outside the set `L`, the parts of `health` are the same. -/
structure Same_health (L : Nat) (a b : Health) : Prop where
  reckoning : L.testBit 30 = true ∨ reckoningOf a = reckoningOf b
  faultLog : L.testBit 31 = true ∨ faultLogOf a = faultLogOf b

/-- Outside the set `L`, the parts of `out` are the same. -/
structure Same_out (L : Nat) (a b : Out) : Prop where
  wire : L.testBit 32 = true ∨ wireOf a = wireOf b
  hostOut : L.testBit 33 = true ∨ a.host = b.host
  answers : L.testBit 34 = true ∨ a.od = b.od
  controls : L.testBit 35 = true ∨ a.ctl = b.ctl

/-- `t` differs from `s` at most in the parts of `L`. -/
structure Frame (L : Nat) (s t : State) : Prop where
  pow : Same_pow L t.pow s.pow
  nv : L.testBit 4 = true ∨ t.nv = s.nv
  boot : Same_boot L t.boot s.boot
  mgmt : Same_mgmt L t.mgmt s.mgmt
  dies : L.testBit 14 = true ∨ t.dies = s.dies
  store : Same_store L t.store s.store
  tiles : L.testBit 17 = true ∨ t.tiles = s.tiles
  tkeep : L.testBit 18 = true ∨ t.tkeep = s.tkeep
  arrs : L.testBit 19 = true ∨ t.arrs = s.arrs
  frames : L.testBit 20 = true ∨ t.frames = s.frames
  optics : L.testBit 21 = true ∨ t.optics = s.optics
  links : L.testBit 22 = true ∨ t.links = s.links
  time : L.testBit 23 = true ∨ t.time = s.time
  fabric : L.testBit 24 = true ∨ t.fabric = s.fabric
  twin : L.testBit 25 = true ∨ t.twin = s.twin
  host : Same_host L t.host s.host
  health : Same_health L t.health s.health
  out : Same_out L t.out s.out
  fresh : L.testBit 36 = true ∨ t.fresh = s.fresh

theorem Same_pow.refl {L : Nat} (a : Power) : Same_pow L a a := ⟨.inr rfl, .inr rfl, .inr rfl, .inr rfl⟩

theorem Same_pow.trans {L : Nat} {a b c : Power} (h : Same_pow L b a) (k : Same_pow L c b) : Same_pow L c a :=
  ⟨h.1.elim .inl (fun x => k.1.imp_right (·.trans x)), h.2.elim .inl (fun x => k.2.imp_right (·.trans x)), h.3.elim .inl
    (fun x => k.3.imp_right (·.trans x)), h.4.elim .inl (fun x => k.4.imp_right (·.trans x))⟩

theorem Same_boot.refl {L : Nat} (a : Boot) : Same_boot L a a := ⟨.inr rfl, .inr rfl, .inr rfl⟩

theorem Same_boot.trans {L : Nat} {a b c : Boot} (h : Same_boot L b a) (k : Same_boot L c b) : Same_boot L c a :=
  ⟨h.1.elim .inl (fun x => k.1.imp_right (·.trans x)), h.2.elim .inl (fun x => k.2.imp_right (·.trans x)), h.3.elim .inl
    (fun x => k.3.imp_right (·.trans x))⟩

theorem Same_mgmt.refl {L : Nat} (a : Mgmt) : Same_mgmt L a a := ⟨.inr rfl, .inr rfl, .inr rfl, .inr rfl, .inr rfl, .inr rfl⟩

theorem Same_mgmt.trans {L : Nat} {a b c : Mgmt} (h : Same_mgmt L b a) (k : Same_mgmt L c b) : Same_mgmt L c a :=
  ⟨h.1.elim .inl (fun x => k.1.imp_right (·.trans x)), h.2.elim .inl (fun x => k.2.imp_right (·.trans x)), h.3.elim .inl
    (fun x => k.3.imp_right (·.trans x)), h.4.elim .inl (fun x => k.4.imp_right (·.trans x)), h.5.elim .inl (fun x =>
    k.5.imp_right (·.trans x)), h.6.elim .inl (fun x => k.6.imp_right (·.trans x))⟩

theorem Same_store.refl {L : Nat} (a : Store) : Same_store L a a := ⟨.inr rfl, .inr rfl⟩

theorem Same_store.trans {L : Nat} {a b c : Store} (h : Same_store L b a) (k : Same_store L c b) : Same_store L c a :=
  ⟨h.1.elim .inl (fun x => k.1.imp_right (·.trans x)), h.2.elim .inl (fun x => k.2.imp_right (·.trans x))⟩

theorem Same_host.refl {L : Nat} (a : HostPort) : Same_host L a a := ⟨.inr rfl, .inr rfl, .inr rfl, .inr rfl⟩

theorem Same_host.trans {L : Nat} {a b c : HostPort} (h : Same_host L b a) (k : Same_host L c b) : Same_host L c a :=
  ⟨h.1.elim .inl (fun x => k.1.imp_right (·.trans x)), h.2.elim .inl (fun x => k.2.imp_right (·.trans x)), h.3.elim .inl
    (fun x => k.3.imp_right (·.trans x)), h.4.elim .inl (fun x => k.4.imp_right (·.trans x))⟩

theorem Same_health.refl {L : Nat} (a : Health) : Same_health L a a := ⟨.inr rfl, .inr rfl⟩

theorem Same_health.trans {L : Nat} {a b c : Health} (h : Same_health L b a) (k : Same_health L c b) : Same_health L c a :=
  ⟨h.1.elim .inl (fun x => k.1.imp_right (·.trans x)), h.2.elim .inl (fun x => k.2.imp_right (·.trans x))⟩

theorem Same_out.refl {L : Nat} (a : Out) : Same_out L a a := ⟨.inr rfl, .inr rfl, .inr rfl, .inr rfl⟩

theorem Same_out.trans {L : Nat} {a b c : Out} (h : Same_out L b a) (k : Same_out L c b) : Same_out L c a :=
  ⟨h.1.elim .inl (fun x => k.1.imp_right (·.trans x)), h.2.elim .inl (fun x => k.2.imp_right (·.trans x)), h.3.elim .inl
    (fun x => k.3.imp_right (·.trans x)), h.4.elim .inl (fun x => k.4.imp_right (·.trans x))⟩

theorem Frame.refl {L : Nat} (s : State) : Frame L s s :=
  ⟨.refl _, .inr rfl, .refl _, .refl _, .inr rfl, .refl _, .inr rfl, .inr rfl, .inr rfl, .inr rfl, .inr rfl, .inr rfl,
    .inr rfl, .inr rfl, .inr rfl, .refl _, .refl _, .refl _, .inr rfl⟩

theorem Frame.trans {L : Nat} {s t u : State} (h : Frame L s t) (k : Frame L t u) : Frame L s u :=
  ⟨h.1.trans k.1, h.2.elim .inl (fun x => k.2.imp_right (·.trans x)), h.3.trans k.3, h.4.trans k.4, h.5.elim .inl (fun x
    => k.5.imp_right (·.trans x)), h.6.trans k.6, h.7.elim .inl (fun x => k.7.imp_right (·.trans x)), h.8.elim .inl (fun x
    => k.8.imp_right (·.trans x)), h.9.elim .inl (fun x => k.9.imp_right (·.trans x)), h.10.elim .inl (fun x =>
    k.10.imp_right (·.trans x)), h.11.elim .inl (fun x => k.11.imp_right (·.trans x)), h.12.elim .inl (fun x =>
    k.12.imp_right (·.trans x)), h.13.elim .inl (fun x => k.13.imp_right (·.trans x)), h.14.elim .inl (fun x =>
    k.14.imp_right (·.trans x)), h.15.elim .inl (fun x => k.15.imp_right (·.trans x)), h.16.trans k.16, h.17.trans k.17,
    h.18.trans k.18, h.19.elim .inl (fun x => k.19.imp_right (·.trans x))⟩

/-- What a frame says of one part. -/
theorem Frame.part {L : Nat} {s t : State} (h : Frame L s t) (p : Part) : L.testBit (Part.index p) = true ∨ p.same s t := by
  cases p
  case powerState => exact h.pow.powerState
  case clocks => exact h.pow.clocks
  case journal => exact h.pow.journal
  case sensors => exact h.pow.sensors
  case nvStore => exact h.nv
  case core => exact h.boot.core
  case startUp => exact h.boot.startUp
  case heldRecords => exact h.boot.heldRecords
  case values => exact h.mgmt.values
  case sessions => exact h.mgmt.sessions
  case update => exact h.mgmt.update
  case endpoints => exact h.mgmt.endpoints
  case events => exact h.mgmt.events
  case mirrorArea => exact h.mgmt.mirrorArea
  case dies => exact h.dies
  case storeBytes => exact h.store.storeBytes
  case storeRest => exact h.store.storeRest
  case tiles => exact h.tiles
  case buffers => exact h.tkeep
  case arrays => exact h.arrs
  case frames => exact h.frames
  case optics => exact h.optics
  case links => exact h.links
  case almanac => exact h.time
  case fabric => exact h.fabric
  case twin => exact h.twin
  case pages => exact h.host.pages
  case rings => exact h.host.rings
  case hostLink => exact h.host.hostLink
  case hostStatus => exact h.host.hostStatus
  case reckoning => exact h.health.reckoning
  case faultLog => exact h.health.faultLog
  case wire => exact h.out.wire
  case hostOut => exact h.out.hostOut
  case answers => exact h.out.answers
  case controls => exact h.out.controls
  case freeCount => exact h.fresh

end Sys2Proof.Laws
end

