-- ==== Sys2Proof/Laws/Sparse.lean ====
section
/-!
SUPPORT. Laws of the sparse tables: what a changed key reads as, what every other key reads as, and that every operation keeps
the canonical form.
-/

set_option Elab.async false

namespace Sys2Proof.Machine

variable {α : Type}

@[simp] theorem mget_nil (d : α) (a : Nat) : mget d [] a = d := rfl

theorem mget_mput_self (d : α) (m : SMap α) (a : Nat) (v : α) : mget d (mput m a v) a = v := by
  induction m with
  | nil => simp [mput, mget]
  | cons x r ih =>
    obtain ⟨k, w⟩ := x
    unfold mput
    split
    · rename_i h; simp [mget, h]
    · split
      · simp [mget]
      · rename_i h _; simp [mget, h, ih]

theorem mget_mput_other (d : α) (m : SMap α) {a b : Nat} (v : α) (h : b ≠ a) : mget d (mput m a v) b = mget d m b := by
  induction m with
  | nil => simp [mput, mget, h]
  | cons x r ih =>
    obtain ⟨k, w⟩ := x
    unfold mput
    split
    · rename_i e; subst e; simp [mget, h]
    · split
      · simp [mget, h]
      · simp [mget, ih]

theorem mget_mdel_other (d : α) (m : SMap α) {a b : Nat} (h : b ≠ a) : mget d (mdel m a) b = mget d m b := by
  induction m with
  | nil => rfl
  | cons x r ih =>
    obtain ⟨k, w⟩ := x
    unfold mdel
    split
    · rename_i e; subst e; simp [mget, h]
    · split
      · rfl
      · simp [mget, ih]

variable [DecidableEq α]

theorem mwfFrom_mono {d : α} {lo hi : Nat} {m : SMap α} (h : lo ≤ hi) (w : mwfFrom d hi m = true) : mwfFrom d lo m = true := by
  cases m with
  | nil => rfl
  | cons x r =>
    obtain ⟨k, v⟩ := x
    simp only [mwfFrom, Bool.and_eq_true, decide_eq_true_eq] at w ⊢
    exact ⟨⟨Nat.le_trans h w.1.1, w.1.2⟩, w.2⟩

theorem mget_of_lt {d : α} {lo a : Nat} {m : SMap α} (w : mwfFrom d lo m = true) (h : a < lo) : mget d m a = d := by
  induction m generalizing lo with
  | nil => rfl
  | cons x r ih =>
    obtain ⟨k, v⟩ := x
    simp only [mwfFrom, Bool.and_eq_true, decide_eq_true_eq] at w
    have : a ≠ k := by omega
    simp only [mget, this, if_false]
    exact ih w.2 (by omega)

theorem mwfFrom_mdel {d : α} {lo a : Nat} {m : SMap α} (w : mwfFrom d lo m = true) : mwfFrom d lo (mdel m a) = true := by
  induction m generalizing lo with
  | nil => rfl
  | cons x r ih =>
    obtain ⟨k, v⟩ := x
    have w' := w
    simp only [mwfFrom, Bool.and_eq_true, decide_eq_true_eq] at w
    unfold mdel
    split
    · exact mwfFrom_mono (by omega) w.2
    · split
      · exact w'
      · simp only [mwfFrom, Bool.and_eq_true, decide_eq_true_eq]
        exact ⟨w.1, ih w.2⟩

theorem mwfFrom_mput {d v : α} {lo a : Nat} {m : SMap α} (w : mwfFrom d lo m = true) (h : lo ≤ a) (hv : v ≠ d) :
    mwfFrom d lo (mput m a v) = true := by
  induction m generalizing lo with
  | nil => simp [mput, mwfFrom, h, hv]
  | cons x r ih =>
    obtain ⟨k, u⟩ := x
    have w' := w
    simp only [mwfFrom, Bool.and_eq_true, decide_eq_true_eq] at w
    unfold mput
    split
    · simp only [mwfFrom, Bool.and_eq_true, decide_eq_true_eq]
      exact ⟨⟨w.1.1, hv⟩, w.2⟩
    · split
      · simp only [mwfFrom, Bool.and_eq_true, decide_eq_true_eq]
        refine ⟨⟨h, hv⟩, ⟨by omega, w.1.2⟩, w.2⟩
      · simp only [mwfFrom, Bool.and_eq_true, decide_eq_true_eq]
        exact ⟨w.1, ih w.2 (by omega)⟩

/-- Every change of a key keeps the canonical form. -/
theorem mwf_mset {d : α} {m : SMap α} {a : Nat} {v : α} (w : mwf d m = true) : mwf d (mset d m a v) = true := by
  unfold mset mwf at *
  split
  · exact mwfFrom_mdel w
  · rename_i h; exact mwfFrom_mput w (Nat.zero_le a) h

theorem mwf_mmod {d : α} {m : SMap α} {a : Nat} {f : α → α} (w : mwf d m = true) : mwf d (mmod d m a f) = true := mwf_mset w

theorem mwfFrom_filter {d : α} {lo : Nat} {m : SMap α} (p : Nat × α → Bool) (w : mwfFrom d lo m = true) :
    mwfFrom d lo (m.filter p) = true := by
  induction m generalizing lo with
  | nil => rfl
  | cons x r ih =>
    obtain ⟨k, v⟩ := x
    simp only [mwfFrom, Bool.and_eq_true, decide_eq_true_eq] at w
    simp only [List.filter_cons]
    split
    · simp only [mwfFrom, Bool.and_eq_true, decide_eq_true_eq]
      exact ⟨w.1, ih w.2⟩
    · exact mwfFrom_mono (by omega) (ih w.2)

/-- Dropping entries keeps the canonical form. -/
theorem mwf_filter {d : α} {m : SMap α} (p : Nat × α → Bool) (w : mwf d m = true) : mwf d (m.filter p) = true :=
  mwfFrom_filter p w

/-- A changed key reads as its new value. -/
theorem mget_mset_self {d : α} {m : SMap α} {a : Nat} {v : α} (h : v ≠ d) : mget d (mset d m a v) a = v := by
  unfold mset; rw [if_neg h]; exact mget_mput_self d m a v

theorem mget_mdel_self {d : α} {m : SMap α} {a : Nat} (w : mwf d m = true) : mget d (mdel m a) a = d := by
  unfold mwf at w
  generalize 0 = lo at w
  induction m generalizing lo with
  | nil => rfl
  | cons x r ih =>
    obtain ⟨k, v⟩ := x
    simp only [mwfFrom, Bool.and_eq_true, decide_eq_true_eq] at w
    unfold mdel
    split
    · rename_i e; subst e; exact mget_of_lt w.2 (by omega)
    · rename_i e
      split
      · simp only [mget, e, if_false]
        exact mget_of_lt w.2 (by omega)
      · simp only [mget, e, if_false]
        exact ih (k + 1) w.2

/-- In a canonical table a changed key reads as its new value, the default included. -/
theorem mget_mset_self' {d : α} {m : SMap α} {a : Nat} {v : α} (w : mwf d m = true) : mget d (mset d m a v) a = v := by
  by_cases h : v = d
  · subst h; unfold mset; rw [if_pos rfl]; exact mget_mdel_self w
  · exact mget_mset_self h

/-- Every other key reads as before. -/
theorem mget_mset_other {d : α} {m : SMap α} {a b : Nat} {v : α} (h : b ≠ a) : mget d (mset d m a v) b = mget d m b := by
  unfold mset
  split
  · exact mget_mdel_other d m h
  · exact mget_mput_other d m v h

theorem mget_mmod_other {d : α} {m : SMap α} {a b : Nat} {f : α → α} (h : b ≠ a) : mget d (mmod d m a f) b = mget d m b :=
  mget_mset_other h

theorem mget_mmod_self {d : α} {m : SMap α} {a : Nat} {f : α → α} (h : f (mget d m a) ≠ d) :
    mget d (mmod d m a f) a = f (mget d m a) := mget_mset_self h

end Sys2Proof.Machine
end

