-- ==== Sys2Proof/Laws/Keeps.lean ====
section
/-!
SUPPORT. What an operation of the model does, as one relation between the state before and the state after: the parts that it may
change, and what it keeps: the queue of commands, the package's identity, the canonical form of the Store, the bounds of the
records and the ranges of the power settings.
-/

set_option Elab.async false

namespace Sys2Proof.Laws

open Machine

/-- `t` comes from `s` by operations that leave the queue and the identity alone and break no invariant. -/
structure Keeps (s t : State) : Prop where
  pending : t.pending = s.pending
  grade : t.nv.gradeS = s.nv.gradeS
  factory : t.nv.factoryOff = s.nv.factoryOff
  store : Memory.wf s = true → Memory.wf t = true
  records : RecordsBounded s → RecordsBounded t
  power : PowerInRange s → PowerInRange t

/-- The parts of the state that `Keeps` speaks of. -/
abbrev core (s : State) :=
  (s.pending, s.nv.gradeS, s.nv.factoryOff, s.store.cells, s.pow.journal, s.health.log, s.mgmt.events, s.nv.persist,
    s.nv.audit, s.boot.held, s.host.done, s.pow.cap, s.pow.steps)

theorem Keeps.refl (s : State) : Keeps s s := ⟨rfl, rfl, rfl, id, id, id⟩

theorem Keeps.trans {s t u : State} (h : Keeps s t) (k : Keeps t u) : Keeps s u :=
  ⟨k.pending.trans h.pending, k.grade.trans h.grade, k.factory.trans h.factory, k.store ∘ h.store, k.records ∘ h.records,
    k.power ∘ h.power⟩

theorem keeps_of_core {s t : State} (e : core t = core s) : Keeps s t := by
  simp only [core, Prod.mk.injEq] at e
  obtain ⟨h1, h2, h3, h4, h5, h6, h7, h8, h9, h10, h11, h12, h13⟩ := e
  refine ⟨h1, h2, h3, ?_, ?_, ?_⟩
  · unfold Memory.wf; rw [h4]; exact id
  · intro b
    exact ⟨h5 ▸ b.journal, h6 ▸ b.log, h7 ▸ b.events, h8 ▸ b.persist, h9 ▸ b.audit, h10 ▸ b.held, h11 ▸ b.done⟩
  · intro b
    exact ⟨h12 ▸ b.capLow, h12 ▸ b.capHigh, h13 ▸ b.steps⟩

/-- A change of the bounded records alone. -/
theorem keeps_records {s t : State}
    (e : (t.pending, t.nv.gradeS, t.nv.factoryOff, t.store.cells, t.pow.cap, t.pow.steps) =
      (s.pending, s.nv.gradeS, s.nv.factoryOff, s.store.cells, s.pow.cap, s.pow.steps))
    (r : RecordsBounded s → RecordsBounded t) : Keeps s t := by
  simp only [Prod.mk.injEq] at e
  obtain ⟨h1, h2, h3, h4, h5, h6⟩ := e
  refine ⟨h1, h2, h3, ?_, r, ?_⟩
  · unfold Memory.wf; rw [h4]; exact id
  · intro b
    exact ⟨h5 ▸ b.capLow, h5 ▸ b.capHigh, h6 ▸ b.steps⟩

theorem lastN_length {α : Type} (n : Nat) (l : List α) : (lastN n l).length ≤ n := by
  unfold lastN; rw [List.length_drop]; omega

theorem lastN_le {α : Type} {n : Nat} {l m : List α} (e : m = lastN n l) : m.length ≤ n := e ▸ lastN_length n l

/-- `t` comes from `s` by operations that change at most the parts of `L`, leave the queue and the identity alone and break no
invariant: what the lemma of every operation says. -/
structure Acts (L : Nat) (s t : State) : Prop where
  frame : Frame L s t
  keeps : Keeps s t

theorem Acts.refl {L : Nat} (s : State) : Acts L s s := ⟨.refl s, .refl s⟩

theorem Acts.trans {L : Nat} {s t u : State} (h : Acts L s t) (k : Acts L t u) : Acts L s u :=
  ⟨h.frame.trans k.frame, h.keeps.trans k.keeps⟩

/-- Two terms are to be told apart (an update is not the state itself). -/
def Apart (_ _ : State) : Prop := True

theorem Apart.same (x : State) : Apart x x := trivial

theorem Apart.any (x y : State) : Apart x y := trivial

/-- A record update within the set, with what it keeps. -/
theorem Acts.updBy {L : Nat} {s x : State} {a1 a2 a3 a4 a5 a6 a7 a8 a9 a10 a11 a12 a13 a14 a15 a16 a17 a18 a19} (h : Acts L s x)
    (k : Keeps x ⟨a1, a2, a3, a4, a5, a6, a7, a8, a9, a10, a11, a12, a13, a14, a15, a16, a17, a18, a19, x.pending⟩)
    (e1 : Same_pow L a1 x.pow := by first | (with_reducible exact Same_pow.refl _) | (constructor <;> first | (apply Or.inl; apply Sub.bit; assumption; decide) | (with_reducible exact Or.inr rfl)))
    (e2 : L.testBit 4 = true ∨ a2 = x.nv := by first | (apply Or.inl; apply Sub.bit; assumption; decide) | (with_reducible exact Or.inr rfl))
    (e3 : Same_boot L a3 x.boot := by first | (with_reducible exact Same_boot.refl _) | (constructor <;> first | (apply Or.inl; apply Sub.bit; assumption; decide) | (with_reducible exact Or.inr rfl)))
    (e4 : Same_mgmt L a4 x.mgmt := by first | (with_reducible exact Same_mgmt.refl _) | (constructor <;> first | (apply Or.inl; apply Sub.bit; assumption; decide) | (with_reducible exact Or.inr rfl)))
    (e5 : L.testBit 14 = true ∨ a5 = x.dies := by first | (apply Or.inl; apply Sub.bit; assumption; decide) | (with_reducible exact Or.inr rfl))
    (e6 : Same_store L a6 x.store := by first | (with_reducible exact Same_store.refl _) | (constructor <;> first | (apply Or.inl; apply Sub.bit; assumption; decide) | (with_reducible exact Or.inr rfl)))
    (e7 : L.testBit 17 = true ∨ a7 = x.tiles := by first | (apply Or.inl; apply Sub.bit; assumption; decide) | (with_reducible exact Or.inr rfl))
    (e8 : L.testBit 18 = true ∨ a8 = x.tkeep := by first | (apply Or.inl; apply Sub.bit; assumption; decide) | (with_reducible exact Or.inr rfl))
    (e9 : L.testBit 19 = true ∨ a9 = x.arrs := by first | (apply Or.inl; apply Sub.bit; assumption; decide) | (with_reducible exact Or.inr rfl))
    (e10 : L.testBit 20 = true ∨ a10 = x.frames := by first | (apply Or.inl; apply Sub.bit; assumption; decide) | (with_reducible exact Or.inr rfl))
    (e11 : L.testBit 21 = true ∨ a11 = x.optics := by first | (apply Or.inl; apply Sub.bit; assumption; decide) | (with_reducible exact Or.inr rfl))
    (e12 : L.testBit 22 = true ∨ a12 = x.links := by first | (apply Or.inl; apply Sub.bit; assumption; decide) | (with_reducible exact Or.inr rfl))
    (e13 : L.testBit 23 = true ∨ a13 = x.time := by first | (apply Or.inl; apply Sub.bit; assumption; decide) | (with_reducible exact Or.inr rfl))
    (e14 : L.testBit 24 = true ∨ a14 = x.fabric := by first | (apply Or.inl; apply Sub.bit; assumption; decide) | (with_reducible exact Or.inr rfl))
    (e15 : L.testBit 25 = true ∨ a15 = x.twin := by first | (apply Or.inl; apply Sub.bit; assumption; decide) | (with_reducible exact Or.inr rfl))
    (e16 : Same_host L a16 x.host := by first | (with_reducible exact Same_host.refl _) | (constructor <;> first | (apply Or.inl; apply Sub.bit; assumption; decide) | (with_reducible exact Or.inr rfl)))
    (e17 : Same_health L a17 x.health := by first | (with_reducible exact Same_health.refl _) | (constructor <;> first | (apply Or.inl; apply Sub.bit; assumption; decide) | (with_reducible exact Or.inr rfl)))
    (e18 : Same_out L a18 x.out := by first | (with_reducible exact Same_out.refl _) | (constructor <;> first | (apply Or.inl; apply Sub.bit; assumption; decide) | (with_reducible exact Or.inr rfl)))
    (e19 : L.testBit 36 = true ∨ a19 = x.fresh := by first | (apply Or.inl; apply Sub.bit; assumption; decide) | (with_reducible exact Or.inr rfl))
    : Acts L s ⟨a1, a2, a3, a4, a5, a6, a7, a8, a9, a10, a11, a12, a13, a14, a15, a16, a17, a18, a19, x.pending⟩ :=
  h.trans ⟨⟨e1, e2, e3, e4, e5, e6, e7, e8, e9, e10, e11, e12, e13, e14, e15, e16, e17, e18, e19⟩, k⟩

/-- A record update within the set that leaves the core alone. -/
theorem Acts.upd {L : Nat} {s x : State} {a1 a2 a3 a4 a5 a6 a7 a8 a9 a10 a11 a12 a13 a14 a15 a16 a17 a18 a19} (h : Acts L s x)
    (_ : Apart ⟨a1, a2, a3, a4, a5, a6, a7, a8, a9, a10, a11, a12, a13, a14, a15, a16, a17, a18, a19, x.pending⟩ x := by first | (fail_if_success with_reducible exact Apart.same _); exact Apart.any _ _)
    (e1 : Same_pow L a1 x.pow := by first | (with_reducible exact Same_pow.refl _) | (constructor <;> first | (apply Or.inl; apply Sub.bit; assumption; decide) | (with_reducible exact Or.inr rfl)))
    (e2 : L.testBit 4 = true ∨ a2 = x.nv := by first | (apply Or.inl; apply Sub.bit; assumption; decide) | (with_reducible exact Or.inr rfl))
    (e3 : Same_boot L a3 x.boot := by first | (with_reducible exact Same_boot.refl _) | (constructor <;> first | (apply Or.inl; apply Sub.bit; assumption; decide) | (with_reducible exact Or.inr rfl)))
    (e4 : Same_mgmt L a4 x.mgmt := by first | (with_reducible exact Same_mgmt.refl _) | (constructor <;> first | (apply Or.inl; apply Sub.bit; assumption; decide) | (with_reducible exact Or.inr rfl)))
    (e5 : L.testBit 14 = true ∨ a5 = x.dies := by first | (apply Or.inl; apply Sub.bit; assumption; decide) | (with_reducible exact Or.inr rfl))
    (e6 : Same_store L a6 x.store := by first | (with_reducible exact Same_store.refl _) | (constructor <;> first | (apply Or.inl; apply Sub.bit; assumption; decide) | (with_reducible exact Or.inr rfl)))
    (e7 : L.testBit 17 = true ∨ a7 = x.tiles := by first | (apply Or.inl; apply Sub.bit; assumption; decide) | (with_reducible exact Or.inr rfl))
    (e8 : L.testBit 18 = true ∨ a8 = x.tkeep := by first | (apply Or.inl; apply Sub.bit; assumption; decide) | (with_reducible exact Or.inr rfl))
    (e9 : L.testBit 19 = true ∨ a9 = x.arrs := by first | (apply Or.inl; apply Sub.bit; assumption; decide) | (with_reducible exact Or.inr rfl))
    (e10 : L.testBit 20 = true ∨ a10 = x.frames := by first | (apply Or.inl; apply Sub.bit; assumption; decide) | (with_reducible exact Or.inr rfl))
    (e11 : L.testBit 21 = true ∨ a11 = x.optics := by first | (apply Or.inl; apply Sub.bit; assumption; decide) | (with_reducible exact Or.inr rfl))
    (e12 : L.testBit 22 = true ∨ a12 = x.links := by first | (apply Or.inl; apply Sub.bit; assumption; decide) | (with_reducible exact Or.inr rfl))
    (e13 : L.testBit 23 = true ∨ a13 = x.time := by first | (apply Or.inl; apply Sub.bit; assumption; decide) | (with_reducible exact Or.inr rfl))
    (e14 : L.testBit 24 = true ∨ a14 = x.fabric := by first | (apply Or.inl; apply Sub.bit; assumption; decide) | (with_reducible exact Or.inr rfl))
    (e15 : L.testBit 25 = true ∨ a15 = x.twin := by first | (apply Or.inl; apply Sub.bit; assumption; decide) | (with_reducible exact Or.inr rfl))
    (e16 : Same_host L a16 x.host := by first | (with_reducible exact Same_host.refl _) | (constructor <;> first | (apply Or.inl; apply Sub.bit; assumption; decide) | (with_reducible exact Or.inr rfl)))
    (e17 : Same_health L a17 x.health := by first | (with_reducible exact Same_health.refl _) | (constructor <;> first | (apply Or.inl; apply Sub.bit; assumption; decide) | (with_reducible exact Or.inr rfl)))
    (e18 : Same_out L a18 x.out := by first | (with_reducible exact Same_out.refl _) | (constructor <;> first | (apply Or.inl; apply Sub.bit; assumption; decide) | (with_reducible exact Or.inr rfl)))
    (e19 : L.testBit 36 = true ∨ a19 = x.fresh := by first | (apply Or.inl; apply Sub.bit; assumption; decide) | (with_reducible exact Or.inr rfl))
    (e : core ⟨a1, a2, a3, a4, a5, a6, a7, a8, a9, a10, a11, a12, a13, a14, a15, a16, a17, a18, a19, x.pending⟩ = core x := by with_reducible rfl)
    : Acts L s ⟨a1, a2, a3, a4, a5, a6, a7, a8, a9, a10, a11, a12, a13, a14, a15, a16, a17, a18, a19, x.pending⟩ :=
  h.trans ⟨⟨e1, e2, e3, e4, e5, e6, e7, e8, e9, e10, e11, e12, e13, e14, e15, e16, e17, e18, e19⟩, keeps_of_core e⟩

theorem Acts.ite {L : Nat} {s a b : State} {c : Prop} [Decidable c] (ha : Acts L s a) (hb : Acts L s b) :
    Acts L s (if c then a else b) := by split <;> assumption

theorem Acts.pair {L : Nat} {α : Type} {s x : State} {a : α} {q : α × State} (e : q = (a, x)) (h : Acts L s q.2) :
    Acts L s x := by
  rw [e] at h; exact h

theorem Acts.pair2 {L : Nat} {α β : Type} {s x : State} {a : α} {b : β} {q : α × β × State} (e : q = (a, b, x))
    (h : Acts L s q.2.2) : Acts L s x := by
  rw [e] at h; exact h

theorem onlyIf_acts {L : Nat} {s x : State} {c : Bool} {f : State → State} (h : Acts L s x)
    (hf : ∀ y, Acts L s y → Acts L s (f y)) : Acts L s (onlyIf c f x) := by
  unfold onlyIf; split
  · exact hf _ h
  · exact h

theorem forEach_acts {L : Nat} {α : Type} {s x : State} {l : List α} {f : α → State → State} (h : Acts L s x)
    (hf : ∀ a y, Acts L s y → Acts L s (f a y)) : Acts L s (forEach l f x) := by
  unfold forEach
  induction l generalizing x with
  | nil => exact h
  | cons a l ih => exact ih (hf a x h)

/-- The first answer of a list is one of its answers. -/
theorem firstSome_mem {l : List (Option State)} {t : State} (e : firstSome l = some t) : some t ∈ l := by
  induction l with
  | nil => cases e
  | cons a r ih =>
    cases a with
    | none => exact List.mem_cons_of_mem _ (ih e)
    | some u => cases e; exact List.mem_cons_self

/-- The first answer of a list does what each of its answers does. -/
theorem firstSome_acts {L : Nat} {s t : State} {l : List (Option State)} (hl : ∀ y, some y ∈ l → Acts L s y)
    (e : firstSome l = some t) : Acts L s t := hl t (firstSome_mem e)

theorem getD_acts {L : Nat} {s y : State} {q : Option State} (hq : ∀ t, q = some t → Acts L s t) (hy : Acts L s y) :
    Acts L s (q.getD y) := by
  cases q with
  | none => exact hy
  | some t => exact hq t rfl

/-- Tearing an update down leaves the management state. -/
theorem tearUpdate_mgmt (x : State) : (tearUpdate x).mgmt = x.mgmt := by
  unfold tearUpdate modImage
  dsimp only
  repeat' (first | rfl | split)

end Sys2Proof.Laws
end

