-- ==== Sys2Proof/Laws/Operations.lean ====
section
/-!
SUPPORT. What every operation and command of the model does: one lemma each, whose hypothesis `Sub m L` gives the set `m` of parts
that it may change (the bits are those of `Part.index`), and which says that it keeps the invariants.
-/

namespace Sys2Proof.Laws

open Machine

set_option linter.all false
set_option Elab.async false

theorem hostOut_acts {L : Nat} {s x : State} {a0} (hl : Sub 8589934592 L) (h : Acts L s x) :
    Acts L s (hostOut a0 x) := by
  unfold hostOut
  try dsimp only
  repeat' with_reducible first
    | assumption | exact Acts.refl _ | exact hl.mono (by decide) | refine Acts.ite ?_ ?_ | refine Acts.upd ?_ | intro _
    | split

theorem msix_acts {L : Nat} {s x : State} {a0} (hl : Sub 9126805504 L) (h : Acts L s x) :
    Acts L s (msix a0 x) := by
  unfold msix
  try dsimp only
  repeat' with_reducible first
    | assumption | exact Acts.refl _ | exact hl.mono (by decide) | apply hostOut_acts | refine Acts.ite ?_ ?_
    | refine Acts.upd ?_ | intro _ | split

theorem modRing_acts {L : Nat} {s x : State} {a0 a1} (hl : Sub 134217728 L) (h : Acts L s x) :
    Acts L s (modRing a0 a1 x) := by
  unfold modRing
  try dsimp only
  repeat' with_reducible first
    | assumption | exact Acts.refl _ | exact hl.mono (by decide) | refine Acts.ite ?_ ?_ | refine Acts.upd ?_ | intro _
    | split

theorem ringSignal_acts {L : Nat} {s x : State} {a0} (hl : Sub 9261023232 L) (h : Acts L s x) :
    Acts L s (ringSignal a0 x) := by
  unfold ringSignal
  try dsimp only
  repeat' with_reducible first
    | assumption | exact Acts.refl _ | exact hl.mono (by decide) | apply msix_acts | apply modRing_acts
    | refine Acts.ite ?_ ?_ | refine Acts.upd ?_ | intro _ | split

theorem writeRecord_acts {L : Nat} {s x : State} {a0 a1} (hl : Sub 9261023232 L) (h : Acts L s x) :
    Acts L s (writeRecord a0 a1 x) := by
  unfold writeRecord
  try dsimp only
  repeat' with_reducible first
    | assumption | exact Acts.refl _ | exact hl.mono (by decide) | apply ringSignal_acts | apply hostOut_acts
    | apply modRing_acts | refine Acts.ite ?_ ?_ | refine Acts.upd ?_ | intro _ | split

theorem bump_acts {L : Nat} {s x : State} {a0 a1} (hl : Sub 2147483648 L) (h : Acts L s x) :
    Acts L s (bump a0 a1 x) := by
  unfold bump
  try dsimp only
  repeat' with_reducible first
    | assumption | exact Acts.refl _ | exact hl.mono (by decide) | refine Acts.ite ?_ ?_ | refine Acts.upd ?_ | intro _
    | split

theorem raiseIbis_acts {L : Nat} {s x : State} (hl : Sub 4096 L) (h : Acts L s x) :
    Acts L s (raiseIbis x) := by
  unfold raiseIbis
  try dsimp only
  repeat' with_reducible first
    | assumption | exact Acts.refl _ | exact hl.mono (by decide) | refine Acts.ite ?_ ?_ | refine Acts.upd ?_ | intro _
    | split

theorem appendEvent_acts {L : Nat} {s x : State} {a0 a1 a2 a3 a4 a5} (hl : Sub 9126809600 L) (h : Acts L s x) :
    Acts L s (appendEvent a0 a1 a2 a3 a4 a5 x) := by
  unfold appendEvent
  dsimp only
  refine Acts.ite (raiseIbis_acts (hl.mono (by decide)) (msix_acts (hl.mono (by decide)) (h.updBy (keeps_records (by with_reducible rfl) fun b => ?_)))) h
  constructor <;> dsimp only
  exacts [b.1, b.2, lastN_length _ _, b.4, b.5, b.6, b.7]

theorem appendFault_acts {L : Nat} {s x : State} {a0} (hl : Sub 11274293248 L) (h : Acts L s x) :
    Acts L s (appendFault a0 x) := by
  unfold appendFault
  dsimp only
  refine Acts.ite (msix_acts (hl.mono (by decide)) (Acts.upd ?_)) ?_ <;>
    refine appendEvent_acts (hl.mono (by decide)) (bump_acts (hl.mono (by decide)) (h.updBy (keeps_records (by with_reducible rfl) fun b => ?_)))
  all_goals
    constructor <;> dsimp only
    exacts [b.1, lastN_length _ _, b.3, b.4, b.5, b.6, b.7]

theorem holdRec_acts {L : Nat} {s x : State} {a0} (hl : Sub 128 L) (h : Acts L s x) :
    Acts L s (holdRec a0 x) := by
  unfold holdRec
  refine h.updBy (keeps_records (by with_reducible rfl) fun b => ?_)
  constructor <;> dsimp only
  exacts [b.1, b.2, b.3, b.4, b.5, lastN_length _ _, b.7]

theorem logRec_acts {L : Nat} {s x : State} {a0} (hl : Sub 11274293376 L) (h : Acts L s x) :
    Acts L s (logRec a0 x) := by
  unfold logRec
  try dsimp only
  repeat' with_reducible first
    | assumption | exact Acts.refl _ | exact hl.mono (by decide) | apply appendFault_acts | apply holdRec_acts
    | refine Acts.ite ?_ ?_ | refine Acts.upd ?_ | intro _ | split

theorem logWith_acts {L : Nat} {s x : State} {a0 a1 a2 a3} (hl : Sub 11274293376 L) (h : Acts L s x) :
    Acts L s (logWith a0 a1 a2 a3 x) := by
  unfold logWith
  try dsimp only
  repeat' with_reducible first
    | assumption | exact Acts.refl _ | exact hl.mono (by decide) | apply logRec_acts | refine Acts.ite ?_ ?_
    | refine Acts.upd ?_ | intro _ | split

theorem logFault_acts {L : Nat} {s x : State} {a0 a1 a2} (hl : Sub 11274293376 L) (h : Acts L s x) :
    Acts L s (logFault a0 a1 a2 x) := by
  unfold logFault
  try dsimp only
  repeat' with_reducible first
    | assumption | exact Acts.refl _ | exact hl.mono (by decide) | apply logWith_acts | refine Acts.ite ?_ ?_
    | refine Acts.upd ?_ | intro _ | split

theorem pushRecord_acts {L : Nat} {s x : State} {a0 a1} (hl : Sub 11408511104 L) (h : Acts L s x) :
    Acts L s (pushRecord a0 a1 x) := by
  unfold pushRecord
  try dsimp only
  repeat' with_reducible first
    | assumption | exact Acts.refl _ | exact hl.mono (by decide) | apply writeRecord_acts | apply modRing_acts
    | apply bump_acts | apply logFault_acts | refine Acts.ite ?_ ?_ | refine Acts.upd ?_ | intro _ | split

theorem finishCmd_acts {L : Nat} {s x : State} {a0 a1 a2 a3 a4} (hl : Sub 11408511104 L) (h : Acts L s x) :
    Acts L s (finishCmd a0 a1 a2 a3 a4 x) := by
  unfold finishCmd
  split
  · exact h
  · exact pushRecord_acts (hl.mono (by decide)) (h.updBy ⟨rfl, rfl, rfl, id, fun b => ⟨b.1, b.2, b.3, b.4, b.5, b.6, List.length_take_le _ _⟩, fun b => ⟨b.1, b.2, b.3⟩⟩)

theorem postEvent_acts {L : Nat} {s x : State} {a0 a1 a2 a3 a4} (hl : Sub 9126809728 L) (h : Acts L s x) :
    Acts L s (postEvent a0 a1 a2 a3 a4 x) := by
  unfold postEvent
  try dsimp only
  repeat' with_reducible first
    | assumption | exact Acts.refl _ | exact hl.mono (by decide) | apply appendEvent_acts | apply holdRec_acts
    | refine Acts.ite ?_ ?_ | refine Acts.upd ?_ | intro _ | split

theorem setPower_acts {L : Nat} {s x : State} {a0} (hl : Sub 9126809729 L) (h : Acts L s x) :
    Acts L s (setPower a0 x) := by
  unfold setPower
  try dsimp only
  repeat' with_reducible first
    | assumption | exact Acts.refl _ | exact hl.mono (by decide) | apply postEvent_acts | refine Acts.ite ?_ ?_
    | refine Acts.upd ?_ | intro _ | split

theorem settlePower_acts {L : Nat} {s x : State} (hl : Sub 9126809729 L) (h : Acts L s x) :
    Acts L s (settlePower x) := by
  unfold settlePower
  try dsimp only
  repeat' with_reducible first
    | assumption | exact Acts.refl _ | exact hl.mono (by decide) | apply setPower_acts | refine Acts.ite ?_ ?_
    | refine Acts.upd ?_ | intro _ | split

theorem endLaunch_acts {L : Nat} {s x : State} {a0 a1 a2 a3 a4} (hl : Sub 11408511105 L) (h : Acts L s x) :
    Acts L s (endLaunch a0 a1 a2 a3 a4 x) := by
  unfold endLaunch
  try dsimp only
  repeat' with_reducible first
    | assumption | exact Acts.refl _ | exact hl.mono (by decide) | apply finishCmd_acts | apply settlePower_acts
    | refine Acts.ite ?_ ?_ | refine Acts.upd ?_ | intro _ | split

theorem dropHeld_acts {L : Nat} {s x : State} {a0 a1 a2 a3} (hl : Sub 11409559681 L) (h : Acts L s x) :
    Acts L s (dropHeld a0 a1 a2 a3 x) := by
  unfold dropHeld
  try dsimp only
  repeat' with_reducible first
    | assumption | exact Acts.refl _ | exact hl.mono (by decide) | apply endLaunch_acts | refine Acts.ite ?_ ?_
    | refine Acts.upd ?_ | intro _ | split

theorem modPair_acts {L : Nat} {s x : State} {a0 a1} (hl : Sub 4194304 L) (h : Acts L s x) :
    Acts L s (modPair a0 a1 x) := by
  unfold modPair
  try dsimp only
  repeat' with_reducible first
    | assumption | exact Acts.refl _ | exact hl.mono (by decide) | refine Acts.ite ?_ ?_ | refine Acts.upd ?_ | intro _
    | split

theorem queueNotice_acts {L : Nat} {s x : State} {a0 a1} (hl : Sub 4194304 L) (h : Acts L s x) :
    Acts L s (queueNotice a0 a1 x) := by
  unfold queueNotice
  try dsimp only
  repeat' with_reducible first
    | assumption | exact Acts.refl _ | exact hl.mono (by decide) | apply modPair_acts | refine Acts.ite ?_ ?_
    | refine Acts.upd ?_ | intro _ | split

theorem sendNotice_acts {L : Nat} {s x : State} {a0 a1} (hl : Sub 4194304 L) (h : Acts L s x) :
    Acts L s (sendNotice a0 a1 x) := by
  unfold sendNotice
  try dsimp only
  repeat' with_reducible first
    | assumption | exact Acts.refl _ | exact hl.mono (by decide) | apply queueNotice_acts | apply forEach_acts
    | refine Acts.ite ?_ ?_ | refine Acts.upd ?_ | intro _ | split

theorem sendOwn_acts {L : Nat} {s x : State} {a0} (hl : Sub 5242880 L) (h : Acts L s x) :
    Acts L s (sendOwn a0 x) := by
  unfold sendOwn
  try dsimp only
  repeat' with_reducible first
    | assumption | exact Acts.refl _ | exact hl.mono (by decide) | apply sendNotice_acts | refine Acts.ite ?_ ?_
    | refine Acts.upd ?_ | intro _ | split

theorem failHeld_acts {L : Nat} {s x : State} {a0 a1 a2 a3} (hl : Sub 11413753985 L) (h : Acts L s x) :
    Acts L s (failHeld a0 a1 a2 a3 x) := by
  unfold failHeld
  try dsimp only
  repeat' with_reducible first
    | assumption | exact Acts.refl _ | exact hl.mono (by decide) | apply dropHeld_acts | apply sendOwn_acts
    | refine Acts.ite ?_ ?_ | refine Acts.upd ?_ | intro _ | split

theorem failLaunch_acts {L : Nat} {s x : State} {a0} (hl : Sub 11413753985 L) (h : Acts L s x) :
    Acts L s (failLaunch a0 x) := by
  unfold failLaunch
  try dsimp only
  repeat' with_reducible first
    | assumption | exact Acts.refl _ | exact hl.mono (by decide) | apply failHeld_acts | apply logWith_acts
    | refine Acts.ite ?_ ?_ | refine Acts.upd ?_ | intro _ | split

theorem failDesc_acts {L : Nat} {s x : State} {a0} (hl : Sub 11413753985 L) (h : Acts L s x) :
    Acts L s (failDesc a0 x) := by
  unfold failDesc
  try dsimp only
  repeat' with_reducible first
    | assumption | exact Acts.refl _ | exact hl.mono (by decide) | apply failLaunch_acts | apply logWith_acts
    | refine Acts.ite ?_ ?_ | refine Acts.upd ?_ | intro _ | split

theorem modKeep_acts {L : Nat} {s x : State} {a0 a1} (hl : Sub 262144 L) (h : Acts L s x) :
    Acts L s (modKeep a0 a1 x) := by
  unfold modKeep
  try dsimp only
  repeat' with_reducible first
    | assumption | exact Acts.refl _ | exact hl.mono (by decide) | refine Acts.ite ?_ ?_ | refine Acts.upd ?_ | intro _
    | split

theorem bufWrite_acts {L : Nat} {s x : State} {a0 a1 a2} (hl : Sub 262144 L) (h : Acts L s x) :
    Acts L s (bufWrite a0 a1 a2 x) := by
  unfold bufWrite
  try dsimp only
  repeat' with_reducible first
    | assumption | exact Acts.refl _ | exact hl.mono (by decide) | apply modKeep_acts | refine Acts.ite ?_ ?_
    | refine Acts.upd ?_ | intro _ | split

theorem accumulateGrads_acts {L : Nat} {s x : State} {a0 a1 a2 a3 a4} (hl : Sub 262144 L) (h : Acts L s x) :
    Acts L s (accumulateGrads a0 a1 a2 a3 a4 x) := by
  unfold accumulateGrads
  try dsimp only
  repeat' with_reducible first
    | assumption | exact Acts.refl _ | exact hl.mono (by decide) | apply bufWrite_acts | apply onlyIf_acts
    | refine Acts.ite ?_ ?_ | refine Acts.upd ?_ | intro _ | split

theorem freeSlot_acts {L : Nat} {s x : State} {a0 a1} (hl : Sub 4194304 L) (h : Acts L s x) :
    Acts L s (freeSlot a0 a1 x) := by
  unfold freeSlot
  try dsimp only
  repeat' with_reducible first
    | assumption | exact Acts.refl _ | exact hl.mono (by decide) | apply modPair_acts | refine Acts.ite ?_ ?_
    | refine Acts.upd ?_ | intro _ | split

theorem farDrop_acts {L : Nat} {s x : State} {a0} (hl : Sub 65536 L) (h : Acts L s x) :
    Acts L s (farDrop a0 x) := by
  unfold farDrop
  try dsimp only
  repeat' with_reducible first
    | assumption | exact Acts.refl _ | exact hl.mono (by decide) | refine Acts.ite ?_ ?_ | refine Acts.upd ?_ | intro _
    | split

theorem setDirty_acts {L : Nat} {s x : State} {a0 a1} (hl : Sub 65536 L) (h : Acts L s x) :
    Acts L s (setDirty a0 a1 x) := by
  unfold setDirty
  try dsimp only
  repeat' with_reducible first
    | assumption | exact Acts.refl _ | exact hl.mono (by decide) | refine Acts.ite ?_ ?_ | refine Acts.upd ?_ | intro _
    | split

theorem setPoison_acts {L : Nat} {s x : State} {a0 a1} (hl : Sub 65536 L) (h : Acts L s x) :
    Acts L s (setPoison a0 a1 x) := by
  unfold setPoison
  try dsimp only
  repeat' with_reducible first
    | assumption | exact Acts.refl _ | exact hl.mono (by decide) | refine Acts.ite ?_ ?_ | refine Acts.upd ?_ | intro _
    | split

theorem storeSetByte_acts {L : Nat} {s x : State} {a0 a1} (hl : Sub 32768 L) (h : Acts L s x) :
    Acts L s (storeSetByte a0 a1 x) := by
  exact h.updBy ⟨rfl, rfl, rfl, fun w => mwf_mset w, fun b => ⟨b.1, b.2, b.3, b.4, b.5, b.6, b.7⟩, fun b => ⟨b.1, b.2, b.3⟩⟩

theorem storeWrite_acts {L : Nat} {s x : State} {a0 a1} (hl : Sub 32768 L) (h : Acts L s x) :
    Acts L s (storeWrite a0 a1 x) := by
  induction a1 generalizing a0 x with
  | nil => exact h
  | cons y l ih =>
    unfold storeWrite
    try dsimp only
    repeat' with_reducible first
      | apply ih | assumption | exact Acts.refl _ | exact hl.mono (by decide) | apply storeSetByte_acts
      | refine Acts.ite ?_ ?_ | refine Acts.upd ?_ | intro _ | split

theorem putBytes_acts {L : Nat} {s x : State} {a0 a1 a2} (hl : Sub 98304 L) (h : Acts L s x) :
    Acts L s (putBytes a0 a1 a2 x) := by
  unfold putBytes
  try dsimp only
  repeat' with_reducible first
    | assumption | exact Acts.refl _ | exact hl.mono (by decide) | apply farDrop_acts | apply setDirty_acts
    | apply setPoison_acts | apply storeWrite_acts | apply forEach_acts | refine Acts.ite ?_ ?_ | refine Acts.upd ?_
    | intro _ | split

theorem enqueue_acts {L : Nat} {s x : State} {a0 a1 a2} (hl : Sub 4194304 L) (h : Acts L s x) :
    Acts L s (enqueue a0 a1 a2 x) := by
  unfold enqueue
  try dsimp only
  repeat' with_reducible first
    | assumption | exact Acts.refl _ | exact hl.mono (by decide) | apply modPair_acts | refine Acts.ite ?_ ?_
    | refine Acts.upd ?_ | intro _ | split

theorem enqueueTwin_acts {L : Nat} {s x : State} {a0 a1} (hl : Sub 4194304 L) (h : Acts L s x) :
    Acts L s (enqueueTwin a0 a1 x) := by
  unfold enqueueTwin
  try dsimp only
  repeat' with_reducible first
    | assumption | exact Acts.refl _ | exact hl.mono (by decide) | apply enqueue_acts | apply modPair_acts
    | refine Acts.ite ?_ ?_ | refine Acts.upd ?_ | intro _ | split

theorem sendTwin_acts {L : Nat} {s x : State} {a0} (hl : Sub 4194304 L) (h : Acts L s x) :
    Acts L s (sendTwin a0 x) := by
  unfold sendTwin
  try dsimp only
  repeat' with_reducible first
    | assumption | exact Acts.refl _ | exact hl.mono (by decide) | apply enqueueTwin_acts | refine Acts.ite ?_ ?_
    | refine Acts.upd ?_ | intro _ | split

theorem settleTwin_acts {L : Nat} {s x : State} (hl : Sub 33554432 L) (h : Acts L s x) :
    Acts L s (settleTwin x) := by
  unfold settleTwin
  try dsimp only
  repeat' with_reducible first
    | assumption | exact Acts.refl _ | exact hl.mono (by decide) | refine Acts.ite ?_ ?_ | refine Acts.upd ?_ | intro _
    | split

theorem correctedWith_acts {L : Nat} {s x : State} {a0 a1 a2 a3} (hl : Sub 11274293376 L) (h : Acts L s x) :
    Acts L s (correctedWith a0 a1 a2 a3 x) := by
  unfold correctedWith
  try dsimp only
  repeat' with_reducible first
    | assumption | exact Acts.refl _ | exact hl.mono (by decide) | apply logWith_acts | apply onlyIf_acts
    | refine Acts.ite ?_ ?_ | refine Acts.upd ?_ | intro _ | split

theorem raiseHalt_acts {L : Nat} {s x : State} {a0 a1} (hl : Sub 11413753985 L) (h : Acts L s x) :
    Acts L s (raiseHalt a0 a1 x) := by
  unfold raiseHalt
  try dsimp only
  repeat' with_reducible first
    | assumption | exact Acts.refl _ | exact hl.mono (by decide) | apply sendOwn_acts | apply failHeld_acts
    | refine Acts.ite ?_ ?_ | refine Acts.upd ?_ | intro _ | split

theorem nvApply_acts {L : Nat} {s x : State} {a0} (hl : Sub 8208 L) (h : Acts L s x) :
    Acts L s (nvApply a0 x) := by
  unfold nvApply
  cases a0 <;> dsimp only
  case fault r =>
    refine h.updBy (keeps_records (by with_reducible rfl) fun b => ?_)
    constructor <;> dsimp only
    exacts [b.1, b.2, b.3, lastN_length _ _, b.5, b.6, b.7]
  case activate c slot floor => exact Acts.ite (Acts.upd h) (Acts.upd h)
  case auditOnly => exact h
  all_goals exact Acts.upd h

theorem auditWrite_shape (a : Audit) (x : State) : ∃ seq chain log anchor, log.length ≤ 4096 ∧ auditWrite a x =
    { x with nv := { x.nv with auditSeq := seq, auditChain := chain, audit := log, auditAnchor := anchor } } :=
  ⟨_, _, _, _, lastN_length _ _, rfl⟩

theorem auditWrite_acts {L : Nat} {s x : State} {a0} (hl : Sub 16 L) (h : Acts L s x) :
    Acts L s (auditWrite a0 x) := by
  obtain ⟨seq, chain, log, anchor, n, e⟩ := auditWrite_shape a0 x
  rw [e]
  refine h.updBy (keeps_records (by with_reducible rfl) fun b => ?_)
  constructor <;> dsimp only
  exacts [b.1, b.2, b.3, b.4, n, b.6, b.7]

theorem writeAudit_pow {x : State} {a} : (writeAudit a x).pow = x.pow := by
  unfold writeAudit
  split
  · obtain ⟨_, _, _, _, _, e⟩ := auditWrite_shape _ x
    rw [e]
  · rfl

theorem writeAudit_acts {L : Nat} {s x : State} {a0} (hl : Sub 16 L) (h : Acts L s x) :
    Acts L s (writeAudit a0 x) := by
  unfold writeAudit
  try dsimp only
  repeat' with_reducible first
    | assumption | exact Acts.refl _ | exact hl.mono (by decide) | apply auditWrite_acts | refine Acts.ite ?_ ?_
    | refine Acts.upd ?_ | intro _ | split

theorem journalPut_acts {L : Nat} {s x : State} {a0} (hl : Sub 11274301588 L) (h : Acts L s x) :
    Acts L s (journalPut a0 x) := by
  unfold journalPut
  dsimp only
  refine Acts.ite (nvApply_acts (hl.mono (by decide)) (writeAudit_acts (hl.mono (by decide)) h)) ?_
  split
  · rename_i n
    have k := onlyIf_acts (c := x.pow.nvOpen && x.pow.journal.isEmpty) h
      (fun y => writeAudit_acts (a0 := a0.audit) (hl.mono (by decide)))
    have e : (onlyIf (x.pow.nvOpen && x.pow.journal.isEmpty) (writeAudit a0.audit) x).pow = x.pow := by
      unfold onlyIf; split
      · exact writeAudit_pow
      · rfl
    generalize onlyIf (x.pow.nvOpen && x.pow.journal.isEmpty) (writeAudit a0.audit) x = y at k e
    have hn : y.pow.journal.length < 64 := e ▸ n
    refine Acts.ite (logFault_acts (hl.mono (by decide)) ?_) ?_ <;>
      refine k.updBy (keeps_records (by with_reducible rfl) fun b => ?_)
    all_goals
      constructor <;> dsimp only
      exacts [by rw [List.length_append, List.length_singleton]; omega, b.2, b.3, b.4, b.5, b.6, b.7]
  · exact bump_acts (hl.mono (by decide)) (logFault_acts (hl.mono (by decide)) h)

theorem departTwin_acts {L : Nat} {s x : State} (hl : Sub 4194304 L) (h : Acts L s x) :
    Acts L s (departTwin x) := by
  unfold departTwin
  try dsimp only
  repeat' with_reducible first
    | assumption | exact Acts.refl _ | exact hl.mono (by decide) | apply enqueue_acts | apply forEach_acts
    | refine Acts.ite ?_ ?_ | refine Acts.upd ?_ | intro _ | split

theorem leaveService_acts {L : Nat} {s x : State} {a0} (hl : Sub 5242944 L) (h : Acts L s x) :
    Acts L s (leaveService a0 x) := by
  unfold leaveService
  try dsimp only
  repeat' with_reducible first
    | assumption | exact Acts.refl _ | exact hl.mono (by decide) | apply departTwin_acts | refine Acts.ite ?_ ?_
    | refine Acts.upd ?_ | intro _ | split

theorem blockStart_acts {L : Nat} {s x : State} {a0} (hl : Sub 64 L) (h : Acts L s x) :
    Acts L s (blockStart a0 x) := by
  unfold blockStart
  try dsimp only
  repeat' with_reducible first
    | assumption | exact Acts.refl _ | exact hl.mono (by decide) | refine Acts.ite ?_ ?_ | refine Acts.upd ?_ | intro _
    | split

theorem deviceFatal_acts {L : Nat} {s x : State} {a0 a1 a2 a3} (hl : Sub 11413762261 L) (h : Acts L s x) :
    Acts L s (deviceFatal a0 a1 a2 a3 x) := by
  unfold deviceFatal
  try dsimp only
  repeat' with_reducible first
    | assumption | exact Acts.refl _ | exact hl.mono (by decide) | apply journalPut_acts | apply raiseHalt_acts
    | apply leaveService_acts | apply blockStart_acts | refine Acts.ite ?_ ?_ | refine Acts.upd ?_ | intro _ | split

theorem raiseWith_acts {L : Nat} {s x : State} {a0 a1 a2 a3} (hl : Sub 11413762261 L) (h : Acts L s x) :
    Acts L s (raiseWith a0 a1 a2 a3 x) := by
  unfold raiseWith
  try dsimp only
  repeat' with_reducible first
    | assumption | exact Acts.refl _ | exact hl.mono (by decide) | apply logWith_acts | apply correctedWith_acts
    | apply raiseHalt_acts | apply deviceFatal_acts | refine Acts.ite ?_ ?_ | refine Acts.upd ?_ | intro _ | split

theorem twinFault_acts {L : Nat} {s x : State} {a0 a1 a2} (hl : Sub 11413762261 L) (h : Acts L s x) :
    Acts L s (twinFault a0 a1 a2 x) := by
  unfold twinFault
  try dsimp only
  repeat' with_reducible first
    | assumption | exact Acts.refl _ | exact hl.mono (by decide) | apply raiseWith_acts | refine Acts.ite ?_ ?_
    | refine Acts.upd ?_ | intro _ | split

theorem phaseDone_acts {L : Nat} {s x : State} (hl : Sub 11447316693 L) (h : Acts L s x) :
    Acts L s (phaseDone x) := by
  unfold phaseDone
  try dsimp only
  repeat' with_reducible first
    | assumption | exact Acts.refl _ | exact hl.mono (by decide) | apply twinFault_acts | apply bump_acts
    | apply onlyIf_acts | refine Acts.ite ?_ ?_ | refine Acts.upd ?_ | intro _ | split

theorem restoreReceived_acts {L : Nat} {s x : State} (hl : Sub 11447316693 L) (h : Acts L s x) :
    Acts L s (restoreReceived x) := by
  unfold restoreReceived
  try dsimp only
  repeat' with_reducible first
    | assumption | exact Acts.refl _ | exact hl.mono (by decide) | apply phaseDone_acts | refine Acts.ite ?_ ?_
    | refine Acts.upd ?_ | intro _ | split

theorem execRebuildData_acts {L : Nat} {x t : State} {a0 a1 a2 a3 a4 a5} (hl : Sub 11447414997 L) (e : execRebuildData a0 a1 a2 a3 a4 a5 x = .next t) :
    Acts L x t := by
  unfold execRebuildData at e
  cases e
  try dsimp only
  repeat' with_reducible first
    | assumption | exact Acts.refl _ | exact hl.mono (by decide) | apply freeSlot_acts | apply putBytes_acts
    | apply sendTwin_acts | apply settleTwin_acts | apply phaseDone_acts | apply restoreReceived_acts
    | apply onlyIf_acts | refine Acts.ite ?_ ?_ | refine Acts.upd ?_ | intro _ | split

theorem modTile_acts {L : Nat} {s x : State} {a0 a1} (hl : Sub 131072 L) (h : Acts L s x) :
    Acts L s (modTile a0 a1 x) := by
  unfold modTile
  try dsimp only
  repeat' with_reducible first
    | assumption | exact Acts.refl _ | exact hl.mono (by decide) | refine Acts.ite ?_ ?_ | refine Acts.upd ?_ | intro _
    | split

theorem modXfer_acts {L : Nat} {s x : State} {a0 a1 a2} (hl : Sub 131072 L) (h : Acts L s x) :
    Acts L s (modXfer a0 a1 a2 x) := by
  unfold modXfer
  try dsimp only
  repeat' with_reducible first
    | assumption | exact Acts.refl _ | exact hl.mono (by decide) | apply modTile_acts | refine Acts.ite ?_ ?_
    | refine Acts.upd ?_ | intro _ | split

theorem dropPass_acts {L : Nat} {s x : State} {a0 a1} (hl : Sub 131072 L) (h : Acts L s x) :
    Acts L s (dropPass a0 a1 x) := by
  unfold dropPass
  try dsimp only
  repeat' with_reducible first
    | assumption | exact Acts.refl _ | exact hl.mono (by decide) | apply modTile_acts | refine Acts.ite ?_ ?_
    | refine Acts.upd ?_ | intro _ | split

theorem bufWriteCells_acts {L : Nat} {s x : State} {a0 a1} (hl : Sub 262144 L) (h : Acts L s x) :
    Acts L s (bufWriteCells a0 a1 x) := by
  unfold bufWriteCells
  try dsimp only
  repeat' with_reducible first
    | assumption | exact Acts.refl _ | exact hl.mono (by decide) | apply modKeep_acts | refine Acts.ite ?_ ?_
    | refine Acts.upd ?_ | intro _ | split

theorem modArr_acts {L : Nat} {s x : State} {a0 a1} (hl : Sub 524288 L) (h : Acts L s x) :
    Acts L s (modArr a0 a1 x) := by
  unfold modArr
  try dsimp only
  repeat' with_reducible first
    | assumption | exact Acts.refl _ | exact hl.mono (by decide) | refine Acts.ite ?_ ?_ | refine Acts.upd ?_ | intro _
    | split

theorem raiseFault_acts {L : Nat} {s x : State} {a0 a1 a2} (hl : Sub 11413762261 L) (h : Acts L s x) :
    Acts L s (raiseFault a0 a1 a2 x) := by
  unfold raiseFault
  try dsimp only
  repeat' with_reducible first
    | assumption | exact Acts.refl _ | exact hl.mono (by decide) | apply raiseWith_acts | refine Acts.ite ?_ ?_
    | refine Acts.upd ?_ | intro _ | split

theorem raiseTile_acts {L : Nat} {s x : State} {a0 a1 a2} (hl : Sub 11413762261 L) (h : Acts L s x) :
    Acts L s (raiseTile a0 a1 a2 x) := by
  unfold raiseTile
  try dsimp only
  repeat' with_reducible first
    | assumption | exact Acts.refl _ | exact hl.mono (by decide) | apply raiseFault_acts | refine Acts.ite ?_ ?_
    | refine Acts.upd ?_ | intro _ | split

theorem raise_acts {L : Nat} {s x : State} {a0 a1} (hl : Sub 11413762261 L) (h : Acts L s x) :
    Acts L s (raise a0 a1 x) := by
  unfold raise
  try dsimp only
  repeat' with_reducible first
    | assumption | exact Acts.refl _ | exact hl.mono (by decide) | apply raiseFault_acts | refine Acts.ite ?_ ?_
    | refine Acts.upd ?_ | intro _ | split

theorem failStart_acts {L : Nat} {s x : State} (hl : Sub 11413753985 L) (h : Acts L s x) :
    Acts L s (failStart x) := by
  unfold failStart
  try dsimp only
  repeat' with_reducible first
    | assumption | exact Acts.refl _ | exact hl.mono (by decide) | apply failHeld_acts | apply logFault_acts
    | refine Acts.ite ?_ ?_ | refine Acts.upd ?_ | intro _ | split

theorem takeLeap_acts {L : Nat} {s x : State} {a0 a1} (hl : Sub 11413893333 L) (h : Acts L s x) :
    Acts L s (takeLeap a0 a1 x) := by
  unfold takeLeap
  try dsimp only
  repeat' with_reducible first
    | assumption | exact Acts.refl _ | exact hl.mono (by decide) | apply raiseFault_acts | apply raise_acts
    | apply failStart_acts | apply onlyIf_acts | refine Acts.ite ?_ ?_ | refine Acts.upd ?_ | intro _ | split

theorem declareOverrun_acts {L : Nat} {s x : State} {a0} (hl : Sub 11413893333 L) (h : Acts L s x) :
    Acts L s (declareOverrun a0 x) := by
  unfold declareOverrun
  try dsimp only
  repeat' with_reducible first
    | assumption | exact Acts.refl _ | exact hl.mono (by decide) | apply modTile_acts | apply takeLeap_acts
    | apply sendOwn_acts | refine Acts.ite ?_ ?_ | refine Acts.upd ?_ | intro _ | split

theorem evaluate_acts {L : Nat} {s x : State} {a0} (hl : Sub 11413893333 L) (h : Acts L s x) :
    Acts L s (evaluate a0 x) := by
  unfold evaluate
  try dsimp only
  repeat' with_reducible first
    | assumption | exact Acts.refl _ | exact hl.mono (by decide) | apply declareOverrun_acts | apply raiseTile_acts
    | apply modTile_acts | refine Acts.ite ?_ ?_ | refine Acts.upd ?_ | intro _ | split

theorem complete_acts {L : Nat} {s x : State} {a0 a1} (hl : Sub 11413893333 L) (h : Acts L s x) :
    Acts L s (complete a0 a1 x) := by
  unfold complete
  try dsimp only
  repeat' with_reducible first
    | assumption | exact Acts.refl _ | exact hl.mono (by decide) | apply evaluate_acts | apply modTile_acts
    | refine Acts.ite ?_ ?_ | refine Acts.upd ?_ | intro _ | split

theorem execPassCommit_acts {L : Nat} {x t : State} {a0 a1} (hl : Sub 11414679765 L) (e : execPassCommit a0 a1 x = .next t) :
    Acts L x t := by
  unfold execPassCommit at e
  cases e
  try dsimp only
  repeat' with_reducible first
    | assumption | exact Acts.refl _ | exact hl.mono (by decide) | apply dropPass_acts | apply bufWriteCells_acts
    | apply modArr_acts | apply bump_acts | apply modTile_acts | apply raiseTile_acts | apply complete_acts
    | apply onlyIf_acts | refine Acts.ite ?_ ?_ | refine Acts.upd ?_ | intro _ | split

theorem storeKeep_acts {L : Nat} {s x : State} {a0} (hl : Sub 32768 L) (h : Acts L s x) :
    Acts L s (storeKeep a0 x) := by
  exact h.updBy ⟨rfl, rfl, rfl, fun w => mwf_filter _ w, fun b => ⟨b.1, b.2, b.3, b.4, b.5, b.6, b.7⟩, fun b => ⟨b.1, b.2, b.3⟩⟩

theorem loseWithdrawn_acts {L : Nat} {s x : State} (hl : Sub 98304 L) (h : Acts L s x) :
    Acts L s (loseWithdrawn x) := by
  unfold loseWithdrawn
  try dsimp only
  repeat' with_reducible first
    | assumption | exact Acts.refl _ | exact hl.mono (by decide) | apply storeKeep_acts | refine Acts.ite ?_ ?_
    | refine Acts.upd ?_ | intro _ | split

theorem retireSegments_acts {L : Nat} {s x : State} (hl : Sub 11413827797 L) (h : Acts L s x) :
    Acts L s (retireSegments x) := by
  unfold retireSegments
  try dsimp only
  repeat' with_reducible first
    | assumption | exact Acts.refl _ | exact hl.mono (by decide) | apply journalPut_acts | apply raise_acts
    | refine Acts.ite ?_ ?_ | refine Acts.upd ?_ | intro _ | split

theorem retireMarked_acts {L : Nat} {s x : State} (hl : Sub 11413860565 L) (h : Acts L s x) :
    Acts L s (retireMarked x) := by
  unfold retireMarked
  try dsimp only
  repeat' with_reducible first
    | assumption | exact Acts.refl _ | exact hl.mono (by decide) | apply loseWithdrawn_acts | apply retireSegments_acts
    | refine Acts.ite ?_ ?_ | refine Acts.upd ?_ | intro _ | split

theorem tearPages_acts {L : Nat} {s x : State} {a0} (hl : Sub 2214592512 L) (h : Acts L s x) :
    Acts L s (tearPages a0 x) := by
  unfold tearPages
  try dsimp only
  repeat' with_reducible first
    | assumption | exact Acts.refl _ | exact hl.mono (by decide) | apply bump_acts | refine Acts.ite ?_ ?_
    | refine Acts.upd ?_ | intro _ | split

theorem tearOpen_acts {L : Nat} {s x : State} (hl : Sub 2231369728 L) (h : Acts L s x) :
    Acts L s (tearOpen x) := by
  unfold tearOpen
  try dsimp only
  repeat' with_reducible first
    | assumption | exact Acts.refl _ | exact hl.mono (by decide) | apply tearPages_acts | refine Acts.ite ?_ ?_
    | refine Acts.upd ?_ | intro _ | split

theorem freshen_acts {L : Nat} {s x : State} (hl : Sub 68719476736 L) (h : Acts L s x) :
    Acts L s (freshen x) := by
  unfold freshen
  try dsimp only
  repeat' with_reducible first
    | assumption | exact Acts.refl _ | exact hl.mono (by decide) | refine Acts.ite ?_ ?_ | refine Acts.upd ?_ | intro _
    | split

theorem seasonTiles_acts {L : Nat} {s x : State} (hl : Sub 68736712704 L) (h : Acts L s x) :
    Acts L s (seasonTiles x) := by
  unfold seasonTiles
  try dsimp only
  repeat' with_reducible first
    | assumption | exact Acts.refl _ | exact hl.mono (by decide) | apply freshen_acts | refine Acts.ite ?_ ?_
    | refine Acts.upd ?_ | intro _ | split

theorem modImage_acts {L : Nat} {s x : State} {a0 a1 a2} (hl : Sub 16 L) (h : Acts L s x) :
    Acts L s (modImage a0 a1 a2 x) := by
  unfold modImage
  try dsimp only
  repeat' with_reducible first
    | assumption | exact Acts.refl _ | exact hl.mono (by decide) | refine Acts.ite ?_ ?_ | refine Acts.upd ?_ | intro _
    | split

theorem loadMicrocode_acts {L : Nat} {s x : State} (hl : Sub 11274301620 L) (h : Acts L s x) :
    Acts L s (loadMicrocode x) := by
  unfold loadMicrocode
  try dsimp only
  repeat' with_reducible first
    | assumption | exact Acts.refl _ | exact hl.mono (by decide) | apply modImage_acts | apply journalPut_acts
    | apply logWith_acts | refine Acts.ite ?_ ?_ | refine Acts.upd ?_ | intro _ | split

theorem takeSlice_acts {L : Nat} {s x : State} (hl : Sub 16777216 L) (h : Acts L s x) :
    Acts L s (takeSlice x) := by
  unfold takeSlice
  try dsimp only
  repeat' with_reducible first
    | assumption | exact Acts.refl _ | exact hl.mono (by decide) | refine Acts.ite ?_ ?_ | refine Acts.upd ?_ | intro _
    | split

theorem evictFar_acts {L : Nat} {s x : State} {a0} (hl : Sub 68719542272 L) (h : Acts L s x) :
    Acts L s (evictFar a0 x) := by
  unfold evictFar
  try dsimp only
  repeat' with_reducible first
    | assumption | exact Acts.refl _ | exact hl.mono (by decide) | apply freshen_acts | refine Acts.ite ?_ ?_
    | refine Acts.upd ?_ | intro _ | split

theorem trimFar_acts {L : Nat} {s x : State} (hl : Sub 68719542272 L) (h : Acts L s x) :
    Acts L s (trimFar x) := by
  unfold trimFar
  try dsimp only
  repeat' with_reducible first
    | assumption | exact Acts.refl _ | exact hl.mono (by decide) | apply evictFar_acts | apply onlyIf_acts
    | apply forEach_acts | refine Acts.ite ?_ ?_ | refine Acts.upd ?_ | intro _ | split

theorem clearRetired_acts {L : Nat} {s x : State} (hl : Sub 524288 L) (h : Acts L s x) :
    Acts L s (clearRetired x) := by
  unfold clearRetired
  try dsimp only
  repeat' with_reducible first
    | assumption | exact Acts.refl _ | exact hl.mono (by decide) | refine Acts.ite ?_ ?_ | refine Acts.upd ?_ | intro _
    | split

theorem takeTwin_acts {L : Nat} {s x : State} {a0} (hl : Sub 33554432 L) (h : Acts L s x) :
    Acts L s (takeTwin a0 x) := by
  unfold takeTwin
  try dsimp only
  repeat' with_reducible first
    | assumption | exact Acts.refl _ | exact hl.mono (by decide) | refine Acts.ite ?_ ?_ | refine Acts.upd ?_ | intro _
    | split

theorem takeWindows_acts {L : Nat} {s x : State} (hl : Sub 11415859413 L) (h : Acts L s x) :
    Acts L s (takeWindows x) := by
  unfold takeWindows
  try dsimp only
  repeat' with_reducible first
    | assumption | exact Acts.refl _ | exact hl.mono (by decide) | apply raise_acts | refine Acts.ite ?_ ?_
    | refine Acts.upd ?_ | intro _ | split

theorem resumeCalends_acts {L : Nat} {s x : State} (hl : Sub 1048576 L) (h : Acts L s x) :
    Acts L s (resumeCalends x) := by
  unfold resumeCalends
  try dsimp only
  repeat' with_reducible first
    | assumption | exact Acts.refl _ | exact hl.mono (by decide) | refine Acts.ite ?_ ?_ | refine Acts.upd ?_ | intro _
    | split

theorem takeValues_acts {L : Nat} {s x : State} (hl : Sub 80186257877 L) (h : Acts L s x) :
    Acts L s (takeValues x) := by
  unfold takeValues
  try dsimp only
  repeat' with_reducible first
    | assumption | exact Acts.refl _ | exact hl.mono (by decide) | apply takeSlice_acts | apply trimFar_acts
    | apply clearRetired_acts | apply takeTwin_acts | apply takeWindows_acts | apply resumeCalends_acts
    | refine Acts.ite ?_ ?_ | refine Acts.upd ?_ | intro _ | split

theorem clearSeason_acts {L : Nat} {s x : State} (hl : Sub 2255503424 L) (h : Acts L s x) :
    Acts L s (clearSeason x) := by
  unfold clearSeason
  try dsimp only
  repeat' with_reducible first
    | assumption | exact Acts.refl _ | exact hl.mono (by decide) | refine Acts.ite ?_ ?_ | refine Acts.upd ?_ | intro _
    | split

theorem takeEgress_acts {L : Nat} {s x : State} (hl : Sub 16777216 L) (h : Acts L s x) :
    Acts L s (takeEgress x) := by
  unfold takeEgress
  try dsimp only
  repeat' with_reducible first
    | assumption | exact Acts.refl _ | exact hl.mono (by decide) | refine Acts.ite ?_ ?_ | refine Acts.upd ?_ | intro _
    | split

theorem takeSkips_acts {L : Nat} {s x : State} (hl : Sub 11430539477 L) (h : Acts L s x) :
    Acts L s (takeSkips x) := by
  unfold takeSkips
  try dsimp only
  repeat' with_reducible first
    | assumption | exact Acts.refl _ | exact hl.mono (by decide) | apply raise_acts | apply onlyIf_acts
    | refine Acts.ite ?_ ?_ | refine Acts.upd ?_ | intro _ | split

theorem endSplits_acts {L : Nat} {s x : State} {a0} (hl : Sub 4194304 L) (h : Acts L s x) :
    Acts L s (endSplits a0 x) := by
  unfold endSplits
  try dsimp only
  repeat' with_reducible first
    | assumption | exact Acts.refl _ | exact hl.mono (by decide) | refine Acts.ite ?_ ?_ | refine Acts.upd ?_ | intro _
    | split

theorem optFault_acts {L : Nat} {s x : State} {a0 a1 a2} (hl : Sub 11413762261 L) (h : Acts L s x) :
    Acts L s (optFault a0 a1 a2 x) := by
  unfold optFault
  try dsimp only
  repeat' with_reducible first
    | assumption | exact Acts.refl _ | exact hl.mono (by decide) | apply raiseWith_acts | refine Acts.ite ?_ ?_
    | refine Acts.upd ?_ | intro _ | split

theorem missingPhase_acts {L : Nat} {s x : State} {a0} (hl : Sub 11413762261 L) (h : Acts L s x) :
    Acts L s (missingPhase a0 x) := by
  unfold missingPhase
  try dsimp only
  repeat' with_reducible first
    | assumption | exact Acts.refl _ | exact hl.mono (by decide) | apply optFault_acts | apply forEach_acts
    | refine Acts.ite ?_ ?_ | refine Acts.upd ?_ | intro _ | split

theorem modEng_acts {L : Nat} {s x : State} {a0 a1} (hl : Sub 2097152 L) (h : Acts L s x) :
    Acts L s (modEng a0 a1 x) := by
  unfold modEng
  try dsimp only
  repeat' with_reducible first
    | assumption | exact Acts.refl _ | exact hl.mono (by decide) | refine Acts.ite ?_ ?_ | refine Acts.upd ?_ | intro _
    | split

theorem modFib_acts {L : Nat} {s x : State} {a0 a1} (hl : Sub 2097152 L) (h : Acts L s x) :
    Acts L s (modFib a0 a1 x) := by
  unfold modFib
  try dsimp only
  repeat' with_reducible first
    | assumption | exact Acts.refl _ | exact hl.mono (by decide) | refine Acts.ite ?_ ?_ | refine Acts.upd ?_ | intro _
    | split

theorem pauseEngine_acts {L : Nat} {s x : State} {a0} (hl : Sub 2097152 L) (h : Acts L s x) :
    Acts L s (pauseEngine a0 x) := by
  unfold pauseEngine
  try dsimp only
  repeat' with_reducible first
    | assumption | exact Acts.refl _ | exact hl.mono (by decide) | apply modEng_acts | refine Acts.ite ?_ ?_
    | refine Acts.upd ?_ | intro _ | split

theorem openSplit_acts {L : Nat} {s x : State} {a0 a1 a2} (hl : Sub 11413762261 L) (h : Acts L s x) :
    Acts L s (openSplit a0 a1 a2 x) := by
  unfold openSplit
  try dsimp only
  repeat' with_reducible first
    | assumption | exact Acts.refl _ | exact hl.mono (by decide) | apply optFault_acts | apply forEach_acts
    | refine Acts.ite ?_ ?_ | refine Acts.upd ?_ | intro _ | split

theorem applySetting_acts {L : Nat} {s x : State} {a0 a1} (hl : Sub 11415859413 L) (h : Acts L s x) :
    Acts L s (applySetting a0 a1 x) := by
  unfold applySetting
  try dsimp only
  repeat' with_reducible first
    | assumption | exact Acts.refl _ | exact hl.mono (by decide) | apply endSplits_acts | apply missingPhase_acts
    | apply modEng_acts | apply modFib_acts | apply pauseEngine_acts | apply openSplit_acts | apply forEach_acts
    | refine Acts.ite ?_ ?_ | refine Acts.upd ?_ | intro _ | split

theorem baseEngines_acts {L : Nat} {s x : State} (hl : Sub 11415859413 L) (h : Acts L s x) :
    Acts L s (baseEngines x) := by
  unfold baseEngines
  try dsimp only
  repeat' with_reducible first
    | assumption | exact Acts.refl _ | exact hl.mono (by decide) | apply applySetting_acts | apply modEng_acts
    | apply forEach_acts | refine Acts.ite ?_ ?_ | refine Acts.upd ?_ | intro _ | split

theorem endWindow_acts {L : Nat} {s x : State} {a0} (hl : Sub 2097152 L) (h : Acts L s x) :
    Acts L s (endWindow a0 x) := by
  unfold endWindow
  try dsimp only
  repeat' with_reducible first
    | assumption | exact Acts.refl _ | exact hl.mono (by decide) | apply modEng_acts | refine Acts.ite ?_ ?_
    | refine Acts.upd ?_ | intro _ | split

theorem baseFabric_acts {L : Nat} {s x : State} (hl : Sub 11415859413 L) (h : Acts L s x) :
    Acts L s (baseFabric x) := by
  unfold baseFabric
  try dsimp only
  repeat' with_reducible first
    | assumption | exact Acts.refl _ | exact hl.mono (by decide) | apply baseEngines_acts | apply endWindow_acts
    | apply forEach_acts | refine Acts.ite ?_ ?_ | refine Acts.upd ?_ | intro _ | split

theorem computeBound_acts {L : Nat} {s x : State} (hl : Sub 1048576 L) (h : Acts L s x) :
    Acts L s (computeBound x) := by
  unfold computeBound
  try dsimp only
  repeat' with_reducible first
    | assumption | exact Acts.refl _ | exact hl.mono (by decide) | refine Acts.ite ?_ ?_ | refine Acts.upd ?_ | intro _
    | split

theorem refuseLaunches_acts {L : Nat} {s x : State} {a0} (hl : Sub 1048576 L) (h : Acts L s x) :
    Acts L s (refuseLaunches a0 x) := by
  unfold refuseLaunches
  try dsimp only
  repeat' with_reducible first
    | assumption | exact Acts.refl _ | exact hl.mono (by decide) | refine Acts.ite ?_ ?_ | refine Acts.upd ?_ | intro _
    | split

theorem judgeSolo_acts {L : Nat} {s x : State} (hl : Sub 11413762261 L) (h : Acts L s x) :
    Acts L s (judgeSolo x) := by
  unfold judgeSolo
  try dsimp only
  repeat' with_reducible first
    | assumption | exact Acts.refl _ | exact hl.mono (by decide) | apply twinFault_acts | apply refuseLaunches_acts
    | refine Acts.ite ?_ ?_ | refine Acts.upd ?_ | intro _ | split

theorem sendDir_acts {L : Nat} {s x : State} {a0 a1 a2} (hl : Sub 4194304 L) (h : Acts L s x) :
    Acts L s (sendDir a0 a1 a2 x) := by
  unfold sendDir
  try dsimp only
  repeat' with_reducible first
    | assumption | exact Acts.refl _ | exact hl.mono (by decide) | apply enqueue_acts | refine Acts.ite ?_ ?_
    | refine Acts.upd ?_ | intro _ | split

theorem sliceDisagrees_acts {L : Nat} {s x : State} {a0} (hl : Sub 11413762261 L) (h : Acts L s x) :
    Acts L s (sliceDisagrees a0 x) := by
  unfold sliceDisagrees
  try dsimp only
  repeat' with_reducible first
    | assumption | exact Acts.refl _ | exact hl.mono (by decide) | apply raise_acts | apply refuseLaunches_acts
    | refine Acts.ite ?_ ?_ | refine Acts.upd ?_ | intro _ | split

theorem exchangeSlice_acts {L : Nat} {s x : State} (hl : Sub 11413762261 L) (h : Acts L s x) :
    Acts L s (exchangeSlice x) := by
  unfold exchangeSlice
  try dsimp only
  repeat' with_reducible first
    | assumption | exact Acts.refl _ | exact hl.mono (by decide) | apply sendDir_acts | apply sliceDisagrees_acts
    | apply forEach_acts | refine Acts.ite ?_ ?_ | refine Acts.upd ?_ | intro _ | split

theorem sendTime_acts {L : Nat} {s x : State} {a0 a1} (hl : Sub 4194304 L) (h : Acts L s x) :
    Acts L s (sendTime a0 a1 x) := by
  unfold sendTime
  try dsimp only
  repeat' with_reducible first
    | assumption | exact Acts.refl _ | exact hl.mono (by decide) | apply sendDir_acts | refine Acts.ite ?_ ?_
    | refine Acts.upd ?_ | intro _ | split

theorem claimRoot_acts {L : Nat} {s x : State} (hl : Sub 11422150869 L) (h : Acts L s x) :
    Acts L s (claimRoot x) := by
  unfold claimRoot
  try dsimp only
  repeat' with_reducible first
    | assumption | exact Acts.refl _ | exact hl.mono (by decide) | apply raiseWith_acts | apply sendTime_acts
    | apply onlyIf_acts | apply forEach_acts | refine Acts.ite ?_ ?_ | refine Acts.upd ?_ | intro _ | split

theorem claimDesignated_acts {L : Nat} {s x : State} (hl : Sub 11422150869 L) (h : Acts L s x) :
    Acts L s (claimDesignated x) := by
  unfold claimDesignated
  try dsimp only
  repeat' with_reducible first
    | assumption | exact Acts.refl _ | exact hl.mono (by decide) | apply claimRoot_acts | refine Acts.ite ?_ ?_
    | refine Acts.upd ?_ | intro _ | split

theorem sendPairing_acts {L : Nat} {s x : State} (hl : Sub 4194304 L) (h : Acts L s x) :
    Acts L s (sendPairing x) := by
  unfold sendPairing
  try dsimp only
  repeat' with_reducible first
    | assumption | exact Acts.refl _ | exact hl.mono (by decide) | apply sendTwin_acts | apply forEach_acts
    | refine Acts.ite ?_ ?_ | refine Acts.upd ?_ | intro _ | split

theorem startSeason_acts {L : Nat} {s x : State} (hl : Sub 11441025237 L) (h : Acts L s x) :
    Acts L s (startSeason x) := by
  unfold startSeason
  try dsimp only
  repeat' with_reducible first
    | assumption | exact Acts.refl _ | exact hl.mono (by decide) | apply takeEgress_acts | apply takeSkips_acts
    | apply baseFabric_acts | apply computeBound_acts | apply judgeSolo_acts | apply exchangeSlice_acts
    | apply claimDesignated_acts | apply sendPairing_acts | apply onlyIf_acts | refine Acts.ite ?_ ?_
    | refine Acts.upd ?_ | intro _ | split

theorem seasonReset_acts {L : Nat} {s x : State} (hl : Sub 80262197749 L) (h : Acts L s x) :
    Acts L s (seasonReset x) := by
  unfold seasonReset
  try dsimp only
  repeat' with_reducible first
    | assumption | exact Acts.refl _ | exact hl.mono (by decide) | apply retireMarked_acts | apply tearOpen_acts
    | apply seasonTiles_acts | apply loadMicrocode_acts | apply takeValues_acts | apply clearSeason_acts
    | apply startSeason_acts | refine Acts.ite ?_ ?_ | refine Acts.upd ?_ | intro _ | split

theorem askSeason_acts {L : Nat} {s x : State} (hl : Sub 80262197749 L) (h : Acts L s x) :
    Acts L s (askSeason x) := by
  unfold askSeason
  try dsimp only
  repeat' with_reducible first
    | assumption | exact Acts.refl _ | exact hl.mono (by decide) | apply seasonReset_acts | refine Acts.ite ?_ ?_
    | refine Acts.upd ?_ | intro _ | split

theorem trimSplits_acts {L : Nat} {s x : State} (hl : Sub 4194304 L) (h : Acts L s x) :
    Acts L s (trimSplits x) := by
  unfold trimSplits
  try dsimp only
  repeat' with_reducible first
    | assumption | exact Acts.refl _ | exact hl.mono (by decide) | refine Acts.ite ?_ ?_ | refine Acts.upd ?_ | intro _
    | split

theorem ackPhase_acts {L : Nat} {s x : State} {a0 a1} (hl : Sub 4194304 L) (h : Acts L s x) :
    Acts L s (ackPhase a0 a1 x) := by
  unfold ackPhase
  try dsimp only
  repeat' with_reducible first
    | assumption | exact Acts.refl _ | exact hl.mono (by decide) | apply trimSplits_acts | refine Acts.ite ?_ ?_
    | refine Acts.upd ?_ | intro _ | split

theorem takeAck_acts {L : Nat} {s x : State} {a0} (hl : Sub 4194304 L) (h : Acts L s x) :
    Acts L s (takeAck a0 x) := by
  unfold takeAck
  try dsimp only
  repeat' with_reducible first
    | assumption | exact Acts.refl _ | exact hl.mono (by decide) | apply ackPhase_acts | apply modPair_acts
    | refine Acts.ite ?_ ?_ | refine Acts.upd ?_ | intro _ | split

theorem takeCredit_acts {L : Nat} {s x : State} {a0} (hl : Sub 4194304 L) (h : Acts L s x) :
    Acts L s (takeCredit a0 x) := by
  unfold takeCredit
  try dsimp only
  repeat' with_reducible first
    | assumption | exact Acts.refl _ | exact hl.mono (by decide) | apply modPair_acts | refine Acts.ite ?_ ?_
    | refine Acts.upd ?_ | intro _ | split

theorem twinHeard_acts {L : Nat} {s x : State} {a0} (hl : Sub 33554432 L) (h : Acts L s x) :
    Acts L s (twinHeard a0 x) := by
  unfold twinHeard
  try dsimp only
  repeat' with_reducible first
    | assumption | exact Acts.refl _ | exact hl.mono (by decide) | refine Acts.ite ?_ ?_ | refine Acts.upd ?_ | intro _
    | split

theorem wire_acts {L : Nat} {s x : State} {a0} (hl : Sub 4294967296 L) (h : Acts L s x) :
    Acts L s (wire a0 x) := by
  unfold wire
  try dsimp only
  repeat' with_reducible first
    | assumption | exact Acts.refl _ | exact hl.mono (by decide) | refine Acts.ite ?_ ?_ | refine Acts.upd ?_ | intro _
    | split

theorem sendNak_acts {L : Nat} {s x : State} {a0} (hl : Sub 4299161600 L) (h : Acts L s x) :
    Acts L s (sendNak a0 x) := by
  unfold sendNak
  try dsimp only
  repeat' with_reducible first
    | assumption | exact Acts.refl _ | exact hl.mono (by decide) | apply wire_acts | apply modPair_acts
    | refine Acts.ite ?_ ?_ | refine Acts.upd ?_ | intro _ | split

theorem takeSeq_acts {L : Nat} {s x : State} {a0 a1} (hl : Sub 4332716032 L) (h : Acts L s x) (hf : ∀ b0 y, Acts L s y → Acts L s (a1 b0 y)) :
    Acts L s (takeSeq a0 a1 x) := by
  unfold takeSeq
  try dsimp only
  repeat' with_reducible first
    | assumption | exact Acts.refl _ | exact hl.mono (by decide) | apply takeAck_acts | apply takeCredit_acts
    | apply twinHeard_acts | apply modPair_acts | apply sendNak_acts | apply hf | refine Acts.ite ?_ ?_
    | refine Acts.upd ?_ | intro _ | split

theorem packetFault_acts {L : Nat} {s x : State} {a0 a1} (hl : Sub 11413762261 L) (h : Acts L s x) :
    Acts L s (packetFault a0 a1 x) := by
  unfold packetFault
  try dsimp only
  repeat' with_reducible first
    | assumption | exact Acts.refl _ | exact hl.mono (by decide) | apply raiseWith_acts | refine Acts.ite ?_ ?_
    | refine Acts.upd ?_ | intro _ | split

theorem strayPayload_acts {L : Nat} {s x y : State} {a0 a1} (hl : Sub 11413762261 L) (h : Acts L s x)
    (e : strayPayload a0 a1 x = some y) : Acts L s y := by
  unfold strayPayload at e
  try dsimp only at e
  repeat' split at e
  all_goals first
    | (cases e; done)
    | (cases e
       repeat' with_reducible first
         | assumption | exact Acts.refl _ | exact hl.mono (by decide) | apply packetFault_acts | apply raise_acts
         | refine Acts.ite ?_ ?_ | refine Acts.upd ?_ | intro _ | split)

theorem execDataFlit_acts {L : Nat} {x t : State} {a0 a1 a2} (hl : Sub 15742283989 L) (e : execDataFlit a0 a1 a2 x = .next t) :
    Acts L x t := by
  unfold execDataFlit at e
  cases e
  try dsimp only
  repeat' with_reducible first
    | assumption | exact Acts.refl _ | exact hl.mono (by decide) | apply takeSeq_acts | apply modPair_acts
    | refine strayPayload_acts ?_ ?_ (by assumption) | apply freeSlot_acts | refine Acts.ite ?_ ?_ | refine Acts.upd ?_
    | intro _ | split

theorem leaveStep7_acts {L : Nat} {s x : State} (hl : Sub 8388704 L) (h : Acts L s x) :
    Acts L s (leaveStep7 x) := by
  unfold leaveStep7
  try dsimp only
  repeat' with_reducible first
    | assumption | exact Acts.refl _ | exact hl.mono (by decide) | refine Acts.ite ?_ ?_ | refine Acts.upd ?_ | intro _
    | split

theorem parkPair_acts {L : Nat} {s x : State} {a0 a1 a2} (hl : Sub 11413762261 L) (h : Acts L s x) :
    Acts L s (parkPair a0 a1 a2 x) := by
  unfold parkPair
  try dsimp only
  repeat' with_reducible first
    | assumption | exact Acts.refl _ | exact hl.mono (by decide) | apply raiseWith_acts | apply modPair_acts
    | refine Acts.ite ?_ ?_ | refine Acts.upd ?_ | intro _ | split

theorem newEpoch_acts {L : Nat} {s x : State} {a0 a1} (hl : Sub 4194304 L) (h : Acts L s x) :
    Acts L s (newEpoch a0 a1 x) := by
  unfold newEpoch
  try dsimp only
  repeat' with_reducible first
    | assumption | exact Acts.refl _ | exact hl.mono (by decide) | apply modPair_acts | refine Acts.ite ?_ ?_
    | refine Acts.upd ?_ | intro _ | split

theorem tokenResolve_acts {L : Nat} {s x : State} {a0 a1 a2} (hl : Sub 131072 L) (h : Acts L s x) :
    Acts L s (tokenResolve a0 a1 a2 x) := by
  unfold tokenResolve
  try dsimp only
  repeat' with_reducible first
    | assumption | exact Acts.refl _ | exact hl.mono (by decide) | apply modTile_acts | refine Acts.ite ?_ ?_
    | refine Acts.upd ?_ | intro _ | split

theorem reqToken_acts {L : Nat} {s x : State} {a0 a1} (hl : Sub 131072 L) (h : Acts L s x) :
    Acts L s (reqToken a0 a1 x) := by
  unfold reqToken
  try dsimp only
  repeat' with_reducible first
    | assumption | exact Acts.refl _ | exact hl.mono (by decide) | apply tokenResolve_acts | refine Acts.ite ?_ ?_
    | refine Acts.upd ?_ | intro _ | split

theorem countUndelivered_acts {L : Nat} {s x : State} {a0} (hl : Sub 131072 L) (h : Acts L s x) :
    Acts L s (countUndelivered a0 x) := by
  unfold countUndelivered
  try dsimp only
  repeat' with_reducible first
    | assumption | exact Acts.refl _ | exact hl.mono (by decide) | apply modTile_acts | refine Acts.ite ?_ ?_
    | refine Acts.upd ?_ | intro _ | split

theorem setReq_acts {L : Nat} {s x : State} {a0 a1} (hl : Sub 16777216 L) (h : Acts L s x) :
    Acts L s (setReq a0 a1 x) := by
  unfold setReq
  try dsimp only
  repeat' with_reducible first
    | assumption | exact Acts.refl _ | exact hl.mono (by decide) | refine Acts.ite ?_ ?_ | refine Acts.upd ?_ | intro _
    | split

theorem failPiece_acts {L : Nat} {s x : State} {a0 a1 a2 a3} (hl : Sub 131072 L) (h : Acts L s x) :
    Acts L s (failPiece a0 a1 a2 a3 x) := by
  unfold failPiece
  try dsimp only
  repeat' with_reducible first
    | assumption | exact Acts.refl _ | exact hl.mono (by decide) | apply modXfer_acts | refine Acts.ite ?_ ?_
    | refine Acts.upd ?_ | intro _ | split

theorem modFence_acts {L : Nat} {s x : State} {a0 a1 a2} (hl : Sub 131072 L) (h : Acts L s x) :
    Acts L s (modFence a0 a1 a2 x) := by
  unfold modFence
  try dsimp only
  repeat' with_reducible first
    | assumption | exact Acts.refl _ | exact hl.mono (by decide) | apply modTile_acts | refine Acts.ite ?_ ?_
    | refine Acts.upd ?_ | intro _ | split

theorem resolveLost_acts {L : Nat} {s x : State} {a0 a1} (hl : Sub 11430670549 L) (h : Acts L s x) :
    Acts L s (resolveLost a0 a1 x) := by
  unfold resolveLost
  try dsimp only
  repeat' with_reducible first
    | assumption | exact Acts.refl _ | exact hl.mono (by decide) | apply raiseWith_acts | apply reqToken_acts
    | apply countUndelivered_acts | apply setReq_acts | apply failPiece_acts | apply modFence_acts | apply onlyIf_acts
    | refine Acts.ite ?_ ?_ | refine Acts.upd ?_ | intro _ | split

theorem lateResponse_acts {L : Nat} {s x : State} {a0} (hl : Sub 11413762261 L) (h : Acts L s x) :
    Acts L s (lateResponse a0 x) := by
  unfold lateResponse
  try dsimp only
  repeat' with_reducible first
    | assumption | exact Acts.refl _ | exact hl.mono (by decide) | apply packetFault_acts | apply bump_acts
    | refine Acts.ite ?_ ?_ | refine Acts.upd ?_ | intro _ | split

theorem takeUndeliverable_acts {L : Nat} {s x : State} {a0} (hl : Sub 11430670549 L) (h : Acts L s x) :
    Acts L s (takeUndeliverable a0 x) := by
  unfold takeUndeliverable
  try dsimp only
  repeat' with_reducible first
    | assumption | exact Acts.refl _ | exact hl.mono (by decide) | apply bump_acts | apply resolveLost_acts
    | apply lateResponse_acts | refine Acts.ite ?_ ?_ | refine Acts.upd ?_ | intro _ | split

theorem queuePacket_acts {L : Nat} {s x : State} {a0 a1 a2 a3} (hl : Sub 4194304 L) (h : Acts L s x) :
    Acts L s (queuePacket a0 a1 a2 a3 x) := by
  unfold queuePacket
  try dsimp only
  repeat' with_reducible first
    | assumption | exact Acts.refl _ | exact hl.mono (by decide) | apply modPair_acts | refine Acts.ite ?_ ?_
    | refine Acts.upd ?_ | intro _ | split

theorem sendPacketGo_acts {L : Nat} {s x : State} {a0 a1 a2} (hl : Sub 11413762261 L) (h : Acts L s x) :
    Acts L s (sendPacketGo a0 a1 a2 x) := by
  induction a0 generalizing a1 a2 x with
  | zero => exact h
  | succ k ih =>
    unfold sendPacketGo
    try dsimp only
    repeat' with_reducible first
      | apply ih | assumption | exact Acts.refl _ | exact hl.mono (by decide) | apply queuePacket_acts
      | apply packetFault_acts | refine Acts.ite ?_ ?_ | refine Acts.upd ?_ | intro _ | split

theorem sendPacket_acts {L : Nat} {s x : State} {a0} (hl : Sub 11413762261 L) (h : Acts L s x) :
    Acts L s (sendPacket a0 x) := by
  unfold sendPacket
  try dsimp only
  repeat' with_reducible first
    | assumption | exact Acts.refl _ | exact hl.mono (by decide) | apply sendPacketGo_acts | refine Acts.ite ?_ ?_
    | refine Acts.upd ?_ | intro _ | split

theorem giveUpPacket_acts {L : Nat} {s x : State} {a0} (hl : Sub 11430670549 L) (h : Acts L s x) :
    Acts L s (giveUpPacket a0 x) := by
  unfold giveUpPacket
  try dsimp only
  repeat' with_reducible first
    | assumption | exact Acts.refl _ | exact hl.mono (by decide) | apply takeUndeliverable_acts | apply sendPacket_acts
    | refine Acts.ite ?_ ?_ | refine Acts.upd ?_ | intro _ | split

theorem giveUp_acts {L : Nat} {s x : State} {a0} (hl : Sub 11430670549 L) (h : Acts L s x) :
    Acts L s (giveUp a0 x) := by
  unfold giveUp
  try dsimp only
  repeat' with_reducible first
    | assumption | exact Acts.refl _ | exact hl.mono (by decide) | apply giveUpPacket_acts | refine Acts.ite ?_ ?_
    | refine Acts.upd ?_ | intro _ | split

theorem closeEpoch_acts {L : Nat} {s x : State} {a0} (hl : Sub 11497779413 L) (h : Acts L s x) :
    Acts L s (closeEpoch a0 x) := by
  unfold closeEpoch
  try dsimp only
  repeat' with_reducible first
    | assumption | exact Acts.refl _ | exact hl.mono (by decide) | apply tearPages_acts | apply raiseWith_acts
    | apply bump_acts | apply giveUp_acts | apply forEach_acts | refine Acts.ite ?_ ?_ | refine Acts.upd ?_ | intro _
    | split

theorem trained_acts {L : Nat} {s x : State} {a0 a1 a2 a3} (hl : Sub 15834689781 L) (h : Acts L s x) :
    Acts L s (trained a0 a1 a2 a3 x) := by
  unfold trained
  try dsimp only
  repeat' with_reducible first
    | assumption | exact Acts.refl _ | exact hl.mono (by decide) | apply newEpoch_acts | apply closeEpoch_acts
    | apply modPair_acts | apply wire_acts | apply sendPairing_acts | apply leaveStep7_acts | refine Acts.ite ?_ ?_
    | refine Acts.upd ?_ | intro _ | split

theorem judgeTrain_acts {L : Nat} {s x : State} {a0 a1} (hl : Sub 15834689781 L) (h : Acts L s x) :
    Acts L s (judgeTrain a0 a1 x) := by
  unfold judgeTrain
  try dsimp only
  repeat' with_reducible first
    | assumption | exact Acts.refl _ | exact hl.mono (by decide) | apply leaveStep7_acts | apply parkPair_acts
    | apply raiseWith_acts | apply trained_acts | apply onlyIf_acts | refine Acts.ite ?_ ?_ | refine Acts.upd ?_
    | intro _ | split

theorem corrected_acts {L : Nat} {s x : State} {a0 a1 a2} (hl : Sub 11274293376 L) (h : Acts L s x) :
    Acts L s (corrected a0 a1 a2 x) := by
  unfold corrected
  try dsimp only
  repeat' with_reducible first
    | assumption | exact Acts.refl _ | exact hl.mono (by decide) | apply correctedWith_acts | refine Acts.ite ?_ ?_
    | refine Acts.upd ?_ | intro _ | split

theorem execPcieCorrectableError_acts {L : Nat} {x t : State} (hl : Sub 11274293376 L) (e : execPcieCorrectableError x = .next t) :
    Acts L x t := by
  unfold execPcieCorrectableError at e
  cases e
  try dsimp only
  repeat' with_reducible first
    | assumption | exact Acts.refl _ | exact hl.mono (by decide) | apply corrected_acts | apply bump_acts
    | refine Acts.ite ?_ ?_ | refine Acts.upd ?_ | intro _ | split

theorem execPenaltySave_acts {L : Nat} {x t : State} (hl : Sub 11274301588 L) (e : execPenaltySave x = .next t) :
    Acts L x t := by
  unfold execPenaltySave at e
  cases e
  try dsimp only
  repeat' with_reducible first
    | assumption | exact Acts.refl _ | exact hl.mono (by decide) | apply journalPut_acts | refine Acts.ite ?_ ?_
    | refine Acts.upd ?_ | intro _ | split

theorem noteUnstable_acts {L : Nat} {s x : State} (hl : Sub 134217728 L) (h : Acts L s x) :
    Acts L s (noteUnstable x) := by
  unfold noteUnstable
  try dsimp only
  repeat' with_reducible first
    | assumption | exact Acts.refl _ | exact hl.mono (by decide) | refine Acts.ite ?_ ?_ | refine Acts.upd ?_ | intro _
    | split

theorem respondWith_acts {L : Nat} {s x : State} {a0 a1 a2 a3} (hl : Sub 17179869184 L) (h : Acts L s x) :
    Acts L s (respondWith a0 a1 a2 a3 x) := by
  unfold respondWith
  try dsimp only
  repeat' with_reducible first
    | assumption | exact Acts.refl _ | exact hl.mono (by decide) | refine Acts.ite ?_ ?_ | refine Acts.upd ?_ | intro _
    | split

theorem respond_acts {L : Nat} {s x : State} {a0 a1 a2} (hl : Sub 17179869184 L) (h : Acts L s x) :
    Acts L s (respond a0 a1 a2 x) := by
  unfold respond
  try dsimp only
  repeat' with_reducible first
    | assumption | exact Acts.refl _ | exact hl.mono (by decide) | apply respondWith_acts | refine Acts.ite ?_ ?_
    | refine Acts.upd ?_ | intro _ | split

theorem malformed_acts {L : Nat} {s x : State} {a0} (hl : Sub 28593631445 L) (h : Acts L s x) :
    Acts L s (malformed a0 x) := by
  unfold malformed
  try dsimp only
  repeat' with_reducible first
    | assumption | exact Acts.refl _ | exact hl.mono (by decide) | apply respond_acts | apply raise_acts
    | apply bump_acts | refine Acts.ite ?_ ?_ | refine Acts.upd ?_ | intro _ | split

theorem serveOp_acts {L : Nat} {s x : State} {a0 a1 a2} (hl : Sub 28593631445 L) (h : Acts L s x) (hf : ∀ b0 y, Acts L s y → Acts L s (a2 b0 y)) :
    Acts L s (serveOp a0 a1 a2 x) := by
  unfold serveOp
  try dsimp only
  repeat' with_reducible first
    | assumption | exact Acts.refl _ | exact hl.mono (by decide) | apply malformed_acts | apply respond_acts | apply hf
    | refine Acts.ite ?_ ?_ | refine Acts.upd ?_ | intro _ | split

theorem sessionEvent_acts {L : Nat} {s x : State} {a0} (hl : Sub 9126809728 L) (h : Acts L s x) :
    Acts L s (sessionEvent a0 x) := by
  unfold sessionEvent
  try dsimp only
  repeat' with_reducible first
    | assumption | exact Acts.refl _ | exact hl.mono (by decide) | apply postEvent_acts | refine Acts.ite ?_ ?_
    | refine Acts.upd ?_ | intro _ | split

theorem openSession_acts {L : Nat} {s x : State} {a0} (hl : Sub 9126810240 L) (h : Acts L s x) :
    Acts L s (openSession a0 x) := by
  unfold openSession
  try dsimp only
  repeat' with_reducible first
    | assumption | exact Acts.refl _ | exact hl.mono (by decide) | apply sessionEvent_acts | refine Acts.ite ?_ ?_
    | refine Acts.upd ?_ | intro _ | split

theorem dropSession_acts {L : Nat} {s x : State} {a0} (hl : Sub 512 L) (h : Acts L s x) :
    Acts L s (dropSession a0 x) := by
  unfold dropSession
  try dsimp only
  repeat' with_reducible first
    | assumption | exact Acts.refl _ | exact hl.mono (by decide) | refine Acts.ite ?_ ?_ | refine Acts.upd ?_ | intro _
    | split

theorem proofFailed_acts {L : Nat} {s x : State} {a0 a1 a2} (hl : Sub 11413762773 L) (h : Acts L s x) :
    Acts L s (proofFailed a0 a1 a2 x) := by
  unfold proofFailed
  try dsimp only
  repeat' with_reducible first
    | assumption | exact Acts.refl _ | exact hl.mono (by decide) | apply raiseWith_acts | apply bump_acts
    | apply dropSession_acts | apply raise_acts | refine Acts.ite ?_ ?_ | refine Acts.upd ?_ | intro _ | split

theorem odProve_acts {L : Nat} {s x : State} {a0 a1 a2} (hl : Sub 28593631957 L) (h : Acts L s x) :
    Acts L s (odProve a0 a1 a2 x) := by
  unfold odProve
  try dsimp only
  repeat' with_reducible first
    | assumption | exact Acts.refl _ | exact hl.mono (by decide) | apply serveOp_acts | apply respond_acts
    | apply openSession_acts | apply proofFailed_acts | refine Acts.ite ?_ ?_ | refine Acts.upd ?_ | intro _ | split

theorem execProve_acts {L : Nat} {x t : State} {a0 a1 a2} (hl : Sub 28593631957 L) (e : execProve a0 a1 a2 x = .next t) :
    Acts L x t := by
  unfold execProve at e
  cases e
  try dsimp only
  repeat' with_reducible first
    | assumption | exact Acts.refl _ | exact hl.mono (by decide) | apply odProve_acts | refine Acts.ite ?_ ?_
    | refine Acts.upd ?_ | intro _ | split

theorem modLine_acts {L : Nat} {s x : State} {a0 a1} (hl : Sub 2097152 L) (h : Acts L s x) :
    Acts L s (modLine a0 a1 x) := by
  unfold modLine
  try dsimp only
  repeat' with_reducible first
    | assumption | exact Acts.refl _ | exact hl.mono (by decide) | refine Acts.ite ?_ ?_ | refine Acts.upd ?_ | intro _
    | split

theorem loadBaselines_acts {L : Nat} {s x : State} {a0} (hl : Sub 2097152 L) (h : Acts L s x) :
    Acts L s (loadBaselines a0 x) := by
  unfold loadBaselines
  try dsimp only
  repeat' with_reducible first
    | assumption | exact Acts.refl _ | exact hl.mono (by decide) | apply modLine_acts | apply modEng_acts
    | apply modFib_acts | apply forEach_acts | refine Acts.ite ?_ ?_ | refine Acts.upd ?_ | intro _ | split

theorem emitSeq_acts {L : Nat} {s x : State} {a0 a1 a2 a3} (hl : Sub 4299161600 L) (h : Acts L s x) :
    Acts L s (emitSeq a0 a1 a2 a3 x) := by
  unfold emitSeq
  try dsimp only
  repeat' with_reducible first
    | assumption | exact Acts.refl _ | exact hl.mono (by decide) | apply wire_acts | apply modPair_acts
    | refine Acts.ite ?_ ?_ | refine Acts.upd ?_ | intro _ | split

theorem sendFirst_acts {L : Nat} {s x : State} {a0 a1 a2} (hl : Sub 4299161600 L) (h : Acts L s x) :
    Acts L s (sendFirst a0 a1 a2 x) := by
  unfold sendFirst
  try dsimp only
  repeat' with_reducible first
    | assumption | exact Acts.refl _ | exact hl.mono (by decide) | apply modPair_acts | apply emitSeq_acts
    | refine Acts.ite ?_ ?_ | refine Acts.upd ?_ | intro _ | split

theorem sendNew_acts {L : Nat} {s x y : State} {a0 a1} (hl : Sub 4299161600 L) (h : Acts L s x)
    (e : sendNew a0 a1 x = some y) : Acts L s y := by
  unfold sendNew at e
  try dsimp only at e
  repeat' split at e
  all_goals first
    | (cases e; done)
    | (cases e
       repeat' with_reducible first
         | assumption | exact Acts.refl _ | exact hl.mono (by decide) | apply sendFirst_acts | apply modPair_acts
         | refine Acts.ite ?_ ?_ | refine Acts.upd ?_ | intro _ | split)

theorem recordBaseline_acts {L : Nat} {s x : State} {a0 a1 a2} (hl : Sub 11276398740 L) (h : Acts L s x) :
    Acts L s (recordBaseline a0 a1 a2 x) := by
  unfold recordBaseline
  try dsimp only
  repeat' with_reducible first
    | assumption | exact Acts.refl _ | exact hl.mono (by decide) | apply modLine_acts | apply modFib_acts
    | apply modEng_acts | apply journalPut_acts | apply forEach_acts | refine Acts.ite ?_ ?_ | refine Acts.upd ?_
    | intro _ | split

theorem commissionInputs_acts {L : Nat} {s x : State} {a0} (hl : Sub 11276398740 L) (h : Acts L s x) :
    Acts L s (commissionInputs a0 x) := by
  unfold commissionInputs
  try dsimp only
  repeat' with_reducible first
    | assumption | exact Acts.refl _ | exact hl.mono (by decide) | apply recordBaseline_acts | apply forEach_acts
    | refine Acts.ite ?_ ?_ | refine Acts.upd ?_ | intro _ | split

theorem loadArrays_acts {L : Nat} {s x : State} (hl : Sub 524288 L) (h : Acts L s x) :
    Acts L s (loadArrays x) := by
  unfold loadArrays
  try dsimp only
  repeat' with_reducible first
    | assumption | exact Acts.refl _ | exact hl.mono (by decide) | apply modArr_acts | apply forEach_acts
    | refine Acts.ite ?_ ?_ | refine Acts.upd ?_ | intro _ | split

theorem leaveStep4_acts {L : Nat} {s x : State} (hl : Sub 11414352085 L) (h : Acts L s x) :
    Acts L s (leaveStep4 x) := by
  unfold leaveStep4
  try dsimp only
  repeat' with_reducible first
    | assumption | exact Acts.refl _ | exact hl.mono (by decide) | apply loadArrays_acts | apply retireSegments_acts
    | refine Acts.ite ?_ ?_ | refine Acts.upd ?_ | intro _ | split

theorem answerFence_acts {L : Nat} {s x : State} {a0 a1 a2} (hl : Sub 16908288 L) (h : Acts L s x) :
    Acts L s (answerFence a0 a1 a2 x) := by
  unfold answerFence
  try dsimp only
  repeat' with_reducible first
    | assumption | exact Acts.refl _ | exact hl.mono (by decide) | apply setReq_acts | apply modFence_acts
    | apply reqToken_acts | refine Acts.ite ?_ ?_ | refine Acts.upd ?_ | intro _ | split

theorem setFar_acts {L : Nat} {s x : State} {a0 a1 a2} (hl : Sub 65536 L) (h : Acts L s x) :
    Acts L s (setFar a0 a1 a2 x) := by
  unfold setFar
  try dsimp only
  repeat' with_reducible first
    | assumption | exact Acts.refl _ | exact hl.mono (by decide) | refine Acts.ite ?_ ?_ | refine Acts.upd ?_ | intro _
    | split

theorem placeFar_acts {L : Nat} {s x : State} {a0 a1 a2} (hl : Sub 68719542272 L) (h : Acts L s x) :
    Acts L s (placeFar a0 a1 a2 x) := by
  unfold placeFar
  try dsimp only
  repeat' with_reducible first
    | assumption | exact Acts.refl _ | exact hl.mono (by decide) | apply setFar_acts | apply evictFar_acts
    | apply onlyIf_acts | refine Acts.ite ?_ ?_ | refine Acts.upd ?_ | intro _ | split

theorem answerReq_acts {L : Nat} {s x : State} {a0 a1 a2} (hl : Sub 16908288 L) (h : Acts L s x) :
    Acts L s (answerReq a0 a1 a2 x) := by
  unfold answerReq
  try dsimp only
  repeat' with_reducible first
    | assumption | exact Acts.refl _ | exact hl.mono (by decide) | apply setReq_acts | apply reqToken_acts
    | refine Acts.ite ?_ ?_ | refine Acts.upd ?_ | intro _ | split

theorem takeLoadData_acts {L : Nat} {s x : State} {a0 a1 a2} (hl : Sub 68736450560 L) (h : Acts L s x) :
    Acts L s (takeLoadData a0 a1 a2 x) := by
  unfold takeLoadData
  try dsimp only
  repeat' with_reducible first
    | assumption | exact Acts.refl _ | exact hl.mono (by decide) | apply answerFence_acts | apply placeFar_acts
    | apply answerReq_acts | apply onlyIf_acts | refine Acts.ite ?_ ?_ | refine Acts.upd ?_ | intro _ | split

theorem answer_acts {L : Nat} {s x : State} {a0 a1 a2 a3 a4 a5 a6} (hl : Sub 11408511104 L) (h : Acts L s x) :
    Acts L s (answer a0 a1 a2 a3 a4 a5 a6 x) := by
  exact pushRecord_acts (hl.mono (by decide)) (h.updBy ⟨rfl, rfl, rfl, id, fun b => ⟨b.1, b.2, b.3, b.4, b.5, b.6, List.length_take_le _ _⟩, fun b => ⟨b.1, b.2, b.3⟩⟩)

theorem submit_acts {L : Nat} {s x : State} {a0 a1 a2 a3 a4} (hl : Sub 11408511104 L) (h : Acts L s x) (hf : ∀ b0 y, Acts L s y → Acts L s (a4 b0 y)) :
    Acts L s (submit a0 a1 a2 a3 a4 x) := by
  unfold submit
  try dsimp only
  repeat' with_reducible first
    | assumption | exact Acts.refl _ | exact hl.mono (by decide) | apply bump_acts | apply modRing_acts
    | apply pushRecord_acts | apply logWith_acts | apply answer_acts | apply hf | refine Acts.ite ?_ ?_
    | refine Acts.upd ?_ | intro _ | split

theorem holdCmd_acts {L : Nat} {s x : State} {a0} (hl : Sub 134217728 L) (h : Acts L s x) :
    Acts L s (holdCmd a0 x) := by
  unfold holdCmd
  try dsimp only
  repeat' with_reducible first
    | assumption | exact Acts.refl _ | exact hl.mono (by decide) | refine Acts.ite ?_ ?_ | refine Acts.upd ?_ | intro _
    | split

theorem abortRead_acts {L : Nat} {s x : State} {a0 a1 a2 a3} (hl : Sub 134217728 L) (h : Acts L s x) :
    Acts L s (abortRead a0 a1 a2 a3 x) := by
  unfold abortRead
  try dsimp only
  repeat' with_reducible first
    | assumption | exact Acts.refl _ | exact hl.mono (by decide) | apply holdCmd_acts | refine Acts.ite ?_ ?_
    | refine Acts.upd ?_ | intro _ | split

theorem execAbortCommand_acts {L : Nat} {x t : State} {a0 a1} (hl : Sub 11408511104 L) (e : execAbortCommand a0 a1 x = .next t) :
    Acts L x t := by
  unfold execAbortCommand at e
  cases e
  try dsimp only
  repeat' with_reducible first
    | assumption | exact Acts.refl _ | exact hl.mono (by decide) | apply submit_acts | apply abortRead_acts
    | refine Acts.ite ?_ ?_ | refine Acts.upd ?_ | intro _ | split

theorem modChan_acts {L : Nat} {s x : State} {a0 a1} (hl : Sub 65536 L) (h : Acts L s x) :
    Acts L s (modChan a0 a1 x) := by
  unfold modChan
  try dsimp only
  repeat' with_reducible first
    | assumption | exact Acts.refl _ | exact hl.mono (by decide) | refine Acts.ite ?_ ?_ | refine Acts.upd ?_ | intro _
    | split

theorem startProtect_acts {L : Nat} {s x : State} (hl : Sub 11447316693 L) (h : Acts L s x) :
    Acts L s (startProtect x) := by
  unfold startProtect
  try dsimp only
  repeat' with_reducible first
    | assumption | exact Acts.refl _ | exact hl.mono (by decide) | apply phaseDone_acts | refine Acts.ite ?_ ?_
    | refine Acts.upd ?_ | intro _ | split

theorem startRestore_acts {L : Nat} {s x : State} (hl : Sub 11447316693 L) (h : Acts L s x) :
    Acts L s (startRestore x) := by
  unfold startRestore
  try dsimp only
  repeat' with_reducible first
    | assumption | exact Acts.refl _ | exact hl.mono (by decide) | apply startProtect_acts | apply phaseDone_acts
    | refine Acts.ite ?_ ?_ | refine Acts.upd ?_ | intro _ | split

theorem copyWord_acts {L : Nat} {s x : State} {a0 a1 a2} (hl : Sub 11274358912 L) (h : Acts L s x) :
    Acts L s (copyWord a0 a1 a2 x) := by
  unfold copyWord
  try dsimp only
  repeat' with_reducible first
    | assumption | exact Acts.refl _ | exact hl.mono (by decide) | apply corrected_acts | apply bump_acts
    | apply modChan_acts | apply setPoison_acts | refine Acts.ite ?_ ?_ | refine Acts.upd ?_ | intro _ | split

theorem cacheCorrected_acts {L : Nat} {s x : State} {a0} (hl : Sub 11413762261 L) (h : Acts L s x) :
    Acts L s (cacheCorrected a0 x) := by
  unfold cacheCorrected
  try dsimp only
  repeat' with_reducible first
    | assumption | exact Acts.refl _ | exact hl.mono (by decide) | apply raise_acts | apply bump_acts
    | refine Acts.ite ?_ ?_ | refine Acts.upd ?_ | intro _ | split

theorem wordFound_acts {L : Nat} {s x : State} {a0 a1} (hl : Sub 11274358912 L) (h : Acts L s x) :
    Acts L s (wordFound a0 a1 x).2 := by
  unfold wordFound
  try dsimp only
  repeat' with_reducible first
    | assumption | exact Acts.refl _ | exact hl.mono (by decide) | apply corrected_acts | apply bump_acts
    | apply modChan_acts | apply setPoison_acts | refine Acts.ite ?_ ?_ | refine Acts.upd ?_ | intro _ | split

theorem remapRow_acts {L : Nat} {s x : State} {a0 a1} (hl : Sub 11274367124 L) (h : Acts L s x) :
    Acts L s (remapRow a0 a1 x) := by
  unfold remapRow
  try dsimp only
  repeat' with_reducible first
    | assumption | exact Acts.refl _ | exact hl.mono (by decide) | apply journalPut_acts | refine Acts.ite ?_ ?_
    | refine Acts.upd ?_ | intro _ | split

theorem markSegment_acts {L : Nat} {s x : State} {a0} (hl : Sub 11413827797 L) (h : Acts L s x) :
    Acts L s (markSegment a0 x) := by
  unfold markSegment
  try dsimp only
  repeat' with_reducible first
    | assumption | exact Acts.refl _ | exact hl.mono (by decide) | apply raise_acts | refine Acts.ite ?_ ?_
    | refine Acts.upd ?_ | intro _ | split

theorem rowFailure_acts {L : Nat} {s x : State} {a0 a1} (hl : Sub 11413827797 L) (h : Acts L s x) :
    Acts L s (rowFailure a0 a1 x) := by
  unfold rowFailure
  try dsimp only
  repeat' with_reducible first
    | assumption | exact Acts.refl _ | exact hl.mono (by decide) | apply remapRow_acts | apply raise_acts
    | apply markSegment_acts | refine Acts.ite ?_ ?_ | refine Acts.upd ?_ | intro _ | split

theorem lineWords_acts {L : Nat} {s x : State} {a0 a1} (hl : Sub 11413827797 L) (h : Acts L s x) :
    Acts L s (lineWords a0 a1 x) := by
  unfold lineWords
  try dsimp only
  repeat' with_reducible first
    | assumption | exact Acts.refl _ | exact hl.mono (by decide) | apply wordFound_acts | apply rowFailure_acts
    | apply onlyIf_acts | refine Acts.ite ?_ ?_ | refine Acts.upd ?_
    | refine Acts.pair (by assumption) (wordFound_acts ?_ ?_) | intro _ | split

theorem takeSlot_acts {L : Nat} {s x : State} {a0 a1} (hl : Sub 2147549184 L) (h : Acts L s x) :
    Acts L s (takeSlot a0 a1 x) := by
  unfold takeSlot
  try dsimp only
  repeat' with_reducible first
    | assumption | exact Acts.refl _ | exact hl.mono (by decide) | apply bump_acts | apply modChan_acts
    | apply onlyIf_acts | refine Acts.ite ?_ ?_ | refine Acts.upd ?_ | intro _ | split

theorem writeBack_acts {L : Nat} {s x : State} {a0} (hl : Sub 2147549184 L) (h : Acts L s x) :
    Acts L s (writeBack a0 x) := by
  unfold writeBack
  try dsimp only
  repeat' with_reducible first
    | assumption | exact Acts.refl _ | exact hl.mono (by decide) | apply setDirty_acts | apply takeSlot_acts
    | refine Acts.ite ?_ ?_ | refine Acts.upd ?_ | intro _ | split

theorem channelRead_acts {L : Nat} {s x : State} {a0 a1 a2} (hl : Sub 11413827797 L) (h : Acts L s x) :
    Acts L s (channelRead a0 a1 a2 x) := by
  unfold channelRead
  try dsimp only
  repeat' with_reducible first
    | assumption | exact Acts.refl _ | exact hl.mono (by decide) | apply lineWords_acts | apply takeSlot_acts
    | apply writeBack_acts | refine Acts.ite ?_ ?_ | refine Acts.upd ?_ | intro _ | split

theorem lineFound_acts {L : Nat} {s x : State} {a0 a1 a2} (hl : Sub 11413827797 L) (h : Acts L s x) :
    Acts L s (lineFound a0 a1 a2 x) := by
  unfold lineFound
  try dsimp only
  repeat' with_reducible first
    | assumption | exact Acts.refl _ | exact hl.mono (by decide) | apply cacheCorrected_acts | apply channelRead_acts
    | apply raise_acts | apply setPoison_acts | refine Acts.ite ?_ ?_ | refine Acts.upd ?_ | intro _ | split

theorem storeWriteMasked_acts {L : Nat} {s x : State} {a0 a1} (hl : Sub 32768 L) (h : Acts L s x) :
    Acts L s (storeWriteMasked a0 a1 x) := by
  induction a1 generalizing a0 x with
  | nil => exact h
  | cons y l ih =>
    unfold storeWriteMasked
    try dsimp only
    repeat' with_reducible first
      | apply ih | assumption | exact Acts.refl _ | exact hl.mono (by decide) | apply storeSetByte_acts
      | refine Acts.ite ?_ ?_ | refine Acts.upd ?_ | intro _ | split

theorem unstallKeep_acts {L : Nat} {s x : State} (hl : Sub 2181038080 L) (h : Acts L s x) :
    Acts L s (unstallKeep x) := by
  unfold unstallKeep
  try dsimp only
  repeat' with_reducible first
    | assumption | exact Acts.refl _ | exact hl.mono (by decide) | apply bump_acts | refine Acts.ite ?_ ?_
    | refine Acts.upd ?_ | intro _ | split

theorem mirrorLine_acts {L : Nat} {s x : State} {a0 a1} (hl : Sub 2185232384 L) (h : Acts L s x) :
    Acts L s (mirrorLine a0 a1 x) := by
  unfold mirrorLine
  try dsimp only
  repeat' with_reducible first
    | assumption | exact Acts.refl _ | exact hl.mono (by decide) | apply bump_acts | apply enqueueTwin_acts
    | apply unstallKeep_acts | refine Acts.ite ?_ ?_ | refine Acts.upd ?_ | intro _ | split

theorem homeWrite_acts {L : Nat} {s x : State} {a0 a1 a2 a3} (hl : Sub 11447414997 L) (h : Acts L s x) :
    Acts L s (homeWrite a0 a1 a2 a3 x) := by
  unfold homeWrite
  try dsimp only
  repeat' with_reducible first
    | assumption | exact Acts.refl _ | exact hl.mono (by decide) | apply lineFound_acts | apply setDirty_acts
    | apply storeWriteMasked_acts | apply setPoison_acts | apply mirrorLine_acts | apply onlyIf_acts
    | refine Acts.ite ?_ ?_ | refine Acts.upd ?_ | intro _ | split

theorem homeWriteLines_acts {L : Nat} {s x : State} {a0 a1 a2 a3 a4} (hl : Sub 11447414997 L) (h : Acts L s x) :
    Acts L s (homeWriteLines a0 a1 a2 a3 a4 x) := by
  induction a2 generalizing a0 a1 a3 a4 x with
  | zero => exact h
  | succ k ih =>
    unfold homeWriteLines
    try dsimp only
    repeat' with_reducible first
      | apply ih | assumption | exact Acts.refl _ | exact hl.mono (by decide) | apply homeWrite_acts
      | refine Acts.ite ?_ ?_ | refine Acts.upd ?_ | intro _ | split

theorem homeFill_acts {L : Nat} {s x : State} {a0 a1 a2 a3} (hl : Sub 11447414997 L) (h : Acts L s x) :
    Acts L s (homeFill a0 a1 a2 a3 x) := by
  unfold homeFill
  try dsimp only
  repeat' with_reducible first
    | assumption | exact Acts.refl _ | exact hl.mono (by decide) | apply homeWriteLines_acts | apply farDrop_acts
    | apply forEach_acts | refine Acts.ite ?_ ?_ | refine Acts.upd ?_ | intro _ | split

theorem ledgerEnter_acts {L : Nat} {s x : State} {a0 a1} (hl : Sub 80167022805 L) (h : Acts L s x) :
    Acts L s (ledgerEnter a0 a1 x) := by
  unfold ledgerEnter
  try dsimp only
  repeat' with_reducible first
    | assumption | exact Acts.refl _ | exact hl.mono (by decide) | apply modTile_acts | apply freshen_acts
    | apply homeFill_acts | apply bump_acts | refine Acts.ite ?_ ?_ | refine Acts.upd ?_ | intro _ | split

theorem ledgerRead_acts {L : Nat} {s x : State} {a0 a1 a2} (hl : Sub 80167022805 L) (h : Acts L s x) :
    Acts L s (ledgerRead a0 a1 a2 x).2 := by
  unfold ledgerRead
  try dsimp only
  repeat' with_reducible first
    | assumption | exact Acts.refl _ | exact hl.mono (by decide) | apply ledgerEnter_acts | apply freshen_acts
    | apply modTile_acts | apply raiseWith_acts | apply onlyIf_acts | refine Acts.ite ?_ ?_ | refine Acts.upd ?_
    | intro _ | split

theorem partialRow_acts {L : Nat} {s x : State} {a0 a1 a2} (hl : Sub 80167284949 L) (h : Acts L s x) :
    Acts L s (partialRow a0 a1 a2 x) := by
  unfold partialRow
  try dsimp only
  repeat' with_reducible first
    | assumption | exact Acts.refl _ | exact hl.mono (by decide) | apply bufWrite_acts | apply ledgerRead_acts
    | apply accumulateGrads_acts | refine Acts.ite ?_ ?_ | refine Acts.upd ?_
    | refine Acts.pair (by assumption) (ledgerRead_acts ?_ ?_) | intro _ | split

theorem bufOpen_acts {L : Nat} {s x : State} {a0 a1 a2} (hl : Sub 68719738880 L) (h : Acts L s x) :
    Acts L s (bufOpen a0 a1 a2 x) := by
  unfold bufOpen
  try dsimp only
  repeat' with_reducible first
    | assumption | exact Acts.refl _ | exact hl.mono (by decide) | apply freshen_acts | apply bufWrite_acts
    | refine Acts.ite ?_ ?_ | refine Acts.upd ?_ | intro _ | split

theorem mergeRow_acts {L : Nat} {s x : State} {a0 a1 a2} (hl : Sub 80133501141 L) (h : Acts L s x) :
    Acts L s (mergeRow a0 a1 a2 x) := by
  unfold mergeRow
  try dsimp only
  repeat' with_reducible first
    | assumption | exact Acts.refl _ | exact hl.mono (by decide) | apply bufOpen_acts | apply raiseWith_acts
    | apply bufWrite_acts | apply bump_acts | apply onlyIf_acts | refine Acts.ite ?_ ?_ | refine Acts.upd ?_ | intro _
    | split

theorem setFlags_acts {L : Nat} {s x : State} {a0 a1} (hl : Sub 131072 L) (h : Acts L s x) :
    Acts L s (setFlags a0 a1 x) := by
  unfold setFlags
  try dsimp only
  repeat' with_reducible first
    | assumption | exact Acts.refl _ | exact hl.mono (by decide) | apply modTile_acts | refine Acts.ite ?_ ?_
    | refine Acts.upd ?_ | intro _ | split

theorem setGen_acts {L : Nat} {s x : State} {a0 a1} (hl : Sub 131072 L) (h : Acts L s x) :
    Acts L s (setGen a0 a1 x) := by
  unfold setGen
  try dsimp only
  repeat' with_reducible first
    | assumption | exact Acts.refl _ | exact hl.mono (by decide) | apply modTile_acts | refine Acts.ite ?_ ?_
    | refine Acts.upd ?_ | intro _ | split

theorem writeRow_acts {L : Nat} {s x : State} {a0 a1 a2 a3} (hl : Sub 393216 L) (h : Acts L s x) :
    Acts L s (writeRow a0 a1 a2 a3 x) := by
  unfold writeRow
  try dsimp only
  repeat' with_reducible first
    | assumption | exact Acts.refl _ | exact hl.mono (by decide) | apply bufWrite_acts | apply setFlags_acts
    | apply setGen_acts | refine Acts.ite ?_ ?_ | refine Acts.upd ?_ | intro _ | split

theorem backwardRow_acts {L : Nat} {s x : State} {a0 a1 a2 a3} (hl : Sub 80167284949 L) (h : Acts L s x) :
    Acts L s (backwardRow a0 a1 a2 a3 x) := by
  unfold backwardRow
  try dsimp only
  repeat' with_reducible first
    | assumption | exact Acts.refl _ | exact hl.mono (by decide) | apply ledgerRead_acts | apply writeRow_acts
    | apply setFlags_acts | apply accumulateGrads_acts | apply onlyIf_acts | refine Acts.ite ?_ ?_ | refine Acts.upd ?_
    | refine Acts.pair (by assumption) (ledgerRead_acts ?_ ?_) | intro _ | split

theorem ledgerWrite_acts {L : Nat} {s x : State} {a0 a1 a2 a3} (hl : Sub 80167022805 L) (h : Acts L s x) :
    Acts L s (ledgerWrite a0 a1 a2 a3 x) := by
  unfold ledgerWrite
  try dsimp only
  repeat' with_reducible first
    | assumption | exact Acts.refl _ | exact hl.mono (by decide) | apply modTile_acts | apply ledgerEnter_acts
    | refine Acts.ite ?_ ?_ | refine Acts.upd ?_ | intro _ | split

theorem forwardSoft_acts {L : Nat} {s x : State} {a0 a1 a2 a3} (hl : Sub 80167284949 L) (h : Acts L s x) :
    Acts L s (forwardSoft a0 a1 a2 a3 x) := by
  unfold forwardSoft
  try dsimp only
  repeat' with_reducible first
    | assumption | exact Acts.refl _ | exact hl.mono (by decide) | apply ledgerWrite_acts | apply bump_acts
    | apply writeRow_acts | apply onlyIf_acts | refine Acts.ite ?_ ?_ | refine Acts.upd ?_ | intro _ | split

theorem forwardNorm_acts {L : Nat} {s x : State} {a0 a1 a2 a3} (hl : Sub 80167284949 L) (h : Acts L s x) :
    Acts L s (forwardNorm a0 a1 a2 a3 x) := by
  unfold forwardNorm
  try dsimp only
  repeat' with_reducible first
    | assumption | exact Acts.refl _ | exact hl.mono (by decide) | apply setFlags_acts | apply writeRow_acts
    | apply ledgerWrite_acts | apply onlyIf_acts | refine Acts.ite ?_ ?_ | refine Acts.upd ?_ | intro _ | split

theorem lanRow_acts {L : Nat} {s x : State} {a0 a1 a2} (hl : Sub 80167284949 L) (h : Acts L s x) :
    Acts L s (lanRow a0 a1 a2 x) := by
  unfold lanRow
  try dsimp only
  repeat' with_reducible first
    | assumption | exact Acts.refl _ | exact hl.mono (by decide) | apply freshen_acts | apply partialRow_acts
    | apply mergeRow_acts | apply backwardRow_acts | apply forwardSoft_acts | apply forwardNorm_acts
    | refine Acts.ite ?_ ?_ | refine Acts.upd ?_ | intro _ | split

theorem hostInterfaceReset_acts {L : Nat} {s x : State} (hl : Sub 739246080 L) (h : Acts L s x) :
    Acts L s (hostInterfaceReset x) := by
  unfold hostInterfaceReset
  try dsimp only
  repeat' with_reducible first
    | assumption | exact Acts.refl _ | exact hl.mono (by decide) | refine Acts.ite ?_ ?_ | refine Acts.upd ?_ | intro _
    | split

theorem serve_acts {L : Nat} {s x : State} {a0 a1 a2} (hl : Sub 28593631445 L) (h : Acts L s x) (hf : ∀ b0 b1 b2 y, Acts L s y → Acts L s (a2 b0 b1 b2 y)) :
    Acts L s (serve a0 a1 a2 x) := by
  unfold serve
  try dsimp only
  repeat' with_reducible first
    | assumption | exact Acts.refl _ | exact hl.mono (by decide) | apply malformed_acts | apply respond_acts | apply hf
    | refine Acts.ite ?_ ?_ | refine Acts.upd ?_ | intro _ | split

theorem takeValue_acts {L : Nat} {s x : State} {a0 a1} (hl : Sub 8448 L) (h : Acts L s x) :
    Acts L s (takeValue x a0 a1) := by
  unfold takeValue
  try dsimp only
  repeat' with_reducible first
    | assumption | exact Acts.refl _ | exact hl.mono (by decide) | refine Acts.ite ?_ ?_ | refine Acts.upd ?_ | intro _
    | split

theorem closeSessions_acts {L : Nat} {s x : State} {a0} (hl : Sub 9126810240 L) (h : Acts L s x) :
    Acts L s (closeSessions a0 x) := by
  unfold closeSessions
  try dsimp only
  repeat' with_reducible first
    | assumption | exact Acts.refl _ | exact hl.mono (by decide) | apply sessionEvent_acts | apply onlyIf_acts
    | apply forEach_acts | refine Acts.ite ?_ ?_ | refine Acts.upd ?_ | intro _ | split

theorem stopCore_acts {L : Nat} {s x : State} (hl : Sub 9126810336 L) (h : Acts L s x) :
    Acts L s (stopCore x) := by
  unfold stopCore
  try dsimp only
  repeat' with_reducible first
    | assumption | exact Acts.refl _ | exact hl.mono (by decide) | apply closeSessions_acts | refine Acts.ite ?_ ?_
    | refine Acts.upd ?_ | intro _ | split

theorem activateMc_acts {L : Nat} {s x : State} (hl : Sub 11413763829 L) (h : Acts L s x) :
    Acts L s (activateMc x) := by
  unfold activateMc
  try dsimp only
  repeat' with_reducible first
    | assumption | exact Acts.refl _ | exact hl.mono (by decide) | apply stopCore_acts | apply raise_acts
    | refine Acts.ite ?_ ?_ | refine Acts.upd ?_ | intro _ | split

theorem activateMsh_acts {L : Nat} {s x : State} (hl : Sub 32 L) (h : Acts L s x) :
    Acts L s (activateMsh x) := by
  unfold activateMsh
  try dsimp only
  repeat' with_reducible first
    | assumption | exact Acts.refl _ | exact hl.mono (by decide) | refine Acts.ite ?_ ?_ | refine Acts.upd ?_ | intro _
    | split

theorem activateReady_acts {L : Nat} {s x : State} (hl : Sub 11413763829 L) (h : Acts L s x) :
    Acts L s (activateReady x) := by
  unfold activateReady
  try dsimp only
  repeat' with_reducible first
    | assumption | exact Acts.refl _ | exact hl.mono (by decide) | apply activateMc_acts | apply activateMsh_acts
    | refine Acts.ite ?_ ?_ | refine Acts.upd ?_ | intro _ | split

theorem savePenalty_acts {L : Nat} {s x : State} (hl : Sub 11274301588 L) (h : Acts L s x) :
    Acts L s (savePenalty x) := by
  unfold savePenalty
  try dsimp only
  repeat' with_reducible first
    | assumption | exact Acts.refl _ | exact hl.mono (by decide) | apply journalPut_acts | apply onlyIf_acts
    | refine Acts.ite ?_ ?_ | refine Acts.upd ?_ | intro _ | split

theorem pcieDown_acts {L : Nat} {s x : State} (hl : Sub 11542728832 L) (h : Acts L s x) :
    Acts L s (pcieDown x) := by
  unfold pcieDown
  try dsimp only
  repeat' with_reducible first
    | assumption | exact Acts.refl _ | exact hl.mono (by decide) | apply bump_acts | apply logFault_acts
    | refine Acts.ite ?_ ?_ | refine Acts.upd ?_ | intro _ | split

theorem pcieStop_acts {L : Nat} {s x : State} (hl : Sub 11745104000 L) (h : Acts L s x) :
    Acts L s (pcieStop x) := by
  unfold pcieStop
  try dsimp only
  repeat' with_reducible first
    | assumption | exact Acts.refl _ | exact hl.mono (by decide) | apply hostInterfaceReset_acts | apply pcieDown_acts
    | refine Acts.ite ?_ ?_ | refine Acts.upd ?_ | intro _ | split

theorem sendReplay_acts {L : Nat} {s x : State} {a0 a1} (hl : Sub 4299161600 L) (h : Acts L s x) :
    Acts L s (sendReplay a0 a1 x) := by
  unfold sendReplay
  try dsimp only
  repeat' with_reducible first
    | assumption | exact Acts.refl _ | exact hl.mono (by decide) | apply emitSeq_acts | apply modPair_acts
    | refine Acts.ite ?_ ?_ | refine Acts.upd ?_ | intro _ | split

theorem emit_acts {L : Nat} {s x : State} {a0 a1} (hl : Sub 4299161600 L) (h : Acts L s x) :
    Acts L s (emit a0 a1 x) := by
  unfold emit
  try dsimp only
  repeat' with_reducible first
    | assumption | exact Acts.refl _ | exact hl.mono (by decide) | apply wire_acts | apply modPair_acts
    | refine Acts.ite ?_ ?_ | refine Acts.upd ?_ | intro _ | split

theorem emitPhase_acts {L : Nat} {s x : State} {a0 a1 a2 a3} (hl : Sub 4299161600 L) (h : Acts L s x) :
    Acts L s (emitPhase a0 a1 a2 a3 x) := by
  unfold emitPhase
  try dsimp only
  repeat' with_reducible first
    | assumption | exact Acts.refl _ | exact hl.mono (by decide) | apply emit_acts | refine Acts.ite ?_ ?_
    | refine Acts.upd ?_ | intro _ | split

theorem modSplit_acts {L : Nat} {s x : State} {a0 a1} (hl : Sub 4194304 L) (h : Acts L s x) :
    Acts L s (modSplit a0 a1 x) := by
  unfold modSplit
  try dsimp only
  repeat' with_reducible first
    | assumption | exact Acts.refl _ | exact hl.mono (by decide) | refine Acts.ite ?_ ?_ | refine Acts.upd ?_ | intro _
    | split

theorem fillPhase_acts {L : Nat} {s x y : State} {a0 a1} (hl : Sub 4194304 L) (h : Acts L s x)
    (e : fillPhase a0 a1 x = some y) : Acts L s y := by
  unfold fillPhase at e
  try dsimp only at e
  repeat' split at e
  all_goals first
    | (cases e; done)
    | (cases e
       repeat' with_reducible first
         | assumption | exact Acts.refl _ | exact hl.mono (by decide) | apply modSplit_acts | apply modPair_acts
         | apply forEach_acts | refine Acts.ite ?_ ?_ | refine Acts.upd ?_ | intro _ | split)

theorem sendCopy_acts {L : Nat} {s x y : State} {a0 a1 a2 a3} (hl : Sub 4299161600 L) (h : Acts L s x)
    (e : sendCopy a0 a1 a2 a3 x = some y) : Acts L s y := by
  unfold sendCopy at e
  try dsimp only at e
  repeat' split at e
  all_goals first
    | (cases e; done)
    | (cases e
       repeat' with_reducible first
         | assumption | exact Acts.refl _ | exact hl.mono (by decide) | apply emitPhase_acts | apply modSplit_acts
         | refine fillPhase_acts ?_ ?_ (by assumption) | refine Acts.ite ?_ ?_ | refine Acts.upd ?_ | intro _ | split)

theorem phaseCopies_acts {L : Nat} {s x y : State} {a0} (hl : Sub 4299161600 L) (h : Acts L s x)
    (e : phaseCopies a0 x = some y) : Acts L s y := by
  unfold phaseCopies at e
  split at e
  · refine firstSome_acts (fun t k => ?_) e
    obtain ⟨q, -, hq⟩ := List.mem_map.mp k
    refine firstSome_acts (fun t k => ?_) hq
    obtain ⟨q, -, hq⟩ := List.mem_map.mp k
    exact sendCopy_acts (hl.mono (by decide)) h hq
  · cases e

theorem sendPhase_acts {L : Nat} {s x y : State} {a0 a1 a2} (hl : Sub 4299161600 L) (h : Acts L s x)
    (e : sendPhase a0 a1 a2 x = some y) : Acts L s y := by
  unfold sendPhase at e
  try dsimp only at e
  repeat' split at e
  all_goals first
    | (cases e; done)
    | (cases e
       repeat' with_reducible first
         | assumption | exact Acts.refl _ | exact hl.mono (by decide) | apply emitPhase_acts | apply modSplit_acts
         | refine fillPhase_acts ?_ ?_ (by assumption) | refine Acts.ite ?_ ?_ | refine Acts.upd ?_ | intro _ | split)

theorem phaseOwn_acts {L : Nat} {s x y : State} {a0} (hl : Sub 4299161600 L) (h : Acts L s x) (e : phaseOwn a0 x = some y) :
    Acts L s y := by
  refine firstSome_acts (fun t k => ?_) e
  obtain ⟨q, -, hq⟩ := List.mem_map.mp k
  exact sendPhase_acts (hl.mono (by decide)) h hq

theorem turn_acts {L : Nat} {s x y : State} {a0} (hl : Sub 4299161600 L) (h : Acts L s x) (e : turn a0 x = some y) : Acts L s y := by
  have own {z} (k : phaseOwn a0 x = some z) : Acts L s z := phaseOwn_acts (hl.mono (by decide)) h k
  unfold turn at e
  dsimp only at e
  split at e
  · split at e
    · cases e; exact sendReplay_acts (hl.mono (by decide)) h
    · refine firstSome_acts (fun t k => ?_) e
      rcases List.mem_append.mp k with k | k
      · obtain ⟨q, -, hq⟩ := List.mem_map.mp k
        exact sendNew_acts (hl.mono (by decide)) h hq
      · simp only [List.mem_cons, List.not_mem_nil, or_false] at k
        rcases k with k | k | k
        · exact phaseCopies_acts (hl.mono (by decide)) h k.symm
        · split at k
          · cases k
          · exact sendNew_acts (hl.mono (by decide)) h k.symm
        · exact own k.symm
  · split at e
    · exact own e
    · cases e

theorem drainTwin_acts {L : Nat} {s x : State} {a0 a1} (hl : Sub 4299161600 L) (h : Acts L s x) :
    Acts L s (drainTwin a0 a1 x) := by
  induction a1 generalizing a0 x with
  | zero => exact h
  | succ k ih =>
    unfold drainTwin
    try dsimp only
    repeat' with_reducible first
      | apply ih | assumption | exact Acts.refl _ | exact hl.mono (by decide) | refine turn_acts ?_ ?_ (by assumption)
      | refine Acts.ite ?_ ?_ | refine Acts.upd ?_ | intro _ | split

theorem tearUpdate_acts {L : Nat} {s x : State} (hl : Sub 16 L) (h : Acts L s x) :
    Acts L s (tearUpdate x) := by
  unfold tearUpdate
  try dsimp only
  repeat' with_reducible first
    | assumption | exact Acts.refl _ | exact hl.mono (by decide) | apply modImage_acts | refine Acts.ite ?_ ?_
    | refine Acts.upd ?_ | intro _ | split

theorem tearCommit_acts {L : Nat} {s x : State} (hl : Sub 16 L) (h : Acts L s x) :
    Acts L s (tearCommit x) := by
  unfold tearCommit
  try dsimp only
  repeat' with_reducible first
    | assumption | exact Acts.refl _ | exact hl.mono (by decide) | refine Acts.ite ?_ ?_ | refine Acts.upd ?_ | intro _
    | split

theorem clearVolatile_acts {L : Nat} {s x : State} (hl : Sub 71940664944 L) (h : Acts L s x) :
    Acts L s (clearVolatile x) := by
  exact freshen_acts (hl.mono (by decide)) ((tearUpdate_acts (hl.mono (by decide)) (tearCommit_acts (hl.mono (by decide)) h)).updBy
    ⟨rfl, rfl, rfl, id, fun b => ⟨b.1, b.2, b.3, b.4, b.5, b.6, Nat.zero_le _⟩, fun b => ⟨b.1, b.2, b.3⟩⟩)

theorem enterStandby_acts {L : Nat} {s x : State} (hl : Sub 84825571061 L) (h : Acts L s x) :
    Acts L s (enterStandby x) := by
  unfold enterStandby
  try dsimp only
  repeat' with_reducible first
    | assumption | exact Acts.refl _ | exact hl.mono (by decide) | apply departTwin_acts | apply savePenalty_acts
    | apply pcieStop_acts | apply drainTwin_acts | apply setPower_acts | apply clearVolatile_acts | apply forEach_acts
    | refine Acts.ite ?_ ?_ | refine Acts.upd ?_ | intro _ | split

theorem beginStart_acts {L : Nat} {s x : State} (hl : Sub 64 L) (h : Acts L s x) :
    Acts L s (beginStart x) := by
  unfold beginStart
  try dsimp only
  repeat' with_reducible first
    | assumption | exact Acts.refl _ | exact hl.mono (by decide) | refine Acts.ite ?_ ?_ | refine Acts.upd ?_ | intro _
    | split

theorem powerTarget_acts {L : Nat} {s x : State} {a0} (hl : Sub 84825571061 L) (h : Acts L s x) :
    Acts L s (powerTarget a0 x) := by
  unfold powerTarget
  try dsimp only
  repeat' with_reducible first
    | assumption | exact Acts.refl _ | exact hl.mono (by decide) | apply enterStandby_acts | apply beginStart_acts
    | refine Acts.ite ?_ ?_ | refine Acts.upd ?_ | intro _ | split

theorem planSwitch_acts {L : Nat} {s x : State} {a0 a1} (hl : Sub 2097152 L) (h : Acts L s x) :
    Acts L s (planSwitch a0 a1 x) := by
  unfold planSwitch
  try dsimp only
  repeat' with_reducible first
    | assumption | exact Acts.refl _ | exact hl.mono (by decide) | apply modEng_acts | refine Acts.ite ?_ ?_
    | refine Acts.upd ?_ | intro _ | split

theorem dropPin_acts {L : Nat} {s x : State} {a0 a1} (hl : Sub 2097152 L) (h : Acts L s x) :
    Acts L s (dropPin a0 a1 x) := by
  unfold dropPin
  try dsimp only
  repeat' with_reducible first
    | assumption | exact Acts.refl _ | exact hl.mono (by decide) | apply modEng_acts | refine Acts.ite ?_ ?_
    | refine Acts.upd ?_ | intro _ | split

theorem releaseLaser_acts {L : Nat} {s x : State} {a0 a1} (hl : Sub 2097152 L) (h : Acts L s x) :
    Acts L s (releaseLaser a0 a1 x) := by
  unfold releaseLaser
  try dsimp only
  repeat' with_reducible first
    | assumption | exact Acts.refl _ | exact hl.mono (by decide) | apply planSwitch_acts | apply dropPin_acts
    | refine Acts.ite ?_ ?_ | refine Acts.upd ?_ | intro _ | split

theorem raisePin_acts {L : Nat} {s x : State} {a0 a1} (hl : Sub 2097152 L) (h : Acts L s x) :
    Acts L s (raisePin a0 a1 x) := by
  unfold raisePin
  try dsimp only
  repeat' with_reducible first
    | assumption | exact Acts.refl _ | exact hl.mono (by decide) | apply modEng_acts | refine Acts.ite ?_ ?_
    | refine Acts.upd ?_ | intro _ | split

theorem restoreLaser_acts {L : Nat} {s x : State} {a0 a1} (hl : Sub 2097152 L) (h : Acts L s x) :
    Acts L s (restoreLaser a0 a1 x) := by
  unfold restoreLaser
  try dsimp only
  repeat' with_reducible first
    | assumption | exact Acts.refl _ | exact hl.mono (by decide) | apply raisePin_acts | apply modEng_acts
    | refine Acts.ite ?_ ?_ | refine Acts.upd ?_ | intro _ | split

theorem updateBound_acts {L : Nat} {s x : State} (hl : Sub 11413762261 L) (h : Acts L s x) :
    Acts L s (updateBound x) := by
  unfold updateBound
  try dsimp only
  repeat' with_reducible first
    | assumption | exact Acts.refl _ | exact hl.mono (by decide) | apply computeBound_acts | apply raise_acts
    | apply onlyIf_acts | refine Acts.ite ?_ ?_ | refine Acts.upd ?_ | intro _ | split

theorem splitDrop_acts {L : Nat} {s x : State} {a0} (hl : Sub 11413762261 L) (h : Acts L s x) :
    Acts L s (splitDrop a0 x) := by
  unfold splitDrop
  try dsimp only
  repeat' with_reducible first
    | assumption | exact Acts.refl _ | exact hl.mono (by decide) | apply optFault_acts | refine Acts.ite ?_ ?_
    | refine Acts.upd ?_ | intro _ | split

theorem withdrawQuiet_acts {L : Nat} {s x : State} {a0} (hl : Sub 11413762261 L) (h : Acts L s x) :
    Acts L s (withdrawQuiet a0 x) := by
  unfold withdrawQuiet
  try dsimp only
  repeat' with_reducible first
    | assumption | exact Acts.refl _ | exact hl.mono (by decide) | apply modPair_acts | apply updateBound_acts
    | apply bump_acts | apply splitDrop_acts | apply forEach_acts | refine Acts.ite ?_ ?_ | refine Acts.upd ?_ | intro _
    | split

theorem sendLinkNotice_acts {L : Nat} {s x : State} {a0 a1 a2 a3} (hl : Sub 4194304 L) (h : Acts L s x) :
    Acts L s (sendLinkNotice a0 a1 a2 a3 x) := by
  unfold sendLinkNotice
  try dsimp only
  repeat' with_reducible first
    | assumption | exact Acts.refl _ | exact hl.mono (by decide) | apply enqueue_acts | refine Acts.ite ?_ ?_
    | refine Acts.upd ?_ | intro _ | split

theorem withdraw_acts {L : Nat} {s x : State} {a0} (hl : Sub 11413762261 L) (h : Acts L s x) :
    Acts L s (withdraw a0 x) := by
  unfold withdraw
  try dsimp only
  repeat' with_reducible first
    | assumption | exact Acts.refl _ | exact hl.mono (by decide) | apply withdrawQuiet_acts | apply sendLinkNotice_acts
    | refine Acts.ite ?_ ?_ | refine Acts.upd ?_ | intro _ | split

theorem takeLevel_acts {L : Nat} {s x : State} (hl : Sub 256 L) (h : Acts L s x) :
    Acts L s (takeLevel x) := by
  unfold takeLevel
  try dsimp only
  repeat' with_reducible first
    | assumption | exact Acts.refl _ | exact hl.mono (by decide) | refine Acts.ite ?_ ?_ | refine Acts.upd ?_ | intro _
    | split

theorem startTraining_acts {L : Nat} {s x : State} {a0} (hl : Sub 11413762517 L) (h : Acts L s x) :
    Acts L s (startTraining a0 x) := by
  unfold startTraining
  try dsimp only
  repeat' with_reducible first
    | assumption | exact Acts.refl _ | exact hl.mono (by decide) | apply takeLevel_acts | apply modPair_acts
    | apply withdraw_acts | refine Acts.ite ?_ ?_ | refine Acts.upd ?_ | intro _ | split

theorem parkFibre_acts {L : Nat} {s x : State} {a0 a1} (hl : Sub 11415859669 L) (h : Acts L s x) :
    Acts L s (parkFibre a0 a1 x) := by
  unfold parkFibre
  try dsimp only
  repeat' with_reducible first
    | assumption | exact Acts.refl _ | exact hl.mono (by decide) | apply modFib_acts | apply withdraw_acts
    | apply startTraining_acts | apply modPair_acts | refine Acts.ite ?_ ?_ | refine Acts.upd ?_ | intro _ | split

theorem leaveStep6_acts {L : Nat} {s x : State} (hl : Sub 11438928373 L) (h : Acts L s x) :
    Acts L s (leaveStep6 x) := by
  unfold leaveStep6
  try dsimp only
  repeat' with_reducible first
    | assumption | exact Acts.refl _ | exact hl.mono (by decide) | apply leaveStep7_acts | apply startTraining_acts
    | apply forEach_acts | refine Acts.ite ?_ ?_ | refine Acts.upd ?_ | intro _ | split

theorem firstCoord_acts {L : Nat} {s x : State} (hl : Sub 11438928373 L) (h : Acts L s x) :
    Acts L s (firstCoord x) := by
  unfold firstCoord
  try dsimp only
  repeat' with_reducible first
    | assumption | exact Acts.refl _ | exact hl.mono (by decide) | apply leaveStep6_acts | apply postEvent_acts
    | refine Acts.ite ?_ ?_ | refine Acts.upd ?_ | intro _ | split

theorem offerLevels_acts {L : Nat} {s x : State} (hl : Sub 11413762517 L) (h : Acts L s x) :
    Acts L s (offerLevels x) := by
  unfold offerLevels
  try dsimp only
  repeat' with_reducible first
    | assumption | exact Acts.refl _ | exact hl.mono (by decide) | apply startTraining_acts | apply modPair_acts
    | apply forEach_acts | refine Acts.ite ?_ ?_ | refine Acts.upd ?_ | intro _ | split

theorem resetValues_acts {L : Nat} {s x : State} (hl : Sub 256 L) (h : Acts L s x) :
    Acts L s (resetValues x) := by
  unfold resetValues
  try dsimp only
  repeat' with_reducible first
    | assumption | exact Acts.refl _ | exact hl.mono (by decide) | refine Acts.ite ?_ ?_ | refine Acts.upd ?_ | intro _
    | split

theorem warmReset_acts {L : Nat} {s x : State} {a0} (hl : Sub 80530604031 L) (h : Acts L s x) :
    Acts L s (warmReset a0 x) := by
  unfold warmReset
  dsimp only
  refine onlyIf_acts (setPower_acts (hl.mono (by decide)) ((resetValues_acts (hl.mono (by decide)) (clearVolatile_acts (hl.mono (by decide))
    (savePenalty_acts (hl.mono (by decide)) h))).updBy ?_)) (fun _ k => beginStart_acts (hl.mono (by decide)) k)
  exact ⟨rfl, rfl, rfl, id, fun b => ⟨b.1, b.2, b.3, b.4, b.5, b.6, b.7⟩, fun _ => ⟨(by decide : 4 ≤ 16), Nat.le_refl 16, Nat.zero_le 32⟩⟩

theorem bufLose_acts {L : Nat} {s x : State} {a0} (hl : Sub 68719738880 L) (h : Acts L s x) :
    Acts L s (bufLose a0 x) := by
  unfold bufLose
  try dsimp only
  repeat' with_reducible first
    | assumption | exact Acts.refl _ | exact hl.mono (by decide) | apply freshen_acts | apply modKeep_acts
    | refine Acts.ite ?_ ?_ | refine Acts.upd ?_ | intro _ | split

theorem tileResetNow_acts {L : Nat} {s x : State} {a0} (hl : Sub 68736647168 L) (h : Acts L s x) :
    Acts L s (tileResetNow a0 x) := by
  unfold tileResetNow
  try dsimp only
  repeat' with_reducible first
    | assumption | exact Acts.refl _ | exact hl.mono (by decide) | apply bufLose_acts | refine Acts.ite ?_ ?_
    | refine Acts.upd ?_ | intro _ | split

theorem askTileReset_acts {L : Nat} {s x : State} {a0} (hl : Sub 80150409429 L) (h : Acts L s x) :
    Acts L s (askTileReset a0 x) := by
  unfold askTileReset
  try dsimp only
  repeat' with_reducible first
    | assumption | exact Acts.refl _ | exact hl.mono (by decide) | apply tileResetNow_acts | apply raiseTile_acts
    | apply modTile_acts | refine Acts.ite ?_ ?_ | refine Acts.upd ?_ | intro _ | split

theorem bandFault_acts {L : Nat} {s x : State} {a0} (hl : Sub 11413762261 L) (h : Acts L s x) :
    Acts L s (bandFault a0 x) := by
  unfold bandFault
  try dsimp only
  repeat' with_reducible first
    | assumption | exact Acts.refl _ | exact hl.mono (by decide) | apply raise_acts | refine Acts.ite ?_ ?_
    | refine Acts.upd ?_ | intro _ | split

theorem clearLost_acts {L : Nat} {s x : State} (hl : Sub 37748736 L) (h : Acts L s x) :
    Acts L s (clearLost x) := by
  unfold clearLost
  try dsimp only
  repeat' with_reducible first
    | assumption | exact Acts.refl _ | exact hl.mono (by decide) | apply sendPairing_acts | apply onlyIf_acts
    | refine Acts.ite ?_ ?_ | refine Acts.upd ?_ | intro _ | split

theorem cancelUpdate_acts {L : Nat} {s x : State} (hl : Sub 11413763285 L) (h : Acts L s x) :
    Acts L s (cancelUpdate x) := by
  unfold cancelUpdate
  refine postEvent_acts (hl.mono (by decide)) (raise_acts (hl.mono (by decide)) ?_)
  rw [← tearUpdate_mgmt x]
  exact Acts.upd (tearUpdate_acts (hl.mono (by decide)) h)

theorem settleUpdate_acts {L : Nat} {s x : State} (hl : Sub 11413763285 L) (h : Acts L s x) :
    Acts L s (settleUpdate x) := by
  unfold settleUpdate
  try dsimp only
  repeat' with_reducible first
    | assumption | exact Acts.refl _ | exact hl.mono (by decide) | apply cancelUpdate_acts | refine Acts.ite ?_ ?_
    | refine Acts.upd ?_ | intro _ | split

theorem closeWhere_acts {L : Nat} {s x : State} {a0} (hl : Sub 11413763797 L) (h : Acts L s x) :
    Acts L s (closeWhere a0 x) := by
  unfold closeWhere
  try dsimp only
  repeat' with_reducible first
    | assumption | exact Acts.refl _ | exact hl.mono (by decide) | apply settleUpdate_acts | apply closeSessions_acts
    | refine Acts.ite ?_ ?_ | refine Acts.upd ?_ | intro _ | split

theorem closeKey_acts {L : Nat} {s x : State} {a0} (hl : Sub 11413763797 L) (h : Acts L s x) :
    Acts L s (closeKey a0 x) := by
  unfold closeKey
  try dsimp only
  repeat' with_reducible first
    | assumption | exact Acts.refl _ | exact hl.mono (by decide) | apply closeWhere_acts | refine Acts.ite ?_ ?_
    | refine Acts.upd ?_ | intro _ | split

theorem odEffect_acts {L : Nat} {s x : State} {a0 a1 a2} (hl : Sub 84825604095 L) (h : Acts L s x) :
    Acts L s (odEffect a0 a1 a2 x) := by
  unfold odEffect
  try dsimp only
  repeat' with_reducible first
    | assumption | exact Acts.refl _ | exact hl.mono (by decide) | apply activateReady_acts | apply powerTarget_acts
    | apply commissionInputs_acts | apply planSwitch_acts | apply releaseLaser_acts | apply restoreLaser_acts
    | apply parkFibre_acts | apply firstCoord_acts | apply offerLevels_acts | apply modArr_acts | apply askSeason_acts
    | apply warmReset_acts | apply raise_acts | apply askTileReset_acts | apply bandFault_acts | apply clearLost_acts
    | apply resumeCalends_acts | apply closeKey_acts | apply onlyIf_acts | refine Acts.ite ?_ ?_ | refine Acts.upd ?_
    | intro _ | split

theorem acceptWrite_acts {L : Nat} {s x : State} {a0 a1} (hl : Sub 84825604095 L) (h : Acts L s x) :
    Acts L s (acceptWrite a0 a1 x) := by
  unfold acceptWrite
  try dsimp only
  repeat' with_reducible first
    | assumption | exact Acts.refl _ | exact hl.mono (by decide) | apply takeValue_acts | apply postEvent_acts
    | apply odEffect_acts | apply onlyIf_acts | refine Acts.ite ?_ ?_ | refine Acts.upd ?_ | intro _ | split

theorem writeAs_acts {L : Nat} {s x : State} {a0 a1 a2 a3 a4 a5} (hl : Sub 102005473279 L) (h : Acts L s x) :
    Acts L s (writeAs a0 a1 a2 a3 a4 a5 x) := by
  unfold writeAs
  try dsimp only
  repeat' with_reducible first
    | assumption | exact Acts.refl _ | exact hl.mono (by decide) | apply journalPut_acts | apply raise_acts
    | apply respond_acts | apply acceptWrite_acts | apply onlyIf_acts | refine Acts.ite ?_ ?_ | refine Acts.upd ?_
    | intro _ | split

theorem odWrite_acts {L : Nat} {s x : State} {a0 a1 a2 a3 a4} (hl : Sub 102005473279 L) (h : Acts L s x) :
    Acts L s (odWrite a0 a1 a2 a3 a4 x) := by
  unfold odWrite
  try dsimp only
  repeat' with_reducible first
    | assumption | exact Acts.refl _ | exact hl.mono (by decide) | apply serve_acts | apply respond_acts
    | apply writeAs_acts | refine Acts.ite ?_ ?_ | refine Acts.upd ?_ | intro _ | split

theorem odPut_acts {L : Nat} {x t : State} {a0 a1 a2 a3 a4} (hl : Sub 102005473279 L) (e : odPut a0 a1 a2 a3 a4 x = .next t) :
    Acts L x t := by
  unfold odPut at e
  cases e
  try dsimp only
  repeat' with_reducible first
    | assumption | exact Acts.refl _ | exact hl.mono (by decide) | apply odWrite_acts | refine Acts.ite ?_ ?_
    | refine Acts.upd ?_ | intro _ | split

theorem setDyn_acts {L : Nat} {s x : State} {a0 a1} (hl : Sub 2048 L) (h : Acts L s x) :
    Acts L s (setDyn a0 a1 x) := by
  unfold setDyn
  try dsimp only
  repeat' with_reducible first
    | assumption | exact Acts.refl _ | exact hl.mono (by decide) | refine Acts.ite ?_ ?_ | refine Acts.upd ?_ | intro _
    | split

theorem execEntdaa_acts {L : Nat} {x t : State} {a0 a1} (hl : Sub 2048 L) (e : execEntdaa a0 a1 x = .next t) :
    Acts L x t := by
  unfold execEntdaa at e
  cases e
  try dsimp only
  repeat' with_reducible first
    | assumption | exact Acts.refl _ | exact hl.mono (by decide) | apply setDyn_acts | refine Acts.ite ?_ ?_
    | refine Acts.upd ?_ | intro _ | split

theorem setCap_acts {L : Nat} {s x : State} {a0} (hl : Sub 10 L) (h : Acts L s x) (hc : PowerInRange x → 4 ≤ a0 ∧ a0 ≤ 16) :
    Acts L s (setCap a0 x) := by
  exact h.updBy ⟨rfl, rfl, rfl, id, fun b => ⟨b.1, b.2, b.3, b.4, b.5, b.6, b.7⟩, fun b => ⟨(hc b).1, (hc b).2, b.3⟩⟩

theorem currentFault_acts {L : Nat} {s x : State} {a0} (hl : Sub 11413762261 L) (h : Acts L s x) :
    Acts L s (currentFault a0 x) := by
  unfold currentFault
  try dsimp only
  repeat' with_reducible first
    | assumption | exact Acts.refl _ | exact hl.mono (by decide) | apply raiseWith_acts | refine Acts.ite ?_ ?_
    | refine Acts.upd ?_ | intro _ | split

theorem governorStep_acts {L : Nat} {s x : State} (hl : Sub 11413762271 L) (h : Acts L s x) :
    Acts L s (governorStep x) := by
  unfold governorStep
  dsimp only
  split
  · split
    · rename_i n; exact setCap_acts (hl.mono (by decide)) h (fun b => ⟨by omega, by have := b.capHigh; omega⟩)
    · refine onlyIf_acts (onlyIf_acts (Acts.upd h) ?_) ?_ <;> exact fun _ k => currentFault_acts (hl.mono (by decide)) k
  · split
    · split
      · rename_i n
        exact setCap_acts (hl.mono (by decide)) (Acts.upd h) (fun b => ⟨Nat.le_succ_of_le b.capLow, n.2⟩)
      · exact Acts.upd h
    · exact Acts.upd h

theorem execGovernorTick_acts {L : Nat} {x t : State} {a0 a1} (hl : Sub 11413762271 L) (e : execGovernorTick a0 a1 x = .next t) :
    Acts L x t := by
  unfold execGovernorTick at e
  cases e
  try dsimp only
  repeat' with_reducible first
    | assumption | exact Acts.refl _ | exact hl.mono (by decide) | apply bump_acts | apply governorStep_acts
    | apply onlyIf_acts | refine Acts.ite ?_ ?_ | refine Acts.upd ?_ | intro _ | split

theorem addressFault_acts {L : Nat} {s x : State} {a0 a1} (hl : Sub 11413762261 L) (h : Acts L s x) :
    Acts L s (addressFault a0 a1 x) := by
  unfold addressFault
  try dsimp only
  repeat' with_reducible first
    | assumption | exact Acts.refl _ | exact hl.mono (by decide) | apply raiseWith_acts | refine Acts.ite ?_ ?_
    | refine Acts.upd ?_ | intro _ | split

theorem badAddress_acts {L : Nat} {s x : State} {a0} (hl : Sub 11413762261 L) (h : Acts L s x) :
    Acts L s (badAddress a0 x) := by
  unfold badAddress
  try dsimp only
  repeat' with_reducible first
    | assumption | exact Acts.refl _ | exact hl.mono (by decide) | apply addressFault_acts | refine Acts.ite ?_ ?_
    | refine Acts.upd ?_ | intro _ | split

theorem settleRings_acts {L : Nat} {s x : State} {a0} (hl : Sub 2097152 L) (h : Acts L s x) :
    Acts L s (settleRings a0 x) := by
  unfold settleRings
  try dsimp only
  repeat' with_reducible first
    | assumption | exact Acts.refl _ | exact hl.mono (by decide) | apply modFib_acts | refine Acts.ite ?_ ?_
    | refine Acts.upd ?_ | intro _ | split

theorem modReso_acts {L : Nat} {s x : State} {a0 a1 a2} (hl : Sub 2097152 L) (h : Acts L s x) :
    Acts L s (modReso a0 a1 a2 x) := by
  unfold modReso
  try dsimp only
  repeat' with_reducible first
    | assumption | exact Acts.refl _ | exact hl.mono (by decide) | apply modEng_acts | refine Acts.ite ?_ ?_
    | refine Acts.upd ?_ | intro _ | split

theorem returnPair_acts {L : Nat} {s x : State} {a0} (hl : Sub 11413762261 L) (h : Acts L s x) :
    Acts L s (returnPair a0 x) := by
  unfold returnPair
  try dsimp only
  repeat' with_reducible first
    | assumption | exact Acts.refl _ | exact hl.mono (by decide) | apply sendLinkNotice_acts | apply modPair_acts
    | apply updateBound_acts | refine Acts.ite ?_ ?_ | refine Acts.upd ?_ | intro _ | split

theorem failRing_acts {L : Nat} {s x : State} {a0 a1} (hl : Sub 11415859413 L) (h : Acts L s x) :
    Acts L s (failRing a0 a1 x) := by
  unfold failRing
  try dsimp only
  repeat' with_reducible first
    | assumption | exact Acts.refl _ | exact hl.mono (by decide) | apply optFault_acts | apply modReso_acts
    | refine Acts.ite ?_ ?_ | refine Acts.upd ?_ | intro _ | split

theorem execRingLockAttempt_acts {L : Nat} {x t : State} {a0 a1 a2 a3} (hl : Sub 11415859669 L) (e : execRingLockAttempt a0 a1 a2 a3 x = .next t) :
    Acts L x t := by
  unfold execRingLockAttempt at e
  cases e
  try dsimp only
  repeat' with_reducible first
    | assumption | exact Acts.refl _ | exact hl.mono (by decide) | apply settleRings_acts | apply modReso_acts
    | apply startTraining_acts | apply returnPair_acts | apply modFib_acts | apply withdraw_acts | apply failRing_acts
    | refine Acts.ite ?_ ?_ | refine Acts.upd ?_ | intro _ | split

theorem modHer_acts {L : Nat} {s x : State} {a0 a1 a2} (hl : Sub 131072 L) (h : Acts L s x) :
    Acts L s (modHer a0 a1 a2 x) := by
  unfold modHer
  try dsimp only
  repeat' with_reducible first
    | assumption | exact Acts.refl _ | exact hl.mono (by decide) | apply modTile_acts | refine Acts.ite ?_ ?_
    | refine Acts.upd ?_ | intro _ | split

theorem bufWriteMasked_acts {L : Nat} {s x : State} {a0 a1 a2} (hl : Sub 262144 L) (h : Acts L s x) :
    Acts L s (bufWriteMasked a0 a1 a2 x) := by
  unfold bufWriteMasked
  try dsimp only
  repeat' with_reducible first
    | assumption | exact Acts.refl _ | exact hl.mono (by decide) | apply bufWrite_acts | refine Acts.ite ?_ ?_
    | refine Acts.upd ?_ | intro _ | split

theorem nearWrite_acts {L : Nat} {s x : State} {a0 a1 a2 a3} (hl : Sub 262144 L) (h : Acts L s x) :
    Acts L s (nearWrite a0 a1 a2 a3 x) := by
  unfold nearWrite
  try dsimp only
  repeat' with_reducible first
    | assumption | exact Acts.refl _ | exact hl.mono (by decide) | apply bufWriteMasked_acts | refine Acts.ite ?_ ?_
    | refine Acts.upd ?_ | intro _ | split

theorem loadElem_acts {L : Nat} {s x : State} {a0 a1 a2 a3} (hl : Sub 393216 L) (h : Acts L s x) :
    Acts L s (loadElem a0 a1 a2 a3 x) := by
  unfold loadElem
  try dsimp only
  repeat' with_reducible first
    | assumption | exact Acts.refl _ | exact hl.mono (by decide) | apply modHer_acts | apply nearWrite_acts
    | apply setFlags_acts | apply setGen_acts | refine Acts.ite ?_ ?_ | refine Acts.upd ?_ | intro _ | split

theorem loadPart_acts {L : Nat} {s x : State} {a0 a1 a2 a3 a4} (hl : Sub 393216 L) (h : Acts L s x) :
    Acts L s (loadPart a0 a1 a2 a3 a4 x) := by
  unfold loadPart
  try dsimp only
  repeat' with_reducible first
    | assumption | exact Acts.refl _ | exact hl.mono (by decide) | apply loadElem_acts | apply modHer_acts
    | refine Acts.ite ?_ ?_ | refine Acts.upd ?_ | intro _ | split

theorem execHeraldLineReturn_acts {L : Nat} {x t : State} {a0} (hl : Sub 17170432 L) (e : execHeraldLineReturn a0 x = .next t) :
    Acts L x t := by
  unfold execHeraldLineReturn at e
  cases e
  try dsimp only
  repeat' with_reducible first
    | assumption | exact Acts.refl _ | exact hl.mono (by decide) | apply modHer_acts | apply setReq_acts
    | apply loadPart_acts | apply bufWrite_acts | apply onlyIf_acts | apply forEach_acts | refine Acts.ite ?_ ?_
    | refine Acts.upd ?_ | intro _ | split

theorem abortCmd_abortRun_acts {L : Nat} {s x : State} {a0 a1} (hl : Sub 5242880 L) (h : Acts L s x) :
    Acts L s (abortCmd.abortRun a0 a1 x).2 := by
  unfold abortCmd.abortRun
  try dsimp only
  repeat' with_reducible first
    | assumption | exact Acts.refl _ | exact hl.mono (by decide) | apply sendOwn_acts | refine Acts.ite ?_ ?_
    | refine Acts.upd ?_ | intro _ | split

theorem abortCmd_acts {L : Nat} {s x : State} {a0} (hl : Sub 11413753985 L) (h : Acts L s x) :
    Acts L s (abortCmd a0 x).2 := by
  unfold abortCmd
  try dsimp only
  repeat' with_reducible first
    | assumption | exact Acts.refl _ | exact hl.mono (by decide) | apply finishCmd_acts | apply dropHeld_acts
    | apply sendOwn_acts | apply abortCmd_abortRun_acts | refine Acts.ite ?_ ?_ | refine Acts.upd ?_
    | refine Acts.pair (by assumption) (abortCmd_abortRun_acts ?_ ?_) | intro _ | split

theorem ringLogs_acts {L : Nat} {s x : State} {a0 a1} (hl : Sub 134217728 L) (h : Acts L s x) :
    Acts L s (ringLogs a0 a1 x) := by
  unfold ringLogs
  try dsimp only
  repeat' with_reducible first
    | assumption | exact Acts.refl _ | exact hl.mono (by decide) | apply modRing_acts | refine Acts.ite ?_ ?_
    | refine Acts.upd ?_ | intro _ | split

theorem disableRing_acts {L : Nat} {s x : State} {a0 a1} (hl : Sub 11413753985 L) (h : Acts L s x) :
    Acts L s (disableRing a0 a1 x) := by
  unfold disableRing
  try dsimp only
  repeat' with_reducible first
    | assumption | exact Acts.refl _ | exact hl.mono (by decide) | apply modRing_acts | apply abortCmd_acts
    | apply ringLogs_acts | apply forEach_acts | refine Acts.ite ?_ ?_ | refine Acts.upd ?_
    | refine Acts.pair (by assumption) (abortCmd_acts ?_ ?_) | intro _ | split

theorem resolve_acts {L : Nat} {s x : State} {a0 a1 a2} (hl : Sub 11413762261 L) (h : Acts L s x) (hf : ∀ b0 b1 y, Acts L s y → Acts L s (a2 b0 b1 y)) :
    Acts L s (resolve a0 a1 a2 x).2 := by
  unfold resolve
  try dsimp only
  repeat' with_reducible first
    | assumption | exact Acts.refl _ | exact hl.mono (by decide) | apply lateResponse_acts | apply hf
    | refine Acts.ite ?_ ?_ | refine Acts.upd ?_ | intro _ | split

theorem execInBandInterruptEnable_acts {L : Nat} {x t : State} {a0 a1} (hl : Sub 2048 L) (e : execInBandInterruptEnable a0 a1 x = .next t) :
    Acts L x t := by
  unfold execInBandInterruptEnable at e
  cases e
  try dsimp only
  repeat' with_reducible first
    | assumption | exact Acts.refl _ | exact hl.mono (by decide) | refine Acts.ite ?_ ?_ | refine Acts.upd ?_ | intro _
    | split

theorem applyHeld_acts {L : Nat} {s x : State} {a0} (hl : Sub 11415859413 L) (h : Acts L s x) :
    Acts L s (applyHeld a0 x) := by
  unfold applyHeld
  try dsimp only
  repeat' with_reducible first
    | assumption | exact Acts.refl _ | exact hl.mono (by decide) | apply applySetting_acts | apply modEng_acts
    | refine Acts.ite ?_ ?_ | refine Acts.upd ?_ | intro _ | split

theorem discardStaging_acts {L : Nat} {s x : State} {a0 a1 a2} (hl : Sub 68719869952 L) (h : Acts L s x) :
    Acts L s (discardStaging a0 a1 a2 x) := by
  unfold discardStaging
  try dsimp only
  repeat' with_reducible first
    | assumption | exact Acts.refl _ | exact hl.mono (by decide) | apply bufOpen_acts | apply modTile_acts
    | refine Acts.ite ?_ ?_ | refine Acts.upd ?_ | intro _ | split

theorem passFault_acts {L : Nat} {s x : State} {a0 a1 a2 a3 a4} (hl : Sub 11274293376 L) (h : Acts L s x) :
    Acts L s (passFault a0 a1 a2 a3 a4 x) := by
  unfold passFault
  try dsimp only
  repeat' with_reducible first
    | assumption | exact Acts.refl _ | exact hl.mono (by decide) | apply logWith_acts | apply correctedWith_acts
    | apply onlyIf_acts | refine Acts.ite ?_ ?_ | refine Acts.upd ?_ | intro _ | split

theorem beginPass_acts {L : Nat} {s x : State} {a0 a1 a2 a3 a4} (hl : Sub 68719607808 L) (h : Acts L s x) :
    Acts L s (beginPass a0 a1 a2 a3 a4 x) := by
  unfold beginPass
  try dsimp only
  repeat' with_reducible first
    | assumption | exact Acts.refl _ | exact hl.mono (by decide) | apply freshen_acts | apply setFlags_acts
    | apply modTile_acts | apply onlyIf_acts | refine Acts.ite ?_ ?_ | refine Acts.upd ?_ | intro _ | split

theorem issueReplays_acts {L : Nat} {s x : State} {a0} (hl : Sub 68720656384 L) (h : Acts L s x) :
    Acts L s (issueReplays a0 x) := by
  unfold issueReplays
  try dsimp only
  repeat' with_reducible first
    | assumption | exact Acts.refl _ | exact hl.mono (by decide) | apply beginPass_acts | apply forEach_acts
    | refine Acts.ite ?_ ?_ | refine Acts.upd ?_ | intro _ | split

theorem replayOrFail_acts {L : Nat} {s x : State} {a0 a1 a2 a3} (hl : Sub 80133632213 L) (h : Acts L s x) :
    Acts L s (replayOrFail a0 a1 a2 a3 x) := by
  unfold replayOrFail
  try dsimp only
  repeat' with_reducible first
    | assumption | exact Acts.refl _ | exact hl.mono (by decide) | apply discardStaging_acts | apply dropPass_acts
    | apply modTile_acts | apply passFault_acts | apply raiseTile_acts | apply issueReplays_acts
    | apply declareOverrun_acts | apply onlyIf_acts | refine Acts.ite ?_ ?_ | refine Acts.upd ?_ | intro _ | split

theorem execTimeRequestTick_acts {L : Nat} {x t : State} (hl : Sub 4194304 L) (e : execTimeRequestTick x = .next t) :
    Acts L x t := by
  unfold execTimeRequestTick at e
  cases e
  try dsimp only
  repeat' with_reducible first
    | assumption | exact Acts.refl _ | exact hl.mono (by decide) | apply sendTime_acts | apply forEach_acts
    | refine Acts.ite ?_ ?_ | refine Acts.upd ?_ | intro _ | split

theorem freeHeralds_acts {L : Nat} {s x : State} {a0 a1} (hl : Sub 16908288 L) (h : Acts L s x) :
    Acts L s (freeHeralds a0 a1 x) := by
  unfold freeHeralds
  try dsimp only
  repeat' with_reducible first
    | assumption | exact Acts.refl _ | exact hl.mono (by decide) | apply modHer_acts | apply forEach_acts
    | refine Acts.ite ?_ ?_ | refine Acts.upd ?_ | intro _ | split

theorem ringError_acts {L : Nat} {s x : State} {a0} (hl : Sub 11408511104 L) (h : Acts L s x) :
    Acts L s (ringError a0 x) := by
  unfold ringError
  try dsimp only
  repeat' with_reducible first
    | assumption | exact Acts.refl _ | exact hl.mono (by decide) | apply logFault_acts | apply modRing_acts
    | refine Acts.ite ?_ ?_ | refine Acts.upd ?_ | intro _ | split

theorem execRowCopyDone_acts {L : Nat} {x t : State} {a0 a1} (hl : Sub 11274358912 L) (e : execRowCopyDone a0 a1 x = .next t) :
    Acts L x t := by
  unfold execRowCopyDone at e
  cases e
  try dsimp only
  repeat' with_reducible first
    | assumption | exact Acts.refl _ | exact hl.mono (by decide) | apply copyWord_acts | apply forEach_acts
    | refine Acts.ite ?_ ?_ | refine Acts.upd ?_ | intro _ | split

theorem pokeFar_acts {L : Nat} {s x : State} {a0 a1 a2} (hl : Sub 294912 L) (h : Acts L s x) :
    Acts L s (pokeFar a0 a1 a2 x) := by
  unfold pokeFar
  try dsimp only
  repeat' with_reducible first
    | assumption | exact Acts.refl _ | exact hl.mono (by decide) | apply storeWriteMasked_acts
    | apply bufWriteMasked_acts | refine Acts.ite ?_ ?_ | refine Acts.upd ?_ | intro _ | split

theorem execProvisionalSessionExpiry_acts {L : Nat} {x t : State} {a0} (hl : Sub 11413763797 L) (e : execProvisionalSessionExpiry a0 x = .next t) :
    Acts L x t := by
  unfold execProvisionalSessionExpiry at e
  cases e
  try dsimp only
  repeat' with_reducible first
    | assumption | exact Acts.refl _ | exact hl.mono (by decide) | apply closeWhere_acts | refine Acts.ite ?_ ?_
    | refine Acts.upd ?_ | intro _ | split

theorem odAttest_acts {L : Nat} {s x : State} {a0 a1} (hl : Sub 28593631445 L) (h : Acts L s x) :
    Acts L s (odAttest a0 a1 x) := by
  unfold odAttest
  try dsimp only
  repeat' with_reducible first
    | assumption | exact Acts.refl _ | exact hl.mono (by decide) | apply serve_acts | apply respond_acts
    | refine Acts.ite ?_ ?_ | refine Acts.upd ?_ | intro _ | split

theorem execAttest_acts {L : Nat} {x t : State} {a0 a1} (hl : Sub 28593631445 L) (e : execAttest a0 a1 x = .next t) :
    Acts L x t := by
  unfold execAttest at e
  cases e
  try dsimp only
  repeat' with_reducible first
    | assumption | exact Acts.refl _ | exact hl.mono (by decide) | apply odAttest_acts | refine Acts.ite ?_ ?_
    | refine Acts.upd ?_ | intro _ | split

theorem eachTile_acts {L : Nat} {s x : State} {a0} (hl : Sub 0 L) (h : Acts L s x)
    (hf : ∀ a y, Acts L s y → Acts L s (a0 a y)) : Acts L s (eachTile a0 x) := forEach_acts h hf

theorem openTile_acts {L : Nat} {s x : State} {a0 a1 a2 a3 a4 a5 a6} (hl : Sub 131072 L) (h : Acts L s x) :
    Acts L s (openTile a0 a1 a2 a3 a4 a5 a6 x) := by
  unfold openTile
  try dsimp only
  repeat' with_reducible first
    | assumption | exact Acts.refl _ | exact hl.mono (by decide) | apply modTile_acts | refine Acts.ite ?_ ?_
    | refine Acts.upd ?_ | intro _ | split

theorem applyPhase_acts {L : Nat} {s x : State} {a0} (hl : Sub 11415859413 L) (h : Acts L s x) :
    Acts L s (applyPhase a0 x) := by
  unfold applyPhase
  try dsimp only
  repeat' with_reducible first
    | assumption | exact Acts.refl _ | exact hl.mono (by decide) | apply modEng_acts | apply applySetting_acts
    | refine Acts.ite ?_ ?_ | refine Acts.upd ?_ | intro _ | split

theorem openFrame_acts {L : Nat} {s x : State} {a0 a1} (hl : Sub 11415990485 L) (h : Acts L s x) :
    Acts L s (openFrame a0 a1 x) := by
  unfold openFrame
  try dsimp only
  repeat' with_reducible first
    | assumption | exact Acts.refl _ | exact hl.mono (by decide) | apply eachTile_acts | apply openTile_acts
    | apply applyPhase_acts | apply forEach_acts | refine Acts.ite ?_ ?_ | refine Acts.upd ?_ | intro _ | split

theorem advanceFrame_acts {L : Nat} {s x : State} {a0} (hl : Sub 11415990485 L) (h : Acts L s x) :
    Acts L s (advanceFrame a0 x) := by
  unfold advanceFrame
  try dsimp only
  repeat' with_reducible first
    | assumption | exact Acts.refl _ | exact hl.mono (by decide) | apply openFrame_acts | refine Acts.ite ?_ ?_
    | refine Acts.upd ?_ | intro _ | split

theorem enableRing_acts {L : Nat} {s x : State} {a0 a1} (hl : Sub 11408511104 L) (h : Acts L s x) :
    Acts L s (enableRing a0 a1 x) := by
  unfold enableRing
  try dsimp only
  repeat' with_reducible first
    | assumption | exact Acts.refl _ | exact hl.mono (by decide) | apply modRing_acts | apply ringLogs_acts
    | apply ringError_acts | refine Acts.ite ?_ ?_ | refine Acts.upd ?_ | intro _ | split

theorem writeRing_coalesce_acts {L : Nat} {s x : State} {a0 a1} (hl : Sub 9261023232 L) (h : Acts L s x) :
    Acts L s (writeRing.coalesce a0 a1 x) := by
  unfold writeRing.coalesce
  try dsimp only
  repeat' with_reducible first
    | assumption | exact Acts.refl _ | exact hl.mono (by decide) | apply ringSignal_acts | apply modRing_acts
    | refine Acts.ite ?_ ?_ | refine Acts.upd ?_ | intro _ | split

theorem writeRing_acts {L : Nat} {s x : State} {a0 a1 a2 a3} (hl : Sub 11413753985 L) (h : Acts L s x) :
    Acts L s (writeRing a0 a1 a2 a3 x) := by
  unfold writeRing
  try dsimp only
  repeat' with_reducible first
    | assumption | exact Acts.refl _ | exact hl.mono (by decide) | apply modRing_acts | apply enableRing_acts
    | apply disableRing_acts | apply writeRing_coalesce_acts | refine Acts.ite ?_ ?_ | refine Acts.upd ?_ | intro _
    | split

theorem lanRows_acts {L : Nat} {s x : State} {a0 a1 a2 a3} (hl : Sub 80167284949 L) (h : Acts L s x) :
    Acts L s (lanRows a0 a1 a2 a3 x).2.2 := by
  induction a2 generalizing a0 a1 a3 x with
  | zero => exact h
  | succ k ih =>
    unfold lanRows
    try dsimp only
    repeat' with_reducible first
      | apply ih | assumption | exact Acts.refl _ | exact hl.mono (by decide) | apply lanRow_acts
      | refine Acts.ite ?_ ?_ | refine Acts.upd ?_ | intro _ | split

theorem openRows_acts {L : Nat} {s x : State} {a0 a1 a2} (hl : Sub 80167284949 L) (h : Acts L s x) :
    Acts L s (openRows a0 a1 a2 x) := by
  unfold openRows
  try dsimp only
  repeat' with_reducible first
    | assumption | exact Acts.refl _ | exact hl.mono (by decide) | apply bufOpen_acts | apply freshen_acts
    | apply modTile_acts | apply ledgerEnter_acts | apply onlyIf_acts | apply forEach_acts | refine Acts.ite ?_ ?_
    | refine Acts.upd ?_ | intro _ | split

theorem bufWord_acts {L : Nat} {s x : State} {a0 a1} (hl : Sub 11413762261 L) (h : Acts L s x) :
    Acts L s (bufWord a0 a1 x) := by
  unfold bufWord
  try dsimp only
  repeat' with_reducible first
    | assumption | exact Acts.refl _ | exact hl.mono (by decide) | apply raiseTile_acts | apply bump_acts
    | refine Acts.ite ?_ ?_ | refine Acts.upd ?_ | intro _ | split

theorem ledgerWord_acts {L : Nat} {s x : State} {a0 a1 a2} (hl : Sub 11413762261 L) (h : Acts L s x) :
    Acts L s (ledgerWord a0 a1 a2 x) := by
  unfold ledgerWord
  try dsimp only
  repeat' with_reducible first
    | assumption | exact Acts.refl _ | exact hl.mono (by decide) | apply raiseWith_acts | apply bump_acts
    | refine Acts.ite ?_ ?_ | refine Acts.upd ?_ | intro _ | split

theorem lanRun_acts {L : Nat} {s x : State} {a0 a1 a2 a3 a4 a5} (hl : Sub 80167284949 L) (h : Acts L s x) :
    Acts L s (lanRun a0 a1 a2 a3 a4 a5 x).2.2 := by
  unfold lanRun
  try dsimp only
  repeat' with_reducible first
    | assumption | exact Acts.refl _ | exact hl.mono (by decide) | apply lanRows_acts | apply openRows_acts
    | apply bufWord_acts | apply ledgerWord_acts | apply onlyIf_acts | refine Acts.ite ?_ ?_ | refine Acts.upd ?_
    | refine Acts.pair2 (by assumption) (lanRows_acts ?_ ?_) | intro _ | split

theorem zeroChannel_acts {L : Nat} {s x : State} {a0} (hl : Sub 98304 L) (h : Acts L s x) :
    Acts L s (zeroChannel a0 x) := by
  unfold zeroChannel
  try dsimp only
  repeat' with_reducible first
    | assumption | exact Acts.refl _ | exact hl.mono (by decide) | apply storeKeep_acts | refine Acts.ite ?_ ?_
    | refine Acts.upd ?_ | intro _ | split

theorem execStoreSelfTest_acts {L : Nat} {x t : State} {a0 a1 a2 a3} (hl : Sub 11414384853 L) (e : execStoreSelfTest a0 a1 a2 a3 x = .next t) :
    Acts L x t := by
  unfold execStoreSelfTest at e
  cases e
  try dsimp only
  repeat' with_reducible first
    | assumption | exact Acts.refl _ | exact hl.mono (by decide) | apply zeroChannel_acts | apply rowFailure_acts
    | apply leaveStep4_acts | apply modChan_acts | apply raise_acts | apply forEach_acts | refine Acts.ite ?_ ?_
    | refine Acts.upd ?_ | intro _ | split

theorem execKeyEnrolment_acts {L : Nat} {x t : State} {a0 a1 a2 a3} (hl : Sub 102005473279 L) (e : execKeyEnrolment a0 a1 a2 a3 x = .next t) :
    Acts L x t := by
  unfold execKeyEnrolment at e
  cases e
  try dsimp only
  repeat' with_reducible first
    | assumption | exact Acts.refl _ | exact hl.mono (by decide) | apply odWrite_acts | refine Acts.ite ?_ ?_
    | refine Acts.upd ?_ | intro _ | split

theorem setClass_acts {L : Nat} {s x : State} {a0 a1} (hl : Sub 11415859413 L) (h : Acts L s x) :
    Acts L s (setClass a0 a1 x) := by
  unfold setClass
  try dsimp only
  repeat' with_reducible first
    | assumption | exact Acts.refl _ | exact hl.mono (by decide) | apply modFib_acts | apply optFault_acts
    | apply splitDrop_acts | apply withdraw_acts | apply returnPair_acts | apply onlyIf_acts | refine Acts.ite ?_ ?_
    | refine Acts.upd ?_ | intro _ | split

theorem remeasure_acts {L : Nat} {s x : State} {a0} (hl : Sub 11415859413 L) (h : Acts L s x) :
    Acts L s (remeasure a0 x) := by
  unfold remeasure
  try dsimp only
  repeat' with_reducible first
    | assumption | exact Acts.refl _ | exact hl.mono (by decide) | apply setClass_acts | refine Acts.ite ?_ ?_
    | refine Acts.upd ?_ | intro _ | split

theorem storeOpen_acts {L : Nat} {s x : State} {a0 a1} (hl : Sub 68719509504 L) (h : Acts L s x) :
    Acts L s (storeOpen a0 a1 x) := by
  unfold storeOpen
  try dsimp only
  repeat' with_reducible first
    | assumption | exact Acts.refl _ | exact hl.mono (by decide) | apply freshen_acts | apply storeWrite_acts
    | refine Acts.ite ?_ ?_ | refine Acts.upd ?_ | intro _ | split

theorem partnerLost_acts {L : Nat} {s x : State} {a0 a1} (hl : Sub 80166826197 L) (h : Acts L s x) :
    Acts L s (partnerLost a0 a1 x) := by
  unfold partnerLost
  try dsimp only
  repeat' with_reducible first
    | assumption | exact Acts.refl _ | exact hl.mono (by decide) | apply storeOpen_acts | apply twinFault_acts
    | apply settleTwin_acts | apply forEach_acts | refine Acts.ite ?_ ?_ | refine Acts.upd ?_ | intro _ | split

theorem execPartnerLossTimeout_acts {L : Nat} {x t : State} (hl : Sub 80166826197 L) (e : execPartnerLossTimeout x = .next t) :
    Acts L x t := by
  unfold execPartnerLossTimeout at e
  cases e
  try dsimp only
  repeat' with_reducible first
    | assumption | exact Acts.refl _ | exact hl.mono (by decide) | apply partnerLost_acts | refine Acts.ite ?_ ?_
    | refine Acts.upd ?_ | intro _ | split

theorem execVigilWatchdog_acts {L : Nat} {x t : State} (hl : Sub 11415859965 L) (e : execVigilWatchdog x = .next t) :
    Acts L x t := by
  unfold execVigilWatchdog at e
  cases e
  try dsimp only
  repeat' with_reducible first
    | assumption | exact Acts.refl _ | exact hl.mono (by decide) | apply closeSessions_acts | apply bump_acts
    | apply raise_acts | apply onlyIf_acts | refine Acts.ite ?_ ?_ | refine Acts.upd ?_ | intro _ | split

theorem startReceive_acts {L : Nat} {s x : State} {a0} (hl : Sub 33554432 L) (h : Acts L s x) :
    Acts L s (startReceive a0 x) := by
  unfold startReceive
  try dsimp only
  repeat' with_reducible first
    | assumption | exact Acts.refl _ | exact hl.mono (by decide) | refine Acts.ite ?_ ?_ | refine Acts.upd ?_ | intro _
    | split

theorem adoptTable_acts {L : Nat} {s x : State} {a0} (hl : Sub 11447316949 L) (h : Acts L s x) :
    Acts L s (adoptTable a0 x) := by
  unfold adoptTable
  try dsimp only
  repeat' with_reducible first
    | assumption | exact Acts.refl _ | exact hl.mono (by decide) | apply twinFault_acts | apply restoreReceived_acts
    | refine Acts.ite ?_ ?_ | refine Acts.upd ?_ | intro _ | split

theorem judgePairing_acts {L : Nat} {s x : State} {a0} (hl : Sub 80166826453 L) (h : Acts L s x) :
    Acts L s (judgePairing a0 x) := by
  unfold judgePairing
  try dsimp only
  repeat' with_reducible first
    | assumption | exact Acts.refl _ | exact hl.mono (by decide) | apply partnerLost_acts | apply settleTwin_acts
    | apply raiseWith_acts | apply twinFault_acts | apply startRestore_acts | apply startReceive_acts
    | apply adoptTable_acts | apply startProtect_acts | refine Acts.ite ?_ ?_ | refine Acts.upd ?_ | intro _ | split

theorem sendPhaseNak_acts {L : Nat} {s x : State} {a0 a1 a2} (hl : Sub 4299161600 L) (h : Acts L s x) :
    Acts L s (sendPhaseNak a0 a1 a2 x) := by
  unfold sendPhaseNak
  try dsimp only
  repeat' with_reducible first
    | assumption | exact Acts.refl _ | exact hl.mono (by decide) | apply wire_acts | apply modPair_acts
    | refine Acts.ite ?_ ?_ | refine Acts.upd ?_ | intro _ | split

theorem takePhase_acts {L : Nat} {s x : State} {a0 a1 a2} (hl : Sub 4301258752 L) (h : Acts L s x) (hf : ∀ b0 y, Acts L s y → Acts L s (a2 b0 y)) :
    Acts L s (takePhase a0 a1 a2 x) := by
  unfold takePhase
  try dsimp only
  repeat' with_reducible first
    | assumption | exact Acts.refl _ | exact hl.mono (by decide) | apply takeAck_acts | apply modPair_acts
    | apply takeCredit_acts | apply modFib_acts | apply sendPhaseNak_acts | apply hf | refine Acts.ite ?_ ?_
    | refine Acts.upd ?_ | intro _ | split

theorem dropPacket_acts {L : Nat} {s x : State} {a0} (hl : Sub 11413762261 L) (h : Acts L s x) :
    Acts L s (dropPacket a0 x).2 := by
  unfold dropPacket
  try dsimp only
  repeat' with_reducible first
    | assumption | exact Acts.refl _ | exact hl.mono (by decide) | apply packetFault_acts | refine Acts.ite ?_ ?_
    | refine Acts.upd ?_ | intro _ | split

theorem stallKeep_acts {L : Nat} {s x : State} (hl : Sub 33554432 L) (h : Acts L s x) :
    Acts L s (stallKeep x) := by
  unfold stallKeep
  try dsimp only
  repeat' with_reducible first
    | assumption | exact Acts.refl _ | exact hl.mono (by decide) | refine Acts.ite ?_ ?_ | refine Acts.upd ?_ | intro _
    | split

theorem writeWaits_acts {L : Nat} {s x : State} {a0} (hl : Sub 33554432 L) (h : Acts L s x) :
    Acts L s (writeWaits a0 x) := by
  unfold writeWaits
  try dsimp only
  repeat' with_reducible first
    | assumption | exact Acts.refl _ | exact hl.mono (by decide) | apply stallKeep_acts | refine Acts.ite ?_ ?_
    | refine Acts.upd ?_ | intro _ | split

theorem fillWaits_acts {L : Nat} {s x : State} {a0 a1 a2} (hl : Sub 33554432 L) (h : Acts L s x) :
    Acts L s (fillWaits a0 a1 a2 x) := by
  unfold fillWaits
  try dsimp only
  repeat' with_reducible first
    | assumption | exact Acts.refl _ | exact hl.mono (by decide) | apply writeWaits_acts | refine Acts.ite ?_ ?_
    | refine Acts.upd ?_ | intro _ | split

theorem accessFault_acts {L : Nat} {s x : State} {a0 a1 a2 a3} (hl : Sub 11413762261 L) (h : Acts L s x) :
    Acts L s (accessFault a0 a1 a2 a3 x) := by
  unfold accessFault
  try dsimp only
  repeat' with_reducible first
    | assumption | exact Acts.refl _ | exact hl.mono (by decide) | apply raiseWith_acts | refine Acts.ite ?_ ?_
    | refine Acts.upd ?_ | intro _ | split

theorem putLocal_acts {L : Nat} {s x : State} {a0 a1 a2 a3} (hl : Sub 11447677141 L) (h : Acts L s x) :
    Acts L s (putLocal a0 a1 a2 a3 x).2 := by
  unfold putLocal
  try dsimp only
  repeat' with_reducible first
    | assumption | exact Acts.refl _ | exact hl.mono (by decide) | apply accessFault_acts | apply homeFill_acts
    | apply bufWrite_acts | refine Acts.ite ?_ ?_ | refine Acts.upd ?_ | intro _ | split

theorem pieceBytes_acts {L : Nat} {s x : State} {a0 a1 a2 a3 a4 a5 a6} (hl : Sub 16777216 L) (h : Acts L s x) :
    Acts L s (pieceBytes a0 a1 a2 a3 a4 a5 a6 x).2 := by
  unfold pieceBytes
  try dsimp only
  repeat' with_reducible first
    | assumption | exact Acts.refl _ | exact hl.mono (by decide) | refine Acts.ite ?_ ?_ | refine Acts.upd ?_ | intro _
    | split

theorem takeData_acts {L : Nat} {s x : State} {a0 a1 a2} (hl : Sub 11464454357 L) (h : Acts L s x) :
    Acts L s (takeData a0 a1 a2 x).2 := by
  unfold takeData
  try dsimp only
  repeat' with_reducible first
    | assumption | exact Acts.refl _ | exact hl.mono (by decide) | apply dropPacket_acts | apply fillWaits_acts
    | apply putLocal_acts | apply pieceBytes_acts | apply sendPacket_acts | apply onlyIf_acts | refine Acts.ite ?_ ?_
    | refine Acts.upd ?_ | refine Acts.pair (by assumption) (dropPacket_acts ?_ ?_)
    | refine Acts.pair (by assumption) (putLocal_acts ?_ ?_) | refine Acts.pair (by assumption) (pieceBytes_acts ?_ ?_)
    | intro _ | split

theorem execPhaseFlit_acts {L : Nat} {x t : State} {a0 a1 a2 a3} (hl : Sub 15761518805 L) (e : execPhaseFlit a0 a1 a2 a3 x = .next t) :
    Acts L x t := by
  unfold execPhaseFlit at e
  cases e
  try dsimp only
  repeat' with_reducible first
    | assumption | exact Acts.refl _ | exact hl.mono (by decide) | apply optFault_acts | apply takeAck_acts
    | apply takePhase_acts | apply modFib_acts | apply modPair_acts | apply freeSlot_acts | apply packetFault_acts
    | apply takeData_acts | refine Acts.ite ?_ ?_ | refine Acts.upd ?_
    | refine Acts.pair (by assumption) (takeData_acts ?_ ?_) | intro _ | split

theorem bootBlock_acts {L : Nat} {s x : State} {a0} (hl : Sub 11413762293 L) (h : Acts L s x) :
    Acts L s (bootBlock a0 x) := by
  unfold bootBlock
  try dsimp only
  repeat' with_reducible first
    | assumption | exact Acts.refl _ | exact hl.mono (by decide) | apply raiseWith_acts | apply raise_acts
    | refine Acts.ite ?_ ?_ | refine Acts.upd ?_ | intro _ | split

theorem postHeld_acts {L : Nat} {s x : State} (hl : Sub 11274293376 L) (h : Acts L s x) :
    Acts L s (postHeld x) := by
  unfold postHeld
  refine forEach_acts (h.updBy ⟨rfl, rfl, rfl, id, fun b => ⟨b.1, b.2, b.3, b.4, b.5, Nat.zero_le _, b.7⟩, fun b => ⟨b.1, b.2, b.3⟩⟩) ?_
  intro a y k
  cases a
  · exact appendFault_acts (hl.mono (by decide)) k
  · exact appendEvent_acts (hl.mono (by decide)) k

theorem startCore_acts {L : Nat} {s x : State} {a0} (hl : Sub 11542729440 L) (h : Acts L s x) :
    Acts L s (startCore a0 x) := by
  unfold startCore
  try dsimp only
  repeat' with_reducible first
    | assumption | exact Acts.refl _ | exact hl.mono (by decide) | apply closeSessions_acts | apply postHeld_acts
    | apply logWith_acts | apply logFault_acts | apply onlyIf_acts | refine Acts.ite ?_ ?_ | refine Acts.upd ?_
    | intro _ | split

theorem execBoot_acts {L : Nat} {x t : State} {a0} (hl : Sub 11682198261 L) (e : execBoot a0 x = .next t) :
    Acts L x t := by
  unfold execBoot at e
  cases e
  try dsimp only
  repeat' with_reducible first
    | assumption | exact Acts.refl _ | exact hl.mono (by decide) | apply bootBlock_acts | apply logFault_acts
    | apply startCore_acts | apply onlyIf_acts | refine Acts.ite ?_ ?_ | refine Acts.upd ?_ | intro _ | split

theorem execFlitSend_acts {L : Nat} {x t : State} {a0} (hl : Sub 4299161600 L) (e : execFlitSend a0 x = .next t) : Acts L x t := by
  unfold execFlitSend at e
  cases e
  dsimp only
  have k := Acts.refl (L := L) x
  exact Acts.ite k (Acts.ite (wire_acts (hl.mono (by decide)) k) (Acts.ite
    (getD_acts (fun _ e => turn_acts (hl.mono (by decide)) k e) (emit_acts (hl.mono (by decide)) k)) k))

theorem beginShutdown_acts {L : Nat} {s x : State} {a0 a1 a2} (hl : Sub 11413762271 L) (h : Acts L s x) :
    Acts L s (beginShutdown a0 a1 a2 x) := by
  unfold beginShutdown
  try dsimp only
  repeat' with_reducible first
    | assumption | exact Acts.refl _ | exact hl.mono (by decide) | apply sendOwn_acts | apply raiseWith_acts
    | apply onlyIf_acts | refine Acts.ite ?_ ?_ | refine Acts.upd ?_ | intro _ | split

theorem execOverVoltageTrip_acts {L : Nat} {x t : State} (hl : Sub 11413762271 L) (e : execOverVoltageTrip x = .next t) :
    Acts L x t := by
  unfold execOverVoltageTrip at e
  cases e
  try dsimp only
  repeat' with_reducible first
    | assumption | exact Acts.refl _ | exact hl.mono (by decide) | apply beginShutdown_acts | refine Acts.ite ?_ ?_
    | refine Acts.upd ?_ | intro _ | split

theorem endXfer_acts {L : Nat} {s x : State} {a0 a1 a2} (hl : Sub 11414155477 L) (h : Acts L s x) :
    Acts L s (endXfer a0 a1 a2 x) := by
  unfold endXfer
  try dsimp only
  repeat' with_reducible first
    | assumption | exact Acts.refl _ | exact hl.mono (by decide) | apply bufWrite_acts | apply complete_acts
    | apply modTile_acts | refine Acts.ite ?_ ?_ | refine Acts.upd ?_ | intro _ | split

theorem stopXfer_acts {L : Nat} {s x : State} {a0 a1} (hl : Sub 4194304 L) (h : Acts L s x) :
    Acts L s (stopXfer a0 a1 x) := by
  unfold stopXfer
  try dsimp only
  repeat' with_reducible first
    | assumption | exact Acts.refl _ | exact hl.mono (by decide) | refine Acts.ite ?_ ?_ | refine Acts.upd ?_ | intro _
    | split

theorem endFence_acts {L : Nat} {s x : State} {a0 a1 a2} (hl : Sub 11414155477 L) (h : Acts L s x) :
    Acts L s (endFence a0 a1 a2 x) := by
  unfold endFence
  try dsimp only
  repeat' with_reducible first
    | assumption | exact Acts.refl _ | exact hl.mono (by decide) | apply bufWrite_acts | apply complete_acts
    | apply modTile_acts | refine Acts.ite ?_ ?_ | refine Acts.upd ?_ | intro _ | split

theorem haltTile_acts {L : Nat} {s x : State} {a0} (hl : Sub 11414155477 L) (h : Acts L s x) :
    Acts L s (haltTile a0 x) := by
  unfold haltTile
  try dsimp only
  repeat' with_reducible first
    | assumption | exact Acts.refl _ | exact hl.mono (by decide) | apply modTile_acts | apply endXfer_acts
    | apply stopXfer_acts | apply endFence_acts | apply forEach_acts | refine Acts.ite ?_ ?_ | refine Acts.upd ?_
    | intro _ | split

theorem stopTile_acts {L : Nat} {s x : State} {a0} (hl : Sub 80150409429 L) (h : Acts L s x) :
    Acts L s (stopTile a0 x) := by
  unfold stopTile
  try dsimp only
  repeat' with_reducible first
    | assumption | exact Acts.refl _ | exact hl.mono (by decide) | apply modTile_acts | apply haltTile_acts
    | apply tileResetNow_acts | apply onlyIf_acts | refine Acts.ite ?_ ?_ | refine Acts.upd ?_ | intro _ | split

theorem issue_acts {L : Nat} {s x : State} {a0 a1} (hl : Sub 131072 L) (h : Acts L s x) :
    Acts L s (issue a0 a1 x) := by
  unfold issue
  try dsimp only
  repeat' with_reducible first
    | assumption | exact Acts.refl _ | exact hl.mono (by decide) | apply modTile_acts | refine Acts.ite ?_ ?_
    | refine Acts.upd ?_ | intro _ | split

theorem issued_acts {L : Nat} {s x : State} {a0 a1} (hl : Sub 11413893333 L) (h : Acts L s x) :
    Acts L s (issued a0 a1 x) := by
  unfold issued
  try dsimp only
  repeat' with_reducible first
    | assumption | exact Acts.refl _ | exact hl.mono (by decide) | apply evaluate_acts | apply issue_acts
    | refine Acts.ite ?_ ?_ | refine Acts.upd ?_ | intro _ | split

theorem execFence_acts {L : Nat} {x t : State} {a0} (hl : Sub 11413893333 L) (e : execFence a0 x = .next t) :
    Acts L x t := by
  unfold execFence at e
  cases e
  try dsimp only
  repeat' with_reducible first
    | assumption | exact Acts.refl _ | exact hl.mono (by decide) | apply issued_acts | apply modTile_acts
    | refine Acts.ite ?_ ?_ | refine Acts.upd ?_ | intro _ | split

theorem execMarshalWatchdog_acts {L : Nat} {x t : State} {a0} (hl : Sub 11413893333 L) (e : execMarshalWatchdog a0 x = .next t) :
    Acts L x t := by
  unfold execMarshalWatchdog at e
  cases e
  try dsimp only
  repeat' with_reducible first
    | assumption | exact Acts.refl _ | exact hl.mono (by decide) | apply raiseTile_acts | apply bump_acts
    | apply modTile_acts | refine Acts.ite ?_ ?_ | refine Acts.upd ?_ | intro _ | split

theorem execShutdownDeadline_acts {L : Nat} {x t : State} (hl : Sub 80530603771 L) (e : execShutdownDeadline x = .next t) :
    Acts L x t := by
  unfold execShutdownDeadline at e
  cases e
  try dsimp only
  repeat' with_reducible first
    | assumption | exact Acts.refl _ | exact hl.mono (by decide) | apply pcieStop_acts | apply clearVolatile_acts
    | apply setPower_acts | refine Acts.ite ?_ ?_ | refine Acts.upd ?_ | intro _ | split

theorem sendPage_acts {L : Nat} {s x : State} {a0 a1 a2 a3 a4} (hl : Sub 37748736 L) (h : Acts L s x) :
    Acts L s (sendPage a0 a1 a2 a3 a4 x) := by
  induction a3 generalizing a0 a1 a2 a4 x with
  | zero => exact h
  | succ k ih =>
    unfold sendPage
    try dsimp only
    repeat' with_reducible first
      | apply ih | assumption | exact Acts.refl _ | exact hl.mono (by decide) | apply enqueueTwin_acts
      | apply onlyIf_acts | refine Acts.ite ?_ ?_ | refine Acts.upd ?_ | intro _ | split

theorem armLaunch_acts {L : Nat} {s x : State} {a0} (hl : Sub 11413762261 L) (h : Acts L s x) :
    Acts L s (armLaunch a0 x) := by
  unfold armLaunch
  try dsimp only
  repeat' with_reducible first
    | assumption | exact Acts.refl _ | exact hl.mono (by decide) | apply failLaunch_acts | apply raise_acts
    | apply onlyIf_acts | refine Acts.ite ?_ ?_ | refine Acts.upd ?_ | intro _ | split

theorem modBundle_acts {L : Nat} {s x : State} {a0 a1} (hl : Sub 16384 L) (h : Acts L s x) :
    Acts L s (modBundle a0 a1 x) := by
  unfold modBundle
  try dsimp only
  repeat' with_reducible first
    | assumption | exact Acts.refl _ | exact hl.mono (by decide) | refine Acts.ite ?_ ?_ | refine Acts.upd ?_ | intro _
    | split

theorem testBundle_acts {L : Nat} {s x : State} {a0} (hl : Sub 11413778645 L) (h : Acts L s x) :
    Acts L s (testBundle a0 x) := by
  unfold testBundle
  try dsimp only
  repeat' with_reducible first
    | assumption | exact Acts.refl _ | exact hl.mono (by decide) | apply modBundle_acts | apply raise_acts
    | apply onlyIf_acts | refine Acts.ite ?_ ?_ | refine Acts.upd ?_ | intro _ | split

theorem leaveStep3_acts {L : Nat} {s x : State} (hl : Sub 64 L) (h : Acts L s x) :
    Acts L s (leaveStep3 x) := by
  unfold leaveStep3
  try dsimp only
  repeat' with_reducible first
    | assumption | exact Acts.refl _ | exact hl.mono (by decide) | refine Acts.ite ?_ ?_ | refine Acts.upd ?_ | intro _
    | split

theorem verifyMicrocode_acts {L : Nat} {s x : State} (hl : Sub 11413762293 L) (h : Acts L s x) :
    Acts L s (verifyMicrocode x) := by
  unfold verifyMicrocode
  try dsimp only
  repeat' with_reducible first
    | assumption | exact Acts.refl _ | exact hl.mono (by decide) | apply logWith_acts | apply raiseWith_acts
    | refine Acts.ite ?_ ?_ | refine Acts.upd ?_ | intro _ | split

theorem execDiscovery_acts {L : Nat} {x t : State} {a0} (hl : Sub 11413778677 L) (e : execDiscovery a0 x = .next t) :
    Acts L x t := by
  unfold execDiscovery at e
  cases e
  try dsimp only
  repeat' with_reducible first
    | assumption | exact Acts.refl _ | exact hl.mono (by decide) | apply testBundle_acts | apply leaveStep3_acts
    | apply verifyMicrocode_acts | apply forEach_acts | refine Acts.ite ?_ ?_ | refine Acts.upd ?_ | intro _ | split

theorem execHaltRequestResolve_acts {L : Nat} {x t : State} (hl : Sub 11430670549 L) (e : execHaltRequestResolve x = .next t) :
    Acts L x t := by
  unfold execHaltRequestResolve at e
  cases e
  try dsimp only
  repeat' with_reducible first
    | assumption | exact Acts.refl _ | exact hl.mono (by decide) | apply resolveLost_acts | apply forEach_acts
    | refine Acts.ite ?_ ?_ | refine Acts.upd ?_ | intro _ | split

theorem fixOutcome_acts {L : Nat} {s x : State} (hl : Sub 80150409429 L) (h : Acts L s x) :
    Acts L s (fixOutcome x) := by
  unfold fixOutcome
  try dsimp only
  repeat' with_reducible first
    | assumption | exact Acts.refl _ | exact hl.mono (by decide) | apply eachTile_acts | apply stopTile_acts
    | apply endLaunch_acts | apply failStart_acts | refine Acts.ite ?_ ?_ | refine Acts.upd ?_ | intro _ | split

theorem timeAtLeast_acts {L : Nat} {s x : State} {a0} (hl : Sub 8388608 L) (h : Acts L s x) :
    Acts L s (timeAtLeast a0 x) := by
  unfold timeAtLeast
  try dsimp only
  repeat' with_reducible first
    | assumption | exact Acts.refl _ | exact hl.mono (by decide) | refine Acts.ite ?_ ?_ | refine Acts.upd ?_ | intro _
    | split

theorem calendTokens_acts {L : Nat} {s x : State} (hl : Sub 11413762261 L) (h : Acts L s x) :
    Acts L s (calendTokens x) := by
  unfold calendTokens
  try dsimp only
  repeat' with_reducible first
    | assumption | exact Acts.refl _ | exact hl.mono (by decide) | apply raiseTile_acts | apply forEach_acts
    | refine Acts.ite ?_ ?_ | refine Acts.upd ?_ | intro _ | split

theorem conservation_acts {L : Nat} {s x : State} {a0 a1 a2} (hl : Sub 11413762261 L) (h : Acts L s x) :
    Acts L s (conservation a0 a1 a2 x) := by
  unfold conservation
  try dsimp only
  repeat' with_reducible first
    | assumption | exact Acts.refl _ | exact hl.mono (by decide) | apply raiseWith_acts | apply modPair_acts
    | refine Acts.ite ?_ ?_ | refine Acts.upd ?_ | intro _ | split

theorem calendLinks_acts {L : Nat} {s x : State} {a0} (hl : Sub 11413762261 L) (h : Acts L s x) :
    Acts L s (calendLinks a0 x) := by
  unfold calendLinks
  try dsimp only
  repeat' with_reducible first
    | assumption | exact Acts.refl _ | exact hl.mono (by decide) | apply conservation_acts | apply raise_acts
    | apply modPair_acts | apply onlyIf_acts | apply forEach_acts | refine Acts.ite ?_ ?_ | refine Acts.upd ?_ | intro _
    | split

theorem calendNotices_acts {L : Nat} {s x : State} {a0} (hl : Sub 11415859413 L) (h : Acts L s x) :
    Acts L s (calendNotices a0 x) := by
  unfold calendNotices
  try dsimp only
  repeat' with_reducible first
    | assumption | exact Acts.refl _ | exact hl.mono (by decide) | apply withdrawQuiet_acts | apply modFib_acts
    | apply forEach_acts | refine Acts.ite ?_ ?_ | refine Acts.upd ?_ | intro _ | split

theorem finishDetach_acts {L : Nat} {s x : State} {a0} (hl : Sub 37748736 L) (h : Acts L s x) :
    Acts L s (finishDetach a0 x) := by
  unfold finishDetach
  try dsimp only
  repeat' with_reducible first
    | assumption | exact Acts.refl _ | exact hl.mono (by decide) | apply sendTwin_acts | refine Acts.ite ?_ ?_
    | refine Acts.upd ?_ | intro _ | split

theorem calendTwin_acts {L : Nat} {s x : State} {a0 a1} (hl : Sub 11447316693 L) (h : Acts L s x) :
    Acts L s (calendTwin a0 a1 x) := by
  unfold calendTwin
  try dsimp only
  repeat' with_reducible first
    | assumption | exact Acts.refl _ | exact hl.mono (by decide) | apply enqueueTwin_acts | apply twinFault_acts
    | apply finishDetach_acts | apply onlyIf_acts | apply forEach_acts | refine Acts.ite ?_ ?_ | refine Acts.upd ?_
    | intro _ | split

theorem applySpare_acts {L : Nat} {s x : State} {a0} (hl : Sub 2097152 L) (h : Acts L s x) :
    Acts L s (applySpare a0 x) := by
  unfold applySpare
  try dsimp only
  repeat' with_reducible first
    | assumption | exact Acts.refl _ | exact hl.mono (by decide) | apply pauseEngine_acts | apply modEng_acts
    | refine Acts.ite ?_ ?_ | refine Acts.upd ?_ | intro _ | split

theorem closeWindow_acts {L : Nat} {s x : State} {a0} (hl : Sub 11415859413 L) (h : Acts L s x) :
    Acts L s (closeWindow a0 x) := by
  unfold closeWindow
  try dsimp only
  repeat' with_reducible first
    | assumption | exact Acts.refl _ | exact hl.mono (by decide) | apply pauseEngine_acts | apply modEng_acts
    | apply returnPair_acts | refine Acts.ite ?_ ?_ | refine Acts.upd ?_ | intro _ | split

theorem skipItem_acts {L : Nat} {s x : State} {a0} (hl : Sub 11413762261 L) (h : Acts L s x) :
    Acts L s (skipItem a0 x) := by
  unfold skipItem
  try dsimp only
  repeat' with_reducible first
    | assumption | exact Acts.refl _ | exact hl.mono (by decide) | apply optFault_acts | refine Acts.ite ?_ ?_
    | refine Acts.upd ?_ | intro _ | split

theorem openWindow_acts {L : Nat} {s x : State} {a0} (hl : Sub 11415859413 L) (h : Acts L s x) :
    Acts L s (openWindow a0 x) := by
  unfold openWindow
  try dsimp only
  repeat' with_reducible first
    | assumption | exact Acts.refl _ | exact hl.mono (by decide) | apply modEng_acts | apply skipItem_acts
    | apply pauseEngine_acts | apply withdrawQuiet_acts | refine Acts.ite ?_ ?_ | refine Acts.upd ?_ | intro _ | split

theorem announceWindow_acts {L : Nat} {s x : State} {a0 a1} (hl : Sub 6291456 L) (h : Acts L s x) :
    Acts L s (announceWindow a0 a1 x) := by
  unfold announceWindow
  try dsimp only
  repeat' with_reducible first
    | assumption | exact Acts.refl _ | exact hl.mono (by decide) | apply modEng_acts | apply sendLinkNotice_acts
    | apply forEach_acts | refine Acts.ite ?_ ?_ | refine Acts.upd ?_ | intro _ | split

theorem calendOptics_acts {L : Nat} {s x : State} {a0} (hl : Sub 11415859413 L) (h : Acts L s x) :
    Acts L s (calendOptics a0 x) := by
  unfold calendOptics
  try dsimp only
  repeat' with_reducible first
    | assumption | exact Acts.refl _ | exact hl.mono (by decide) | apply applySpare_acts | apply closeWindow_acts
    | apply openWindow_acts | apply announceWindow_acts | apply forEach_acts | refine Acts.ite ?_ ?_
    | refine Acts.upd ?_ | intro _ | split

theorem beginCalendar_acts {L : Nat} {s x : State} {a0 a1} (hl : Sub 11415990485 L) (h : Acts L s x) :
    Acts L s (beginCalendar a0 a1 x) := by
  unfold beginCalendar
  try dsimp only
  repeat' with_reducible first
    | assumption | exact Acts.refl _ | exact hl.mono (by decide) | apply eachTile_acts | apply modTile_acts
    | apply openFrame_acts | refine Acts.ite ?_ ?_ | refine Acts.upd ?_ | intro _ | split

theorem incompleteTile_acts {L : Nat} {s x : State} {a0 a1} (hl : Sub 11413893333 L) (h : Acts L s x) :
    Acts L s (incompleteTile a0 a1 x) := by
  unfold incompleteTile
  try dsimp only
  repeat' with_reducible first
    | assumption | exact Acts.refl _ | exact hl.mono (by decide) | apply raiseTile_acts | apply modTile_acts
    | refine Acts.ite ?_ ?_ | refine Acts.upd ?_ | intro _ | split

theorem closeFrame_acts {L : Nat} {s x : State} {a0} (hl : Sub 11413893333 L) (h : Acts L s x) :
    Acts L s (closeFrame a0 x) := by
  unfold closeFrame
  try dsimp only
  repeat' with_reducible first
    | assumption | exact Acts.refl _ | exact hl.mono (by decide) | apply eachTile_acts | apply incompleteTile_acts
    | apply bump_acts | refine Acts.ite ?_ ?_ | refine Acts.upd ?_ | intro _ | split

theorem passHalt_acts {L : Nat} {s x : State} {a0} (hl : Sub 11416252629 L) (h : Acts L s x) :
    Acts L s (passHalt a0 x) := by
  unfold passHalt
  try dsimp only
  repeat' with_reducible first
    | assumption | exact Acts.refl _ | exact hl.mono (by decide) | apply failStart_acts | apply eachTile_acts
    | apply haltTile_acts | apply endWindow_acts | apply forEach_acts | refine Acts.ite ?_ ?_ | refine Acts.upd ?_
    | intro _ | split

theorem calendFrames_acts {L : Nat} {s x : State} {a0} (hl : Sub 11416252629 L) (h : Acts L s x) :
    Acts L s (calendFrames a0 x) := by
  unfold calendFrames
  try dsimp only
  repeat' with_reducible first
    | assumption | exact Acts.refl _ | exact hl.mono (by decide) | apply beginCalendar_acts | apply closeFrame_acts
    | apply passHalt_acts | apply advanceFrame_acts | apply onlyIf_acts | refine Acts.ite ?_ ?_ | refine Acts.upd ?_
    | intro _ | split

theorem execCalend_acts {L : Nat} {x t : State} (hl : Sub 80194449621 L) (e : execCalend x = .next t) :
    Acts L x t := by
  unfold execCalend at e
  cases e
  try dsimp only
  repeat' with_reducible first
    | assumption | exact Acts.refl _ | exact hl.mono (by decide) | apply fixOutcome_acts | apply timeAtLeast_acts
    | apply calendTokens_acts | apply calendLinks_acts | apply calendNotices_acts | apply calendTwin_acts
    | apply calendOptics_acts | apply calendFrames_acts | refine Acts.ite ?_ ?_ | refine Acts.upd ?_ | intro _ | split

theorem openFar_acts {L : Nat} {s x : State} {a0} (hl : Sub 294912 L) (h : Acts L s x) :
    Acts L s (openFar a0 x) := by
  unfold openFar
  try dsimp only
  repeat' with_reducible first
    | assumption | exact Acts.refl _ | exact hl.mono (by decide) | apply pokeFar_acts | apply forEach_acts
    | refine Acts.ite ?_ ?_ | refine Acts.upd ?_ | intro _ | split

theorem leaveStep5_acts {L : Nat} {s x : State} (hl : Sub 11438928373 L) (h : Acts L s x) :
    Acts L s (leaveStep5 x) := by
  unfold leaveStep5
  try dsimp only
  repeat' with_reducible first
    | assumption | exact Acts.refl _ | exact hl.mono (by decide) | apply leaveStep6_acts | refine Acts.ite ?_ ?_
    | refine Acts.upd ?_ | intro _ | split

theorem execEngineLost_acts {L : Nat} {x t : State} {a0} (hl : Sub 11441025525 L) (e : execEngineLost a0 x = .next t) :
    Acts L x t := by
  unfold execEngineLost at e
  cases e
  try dsimp only
  repeat' with_reducible first
    | assumption | exact Acts.refl _ | exact hl.mono (by decide) | apply modEng_acts | apply withdraw_acts
    | apply leaveStep5_acts | apply optFault_acts | apply forEach_acts | refine Acts.ite ?_ ?_ | refine Acts.upd ?_
    | intro _ | split

theorem odInfo_acts {L : Nat} {s x : State} {a0 a1 a2} (hl : Sub 28593631445 L) (h : Acts L s x) :
    Acts L s (odInfo a0 a1 a2 x) := by
  unfold odInfo
  try dsimp only
  repeat' with_reducible first
    | assumption | exact Acts.refl _ | exact hl.mono (by decide) | apply serve_acts | apply respond_acts
    | refine Acts.ite ?_ ?_ | refine Acts.upd ?_ | intro _ | split

theorem control_acts {L : Nat} {s x : State} {a0 a1 a2} (hl : Sub 34359738368 L) (h : Acts L s x) :
    Acts L s (Machine.control a0 a1 a2 x) := by
  unfold Machine.control
  try dsimp only
  repeat' with_reducible first
    | assumption | exact Acts.refl _ | exact hl.mono (by decide) | refine Acts.ite ?_ ?_ | refine Acts.upd ?_ | intro _
    | split

theorem pldm_acts {L : Nat} {s x : State} {a0 a1} (hl : Sub 34359738368 L) (h : Acts L s x) (hf : ∀ y, Acts L s y → Acts L s (a1 y)) :
    Acts L s (pldm a0 a1 x) := by
  unfold pldm
  try dsimp only
  repeat' with_reducible first
    | assumption | exact Acts.refl _ | exact hl.mono (by decide) | apply Laws.control_acts | apply hf
    | refine Acts.ite ?_ ?_ | refine Acts.upd ?_ | intro _ | split

theorem inUpdate_acts {L : Nat} {s x : State} {a0 a1 a2} (hl : Sub 34359738368 L) (h : Acts L s x)
    (hf : ∀ y, Acts L s y → Acts L s (a2 y)) : Acts L s (inUpdate a0 a1 a2 x) := by
  have c {b0 b1 b2 y} (k : Acts L s y) : Acts L s (Machine.control b0 b1 b2 y) := Laws.control_acts (hl.mono (by decide)) k
  exact pldm_acts (hl.mono (by decide)) h (fun _ k => Acts.ite (c k) (Acts.ite (hf _ k) (c k)))

theorem execPassComponentTable_acts {L : Nat} {x t : State} {a0 a1} (hl : Sub 34359739392 L) (e : execPassComponentTable a0 a1 x = .next t) :
    Acts L x t := by
  unfold execPassComponentTable at e
  cases e
  try dsimp only
  repeat' with_reducible first
    | assumption | exact Acts.refl _ | exact hl.mono (by decide) | apply inUpdate_acts | apply Laws.control_acts
    | refine Acts.ite ?_ ?_ | refine Acts.upd ?_ | intro _ | split

theorem judgeTheta_acts {L : Nat} {s x : State} {a0 a1} (hl : Sub 11422150869 L) (h : Acts L s x) :
    Acts L s (judgeTheta a0 a1 x) := by
  unfold judgeTheta
  try dsimp only
  repeat' with_reducible first
    | assumption | exact Acts.refl _ | exact hl.mono (by decide) | apply raiseWith_acts | apply onlyIf_acts
    | refine Acts.ite ?_ ?_ | refine Acts.upd ?_ | intro _ | split

theorem execTimeRequest_acts {L : Nat} {x t : State} {a0 a1 a2 a3} (hl : Sub 4194304 L) (e : execTimeRequest a0 a1 a2 a3 x = .next t) :
    Acts L x t := by
  unfold execTimeRequest at e
  cases e
  try dsimp only
  repeat' with_reducible first
    | assumption | exact Acts.refl _ | exact hl.mono (by decide) | apply enqueue_acts | apply freeSlot_acts
    | refine Acts.ite ?_ ?_ | refine Acts.upd ?_ | intro _ | split

theorem execLiveActivationRevert_acts {L : Nat} {x t : State} (hl : Sub 11413763317 L) (e : execLiveActivationRevert x = .next t) :
    Acts L x t := by
  unfold execLiveActivationRevert at e
  cases e
  try dsimp only
  repeat' with_reducible first
    | assumption | exact Acts.refl _ | exact hl.mono (by decide) | apply modImage_acts | apply raiseWith_acts
    | refine Acts.ite ?_ ?_ | refine Acts.upd ?_ | intro _ | split

theorem execVmodeReloadDone_acts {L : Nat} {x t : State} {a0} (hl : Sub 131072 L) (e : execVmodeReloadDone a0 x = .next t) :
    Acts L x t := by
  unfold execVmodeReloadDone at e
  cases e
  try dsimp only
  repeat' with_reducible first
    | assumption | exact Acts.refl _ | exact hl.mono (by decide) | apply modTile_acts | refine Acts.ite ?_ ?_
    | refine Acts.upd ?_ | intro _ | split

theorem refuseRequest_acts {L : Nat} {s x : State} {a0 a1} (hl : Sub 11413762261 L) (h : Acts L s x) :
    Acts L s (refuseRequest a0 a1 x) := by
  unfold refuseRequest
  try dsimp only
  repeat' with_reducible first
    | assumption | exact Acts.refl _ | exact hl.mono (by decide) | apply bump_acts | apply raiseWith_acts
    | refine Acts.ite ?_ ?_ | refine Acts.upd ?_ | intro _ | split

theorem tokenIssue_acts {L : Nat} {s x : State} {a0 a1} (hl : Sub 2147614720 L) (h : Acts L s x) :
    Acts L s (tokenIssue a0 a1 x).2 := by
  unfold tokenIssue
  try dsimp only
  repeat' with_reducible first
    | assumption | exact Acts.refl _ | exact hl.mono (by decide) | apply bump_acts | apply modTile_acts
    | refine Acts.ite ?_ ?_ | refine Acts.upd ?_ | intro _ | split

theorem addReq_acts {L : Nat} {s x : State} {a0} (hl : Sub 16777216 L) (h : Acts L s x) :
    Acts L s (addReq a0 x).2 := by
  unfold addReq
  try dsimp only
  repeat' with_reducible first
    | assumption | exact Acts.refl _ | exact hl.mono (by decide) | refine Acts.ite ?_ ?_ | refine Acts.upd ?_ | intro _
    | split

theorem execRelease_acts {L : Nat} {x t : State} {a0 a1} (hl : Sub 11430736085 L) (e : execRelease a0 a1 x = .next t) :
    Acts L x t := by
  unfold execRelease at e
  cases e
  try dsimp only
  repeat' with_reducible first
    | assumption | exact Acts.refl _ | exact hl.mono (by decide) | apply modFence_acts | apply refuseRequest_acts
    | apply tokenIssue_acts | apply addReq_acts | apply sendPacket_acts | refine Acts.ite ?_ ?_ | refine Acts.upd ?_
    | refine Acts.pair (by assumption) (tokenIssue_acts ?_ ?_) | refine Acts.pair (by assumption) (addReq_acts ?_ ?_)
    | intro _ | split

theorem execIdleFlit_acts {L : Nat} {x t : State} {a0} (hl : Sub 4194304 L) (e : execIdleFlit a0 x = .next t) :
    Acts L x t := by
  unfold execIdleFlit at e
  cases e
  try dsimp only
  repeat' with_reducible first
    | assumption | exact Acts.refl _ | exact hl.mono (by decide) | apply takeAck_acts | refine Acts.ite ?_ ?_
    | refine Acts.upd ?_ | intro _ | split

theorem keepRegs_acts {L : Nat} {s x : State} {a0 a1 a2} (hl : Sub 131072 L) (h : Acts L s x) :
    Acts L s (keepRegs a0 a1 a2 x) := by
  unfold keepRegs
  try dsimp only
  repeat' with_reducible first
    | assumption | exact Acts.refl _ | exact hl.mono (by decide) | apply modTile_acts | refine Acts.ite ?_ ?_
    | refine Acts.upd ?_ | intro _ | split

theorem runEffects_acts {L : Nat} {s x : State} {a0 a1 a2} (hl : Sub 2147614720 L) (h : Acts L s x) :
    Acts L s (runEffects a0 a1 a2 x) := by
  unfold runEffects
  try dsimp only
  repeat' with_reducible first
    | assumption | exact Acts.refl _ | exact hl.mono (by decide) | apply bump_acts | apply setFlags_acts
    | refine Acts.ite ?_ ?_ | refine Acts.upd ?_ | intro _ | split

theorem stopOutput_acts {L : Nat} {s x : State} {a0 a1 a2 a3} (hl : Sub 68719771648 L) (h : Acts L s x) :
    Acts L s (stopOutput a0 a1 a2 a3 x) := by
  unfold stopOutput
  try dsimp only
  repeat' with_reducible first
    | assumption | exact Acts.refl _ | exact hl.mono (by decide) | apply freshen_acts | apply pokeFar_acts
    | apply forEach_acts | refine Acts.ite ?_ ?_ | refine Acts.upd ?_ | intro _ | split

theorem vectorIdle_acts {L : Nat} {s x : State} {a0 a1} (hl : Sub 2164391936 L) (h : Acts L s x) :
    Acts L s (vectorIdle a0 a1 x) := by
  unfold vectorIdle
  try dsimp only
  repeat' with_reducible first
    | assumption | exact Acts.refl _ | exact hl.mono (by decide) | apply bump_acts | apply freeHeralds_acts
    | apply modTile_acts | refine Acts.ite ?_ ?_ | refine Acts.upd ?_ | intro _ | split

theorem stopVector_acts {L : Nat} {s x : State} {a0 a1 a2 a3} (hl : Sub 70884163584 L) (h : Acts L s x) :
    Acts L s (stopVector a0 a1 a2 a3 x) := by
  unfold stopVector
  try dsimp only
  repeat' with_reducible first
    | assumption | exact Acts.refl _ | exact hl.mono (by decide) | apply freshen_acts | apply setGen_acts
    | apply keepRegs_acts | apply runEffects_acts | apply stopOutput_acts | apply vectorIdle_acts | apply onlyIf_acts
    | apply forEach_acts | refine Acts.ite ?_ ?_ | refine Acts.upd ?_ | intro _ | split

theorem execVectorRunStop_acts {L : Nat} {x t : State} {a0 a1} (hl : Sub 70884163584 L) (e : execVectorRunStop a0 a1 x = .next t) :
    Acts L x t := by
  unfold execVectorRunStop at e
  cases e
  try dsimp only
  repeat' with_reducible first
    | assumption | exact Acts.refl _ | exact hl.mono (by decide) | apply modTile_acts | apply stopVector_acts
    | refine Acts.ite ?_ ?_ | refine Acts.upd ?_ | intro _ | split

theorem setLight_acts {L : Nat} {s x : State} {a0 a1 a2} (hl : Sub 2097152 L) (h : Acts L s x) :
    Acts L s (setLight a0 a1 a2 x) := by
  unfold setLight
  try dsimp only
  repeat' with_reducible first
    | assumption | exact Acts.refl _ | exact hl.mono (by decide) | apply modEng_acts | refine Acts.ite ?_ ?_
    | refine Acts.upd ?_ | intro _ | split

theorem sampleInput_acts {L : Nat} {s x : State} {a0 a1 a2} (hl : Sub 2097152 L) (h : Acts L s x) :
    Acts L s (sampleInput a0 a1 a2 x) := by
  unfold sampleInput
  try dsimp only
  repeat' with_reducible first
    | assumption | exact Acts.refl _ | exact hl.mono (by decide) | apply modLine_acts | apply forEach_acts
    | refine Acts.ite ?_ ?_ | refine Acts.upd ?_ | intro _ | split

theorem engineOut_acts {L : Nat} {s x : State} {a0} (hl : Sub 11415859413 L) (h : Acts L s x) :
    Acts L s (engineOut a0 x) := by
  unfold engineOut
  try dsimp only
  repeat' with_reducible first
    | assumption | exact Acts.refl _ | exact hl.mono (by decide) | apply endWindow_acts | apply modEng_acts
    | apply optFault_acts | apply withdraw_acts | apply onlyIf_acts | apply forEach_acts | refine Acts.ite ?_ ?_
    | refine Acts.upd ?_ | intro _ | split

theorem calibrateRing_acts {L : Nat} {s x : State} {a0 a1 a2} (hl : Sub 2097152 L) (h : Acts L s x) :
    Acts L s (calibrateRing a0 a1 a2 x) := by
  unfold calibrateRing
  try dsimp only
  repeat' with_reducible first
    | assumption | exact Acts.refl _ | exact hl.mono (by decide) | apply modReso_acts | refine Acts.ite ?_ ?_
    | refine Acts.upd ?_ | intro _ | split

theorem recordItem_acts {L : Nat} {s x : State} {a0 a1 a2} (hl : Sub 2097152 L) (h : Acts L s x) :
    Acts L s (recordItem a0 a1 a2 x) := by
  unfold recordItem
  try dsimp only
  repeat' with_reducible first
    | assumption | exact Acts.refl _ | exact hl.mono (by decide) | apply calibrateRing_acts | apply modEng_acts
    | apply forEach_acts | refine Acts.ite ?_ ?_ | refine Acts.upd ?_ | intro _ | split

theorem groupFails_acts {L : Nat} {s x : State} {a0 a1} (hl : Sub 11415859413 L) (h : Acts L s x) :
    Acts L s (groupFails a0 a1 x) := by
  unfold groupFails
  try dsimp only
  repeat' with_reducible first
    | assumption | exact Acts.refl _ | exact hl.mono (by decide) | apply modEng_acts | apply withdraw_acts
    | apply optFault_acts | apply onlyIf_acts | apply forEach_acts | refine Acts.ite ?_ ?_ | refine Acts.upd ?_
    | intro _ | split

theorem lightFibre_acts {L : Nat} {s x : State} {a0 a1} (hl : Sub 2097152 L) (h : Acts L s x) :
    Acts L s (lightFibre a0 a1 x) := by
  unfold lightFibre
  try dsimp only
  repeat' with_reducible first
    | assumption | exact Acts.refl _ | exact hl.mono (by decide) | apply modFib_acts | refine Acts.ite ?_ ?_
    | refine Acts.upd ?_ | intro _ | split

theorem lockRing_acts {L : Nat} {s x : State} {a0 a1} (hl : Sub 2097152 L) (h : Acts L s x) :
    Acts L s (lockRing a0 a1 x) := by
  unfold lockRing
  try dsimp only
  repeat' with_reducible first
    | assumption | exact Acts.refl _ | exact hl.mono (by decide) | apply modReso_acts | refine Acts.ite ?_ ?_
    | refine Acts.upd ?_ | intro _ | split

theorem lockRings_acts {L : Nat} {s x : State} {a0 a1 a2} (hl : Sub 11415859413 L) (h : Acts L s x) :
    Acts L s (lockRings a0 a1 a2 x) := by
  unfold lockRings
  try dsimp only
  repeat' with_reducible first
    | assumption | exact Acts.refl _ | exact hl.mono (by decide) | apply failRing_acts | apply lockRing_acts
    | apply forEach_acts | refine Acts.ite ?_ ?_ | refine Acts.upd ?_ | intro _ | split

theorem bringUp_acts {L : Nat} {s x : State} {a0 a1} (hl : Sub 11415859669 L) (h : Acts L s x) :
    Acts L s (bringUp a0 a1 x) := by
  unfold bringUp
  try dsimp only
  repeat' with_reducible first
    | assumption | exact Acts.refl _ | exact hl.mono (by decide) | apply loadBaselines_acts | apply raisePin_acts
    | apply setLight_acts | apply sampleInput_acts | apply engineOut_acts | apply modEng_acts | apply recordItem_acts
    | apply groupFails_acts | apply lightFibre_acts | apply lockRings_acts | apply settleRings_acts | apply modFib_acts
    | apply applyHeld_acts | apply startTraining_acts | apply forEach_acts | refine Acts.ite ?_ ?_ | refine Acts.upd ?_
    | intro _ | split

theorem execInfoEntry_acts {L : Nat} {x t : State} {a0 a1 a2} (hl : Sub 28593631445 L) (e : execInfoEntry a0 a1 a2 x = .next t) :
    Acts L x t := by
  unfold execInfoEntry at e
  cases e
  try dsimp only
  repeat' with_reducible first
    | assumption | exact Acts.refl _ | exact hl.mono (by decide) | apply odInfo_acts | refine Acts.ite ?_ ?_
    | refine Acts.upd ?_ | intro _ | split

theorem forwardPacket_acts {L : Nat} {s x : State} {a0 a1} (hl : Sub 11413762261 L) (h : Acts L s x) :
    Acts L s (forwardPacket a0 a1 x) := by
  unfold forwardPacket
  try dsimp only
  repeat' with_reducible first
    | assumption | exact Acts.refl _ | exact hl.mono (by decide) | apply sendPacketGo_acts | refine Acts.ite ?_ ?_
    | refine Acts.upd ?_ | intro _ | split

theorem arrive_acts {L : Nat} {s x : State} {a0 a1 a2 a3} (hl : Sub 11430670549 L) (h : Acts L s x) (hf : ∀ y, Acts L s y → Acts L s (a3 y).2) :
    Acts L s (arrive a0 a1 a2 a3 x) := by
  unfold arrive
  try dsimp only
  repeat' with_reducible first
    | assumption | exact Acts.refl _ | exact hl.mono (by decide) | apply packetFault_acts | apply freeSlot_acts
    | apply forwardPacket_acts | apply giveUpPacket_acts | apply hf | refine Acts.ite ?_ ?_ | refine Acts.upd ?_
    | intro _ | split

theorem execLoadData_acts {L : Nat} {x t : State} {a0 a1} (hl : Sub 80150212821 L) (e : execLoadData a0 a1 x = .next t) :
    Acts L x t := by
  unfold execLoadData at e
  cases e
  try dsimp only
  repeat' with_reducible first
    | assumption | exact Acts.refl _ | exact hl.mono (by decide) | apply arrive_acts | apply resolve_acts
    | apply takeLoadData_acts | refine Acts.ite ?_ ?_ | refine Acts.upd ?_
    | refine Acts.pair (by assumption) (resolve_acts ?_ ?_ ?_) | intro _ | split

theorem putLoss_acts {L : Nat} {s x : State} {a0} (hl : Sub 16 L) (h : Acts L s x) :
    Acts L s (putLoss a0 x) := by
  unfold putLoss
  try dsimp only
  repeat' with_reducible first
    | assumption | exact Acts.refl _ | exact hl.mono (by decide) | refine Acts.ite ?_ ?_ | refine Acts.upd ?_ | intro _
    | split

theorem storeZero_acts {L : Nat} {s x : State} (hl : Sub 32768 L) (h : Acts L s x) :
    Acts L s (storeZero x) := by
  exact h.updBy ⟨rfl, rfl, rfl, fun _ => rfl, fun b => ⟨b.1, b.2, b.3, b.4, b.5, b.6, b.7⟩, fun b => ⟨b.1, b.2, b.3⟩⟩

theorem execMcWatchdog_acts {L : Nat} {x t : State} (hl : Sub 11413762805 L) (e : execMcWatchdog x = .next t) :
    Acts L x t := by
  unfold execMcWatchdog at e
  cases e
  try dsimp only
  repeat' with_reducible first
    | assumption | exact Acts.refl _ | exact hl.mono (by decide) | apply stopCore_acts | apply bump_acts
    | apply raise_acts | refine Acts.ite ?_ ?_ | refine Acts.upd ?_ | intro _ | split

theorem acknowledge_acts {L : Nat} {s x : State} {a0 a1} (hl : Sub 11430670549 L) (h : Acts L s x) :
    Acts L s (acknowledge a0 a1 x) := by
  unfold acknowledge
  try dsimp only
  repeat' with_reducible first
    | assumption | exact Acts.refl _ | exact hl.mono (by decide) | apply answerReq_acts | apply sendPacket_acts
    | refine Acts.ite ?_ ?_ | refine Acts.upd ?_ | intro _ | split

theorem markRings_acts {L : Nat} {s x : State} {a0 a1 a2} (hl : Sub 2097152 L) (h : Acts L s x) :
    Acts L s (markRings a0 a1 a2 x) := by
  unfold markRings
  try dsimp only
  repeat' with_reducible first
    | assumption | exact Acts.refl _ | exact hl.mono (by decide) | apply modReso_acts | apply forEach_acts
    | refine Acts.ite ?_ ?_ | refine Acts.upd ?_ | intro _ | split

theorem setFlag_acts {L : Nat} {s x : State} {a0 a1} (hl : Sub 67108864 L) (h : Acts L s x) :
    Acts L s (setFlag a0 a1 x) := by
  unfold setFlag
  try dsimp only
  repeat' with_reducible first
    | assumption | exact Acts.refl _ | exact hl.mono (by decide) | refine Acts.ite ?_ ?_ | refine Acts.upd ?_ | intro _
    | split

theorem ownRead_acts {L : Nat} {s x : State} {a0 a1 a2 a3 a4 a5} (hl : Sub 11475619968 L) (h : Acts L s x) :
    Acts L s (ownRead a0 a1 a2 a3 a4 a5 x) := by
  unfold ownRead
  try dsimp only
  repeat' with_reducible first
    | assumption | exact Acts.refl _ | exact hl.mono (by decide) | apply answer_acts | apply noteUnstable_acts
    | apply setFlag_acts | apply forEach_acts | refine Acts.ite ?_ ?_ | refine Acts.upd ?_ | intro _ | split

theorem execOwnTake_acts {L : Nat} {x t : State} {a0 a1 a2} (hl : Sub 11475619968 L) (e : execOwnTake a0 a1 a2 x = .next t) :
    Acts L x t := by
  unfold execOwnTake at e
  cases e
  try dsimp only
  repeat' with_reducible first
    | assumption | exact Acts.refl _ | exact hl.mono (by decide) | apply submit_acts | apply ownRead_acts
    | refine Acts.ite ?_ ?_ | refine Acts.upd ?_ | intro _ | split

theorem setProbation_acts {L : Nat} {s x : State} {a0} (hl : Sub 11413762517 L) (h : Acts L s x) :
    Acts L s (setProbation a0 x) := by
  unfold setProbation
  try dsimp only
  repeat' with_reducible first
    | assumption | exact Acts.refl _ | exact hl.mono (by decide) | apply bandFault_acts | apply onlyIf_acts
    | refine Acts.ite ?_ ?_ | refine Acts.upd ?_ | intro _ | split

theorem pieceDone_acts {L : Nat} {s x : State} {a0 a1 a2} (hl : Sub 2147614720 L) (h : Acts L s x) :
    Acts L s (pieceDone a0 a1 a2 x) := by
  unfold pieceDone
  try dsimp only
  repeat' with_reducible first
    | assumption | exact Acts.refl _ | exact hl.mono (by decide) | apply bump_acts | apply modXfer_acts
    | refine Acts.ite ?_ ?_ | refine Acts.upd ?_ | intro _ | split

theorem takePieceAck_acts {L : Nat} {s x : State} {a0} (hl : Sub 11430670549 L) (h : Acts L s x) :
    Acts L s (takePieceAck a0 x).2 := by
  unfold takePieceAck
  try dsimp only
  repeat' with_reducible first
    | assumption | exact Acts.refl _ | exact hl.mono (by decide) | apply setReq_acts | apply reqToken_acts
    | apply modXfer_acts | apply pieceDone_acts | apply lateResponse_acts | apply onlyIf_acts | refine Acts.ite ?_ ?_
    | refine Acts.upd ?_ | intro _ | split

theorem whenInvalidated_acts {L : Nat} {s x : State} {a0 a1 a2} (hl : Sub 11430736085 L) (h : Acts L s x) :
    Acts L s (whenInvalidated a0 a1 a2 x) := by
  unfold whenInvalidated
  try dsimp only
  repeat' with_reducible first
    | assumption | exact Acts.refl _ | exact hl.mono (by decide) | apply acknowledge_acts | refine Acts.ite ?_ ?_
    | refine Acts.upd ?_ | intro _ | split

theorem serveStore_acts {L : Nat} {s x : State} {a0 a1} (hl : Sub 11464585429 L) (h : Acts L s x) :
    Acts L s (serveStore a0 a1 x).2 := by
  unfold serveStore
  try dsimp only
  repeat' with_reducible first
    | assumption | exact Acts.refl _ | exact hl.mono (by decide) | apply addressFault_acts | apply writeWaits_acts
    | apply whenInvalidated_acts | apply homeWrite_acts | apply badAddress_acts | apply sendPacket_acts
    | apply bufWriteMasked_acts | refine Acts.ite ?_ ?_ | refine Acts.upd ?_ | intro _ | split

theorem execStorePacket_acts {L : Nat} {x t : State} {a0 a1 a2} (hl : Sub 11464585429 L) (e : execStorePacket a0 a1 a2 x = .next t) :
    Acts L x t := by
  unfold execStorePacket at e
  cases e
  try dsimp only
  repeat' with_reducible first
    | assumption | exact Acts.refl _ | exact hl.mono (by decide) | apply arrive_acts | apply serveStore_acts
    | refine Acts.ite ?_ ?_ | refine Acts.upd ?_ | refine Acts.pair (by assumption) (serveStore_acts ?_ ?_) | intro _
    | split

theorem asRunning_acts {L : Nat} {s x : State} {a0} (hl : Sub 1048576 L) (h : Acts L s x) :
    Acts L s (asRunning a0 x) := by
  unfold asRunning
  try dsimp only
  repeat' with_reducible first
    | assumption | exact Acts.refl _ | exact hl.mono (by decide) | refine Acts.ite ?_ ?_ | refine Acts.upd ?_ | intro _
    | split

theorem writeDevice_acts {L : Nat} {s x : State} {a0 a1} (hl : Sub 131072 L) (h : Acts L s x) :
    Acts L s (writeDevice a0 a1 x) := by
  unfold writeDevice
  try dsimp only
  repeat' with_reducible first
    | assumption | exact Acts.refl _ | exact hl.mono (by decide) | apply modTile_acts | refine Acts.ite ?_ ?_
    | refine Acts.upd ?_ | intro _ | split

theorem execGroupFault_acts {L : Nat} {x t : State} {a0 a1} (hl : Sub 11415859413 L) (e : execGroupFault a0 a1 x = .next t) :
    Acts L x t := by
  unfold execGroupFault at e
  cases e
  try dsimp only
  repeat' with_reducible first
    | assumption | exact Acts.refl _ | exact hl.mono (by decide) | apply groupFails_acts | refine Acts.ite ?_ ?_
    | refine Acts.upd ?_ | intro _ | split

theorem odList_acts {L : Nat} {s x : State} {a0 a1} (hl : Sub 28593631445 L) (h : Acts L s x) :
    Acts L s (odList a0 a1 x) := by
  unfold odList
  try dsimp only
  repeat' with_reducible first
    | assumption | exact Acts.refl _ | exact hl.mono (by decide) | apply serve_acts | apply respond_acts
    | refine Acts.ite ?_ ?_ | refine Acts.upd ?_ | intro _ | split

theorem odEvents_acts {L : Nat} {s x : State} {a0 a1} (hl : Sub 28593631445 L) (h : Acts L s x) :
    Acts L s (odEvents a0 a1 x) := by
  unfold odEvents
  try dsimp only
  repeat' with_reducible first
    | assumption | exact Acts.refl _ | exact hl.mono (by decide) | apply serve_acts | apply respondWith_acts
    | apply respond_acts | refine Acts.ite ?_ ?_ | refine Acts.upd ?_ | intro _ | split

theorem openProvisional_acts {L : Nat} {s x : State} {a0 a1 a2 a3} (hl : Sub 85899346432 L) (h : Acts L s x) :
    Acts L s (openProvisional a0 a1 a2 a3 x) := by
  unfold openProvisional
  try dsimp only
  repeat' with_reducible first
    | assumption | exact Acts.refl _ | exact hl.mono (by decide) | apply respond_acts | apply freshen_acts
    | refine Acts.ite ?_ ?_ | refine Acts.upd ?_ | intro _ | split

theorem odBegin_acts {L : Nat} {s x : State} {a0 a1 a2} (hl : Sub 97313108693 L) (h : Acts L s x) :
    Acts L s (odBegin a0 a1 a2 x) := by
  unfold odBegin
  try dsimp only
  repeat' with_reducible first
    | assumption | exact Acts.refl _ | exact hl.mono (by decide) | apply serveOp_acts | apply respond_acts
    | apply openProvisional_acts | refine Acts.ite ?_ ?_ | refine Acts.upd ?_ | intro _ | split

theorem odEnd_acts {L : Nat} {s x : State} {a0} (hl : Sub 28593632981 L) (h : Acts L s x) :
    Acts L s (odEnd a0 x) := by
  unfold odEnd
  try dsimp only
  repeat' with_reducible first
    | assumption | exact Acts.refl _ | exact hl.mono (by decide) | apply serveOp_acts | apply respond_acts
    | apply closeWhere_acts | refine Acts.ite ?_ ?_ | refine Acts.upd ?_ | intro _ | split

theorem odRead_acts {L : Nat} {s x : State} {a0 a1 a2 a3 a4 a5} (hl : Sub 28593631445 L) (h : Acts L s x) :
    Acts L s (odRead a0 a1 a2 a3 a4 a5 x) := by
  unfold odRead
  try dsimp only
  repeat' with_reducible first
    | assumption | exact Acts.refl _ | exact hl.mono (by decide) | apply serve_acts | apply respond_acts
    | refine Acts.ite ?_ ?_ | refine Acts.upd ?_ | intro _ | split

theorem serveMessage_acts {L : Nat} {s x : State} {a0} (hl : Sub 102005473279 L) (h : Acts L s x) :
    Acts L s (serveMessage a0 x) := by
  unfold serveMessage
  try dsimp only
  repeat' with_reducible first
    | assumption | exact Acts.refl _ | exact hl.mono (by decide) | apply odWrite_acts | apply odInfo_acts
    | apply odList_acts | apply odEvents_acts | apply odBegin_acts | apply odProve_acts | apply odEnd_acts
    | apply odAttest_acts | apply odRead_acts | refine Acts.ite ?_ ?_ | refine Acts.upd ?_ | intro _ | split

theorem runMgmt_acts {L : Nat} {s x : State} {a0 a1 a2 a3} (hl : Sub 102005473279 L) (h : Acts L s x) :
    Acts L s (runMgmt a0 a1 a2 a3 x) := by
  unfold runMgmt
  try dsimp only
  repeat' with_reducible first
    | assumption | exact Acts.refl _ | exact hl.mono (by decide) | apply serveMessage_acts | apply hostOut_acts
    | apply finishCmd_acts | refine Acts.ite ?_ ?_ | refine Acts.upd ?_ | intro _ | split

theorem drainMgmt_acts {L : Nat} {s x : State} (hl : Sub 102005473279 L) (h : Acts L s x) :
    Acts L s (drainMgmt x) := by
  unfold drainMgmt
  try dsimp only
  repeat' with_reducible first
    | assumption | exact Acts.refl _ | exact hl.mono (by decide) | apply runMgmt_acts | apply forEach_acts
    | refine Acts.ite ?_ ?_ | refine Acts.upd ?_ | intro _ | split

theorem idleTick_acts {L : Nat} {s x : State} (hl : Sub 8388608 L) (h : Acts L s x) :
    Acts L s (idleTick x) := by
  unfold idleTick
  try dsimp only
  repeat' with_reducible first
    | assumption | exact Acts.refl _ | exact hl.mono (by decide) | refine Acts.ite ?_ ?_ | refine Acts.upd ?_ | intro _
    | split

theorem idleStep_acts {L : Nat} {s x : State} (hl : Sub 102005473279 L) (h : Acts L s x) :
    Acts L s (idleStep x) := by
  unfold idleStep
  try dsimp only
  repeat' with_reducible first
    | assumption | exact Acts.refl _ | exact hl.mono (by decide) | apply drainMgmt_acts | apply idleTick_acts
    | refine Acts.ite ?_ ?_ | refine Acts.upd ?_ | intro _ | split

theorem execUnpairKeepNotice_acts {L : Nat} {x t : State} {a0 a1} (hl : Sub 80166826197 L) (e : execUnpairKeepNotice a0 a1 x = .next t) :
    Acts L x t := by
  unfold execUnpairKeepNotice at e
  cases e
  try dsimp only
  repeat' with_reducible first
    | assumption | exact Acts.refl _ | exact hl.mono (by decide) | apply freeSlot_acts | apply partnerLost_acts
    | refine Acts.ite ?_ ?_ | refine Acts.upd ?_ | intro _ | split

theorem execRingEnable_acts {L : Nat} {x t : State} {a0 a1} (hl : Sub 11408511104 L) (e : execRingEnable a0 a1 x = .next t) :
    Acts L x t := by
  unfold execRingEnable at e
  cases e
  try dsimp only
  repeat' with_reducible first
    | assumption | exact Acts.refl _ | exact hl.mono (by decide) | apply enableRing_acts | refine Acts.ite ?_ ?_
    | refine Acts.upd ?_ | intro _ | split

theorem refreshMirror_acts {L : Nat} {s x : State} (hl : Sub 8192 L) (h : Acts L s x) :
    Acts L s (refreshMirror x) := by
  unfold refreshMirror
  try dsimp only
  repeat' with_reducible first
    | assumption | exact Acts.refl _ | exact hl.mono (by decide) | refine Acts.ite ?_ ?_ | refine Acts.upd ?_ | intro _
    | split

theorem execWriteAcknowledgement_acts {L : Nat} {x t : State} {a0 a1} (hl : Sub 11430670549 L) (e : execWriteAcknowledgement a0 a1 x = .next t) :
    Acts L x t := by
  unfold execWriteAcknowledgement at e
  cases e
  try dsimp only
  repeat' with_reducible first
    | assumption | exact Acts.refl _ | exact hl.mono (by decide) | apply arrive_acts | apply resolve_acts
    | apply answerReq_acts | refine Acts.ite ?_ ?_ | refine Acts.upd ?_
    | refine Acts.pair (by assumption) (resolve_acts ?_ ?_ ?_) | intro _ | split

theorem execLaserLightTimeout_acts {L : Nat} {x t : State} {a0 a1} (hl : Sub 11415859413 L) (e : execLaserLightTimeout a0 a1 x = .next t) :
    Acts L x t := by
  unfold execLaserLightTimeout at e
  cases e
  try dsimp only
  repeat' with_reducible first
    | assumption | exact Acts.refl _ | exact hl.mono (by decide) | apply optFault_acts | apply modEng_acts
    | refine Acts.ite ?_ ?_ | refine Acts.upd ?_ | intro _ | split

theorem execWait_acts {L : Nat} {x t : State} {a0} (hl : Sub 11413893333 L) (e : execWait a0 x = .next t) :
    Acts L x t := by
  unfold execWait at e
  cases e
  try dsimp only
  repeat' with_reducible first
    | assumption | exact Acts.refl _ | exact hl.mono (by decide) | apply issued_acts | refine Acts.ite ?_ ?_
    | refine Acts.upd ?_ | intro _ | split

theorem retrain_acts {L : Nat} {s x : State} {a0} (hl : Sub 11413762517 L) (h : Acts L s x) :
    Acts L s (retrain a0 x) := by
  unfold retrain
  try dsimp only
  repeat' with_reducible first
    | assumption | exact Acts.refl _ | exact hl.mono (by decide) | apply takeLevel_acts | apply bump_acts
    | apply modPair_acts | apply withdraw_acts | refine Acts.ite ?_ ?_ | refine Acts.upd ?_ | intro _ | split

theorem countReplay_acts {L : Nat} {s x : State} {a0} (hl : Sub 11413762517 L) (h : Acts L s x) :
    Acts L s (countReplay a0 x) := by
  unfold countReplay
  try dsimp only
  repeat' with_reducible first
    | assumption | exact Acts.refl _ | exact hl.mono (by decide) | apply modPair_acts | apply raise_acts
    | apply bump_acts | apply retrain_acts | refine Acts.ite ?_ ?_ | refine Acts.upd ?_ | intro _ | split

theorem replayPhase_acts {L : Nat} {s x : State} {a0} (hl : Sub 4194304 L) (h : Acts L s x) :
    Acts L s (replayPhase a0 x) := by
  unfold replayPhase
  try dsimp only
  repeat' with_reducible first
    | assumption | exact Acts.refl _ | exact hl.mono (by decide) | refine Acts.ite ?_ ?_ | refine Acts.upd ?_ | intro _
    | split

theorem execReplayTimeout_acts {L : Nat} {x t : State} {a0 a1} (hl : Sub 11413762517 L) (e : execReplayTimeout a0 a1 x = .next t) :
    Acts L x t := by
  unfold execReplayTimeout at e
  cases e
  try dsimp only
  repeat' with_reducible first
    | assumption | exact Acts.refl _ | exact hl.mono (by decide) | apply countReplay_acts | apply replayPhase_acts
    | apply modPair_acts | apply onlyIf_acts | refine Acts.ite ?_ ?_ | refine Acts.upd ?_ | intro _ | split

theorem execInBandInterruptAcknowledge_acts {L : Nat} {x t : State} {a0} (hl : Sub 4096 L) (e : execInBandInterruptAcknowledge a0 x = .next t) :
    Acts L x t := by
  unfold execInBandInterruptAcknowledge at e
  cases e
  try dsimp only
  repeat' with_reducible first
    | assumption | exact Acts.refl _ | exact hl.mono (by decide) | refine Acts.ite ?_ ?_ | refine Acts.upd ?_ | intro _
    | split

theorem returnPages_acts {L : Nat} {s x : State} {a0 a1} (hl : Sub 67108864 L) (h : Acts L s x) :
    Acts L s (returnPages a0 a1 x) := by
  unfold returnPages
  try dsimp only
  repeat' with_reducible first
    | assumption | exact Acts.refl _ | exact hl.mono (by decide) | apply setFlag_acts | apply forEach_acts
    | refine Acts.ite ?_ ?_ | refine Acts.upd ?_ | intro _ | split

theorem execTransferComplete_acts {L : Nat} {x t : State} {a0 a1} (hl : Sub 11414155477 L) (e : execTransferComplete a0 a1 x = .next t) :
    Acts L x t := by
  unfold execTransferComplete at e
  cases e
  try dsimp only
  repeat' with_reducible first
    | assumption | exact Acts.refl _ | exact hl.mono (by decide) | apply endXfer_acts | refine Acts.ite ?_ ?_
    | refine Acts.upd ?_ | intro _ | split

theorem converterRead_acts {L : Nat} {s x : State} {a0} (hl : Sub 11413762271 L) (h : Acts L s x) :
    Acts L s (converterRead a0 x) := by
  unfold converterRead
  try dsimp only
  repeat' with_reducible first
    | assumption | exact Acts.refl _ | exact hl.mono (by decide) | apply raiseWith_acts | apply beginShutdown_acts
    | refine Acts.ite ?_ ?_ | refine Acts.upd ?_ | intro _ | split

theorem execConverterStatusRead_acts {L : Nat} {x t : State} {a0} (hl : Sub 11413762271 L) (e : execConverterStatusRead a0 x = .next t) :
    Acts L x t := by
  unfold execConverterStatusRead at e
  cases e
  try dsimp only
  repeat' with_reducible first
    | assumption | exact Acts.refl _ | exact hl.mono (by decide) | apply converterRead_acts | apply forEach_acts
    | refine Acts.ite ?_ ?_ | refine Acts.upd ?_ | intro _ | split

theorem openNear_acts {L : Nat} {s x : State} {a0 a1} (hl : Sub 262144 L) (h : Acts L s x) :
    Acts L s (openNear a0 a1 x) := by
  unfold openNear
  try dsimp only
  repeat' with_reducible first
    | assumption | exact Acts.refl _ | exact hl.mono (by decide) | apply nearWrite_acts | apply bufWrite_acts
    | apply forEach_acts | refine Acts.ite ?_ ?_ | refine Acts.upd ?_ | intro _ | split

theorem takeNotice_acts {L : Nat} {s x : State} {a0 a1 a2 a3} (hl : Sub 11413762261 L) (h : Acts L s x) (hf : ∀ y, Acts L s y → Acts L s (a3 y)) :
    Acts L s (takeNotice a0 a1 a2 a3 x) := by
  unfold takeNotice
  try dsimp only
  repeat' with_reducible first
    | assumption | exact Acts.refl _ | exact hl.mono (by decide) | apply freeSlot_acts | apply raise_acts
    | apply sendNotice_acts | apply hf | refine Acts.ite ?_ ?_ | refine Acts.upd ?_ | intro _ | split

theorem haltRun_acts {L : Nat} {s x : State} {a0 a1 a2} (hl : Sub 11413762261 L) (h : Acts L s x) :
    Acts L s (haltRun a0 a1 a2 x) := by
  unfold haltRun
  try dsimp only
  repeat' with_reducible first
    | assumption | exact Acts.refl _ | exact hl.mono (by decide) | apply raise_acts | apply onlyIf_acts
    | refine Acts.ite ?_ ?_ | refine Acts.upd ?_ | intro _ | split

theorem haltEffect_acts {L : Nat} {s x : State} {a0 a1} (hl : Sub 11413762261 L) (h : Acts L s x) :
    Acts L s (haltEffect a0 a1 x) := by
  unfold haltEffect
  try dsimp only
  repeat' with_reducible first
    | assumption | exact Acts.refl _ | exact hl.mono (by decide) | apply haltRun_acts | apply dropHeld_acts
    | refine Acts.ite ?_ ?_ | refine Acts.upd ?_ | intro _ | split

theorem execAbortNotice_acts {L : Nat} {x t : State} {a0 a1} (hl : Sub 11413762261 L) (e : execAbortNotice a0 a1 x = .next t) :
    Acts L x t := by
  unfold execAbortNotice at e
  cases e
  try dsimp only
  repeat' with_reducible first
    | assumption | exact Acts.refl _ | exact hl.mono (by decide) | apply takeNotice_acts | apply haltEffect_acts
    | refine Acts.ite ?_ ?_ | refine Acts.upd ?_ | intro _ | split

theorem mctp_acts {L : Nat} {s x : State} {a0 a1} (hl : Sub 0 L) (h : Acts L s x) (hf : ∀ y, Acts L s y → Acts L s (a1 y)) :
    Acts L s (mctp a0 a1 x) := by
  unfold mctp
  try dsimp only
  repeat' with_reducible first
    | assumption | exact Acts.refl _ | exact hl.mono (by decide) | apply hf | refine Acts.ite ?_ ?_ | refine Acts.upd ?_
    | intro _ | split

theorem execGetMessageTypeSupport_acts {L : Nat} {x t : State} {a0} (hl : Sub 34359738368 L) (e : execGetMessageTypeSupport a0 x = .next t) :
    Acts L x t := by
  unfold execGetMessageTypeSupport at e
  cases e
  try dsimp only
  repeat' with_reducible first
    | assumption | exact Acts.refl _ | exact hl.mono (by decide) | apply mctp_acts | apply Laws.control_acts
    | refine Acts.ite ?_ ?_ | refine Acts.upd ?_ | intro _ | split

theorem execThrottleStepUp_acts {L : Nat} {x t : State} (hl : Sub 2 L) (e : execThrottleStepUp x = .next t) :
    Acts L x t := by
  unfold execThrottleStepUp at e
  cases e
  exact Acts.ite ((Acts.refl _).updBy ⟨rfl, rfl, rfl, id, fun b => ⟨b.1, b.2, b.3, b.4, b.5, b.6, b.7⟩, fun b => ⟨b.1, b.2, Nat.min_le_left _ _⟩⟩) (Acts.refl _)

theorem endHalted_acts {L : Nat} {s x : State} (hl : Sub 11413753985 L) (h : Acts L s x) :
    Acts L s (endHalted x) := by
  unfold endHalted
  try dsimp only
  repeat' with_reducible first
    | assumption | exact Acts.refl _ | exact hl.mono (by decide) | apply endLaunch_acts | apply failStart_acts
    | refine Acts.ite ?_ ?_ | refine Acts.upd ?_ | intro _ | split

theorem releaseHeld_acts {L : Nat} {s x : State} {a0 a1} (hl : Sub 9261023232 L) (h : Acts L s x) :
    Acts L s (releaseHeld a0 a1 x) := by
  induction a1 generalizing a0 x with
  | zero => exact h
  | succ k ih =>
    unfold releaseHeld
    try dsimp only
    repeat' with_reducible first
      | apply ih | assumption | exact Acts.refl _ | exact hl.mono (by decide) | apply modRing_acts
      | apply writeRecord_acts | refine Acts.ite ?_ ?_ | refine Acts.upd ?_ | intro _ | split

theorem clearUnstable_acts {L : Nat} {s x : State} {a0 a1} (hl : Sub 67108864 L) (h : Acts L s x) :
    Acts L s (clearUnstable a0 a1 x) := by
  unfold clearUnstable
  try dsimp only
  repeat' with_reducible first
    | assumption | exact Acts.refl _ | exact hl.mono (by decide) | refine Acts.ite ?_ ?_ | refine Acts.upd ?_ | intro _
    | split

theorem execUnstableReadClear_acts {L : Nat} {x t : State} {a0 a1} (hl : Sub 67108864 L) (e : execUnstableReadClear a0 a1 x = .next t) :
    Acts L x t := by
  unfold execUnstableReadClear at e
  cases e
  try dsimp only
  repeat' with_reducible first
    | assumption | exact Acts.refl _ | exact hl.mono (by decide) | apply clearUnstable_acts | refine Acts.ite ?_ ?_
    | refine Acts.upd ?_ | intro _ | split

theorem runComputes_acts {L : Nat} {s x : State} {a0 a1 a2} (hl : Sub 68719607808 L) (h : Acts L s x) :
    Acts L s (runComputes a0 a1 a2 x) := by
  unfold runComputes
  try dsimp only
  repeat' with_reducible first
    | assumption | exact Acts.refl _ | exact hl.mono (by decide) | apply keepRegs_acts | apply freshen_acts
    | apply setGen_acts | apply modTile_acts | refine Acts.ite ?_ ?_ | refine Acts.upd ?_ | intro _ | split

theorem transferRead_acts {L : Nat} {s x : State} {a0 a1 a2 a3} (hl : Sub 11475619968 L) (h : Acts L s x) :
    Acts L s (transferRead a0 a1 a2 a3 x) := by
  unfold transferRead
  try dsimp only
  repeat' with_reducible first
    | assumption | exact Acts.refl _ | exact hl.mono (by decide) | apply answer_acts | apply setFlag_acts
    | apply noteUnstable_acts | apply holdCmd_acts | apply onlyIf_acts | apply forEach_acts | refine Acts.ite ?_ ?_
    | refine Acts.upd ?_ | intro _ | split

theorem execIntercalaryWindowEnd_acts {L : Nat} {x t : State} {a0 a1 a2 a3} (hl : Sub 11415859413 L) (e : execIntercalaryWindowEnd a0 a1 a2 a3 x = .next t) :
    Acts L x t := by
  unfold execIntercalaryWindowEnd at e
  cases e
  try dsimp only
  repeat' with_reducible first
    | assumption | exact Acts.refl _ | exact hl.mono (by decide) | apply modEng_acts | apply recordItem_acts
    | apply modReso_acts | apply modFib_acts | apply optFault_acts | apply groupFails_acts | apply lockRings_acts
    | apply setClass_acts | apply settleRings_acts | apply withdraw_acts | apply onlyIf_acts | apply forEach_acts
    | refine Acts.ite ?_ ?_ | refine Acts.upd ?_ | intro _ | split

theorem execVectorEccError_acts {L : Nat} {x t : State} {a0 a1} (hl : Sub 80150442197 L) (e : execVectorEccError a0 a1 x = .next t) :
    Acts L x t := by
  unfold execVectorEccError at e
  cases e
  try dsimp only
  repeat' with_reducible first
    | assumption | exact Acts.refl _ | exact hl.mono (by decide) | apply raiseWith_acts | apply bump_acts
    | apply modKeep_acts | apply stopVector_acts | refine Acts.ite ?_ ?_ | refine Acts.upd ?_ | intro _ | split

theorem homeRead_acts {L : Nat} {s x : State} {a0 a1 a2 a3 a4 a5} (hl : Sub 11413827797 L) (h : Acts L s x) :
    Acts L s (homeRead a0 a1 a2 a3 a4 a5 x).2.2 := by
  unfold homeRead
  try dsimp only
  repeat' with_reducible first
    | assumption | exact Acts.refl _ | exact hl.mono (by decide) | apply raiseWith_acts | apply lineFound_acts
    | apply bump_acts | refine Acts.ite ?_ ?_ | refine Acts.upd ?_ | intro _ | split

theorem readLines_acts {L : Nat} {s x : State} {a0 a1 a2 a3} (hl : Sub 11413827797 L) (h : Acts L s x) :
    Acts L s (readLines a0 a1 a2 a3 x).2 := by
  induction a1 generalizing a0 a2 a3 x with
  | zero => exact h
  | succ k ih =>
    unfold readLines
    try dsimp only
    repeat' with_reducible first
      | apply ih | assumption | exact Acts.refl _ | exact hl.mono (by decide) | apply homeRead_acts
      | refine Acts.ite ?_ ?_ | refine Acts.upd ?_ | refine Acts.pair2 (by assumption) (homeRead_acts ?_ ?_) | intro _
      | split

theorem goneAccess_acts {L : Nat} {s x : State} {a0} (hl : Sub 11341402240 L) (h : Acts L s x) :
    Acts L s (goneAccess a0 x) := by
  unfold goneAccess
  try dsimp only
  repeat' with_reducible first
    | assumption | exact Acts.refl _ | exact hl.mono (by decide) | apply logFault_acts | refine Acts.ite ?_ ?_
    | refine Acts.upd ?_ | intro _ | split

theorem execHostRead_acts {L : Nat} {x t : State} {a0 a1 a2} (hl : Sub 11480936661 L) (e : execHostRead a0 a1 a2 x = .next t) :
    Acts L x t := by
  unfold execHostRead at e
  cases e
  try dsimp only
  repeat' with_reducible first
    | assumption | exact Acts.refl _ | exact hl.mono (by decide) | apply readLines_acts | apply goneAccess_acts
    | apply bump_acts | apply hostOut_acts | apply onlyIf_acts | apply forEach_acts | refine Acts.ite ?_ ?_
    | refine Acts.upd ?_ | refine Acts.pair (by assumption) (readLines_acts ?_ ?_) | intro _ | split

theorem writeLines_acts {L : Nat} {s x : State} {a0 a1 a2} (hl : Sub 11447414997 L) (h : Acts L s x) :
    Acts L s (writeLines a0 a1 a2 x) := by
  unfold writeLines
  try dsimp only
  repeat' with_reducible first
    | assumption | exact Acts.refl _ | exact hl.mono (by decide) | apply farDrop_acts | apply homeWriteLines_acts
    | apply forEach_acts | refine Acts.ite ?_ ?_ | refine Acts.upd ?_ | intro _ | split

theorem openRing_acts {L : Nat} {s x : State} {a0 a1} (hl : Sub 2097152 L) (h : Acts L s x) :
    Acts L s (openRing a0 a1 x) := by
  unfold openRing
  try dsimp only
  repeat' with_reducible first
    | assumption | exact Acts.refl _ | exact hl.mono (by decide) | apply modReso_acts | refine Acts.ite ?_ ?_
    | refine Acts.upd ?_ | intro _ | split

theorem beginSwitch_acts {L : Nat} {s x : State} {a0 a1 a2} (hl : Sub 11415859413 L) (h : Acts L s x) :
    Acts L s (beginSwitch a0 a1 a2 x) := by
  unfold beginSwitch
  try dsimp only
  repeat' with_reducible first
    | assumption | exact Acts.refl _ | exact hl.mono (by decide) | apply withdrawQuiet_acts | apply withdraw_acts
    | apply modEng_acts | apply modFib_acts | apply openRing_acts | apply forEach_acts | refine Acts.ite ?_ ?_
    | refine Acts.upd ?_ | intro _ | split

theorem setClock_acts {L : Nat} {s x : State} {a0 a1} (hl : Sub 262144 L) (h : Acts L s x) :
    Acts L s (setClock a0 a1 x) := by
  unfold setClock
  try dsimp only
  repeat' with_reducible first
    | assumption | exact Acts.refl _ | exact hl.mono (by decide) | apply modKeep_acts | refine Acts.ite ?_ ?_
    | refine Acts.upd ?_ | intro _ | split

theorem execTileClockChange_acts {L : Nat} {x t : State} {a0} (hl : Sub 80133632213 L) (e : execTileClockChange a0 x = .next t) :
    Acts L x t := by
  unfold execTileClockChange at e
  cases e
  try dsimp only
  repeat' with_reducible first
    | assumption | exact Acts.refl _ | exact hl.mono (by decide) | apply evaluate_acts | apply issueReplays_acts
    | apply setClock_acts | refine Acts.ite ?_ ?_ | refine Acts.upd ?_ | intro _ | split

theorem homeReadLines_acts {L : Nat} {s x : State} {a0 a1 a2 a3 a4 a5 a6} (hl : Sub 11413827797 L) (h : Acts L s x) :
    Acts L s (homeReadLines a0 a1 a2 a3 a4 a5 a6 x).2.2 := by
  induction a4 generalizing a0 a1 a2 a3 a5 a6 x with
  | zero => exact h
  | succ k ih =>
    unfold homeReadLines
    try dsimp only
    repeat' with_reducible first
      | apply ih | assumption | exact Acts.refl _ | exact hl.mono (by decide) | apply homeRead_acts
      | refine Acts.ite ?_ ?_ | refine Acts.upd ?_ | refine Acts.pair2 (by assumption) (homeRead_acts ?_ ?_) | intro _
      | split

theorem reportLosses_acts {L : Nat} {s x : State} (hl : Sub 11274301596 L) (h : Acts L s x) :
    Acts L s (reportLosses x) := by
  unfold reportLosses
  try dsimp only
  repeat' with_reducible first
    | assumption | exact Acts.refl _ | exact hl.mono (by decide) | apply logFault_acts | apply journalPut_acts
    | apply onlyIf_acts | refine Acts.ite ?_ ?_ | refine Acts.upd ?_ | intro _ | split

theorem execVigilPresent_acts {L : Nat} {x t : State} {a0} (hl : Sub 12348043773 L) (e : execVigilPresent a0 x = .next t) :
    Acts L x t := by
  unfold execVigilPresent at e
  cases e
  dsimp only
  have k : Acts L x { x with pow := { x.pow with state := .standby } } := Acts.upd (Acts.refl x)
  refine Acts.ite (Acts.ite (reportLosses_acts (hl.mono (by decide)) k) (Acts.ite k (reportLosses_acts (hl.mono (by decide)) ?_))) (Acts.refl _)
  exact Acts.updBy (putLoss_acts (hl.mono (by decide)) k)
    ⟨rfl, rfl, rfl, id, fun b => ⟨Nat.zero_le _, b.2, b.3, b.4, b.5, b.6, b.7⟩, fun b => ⟨b.1, b.2, b.3⟩⟩

theorem answerTrain_acts {L : Nat} {s x : State} {a0 a1} (hl : Sub 11413762517 L) (h : Acts L s x) :
    Acts L s (answerTrain a0 a1 x) := by
  unfold answerTrain
  try dsimp only
  repeat' with_reducible first
    | assumption | exact Acts.refl _ | exact hl.mono (by decide) | apply startTraining_acts | apply modPair_acts
    | apply retrain_acts | refine Acts.ite ?_ ?_ | refine Acts.upd ?_ | intro _ | split

theorem readLocal_acts {L : Nat} {s x : State} {a0 a1 a2 a3} (hl : Sub 11413827797 L) (h : Acts L s x) :
    Acts L s (readLocal a0 a1 a2 a3 x).2.2 := by
  unfold readLocal
  try dsimp only
  repeat' with_reducible first
    | assumption | exact Acts.refl _ | exact hl.mono (by decide) | apply accessFault_acts | apply homeReadLines_acts
    | apply bufWord_acts | apply forEach_acts | refine Acts.ite ?_ ?_ | refine Acts.upd ?_
    | refine Acts.pair2 (by assumption) (homeReadLines_acts ?_ ?_) | intro _ | split

theorem sendChunk_acts {L : Nat} {s x : State} {a0 a1 a2 a3 a4 a5} (hl : Sub 11413827797 L) (h : Acts L s x) (hf : ∀ b0 y, Acts L s y → Acts L s (a4 b0 y)) :
    Acts L s (sendChunk a0 a1 a2 a3 a4 a5 x) := by
  unfold sendChunk
  try dsimp only
  repeat' with_reducible first
    | assumption | exact Acts.refl _ | exact hl.mono (by decide) | apply readLocal_acts | apply hf
    | refine Acts.ite ?_ ?_ | refine Acts.upd ?_ | refine Acts.pair2 (by assumption) (readLocal_acts ?_ ?_) | intro _
    | split

theorem sendMarker_acts {L : Nat} {s x : State} {a0} (hl : Sub 4294967296 L) (h : Acts L s x) :
    Acts L s (sendMarker a0 x) := by
  unfold sendMarker
  try dsimp only
  repeat' with_reducible first
    | assumption | exact Acts.refl _ | exact hl.mono (by decide) | refine Acts.ite ?_ ?_ | refine Acts.upd ?_ | intro _
    | split

theorem restartValidation_acts {L : Nat} {s x : State} (hl : Sub 1048576 L) (h : Acts L s x) :
    Acts L s (restartValidation x) := by
  unfold restartValidation
  try dsimp only
  repeat' with_reducible first
    | assumption | exact Acts.refl _ | exact hl.mono (by decide) | refine Acts.ite ?_ ?_ | refine Acts.upd ?_ | intro _
    | split

theorem loadOut_acts {L : Nat} {s x : State} {a0 a1 a2} (hl : Sub 131072 L) (h : Acts L s x) :
    Acts L s (loadOut a0 a1 a2 x) := by
  unfold loadOut
  try dsimp only
  repeat' with_reducible first
    | assumption | exact Acts.refl _ | exact hl.mono (by decide) | apply modHer_acts | refine Acts.ite ?_ ?_
    | refine Acts.upd ?_ | intro _ | split

theorem execPerstNRelease_acts {L : Nat} {x t : State} (hl : Sub 268435456 L) (e : execPerstNRelease x = .next t) :
    Acts L x t := by
  unfold execPerstNRelease at e
  cases e
  try dsimp only
  repeat' with_reducible first
    | assumption | exact Acts.refl _ | exact hl.mono (by decide) | refine Acts.ite ?_ ?_ | refine Acts.upd ?_ | intro _
    | split

theorem execMeshChangeDone_acts {L : Nat} {x t : State} {a0} (hl : Sub 2097152 L) (e : execMeshChangeDone a0 x = .next t) :
    Acts L x t := by
  unfold execMeshChangeDone at e
  cases e
  try dsimp only
  repeat' with_reducible first
    | assumption | exact Acts.refl _ | exact hl.mono (by decide) | apply modEng_acts | refine Acts.ite ?_ ?_
    | refine Acts.upd ?_ | intro _ | split

theorem dropWrite_acts {L : Nat} {s x : State} {a0} (hl : Sub 11341402240 L) (h : Acts L s x) :
    Acts L s (dropWrite a0 x) := by
  unfold dropWrite
  try dsimp only
  repeat' with_reducible first
    | assumption | exact Acts.refl _ | exact hl.mono (by decide) | apply bump_acts | apply goneAccess_acts
    | apply logFault_acts | apply onlyIf_acts | refine Acts.ite ?_ ?_ | refine Acts.upd ?_ | intro _ | split

theorem hostWritePage_acts {L : Nat} {s x : State} {a0 a1 a2 a3} (hl : Sub 11514523861 L) (h : Acts L s x) :
    Acts L s (hostWritePage a0 a1 a2 a3 x) := by
  unfold hostWritePage
  try dsimp only
  repeat' with_reducible first
    | assumption | exact Acts.refl _ | exact hl.mono (by decide) | apply writeLines_acts | apply dropWrite_acts
    | refine Acts.ite ?_ ?_ | refine Acts.upd ?_ | intro _ | split

theorem execHostWrite_acts {L : Nat} {x t : State} {a0 a1 a2 a3} (hl : Sub 11514523861 L) (e : execHostWrite a0 a1 a2 a3 x = .next t) :
    Acts L x t := by
  unfold execHostWrite at e
  cases e
  try dsimp only
  repeat' with_reducible first
    | assumption | exact Acts.refl _ | exact hl.mono (by decide) | apply writeWaits_acts | apply hostWritePage_acts
    | apply forEach_acts | refine Acts.ite ?_ ?_ | refine Acts.upd ?_ | intro _ | split

theorem queueOnSplit_acts {L : Nat} {s x : State} {a0 a1 a2 a3} (hl : Sub 4194304 L) (h : Acts L s x) :
    Acts L s (queueOnSplit a0 a1 a2 a3 x) := by
  unfold queueOnSplit
  try dsimp only
  repeat' with_reducible first
    | assumption | exact Acts.refl _ | exact hl.mono (by decide) | refine Acts.ite ?_ ?_ | refine Acts.upd ?_ | intro _
    | split

theorem launchRead_acts {L : Nat} {s x : State} {a0 a1 a2 a3 a4} (hl : Sub 11413753985 L) (h : Acts L s x) :
    Acts L s (launchRead a0 a1 a2 a3 a4 x) := by
  unfold launchRead
  try dsimp only
  repeat' with_reducible first
    | assumption | exact Acts.refl _ | exact hl.mono (by decide) | apply answer_acts | apply logWith_acts
    | apply setPower_acts | apply holdCmd_acts | apply failHeld_acts | apply dropHeld_acts | refine Acts.ite ?_ ?_
    | refine Acts.upd ?_ | intro _ | split

theorem mgmtRead_acts {L : Nat} {s x : State} {a0 a1 a2 a3 a4 a5} (hl : Sub 102005473279 L) (h : Acts L s x) :
    Acts L s (mgmtRead a0 a1 a2 a3 a4 a5 x) := by
  unfold mgmtRead
  try dsimp only
  repeat' with_reducible first
    | assumption | exact Acts.refl _ | exact hl.mono (by decide) | apply holdCmd_acts | apply runMgmt_acts
    | refine Acts.ite ?_ ?_ | refine Acts.upd ?_ | intro _ | split

theorem readEntry_acts {L : Nat} {s x : State} {a0 a1} (hl : Sub 102005473279 L) (h : Acts L s x) :
    Acts L s (readEntry a0 a1 x) := by
  unfold readEntry
  try dsimp only
  repeat' with_reducible first
    | assumption | exact Acts.refl _ | exact hl.mono (by decide) | apply submit_acts | apply launchRead_acts
    | apply transferRead_acts | apply ownRead_acts | apply abortRead_acts | apply mgmtRead_acts | refine Acts.ite ?_ ?_
    | refine Acts.upd ?_ | intro _ | split

theorem readEntries_acts {L : Nat} {s x : State} {a0 a1} (hl : Sub 102005473279 L) (h : Acts L s x) :
    Acts L s (readEntries a0 a1 x) := by
  induction a1 generalizing a0 x with
  | nil => exact h
  | cons y l ih =>
    unfold readEntries
    try dsimp only
    repeat' with_reducible first
      | apply ih | assumption | exact Acts.refl _ | exact hl.mono (by decide) | apply readEntry_acts
      | refine Acts.ite ?_ ?_ | refine Acts.upd ?_ | intro _ | split

theorem wrongRing_acts {L : Nat} {s x : State} {a0 a1} (hl : Sub 11276390528 L) (h : Acts L s x) :
    Acts L s (wrongRing a0 a1 x) := by
  unfold wrongRing
  try dsimp only
  repeat' with_reducible first
    | assumption | exact Acts.refl _ | exact hl.mono (by decide) | apply openRing_acts | apply correctedWith_acts
    | apply bump_acts | refine Acts.ite ?_ ?_ | refine Acts.upd ?_ | intro _ | split

theorem oneWord_acts {L : Nat} {s x : State} {a0 a1} (hl : Sub 11413827797 L) (h : Acts L s x) :
    Acts L s (oneWord a0 a1 x) := by
  unfold oneWord
  try dsimp only
  repeat' with_reducible first
    | assumption | exact Acts.refl _ | exact hl.mono (by decide) | apply wordFound_acts | apply rowFailure_acts
    | apply onlyIf_acts | refine Acts.ite ?_ ?_ | refine Acts.upd ?_
    | refine Acts.pair (by assumption) (wordFound_acts ?_ ?_) | intro _ | split

theorem execTrainingFailed_acts {L : Nat} {x t : State} {a0} (hl : Sub 11422150901 L) (e : execTrainingFailed a0 x = .next t) :
    Acts L x t := by
  unfold execTrainingFailed at e
  cases e
  try dsimp only
  repeat' with_reducible first
    | assumption | exact Acts.refl _ | exact hl.mono (by decide) | apply leaveStep7_acts | apply raise_acts
    | apply modPair_acts | refine Acts.ite ?_ ?_ | refine Acts.upd ?_ | intro _ | split

theorem execRootClaim_acts {L : Nat} {x t : State} (hl : Sub 11422150869 L) (e : execRootClaim x = .next t) :
    Acts L x t := by
  unfold execRootClaim at e
  cases e
  try dsimp only
  repeat' with_reducible first
    | assumption | exact Acts.refl _ | exact hl.mono (by decide) | apply claimRoot_acts | refine Acts.ite ?_ ?_
    | refine Acts.upd ?_ | intro _ | split

theorem applyMirror_acts {L : Nat} {s x : State} {a0} (hl : Sub 98304 L) (h : Acts L s x) :
    Acts L s (applyMirror a0 x) := by
  unfold applyMirror
  try dsimp only
  repeat' with_reducible first
    | assumption | exact Acts.refl _ | exact hl.mono (by decide) | apply farDrop_acts | apply setDirty_acts
    | apply setPoison_acts | apply storeWriteMasked_acts | refine Acts.ite ?_ ?_ | refine Acts.upd ?_ | intro _ | split

theorem execArrayParityError_acts {L : Nat} {x t : State} {a0 a1} (hl : Sub 80133632213 L) (e : execArrayParityError a0 a1 x = .next t) :
    Acts L x t := by
  unfold execArrayParityError at e
  cases e
  try dsimp only
  repeat' with_reducible first
    | assumption | exact Acts.refl _ | exact hl.mono (by decide) | apply replayOrFail_acts | refine Acts.ite ?_ ?_
    | refine Acts.upd ?_ | intro _ | split

theorem execDepartureNotice_acts {L : Nat} {x t : State} {a0 a1} (hl : Sub 80166826197 L) (e : execDepartureNotice a0 a1 x = .next t) :
    Acts L x t := by
  unfold execDepartureNotice at e
  cases e
  try dsimp only
  repeat' with_reducible first
    | assumption | exact Acts.refl _ | exact hl.mono (by decide) | apply freeSlot_acts | apply partnerLost_acts
    | refine Acts.ite ?_ ?_ | refine Acts.upd ?_ | intro _ | split

theorem failPlain_acts {L : Nat} {s x : State} {a0} (hl : Sub 11413753985 L) (h : Acts L s x) :
    Acts L s (failPlain a0 x) := by
  unfold failPlain
  try dsimp only
  repeat' with_reducible first
    | assumption | exact Acts.refl _ | exact hl.mono (by decide) | apply failLaunch_acts | refine Acts.ite ?_ ?_
    | refine Acts.upd ?_ | intro _ | split

theorem execProbationCountdown_acts {L : Nat} {x t : State} (hl : Sub 11413762517 L) (e : execProbationCountdown x = .next t) :
    Acts L x t := by
  unfold execProbationCountdown at e
  cases e
  try dsimp only
  repeat' with_reducible first
    | assumption | exact Acts.refl _ | exact hl.mono (by decide) | apply setProbation_acts | refine Acts.ite ?_ ?_
    | refine Acts.upd ?_ | intro _ | split

theorem execGetEndpointId_acts {L : Nat} {x t : State} {a0} (hl : Sub 34359738368 L) (e : execGetEndpointId a0 x = .next t) :
    Acts L x t := by
  unfold execGetEndpointId at e
  cases e
  try dsimp only
  repeat' with_reducible first
    | assumption | exact Acts.refl _ | exact hl.mono (by decide) | apply mctp_acts | apply Laws.control_acts
    | refine Acts.ite ?_ ?_ | refine Acts.upd ?_ | intro _ | split

theorem setFw_acts {L : Nat} {s x : State} {a0} (hl : Sub 9126810752 L) (h : Acts L s x) :
    Acts L s (setFw a0 x) := by
  unfold setFw
  try dsimp only
  repeat' with_reducible first
    | assumption | exact Acts.refl _ | exact hl.mono (by decide) | apply postEvent_acts | refine Acts.ite ?_ ?_
    | refine Acts.upd ?_ | intro _ | split

theorem execActivateFirmware_acts {L : Nat} {x t : State} {a0} (hl : Sub 45773502197 L) (e : execActivateFirmware a0 x = .next t) :
    Acts L x t := by
  unfold execActivateFirmware at e
  cases e
  try dsimp only
  repeat' with_reducible first
    | assumption | exact Acts.refl _ | exact hl.mono (by decide) | apply inUpdate_acts | apply activateReady_acts
    | apply Laws.control_acts | apply setFw_acts | refine Acts.ite ?_ ?_ | refine Acts.upd ?_ | intro _ | split

theorem execEndSession_acts {L : Nat} {x t : State} {a0} (hl : Sub 28593632981 L) (e : execEndSession a0 x = .next t) :
    Acts L x t := by
  unfold execEndSession at e
  cases e
  try dsimp only
  repeat' with_reducible first
    | assumption | exact Acts.refl _ | exact hl.mono (by decide) | apply odEnd_acts | refine Acts.ite ?_ ?_
    | refine Acts.upd ?_ | intro _ | split

theorem countHerald_acts {L : Nat} {s x : State} {a0} (hl : Sub 131072 L) (h : Acts L s x) :
    Acts L s (countHerald a0 x) := by
  unfold countHerald
  try dsimp only
  repeat' with_reducible first
    | assumption | exact Acts.refl _ | exact hl.mono (by decide) | apply modHer_acts | refine Acts.ite ?_ ?_
    | refine Acts.upd ?_ | intro _ | split

theorem countResend_acts {L : Nat} {s x : State} {a0} (hl : Sub 11413778645 L) (h : Acts L s x) :
    Acts L s (countResend a0 x) := by
  unfold countResend
  try dsimp only
  repeat' with_reducible first
    | assumption | exact Acts.refl _ | exact hl.mono (by decide) | apply modBundle_acts | apply raise_acts
    | apply corrected_acts | apply bump_acts | apply onlyIf_acts | refine Acts.ite ?_ ?_ | refine Acts.upd ?_ | intro _
    | split

theorem execBundleBlockReceive_acts {L : Nat} {x t : State} {a0 a1 a2 a3 a4 a5} (hl : Sub 11413909717 L) (e : execBundleBlockReceive a0 a1 a2 a3 a4 a5 x = .next t) :
    Acts L x t := by
  unfold execBundleBlockReceive at e
  cases e
  try dsimp only
  repeat' with_reducible first
    | assumption | exact Acts.refl _ | exact hl.mono (by decide) | apply modBundle_acts | apply countHerald_acts
    | apply countResend_acts | apply raise_acts | apply onlyIf_acts | refine Acts.ite ?_ ?_ | refine Acts.upd ?_
    | intro _ | split

theorem execSegmentMigrationDone_acts {L : Nat} {x t : State} (hl : Sub 11441090773 L) (e : execSegmentMigrationDone x = .next t) :
    Acts L x t := by
  unfold execSegmentMigrationDone at e
  cases e
  try dsimp only
  repeat' with_reducible first
    | assumption | exact Acts.refl _ | exact hl.mono (by decide) | apply startSeason_acts | refine Acts.ite ?_ ?_
    | refine Acts.upd ?_ | intro _ | split

theorem execRingIdle_acts {L : Nat} {x t : State} {a0} (hl : Sub 134217728 L) (e : execRingIdle a0 x = .next t) :
    Acts L x t := by
  unfold execRingIdle at e
  cases e
  try dsimp only
  repeat' with_reducible first
    | assumption | exact Acts.refl _ | exact hl.mono (by decide) | apply modRing_acts | refine Acts.ite ?_ ?_
    | refine Acts.upd ?_ | intro _ | split

theorem execAcquire_acts {L : Nat} {x t : State} {a0 a1} (hl : Sub 11430736085 L) (e : execAcquire a0 a1 x = .next t) :
    Acts L x t := by
  unfold execAcquire at e
  cases e
  try dsimp only
  repeat' with_reducible first
    | assumption | exact Acts.refl _ | exact hl.mono (by decide) | apply modFence_acts | apply refuseRequest_acts
    | apply addReq_acts | apply sendPacket_acts | apply bump_acts | refine Acts.ite ?_ ?_ | refine Acts.upd ?_
    | refine Acts.pair (by assumption) (addReq_acts ?_ ?_) | intro _ | split

theorem execOutcomeFixed_acts {L : Nat} {x t : State} (hl : Sub 80158798037 L) (e : execOutcomeFixed x = .next t) :
    Acts L x t := by
  unfold execOutcomeFixed at e
  cases e
  try dsimp only
  repeat' with_reducible first
    | assumption | exact Acts.refl _ | exact hl.mono (by decide) | apply fixOutcome_acts | apply timeAtLeast_acts
    | refine Acts.ite ?_ ?_ | refine Acts.upd ?_ | intro _ | split

theorem execListEntries_acts {L : Nat} {x t : State} {a0 a1} (hl : Sub 28593631445 L) (e : execListEntries a0 a1 x = .next t) :
    Acts L x t := by
  unfold execListEntries at e
  cases e
  try dsimp only
  repeat' with_reducible first
    | assumption | exact Acts.refl _ | exact hl.mono (by decide) | apply odList_acts | refine Acts.ite ?_ ?_
    | refine Acts.upd ?_ | intro _ | split

theorem reportDie_acts {L : Nat} {s x : State} {a0 a1} (hl : Sub 11413778645 L) (h : Acts L s x) :
    Acts L s (reportDie a0 a1 x) := by
  unfold reportDie
  try dsimp only
  repeat' with_reducible first
    | assumption | exact Acts.refl _ | exact hl.mono (by decide) | apply raise_acts | refine Acts.ite ?_ ?_
    | refine Acts.upd ?_ | intro _ | split

theorem execDieAnnounce_acts {L : Nat} {x t : State} {a0 a1} (hl : Sub 11413778645 L) (e : execDieAnnounce a0 a1 x = .next t) :
    Acts L x t := by
  unfold execDieAnnounce at e
  cases e
  try dsimp only
  repeat' with_reducible first
    | assumption | exact Acts.refl _ | exact hl.mono (by decide) | apply reportDie_acts | apply leaveStep3_acts
    | apply onlyIf_acts | refine Acts.ite ?_ ?_ | refine Acts.upd ?_ | intro _ | split

theorem execTrainFlit_acts {L : Nat} {x t : State} {a0 a1} (hl : Sub 15834690037 L) (e : execTrainFlit a0 a1 x = .next t) :
    Acts L x t := by
  unfold execTrainFlit at e
  cases e
  try dsimp only
  repeat' with_reducible first
    | assumption | exact Acts.refl _ | exact hl.mono (by decide) | apply answerTrain_acts | apply modPair_acts
    | apply judgeTrain_acts | refine Acts.ite ?_ ?_ | refine Acts.upd ?_ | intro _ | split

theorem execCodewordReceive_acts {L : Nat} {x t : State} {a0 a1} (hl : Sub 11276390528 L) (e : execCodewordReceive a0 a1 x = .next t) :
    Acts L x t := by
  unfold execCodewordReceive at e
  cases e
  try dsimp only
  repeat' with_reducible first
    | assumption | exact Acts.refl _ | exact hl.mono (by decide) | apply modFib_acts | apply correctedWith_acts
    | apply bump_acts | refine Acts.ite ?_ ?_ | refine Acts.upd ?_ | intro _ | split

theorem execCreditFlit_acts {L : Nat} {x t : State} {a0 a1} (hl : Sub 4332716032 L) (e : execCreditFlit a0 a1 x = .next t) :
    Acts L x t := by
  unfold execCreditFlit at e
  cases e
  try dsimp only
  repeat' with_reducible first
    | assumption | exact Acts.refl _ | exact hl.mono (by decide) | apply takeSeq_acts | apply modPair_acts
    | refine Acts.ite ?_ ?_ | refine Acts.upd ?_ | intro _ | split

theorem execBeaconTick_acts {L : Nat} {x t : State} (hl : Sub 12582912 L) (e : execBeaconTick x = .next t) :
    Acts L x t := by
  unfold execBeaconTick at e
  cases e
  try dsimp only
  repeat' with_reducible first
    | assumption | exact Acts.refl _ | exact hl.mono (by decide) | apply sendTime_acts | apply forEach_acts
    | refine Acts.ite ?_ ?_ | refine Acts.upd ?_ | intro _ | split

theorem execNvRecordWrite_acts {L : Nat} {x t : State} (hl : Sub 8212 L) (e : execNvRecordWrite x = .next t) :
    Acts L x t := by
  unfold execNvRecordWrite at e
  cases e
  dsimp only
  refine Acts.ite ?_ (Acts.refl _)
  split
  · exact Acts.refl _
  · rename_i r rest j
    have k : Acts L x (writeAudit r.audit x) := writeAudit_acts (hl.mono (by decide)) (Acts.refl x)
    have hp : (writeAudit r.audit x).pow = x.pow := writeAudit_pow
    generalize writeAudit r.audit x = y at k hp
    have hj : y.pow.journal.length = rest.length + 1 := by rw [hp, j]; rfl
    refine Acts.ite (nvApply_acts (hl.mono (by decide)) (k.updBy ?_)) (k.updBy ?_)
    · exact ⟨rfl, rfl, rfl, id, fun b => ⟨by have := b.journal; show rest.length ≤ 64; omega, b.2, b.3, b.4, b.5, b.6, b.7⟩, fun b => ⟨b.1, b.2, b.3⟩⟩
    · exact ⟨rfl, rfl, rfl, id, fun b => ⟨by have := b.journal; show rest.length + 1 ≤ 64; omega, b.2, b.3, b.4, b.5, b.6, b.7⟩, fun b => ⟨b.1, b.2, b.3⟩⟩

theorem issueVector_acts {L : Nat} {s x : State} {a0 a1 a2} (hl : Sub 11413893333 L) (h : Acts L s x) :
    Acts L s (issueVector a0 a1 a2 x) := by
  unfold issueVector
  try dsimp only
  repeat' with_reducible first
    | assumption | exact Acts.refl _ | exact hl.mono (by decide) | apply modHer_acts | apply issued_acts
    | apply modTile_acts | apply forEach_acts | refine Acts.ite ?_ ?_ | refine Acts.upd ?_ | intro _ | split

theorem execHaltNotice_acts {L : Nat} {x t : State} {a0 a1} (hl : Sub 11413762261 L) (e : execHaltNotice a0 a1 x = .next t) :
    Acts L x t := by
  unfold execHaltNotice at e
  cases e
  try dsimp only
  repeat' with_reducible first
    | assumption | exact Acts.refl _ | exact hl.mono (by decide) | apply takeNotice_acts | apply haltEffect_acts
    | refine Acts.ite ?_ ?_ | refine Acts.upd ?_ | intro _ | split

theorem execFunctionLevelReset_acts {L : Nat} {x t : State} (hl : Sub 11476668544 L) (e : execFunctionLevelReset x = .next t) :
    Acts L x t := by
  unfold execFunctionLevelReset at e
  cases e
  try dsimp only
  repeat' with_reducible first
    | assumption | exact Acts.refl _ | exact hl.mono (by decide) | apply logFault_acts | apply bump_acts
    | apply hostInterfaceReset_acts | refine Acts.ite ?_ ?_ | refine Acts.upd ?_ | intro _ | split

theorem execTrimmerUpdate_acts {L : Nat} {x t : State} {a0 a1 a2} (hl : Sub 2097152 L) (e : execTrimmerUpdate a0 a1 a2 x = .next t) :
    Acts L x t := by
  unfold execTrimmerUpdate at e
  cases e
  try dsimp only
  repeat' with_reducible first
    | assumption | exact Acts.refl _ | exact hl.mono (by decide) | apply modEng_acts | refine Acts.ite ?_ ?_
    | refine Acts.upd ?_ | intro _ | split

theorem adoptRoot_acts {L : Nat} {s x : State} {a0 a1 a2} (hl : Sub 11422150869 L) (h : Acts L s x) :
    Acts L s (adoptRoot a0 a1 a2 x) := by
  unfold adoptRoot
  try dsimp only
  repeat' with_reducible first
    | assumption | exact Acts.refl _ | exact hl.mono (by decide) | apply raiseWith_acts | apply onlyIf_acts
    | refine Acts.ite ?_ ?_ | refine Acts.upd ?_ | intro _ | split

theorem execBeacon_acts {L : Nat} {x t : State} {a0 a1} (hl : Sub 11422150869 L) (e : execBeacon a0 a1 x = .next t) :
    Acts L x t := by
  unfold execBeacon at e
  cases e
  try dsimp only
  repeat' with_reducible first
    | assumption | exact Acts.refl _ | exact hl.mono (by decide) | apply freeSlot_acts | apply adoptRoot_acts
    | apply raiseWith_acts | apply sendTime_acts | apply onlyIf_acts | apply forEach_acts | refine Acts.ite ?_ ?_
    | refine Acts.upd ?_ | intro _ | split

theorem execMainRailsStart_acts {L : Nat} {x t : State} {a0} (hl : Sub 104 L) (e : execMainRailsStart a0 x = .next t) :
    Acts L x t := by
  unfold execMainRailsStart at e
  cases e
  try dsimp only
  repeat' with_reducible first
    | assumption | exact Acts.refl _ | exact hl.mono (by decide) | apply beginStart_acts | refine Acts.ite ?_ ?_
    | refine Acts.upd ?_ | intro _ | split

theorem voltageFault_acts {L : Nat} {s x : State} {a0 a1} (hl : Sub 11413762261 L) (h : Acts L s x) :
    Acts L s (voltageFault a0 a1 x) := by
  unfold voltageFault
  try dsimp only
  repeat' with_reducible first
    | assumption | exact Acts.refl _ | exact hl.mono (by decide) | apply raiseWith_acts | refine Acts.ite ?_ ?_
    | refine Acts.upd ?_ | intro _ | split

theorem execRequestUpdate_acts {L : Nat} {x t : State} {a0} (hl : Sub 43486549120 L) (e : execRequestUpdate a0 x = .next t) :
    Acts L x t := by
  unfold execRequestUpdate at e
  cases e
  try dsimp only
  repeat' with_reducible first
    | assumption | exact Acts.refl _ | exact hl.mono (by decide) | apply pldm_acts | apply Laws.control_acts
    | apply setFw_acts | refine Acts.ite ?_ ?_ | refine Acts.upd ?_ | intro _ | split

theorem execQueryDeviceIdentifiers_acts {L : Nat} {x t : State} {a0} (hl : Sub 34359738368 L) (e : execQueryDeviceIdentifiers a0 x = .next t) :
    Acts L x t := by
  unfold execQueryDeviceIdentifiers at e
  cases e
  try dsimp only
  repeat' with_reducible first
    | assumption | exact Acts.refl _ | exact hl.mono (by decide) | apply pldm_acts | apply Laws.control_acts
    | refine Acts.ite ?_ ?_ | refine Acts.upd ?_ | intro _ | split

theorem execCreditFlitDue_acts {L : Nat} {x t : State} {a0} (hl : Sub 4299161600 L) (e : execCreditFlitDue a0 x = .next t) :
    Acts L x t := by
  unfold execCreditFlitDue at e
  cases e
  try dsimp only
  repeat' with_reducible first
    | assumption | exact Acts.refl _ | exact hl.mono (by decide) | refine turn_acts ?_ ?_ (by assumption)
    | apply modPair_acts | apply sendFirst_acts | refine Acts.ite ?_ ?_ | refine Acts.upd ?_ | intro _ | split

theorem withMirror_acts {L : Nat} {s x : State} (hl : Sub 33554432 L) (h : Acts L s x) :
    Acts L s (withMirror x) := by
  unfold withMirror
  try dsimp only
  repeat' with_reducible first
    | assumption | exact Acts.refl _ | exact hl.mono (by decide) | refine Acts.ite ?_ ?_ | refine Acts.upd ?_ | intro _
    | split

theorem homeAtomic_acts {L : Nat} {s x : State} {a0 a1 a2 a3 a4 a5 a6 a7 a8} (hl : Sub 11447414997 L) (h : Acts L s x) :
    Acts L s (homeAtomic a0 a1 a2 a3 a4 a5 a6 a7 a8 x).2.2 := by
  unfold homeAtomic
  try dsimp only
  repeat' with_reducible first
    | assumption | exact Acts.refl _ | exact hl.mono (by decide) | apply lineFound_acts | apply raiseWith_acts
    | apply bump_acts | apply homeWrite_acts | refine Acts.ite ?_ ?_ | refine Acts.upd ?_ | intro _ | split

theorem serveAtomic_acts {L : Nat} {s x : State} {a0 a1} (hl : Sub 11464323285 L) (h : Acts L s x) :
    Acts L s (serveAtomic a0 a1 x).2 := by
  unfold serveAtomic
  try dsimp only
  repeat' with_reducible first
    | assumption | exact Acts.refl _ | exact hl.mono (by decide) | apply dropPacket_acts | apply badAddress_acts
    | apply addressFault_acts | apply writeWaits_acts | apply homeAtomic_acts | apply whenInvalidated_acts
    | refine Acts.ite ?_ ?_ | refine Acts.upd ?_ | refine Acts.pair (by assumption) (dropPacket_acts ?_ ?_)
    | refine Acts.pair2 (by assumption) (homeAtomic_acts ?_ ?_) | intro _ | split

theorem execTransferOut_acts {L : Nat} {x t : State} {a0 a1 a2 a3 a4} (hl : Sub 11475619968 L) (e : execTransferOut a0 a1 a2 a3 a4 x = .next t) :
    Acts L x t := by
  unfold execTransferOut at e
  cases e
  try dsimp only
  repeat' with_reducible first
    | assumption | exact Acts.refl _ | exact hl.mono (by decide) | apply submit_acts | apply transferRead_acts
    | refine Acts.ite ?_ ?_ | refine Acts.upd ?_ | intro _ | split

theorem execHoldoverEntry_acts {L : Nat} {x t : State} (hl : Sub 11422150869 L) (e : execHoldoverEntry x = .next t) :
    Acts L x t := by
  unfold execHoldoverEntry at e
  cases e
  try dsimp only
  repeat' with_reducible first
    | assumption | exact Acts.refl _ | exact hl.mono (by decide) | apply raise_acts | refine Acts.ite ?_ ?_
    | refine Acts.upd ?_ | intro _ | split

theorem execSealCommit_acts {L : Nat} {x t : State} (hl : Sub 37847040 L) (e : execSealCommit x = .next t) :
    Acts L x t := by
  unfold execSealCommit at e
  cases e
  try dsimp only
  repeat' with_reducible first
    | assumption | exact Acts.refl _ | exact hl.mono (by decide) | apply applyMirror_acts | apply settleTwin_acts
    | apply sendTwin_acts | apply forEach_acts | refine Acts.ite ?_ ?_ | refine Acts.upd ?_ | intro _ | split

theorem execEngineInputRecheck_acts {L : Nat} {x t : State} {a0 a1} (hl : Sub 11441025525 L) (e : execEngineInputRecheck a0 a1 x = .next t) :
    Acts L x t := by
  unfold execEngineInputRecheck at e
  cases e
  try dsimp only
  repeat' with_reducible first
    | assumption | exact Acts.refl _ | exact hl.mono (by decide) | apply setLight_acts | apply sampleInput_acts
    | apply leaveStep5_acts | apply bringUp_acts | refine Acts.ite ?_ ?_ | refine Acts.upd ?_ | intro _ | split

theorem loadReply_acts {L : Nat} {s x : State} {a0 a1 a2} (hl : Sub 11413762261 L) (h : Acts L s x) :
    Acts L s (loadReply a0 a1 a2 x).2 := by
  unfold loadReply
  try dsimp only
  repeat' with_reducible first
    | assumption | exact Acts.refl _ | exact hl.mono (by decide) | apply sendPacket_acts | refine Acts.ite ?_ ?_
    | refine Acts.upd ?_ | intro _ | split

theorem serveLoad_acts {L : Nat} {s x : State} {a0 a1} (hl : Sub 11413827797 L) (h : Acts L s x) :
    Acts L s (serveLoad a0 a1 x).2 := by
  unfold serveLoad
  try dsimp only
  repeat' with_reducible first
    | assumption | exact Acts.refl _ | exact hl.mono (by decide) | apply dropPacket_acts | apply homeRead_acts
    | apply loadReply_acts | apply badAddress_acts | apply bufWord_acts | refine Acts.ite ?_ ?_ | refine Acts.upd ?_
    | refine Acts.pair (by assumption) (dropPacket_acts ?_ ?_) | refine Acts.pair2 (by assumption) (homeRead_acts ?_ ?_)
    | refine Acts.pair (by assumption) (loadReply_acts ?_ ?_) | intro _ | split

theorem execLoadPacket_acts {L : Nat} {x t : State} {a0 a1 a2} (hl : Sub 11430736085 L) (e : execLoadPacket a0 a1 a2 x = .next t) :
    Acts L x t := by
  unfold execLoadPacket at e
  cases e
  try dsimp only
  repeat' with_reducible first
    | assumption | exact Acts.refl _ | exact hl.mono (by decide) | apply arrive_acts | apply serveLoad_acts
    | refine Acts.ite ?_ ?_ | refine Acts.upd ?_ | refine Acts.pair (by assumption) (serveLoad_acts ?_ ?_) | intro _
    | split

theorem execValidationComplete_acts {L : Nat} {x t : State} (hl : Sub 11413762261 L) (e : execValidationComplete x = .next t) :
    Acts L x t := by
  unfold execValidationComplete at e
  cases e
  try dsimp only
  repeat' with_reducible first
    | assumption | exact Acts.refl _ | exact hl.mono (by decide) | apply failLaunch_acts | apply failDesc_acts
    | apply failPlain_acts | apply armLaunch_acts | refine Acts.ite ?_ ?_ | refine Acts.upd ?_ | intro _ | split

theorem writeLossRecord_acts {L : Nat} {s x : State} (hl : Sub 16 L) (h : Acts L s x) :
    Acts L s (writeLossRecord x) := by
  unfold writeLossRecord
  try dsimp only
  repeat' with_reducible first
    | assumption | exact Acts.refl _ | exact hl.mono (by decide) | apply putLoss_acts | refine Acts.ite ?_ ?_
    | refine Acts.upd ?_ | intro _ | split

theorem execReckoningUpdate_acts {L : Nat} {x t : State} (hl : Sub 81206980821 L) (e : execReckoningUpdate x = .next t) :
    Acts L x t := by
  unfold execReckoningUpdate at e
  cases e
  try dsimp only
  repeat' with_reducible first
    | assumption | exact Acts.refl _ | exact hl.mono (by decide) | apply freshen_acts | apply bandFault_acts
    | apply onlyIf_acts | refine Acts.ite ?_ ?_ | refine Acts.upd ?_ | intro _ | split

theorem execCancelUpdateComponent_acts {L : Nat} {x t : State} {a0} (hl : Sub 43486549136 L) (e : execCancelUpdateComponent a0 x = .next t) :
    Acts L x t := by
  unfold execCancelUpdateComponent at e
  cases e
  try dsimp only
  repeat' with_reducible first
    | assumption | exact Acts.refl _ | exact hl.mono (by decide) | apply inUpdate_acts | apply Laws.control_acts
    | apply setFw_acts | apply tearUpdate_acts | refine Acts.ite ?_ ?_ | refine Acts.upd ?_ | intro _ | split

theorem execMarshalHalted_acts {L : Nat} {x t : State} {a0} (hl : Sub 80150401153 L) (e : execMarshalHalted a0 x = .next t) :
    Acts L x t := by
  unfold execMarshalHalted at e
  cases e
  try dsimp only
  repeat' with_reducible first
    | assumption | exact Acts.refl _ | exact hl.mono (by decide) | apply endHalted_acts | apply modTile_acts
    | apply tileResetNow_acts | refine Acts.ite ?_ ?_ | refine Acts.upd ?_ | intro _ | split

theorem execEventRead_acts {L : Nat} {x t : State} {a0 a1} (hl : Sub 28593631445 L) (e : execEventRead a0 a1 x = .next t) :
    Acts L x t := by
  unfold execEventRead at e
  cases e
  try dsimp only
  repeat' with_reducible first
    | assumption | exact Acts.refl _ | exact hl.mono (by decide) | apply odEvents_acts | refine Acts.ite ?_ ?_
    | refine Acts.upd ?_ | intro _ | split

theorem execGetVendorDefinedMessageSupport_acts {L : Nat} {x t : State} {a0 a1} (hl : Sub 34359738368 L) (e : execGetVendorDefinedMessageSupport a0 a1 x = .next t) :
    Acts L x t := by
  unfold execGetVendorDefinedMessageSupport at e
  cases e
  try dsimp only
  repeat' with_reducible first
    | assumption | exact Acts.refl _ | exact hl.mono (by decide) | apply mctp_acts | apply Laws.control_acts
    | refine Acts.ite ?_ ?_ | refine Acts.upd ?_ | intro _ | split

theorem judgeWindow_acts {L : Nat} {s x : State} (hl : Sub 28 L) (h : Acts L s x) :
    Acts L s (judgeWindow x) := by
  unfold judgeWindow
  try dsimp only
  repeat' with_reducible first
    | assumption | exact Acts.refl _ | exact hl.mono (by decide) | refine Acts.ite ?_ ?_ | refine Acts.upd ?_ | intro _
    | split

theorem retireArray_acts {L : Nat} {s x : State} {a0 a1 a2} (hl : Sub 80134156501 L) (h : Acts L s x) :
    Acts L s (retireArray a0 a1 a2 x) := by
  unfold retireArray
  try dsimp only
  repeat' with_reducible first
    | assumption | exact Acts.refl _ | exact hl.mono (by decide) | apply discardStaging_acts | apply passFault_acts
    | apply modArr_acts | apply journalPut_acts | apply dropPass_acts | apply modTile_acts | apply raiseTile_acts
    | apply raiseWith_acts | apply onlyIf_acts | refine Acts.ite ?_ ?_ | refine Acts.upd ?_ | intro _ | split

theorem tallyMismatch_acts {L : Nat} {s x : State} {a0 a1 a2} (hl : Sub 80134156501 L) (h : Acts L s x) :
    Acts L s (tallyMismatch a0 a1 a2 x) := by
  unfold tallyMismatch
  try dsimp only
  repeat' with_reducible first
    | assumption | exact Acts.refl _ | exact hl.mono (by decide) | apply bump_acts | apply modKeep_acts
    | apply replayOrFail_acts | apply modArr_acts | apply raiseWith_acts | apply retireArray_acts
    | refine Acts.ite ?_ ?_ | refine Acts.upd ?_ | intro _ | split

theorem execTallyCheck_acts {L : Nat} {x t : State} {a0 a1 a2 a3 a4} (hl : Sub 80134156501 L) (e : execTallyCheck a0 a1 a2 a3 a4 x = .next t) :
    Acts L x t := by
  unfold execTallyCheck at e
  cases e
  try dsimp only
  repeat' with_reducible first
    | assumption | exact Acts.refl _ | exact hl.mono (by decide) | apply bump_acts | apply tallyMismatch_acts
    | refine Acts.ite ?_ ?_ | refine Acts.upd ?_ | intro _ | split

theorem raiseOf_acts {L : Nat} {s x : State} {a0 a1 a2 a3} (hl : Sub 11413753985 L) (h : Acts L s x) :
    Acts L s (raiseOf a0 a1 a2 a3 x) := by
  unfold raiseOf
  try dsimp only
  repeat' with_reducible first
    | assumption | exact Acts.refl _ | exact hl.mono (by decide) | apply raiseHalt_acts | apply logRec_acts
    | refine Acts.ite ?_ ?_ | refine Acts.upd ?_ | intro _ | split

theorem overrunEffect_acts {L : Nat} {s x : State} {a0} (hl : Sub 11413893333 L) (h : Acts L s x) :
    Acts L s (overrunEffect a0 x) := by
  unfold overrunEffect
  try dsimp only
  repeat' with_reducible first
    | assumption | exact Acts.refl _ | exact hl.mono (by decide) | apply raiseOf_acts | apply takeLeap_acts
    | refine Acts.ite ?_ ?_ | refine Acts.upd ?_ | intro _ | split

theorem execTransferIn_acts {L : Nat} {x t : State} {a0 a1 a2 a3 a4} (hl : Sub 11475619968 L) (e : execTransferIn a0 a1 a2 a3 a4 x = .next t) :
    Acts L x t := by
  unfold execTransferIn at e
  cases e
  try dsimp only
  repeat' with_reducible first
    | assumption | exact Acts.refl _ | exact hl.mono (by decide) | apply submit_acts | apply transferRead_acts
    | refine Acts.ite ?_ ?_ | refine Acts.upd ?_ | intro _ | split

theorem openRest_acts {L : Nat} {s x : State} {a0 a1} (hl : Sub 68719771648 L) (h : Acts L s x) :
    Acts L s (openRest a0 a1 x) := by
  unfold openRest
  try dsimp only
  repeat' with_reducible first
    | assumption | exact Acts.refl _ | exact hl.mono (by decide) | apply freshen_acts | apply openFar_acts
    | apply openNear_acts | refine Acts.ite ?_ ?_ | refine Acts.upd ?_ | intro _ | split

theorem execStreamComplete_acts {L : Nat} {x t : State} {a0 a1} (hl : Sub 80133664981 L) (e : execStreamComplete a0 a1 x = .next t) :
    Acts L x t := by
  unfold execStreamComplete at e
  cases e
  try dsimp only
  repeat' with_reducible first
    | assumption | exact Acts.refl _ | exact hl.mono (by decide) | apply openRest_acts | apply complete_acts
    | apply modHer_acts | apply onlyIf_acts | refine Acts.ite ?_ ?_ | refine Acts.upd ?_ | intro _ | split

theorem abortResult_acts {L : Nat} {s x : State} {a0} (hl : Sub 11413753985 L) (h : Acts L s x) :
    Acts L s (abortResult a0 x).2 := by
  unfold abortResult
  try dsimp only
  repeat' with_reducible first
    | assumption | exact Acts.refl _ | exact hl.mono (by decide) | apply abortCmd_acts | refine Acts.ite ?_ ?_
    | refine Acts.upd ?_ | refine Acts.pair (by assumption) (abortCmd_acts ?_ ?_) | intro _ | split

theorem execAbortEvaluate_acts {L : Nat} {x t : State} {a0} (hl : Sub 11413753985 L) (e : execAbortEvaluate a0 x = .next t) :
    Acts L x t := by
  unfold execAbortEvaluate at e
  cases e
  try dsimp only
  repeat' with_reducible first
    | assumption | exact Acts.refl _ | exact hl.mono (by decide) | apply abortResult_acts | apply finishCmd_acts
    | refine Acts.ite ?_ ?_ | refine Acts.upd ?_ | refine Acts.pair (by assumption) (abortResult_acts ?_ ?_) | intro _
    | split

theorem sqTail_acts {L : Nat} {s x : State} {a0 a1 a2} (hl : Sub 102005473279 L) (h : Acts L s x) :
    Acts L s (sqTail a0 a1 a2 x) := by
  unfold sqTail
  try dsimp only
  repeat' with_reducible first
    | assumption | exact Acts.refl _ | exact hl.mono (by decide) | apply ringError_acts | apply readEntries_acts
    | apply modRing_acts | refine Acts.ite ?_ ?_ | refine Acts.upd ?_ | intro _ | split

theorem execSqDoorbell_acts {L : Nat} {x t : State} {a0 a1 a2} (hl : Sub 102005473279 L) (e : execSqDoorbell a0 a1 a2 x = .next t) :
    Acts L x t := by
  unfold execSqDoorbell at e
  cases e
  try dsimp only
  repeat' with_reducible first
    | assumption | exact Acts.refl _ | exact hl.mono (by decide) | apply sqTail_acts | refine Acts.ite ?_ ?_
    | refine Acts.upd ?_ | intro _ | split

theorem setEid_acts {L : Nat} {s x : State} {a0 a1} (hl : Sub 2048 L) (h : Acts L s x) :
    Acts L s (setEid a0 a1 x) := by
  unfold setEid
  try dsimp only
  repeat' with_reducible first
    | assumption | exact Acts.refl _ | exact hl.mono (by decide) | refine Acts.ite ?_ ?_ | refine Acts.upd ?_ | intro _
    | split

theorem execSetEndpointId_acts {L : Nat} {x t : State} {a0 a1} (hl : Sub 34359740416 L) (e : execSetEndpointId a0 a1 x = .next t) :
    Acts L x t := by
  unfold execSetEndpointId at e
  cases e
  try dsimp only
  repeat' with_reducible first
    | assumption | exact Acts.refl _ | exact hl.mono (by decide) | apply mctp_acts | apply Laws.control_acts
    | apply setEid_acts | refine Acts.ite ?_ ?_ | refine Acts.upd ?_ | intro _ | split

theorem takeReadData_acts {L : Nat} {s x : State} {a0 a1 a2} (hl : Sub 11464585429 L) (h : Acts L s x) :
    Acts L s (takeReadData a0 a1 a2 x).2 := by
  unfold takeReadData
  try dsimp only
  repeat' with_reducible first
    | assumption | exact Acts.refl _ | exact hl.mono (by decide) | apply fillWaits_acts | apply putLocal_acts
    | apply setReq_acts | apply failPiece_acts | apply pieceBytes_acts | apply modXfer_acts | apply pieceDone_acts
    | apply lateResponse_acts | apply onlyIf_acts | refine Acts.ite ?_ ?_ | refine Acts.upd ?_
    | refine Acts.pair (by assumption) (putLocal_acts ?_ ?_) | refine Acts.pair (by assumption) (pieceBytes_acts ?_ ?_)
    | intro _ | split

theorem execTransferReadData_acts {L : Nat} {x t : State} {a0 a1 a2} (hl : Sub 11464585429 L) (e : execTransferReadData a0 a1 a2 x = .next t) :
    Acts L x t := by
  unfold execTransferReadData at e
  cases e
  try dsimp only
  repeat' with_reducible first
    | assumption | exact Acts.refl _ | exact hl.mono (by decide) | apply arrive_acts | apply takeReadData_acts
    | refine Acts.ite ?_ ?_ | refine Acts.upd ?_ | refine Acts.pair (by assumption) (takeReadData_acts ?_ ?_) | intro _
    | split

theorem execGetFirmwareParameters_acts {L : Nat} {x t : State} {a0} (hl : Sub 34359738368 L) (e : execGetFirmwareParameters a0 x = .next t) :
    Acts L x t := by
  unfold execGetFirmwareParameters at e
  cases e
  try dsimp only
  repeat' with_reducible first
    | assumption | exact Acts.refl _ | exact hl.mono (by decide) | apply pldm_acts | apply Laws.control_acts
    | refine Acts.ite ?_ ?_ | refine Acts.upd ?_ | intro _ | split

theorem execAtomicData_acts {L : Nat} {x t : State} {a0 a1} (hl : Sub 11430670549 L) (e : execAtomicData a0 a1 x = .next t) :
    Acts L x t := by
  unfold execAtomicData at e
  cases e
  try dsimp only
  repeat' with_reducible first
    | assumption | exact Acts.refl _ | exact hl.mono (by decide) | apply arrive_acts | apply resolve_acts
    | apply answerReq_acts | refine Acts.ite ?_ ?_ | refine Acts.upd ?_
    | refine Acts.pair (by assumption) (resolve_acts ?_ ?_ ?_) | intro _ | split

theorem execUndeliverable_acts {L : Nat} {x t : State} {a0 a1} (hl : Sub 11430670549 L) (e : execUndeliverable a0 a1 x = .next t) :
    Acts L x t := by
  unfold execUndeliverable at e
  cases e
  try dsimp only
  repeat' with_reducible first
    | assumption | exact Acts.refl _ | exact hl.mono (by decide) | apply arrive_acts | apply takeUndeliverable_acts
    | refine Acts.ite ?_ ?_ | refine Acts.upd ?_ | intro _ | split

theorem execOverCurrentStretch_acts {L : Nat} {x t : State} (hl : Sub 11413893343 L) (e : execOverCurrentStretch x = .next t) :
    Acts L x t := by
  unfold execOverCurrentStretch at e
  cases e
  dsimp only
  refine Acts.ite (eachTile_acts (hl.mono (by decide)) (bump_acts (hl.mono (by decide)) ?_) (fun _ _ k => evaluate_acts (hl.mono (by decide)) k))
    (Acts.refl _)
  have k : Acts L x (currentFault 0x9005 { x with pow := { x.pow with stretch := true, stretchAt := now x } }) :=
    currentFault_acts (hl.mono (by decide)) (Acts.upd (Acts.refl x))
  generalize currentFault 0x9005 _ = y at k
  unfold onlyIf
  split
  · rename_i n
    have n := of_decide_eq_true n
    exact setCap_acts (hl.mono (by decide)) k (fun b => ⟨by omega, by have := b.capHigh; omega⟩)
  · exact k

theorem execClaim_acts {L : Nat} {x t : State} {a0 a1} (hl : Sub 11422150869 L) (e : execClaim a0 a1 x = .next t) :
    Acts L x t := by
  unfold execClaim at e
  cases e
  try dsimp only
  repeat' with_reducible first
    | assumption | exact Acts.refl _ | exact hl.mono (by decide) | apply freeSlot_acts | apply adoptRoot_acts
    | apply sendTime_acts | apply forEach_acts | refine Acts.ite ?_ ?_ | refine Acts.upd ?_ | intro _ | split

theorem lossStep_acts {L : Nat} {s x : State} {a0 a1} (hl : Sub 11415859413 L) (h : Acts L s x) :
    Acts L s (lossStep a0 a1 x) := by
  unfold lossStep
  try dsimp only
  repeat' with_reducible first
    | assumption | exact Acts.refl _ | exact hl.mono (by decide) | apply optFault_acts | apply modFib_acts
    | refine Acts.ite ?_ ?_ | refine Acts.upd ?_ | intro _ | split

theorem execPageAcknowledgement_acts {L : Nat} {x t : State} {a0 a1 a2} (hl : Sub 11447316693 L) (e : execPageAcknowledgement a0 a1 a2 x = .next t) :
    Acts L x t := by
  unfold execPageAcknowledgement at e
  cases e
  try dsimp only
  repeat' with_reducible first
    | assumption | exact Acts.refl _ | exact hl.mono (by decide) | apply freeSlot_acts | apply settleTwin_acts
    | apply phaseDone_acts | apply startProtect_acts | refine Acts.ite ?_ ?_ | refine Acts.upd ?_ | intro _ | split

theorem execRebuildSend_acts {L : Nat} {x t : State} (hl : Sub 37748736 L) (e : execRebuildSend x = .next t) :
    Acts L x t := by
  unfold execRebuildSend at e
  cases e
  try dsimp only
  repeat' with_reducible first
    | assumption | exact Acts.refl _ | exact hl.mono (by decide) | apply sendPage_acts | refine Acts.ite ?_ ?_
    | refine Acts.upd ?_ | intro _ | split

theorem serveRead_acts {L : Nat} {s x : State} {a0 a1} (hl : Sub 11413827797 L) (h : Acts L s x) :
    Acts L s (serveRead a0 a1 x).2 := by
  unfold serveRead
  try dsimp only
  repeat' with_reducible first
    | assumption | exact Acts.refl _ | exact hl.mono (by decide) | apply dropPacket_acts | apply readLocal_acts
    | apply sendPacket_acts | apply forEach_acts | refine Acts.ite ?_ ?_ | refine Acts.upd ?_
    | refine Acts.pair (by assumption) (dropPacket_acts ?_ ?_)
    | refine Acts.pair2 (by assumption) (readLocal_acts ?_ ?_) | intro _ | split

theorem bufSet_acts {L : Nat} {s x : State} {a0 a1 a2} (hl : Sub 262144 L) (h : Acts L s x) :
    Acts L s (bufSet a0 a1 a2 x) := by
  unfold bufSet
  try dsimp only
  repeat' with_reducible first
    | assumption | exact Acts.refl _ | exact hl.mono (by decide) | apply modKeep_acts | refine Acts.ite ?_ ?_
    | refine Acts.upd ?_ | intro _ | split

theorem execSliceRecord_acts {L : Nat} {x t : State} {a0 a1} (hl : Sub 11413762261 L) (e : execSliceRecord a0 a1 x = .next t) :
    Acts L x t := by
  unfold execSliceRecord at e
  cases e
  try dsimp only
  repeat' with_reducible first
    | assumption | exact Acts.refl _ | exact hl.mono (by decide) | apply freeSlot_acts | apply sliceDisagrees_acts
    | refine Acts.ite ?_ ?_ | refine Acts.upd ?_ | intro _ | split

theorem execNakRepeat_acts {L : Nat} {x t : State} {a0 a1} (hl : Sub 4299161600 L) (e : execNakRepeat a0 a1 x = .next t) :
    Acts L x t := by
  unfold execNakRepeat at e
  cases e
  try dsimp only
  repeat' with_reducible first
    | assumption | exact Acts.refl _ | exact hl.mono (by decide) | apply sendPhaseNak_acts | apply sendNak_acts
    | apply onlyIf_acts | refine Acts.ite ?_ ?_ | refine Acts.upd ?_ | intro _ | split

theorem execSealMarker_acts {L : Nat} {x t : State} {a0 a1} (hl : Sub 37748736 L) (e : execSealMarker a0 a1 x = .next t) :
    Acts L x t := by
  unfold execSealMarker at e
  cases e
  try dsimp only
  repeat' with_reducible first
    | assumption | exact Acts.refl _ | exact hl.mono (by decide) | apply freeSlot_acts | refine Acts.ite ?_ ?_
    | refine Acts.upd ?_ | intro _ | split

theorem execOwnGive_acts {L : Nat} {x t : State} {a0 a1 a2} (hl : Sub 11475619968 L) (e : execOwnGive a0 a1 a2 x = .next t) :
    Acts L x t := by
  unfold execOwnGive at e
  cases e
  try dsimp only
  repeat' with_reducible first
    | assumption | exact Acts.refl _ | exact hl.mono (by decide) | apply submit_acts | apply ownRead_acts
    | refine Acts.ite ?_ ?_ | refine Acts.upd ?_ | intro _ | split

theorem execLockoutEnd_acts {L : Nat} {x t : State} {a0} (hl : Sub 512 L) (e : execLockoutEnd a0 x = .next t) :
    Acts L x t := by
  unfold execLockoutEnd at e
  cases e
  try dsimp only
  repeat' with_reducible first
    | assumption | exact Acts.refl _ | exact hl.mono (by decide) | refine Acts.ite ?_ ?_ | refine Acts.upd ?_ | intro _
    | split

theorem copyChunk_acts {L : Nat} {s x : State} {a0 a1 a2 a3 a4} (hl : Sub 11447808213 L) (h : Acts L s x) :
    Acts L s (copyChunk a0 a1 a2 a3 a4 x) := by
  unfold copyChunk
  try dsimp only
  repeat' with_reducible first
    | assumption | exact Acts.refl _ | exact hl.mono (by decide) | apply readLocal_acts | apply putLocal_acts
    | apply failPiece_acts | refine Acts.ite ?_ ?_ | refine Acts.upd ?_
    | refine Acts.pair2 (by assumption) (readLocal_acts ?_ ?_) | refine Acts.pair (by assumption) (putLocal_acts ?_ ?_)
    | intro _ | split

theorem activationDone_acts {L : Nat} {s x : State} {a0} (hl : Sub 11413763317 L) (h : Acts L s x) :
    Acts L s (activationDone a0 x) := by
  unfold activationDone
  try dsimp only
  repeat' with_reducible first
    | assumption | exact Acts.refl _ | exact hl.mono (by decide) | apply modImage_acts | apply journalPut_acts
    | apply setFw_acts | apply raiseWith_acts | apply bump_acts | refine Acts.ite ?_ ?_ | refine Acts.upd ?_ | intro _
    | split

theorem execMirrorRefresh_acts {L : Nat} {x t : State} (hl : Sub 8192 L) (e : execMirrorRefresh x = .next t) :
    Acts L x t := by
  unfold execMirrorRefresh at e
  cases e
  try dsimp only
  repeat' with_reducible first
    | assumption | exact Acts.refl _ | exact hl.mono (by decide) | apply refreshMirror_acts | refine Acts.ite ?_ ?_
    | refine Acts.upd ?_ | intro _ | split

theorem execUnpairReleaseNotice_acts {L : Nat} {x t : State} {a0 a1} (hl : Sub 37847040 L) (e : execUnpairReleaseNotice a0 a1 x = .next t) :
    Acts L x t := by
  unfold execUnpairReleaseNotice at e
  cases e
  try dsimp only
  repeat' with_reducible first
    | assumption | exact Acts.refl _ | exact hl.mono (by decide) | apply freeSlot_acts | apply storeKeep_acts
    | apply settleTwin_acts | refine Acts.ite ?_ ?_ | refine Acts.upd ?_ | intro _ | split

theorem execReleaseAcknowledgement_acts {L : Nat} {x t : State} {a0 a1} (hl : Sub 11430670549 L) (e : execReleaseAcknowledgement a0 a1 x = .next t) :
    Acts L x t := by
  unfold execReleaseAcknowledgement at e
  cases e
  try dsimp only
  repeat' with_reducible first
    | assumption | exact Acts.refl _ | exact hl.mono (by decide) | apply arrive_acts | apply resolve_acts
    | apply answerFence_acts | refine Acts.ite ?_ ?_ | refine Acts.upd ?_
    | refine Acts.pair (by assumption) (resolve_acts ?_ ?_ ?_) | intro _ | split

theorem addPiece_acts {L : Nat} {s x : State} {a0 a1 a2 a3 a4 a5} (hl : Sub 2164391936 L) (h : Acts L s x) :
    Acts L s (addPiece a0 a1 a2 a3 a4 a5 x) := by
  unfold addPiece
  try dsimp only
  repeat' with_reducible first
    | assumption | exact Acts.refl _ | exact hl.mono (by decide) | apply tokenIssue_acts | apply addReq_acts
    | refine Acts.ite ?_ ?_ | refine Acts.upd ?_ | refine Acts.pair (by assumption) (tokenIssue_acts ?_ ?_)
    | refine Acts.pair (by assumption) (addReq_acts ?_ ?_) | intro _ | split

theorem execTransfer_acts {L : Nat} {x t : State} {a0 a1} (hl : Sub 11464585429 L) (e : execTransfer a0 a1 x = .next t) :
    Acts L x t := by
  unfold execTransfer at e
  cases e
  try dsimp only
  repeat' with_reducible first
    | assumption | exact Acts.refl _ | exact hl.mono (by decide) | apply modTile_acts | apply refuseRequest_acts
    | apply addPiece_acts | apply sendChunk_acts | apply queueOnSplit_acts | apply sendPacket_acts
    | apply copyChunk_acts | apply pieceDone_acts | apply issued_acts | apply forEach_acts | refine Acts.ite ?_ ?_
    | refine Acts.upd ?_ | intro _ | split

theorem autoCommission_acts {L : Nat} {s x : State} {a0 a1} (hl : Sub 11415859413 L) (h : Acts L s x) :
    Acts L s (autoCommission a0 a1 x) := by
  unfold autoCommission
  try dsimp only
  repeat' with_reducible first
    | assumption | exact Acts.refl _ | exact hl.mono (by decide) | apply optFault_acts | apply recordBaseline_acts
    | refine Acts.ite ?_ ?_ | refine Acts.upd ?_ | intro _ | split

theorem execSwitchoverComplete_acts {L : Nat} {x t : State} {a0 a1} (hl : Sub 11415859413 L) (e : execSwitchoverComplete a0 a1 x = .next t) :
    Acts L x t := by
  unfold execSwitchoverComplete at e
  cases e
  try dsimp only
  repeat' with_reducible first
    | assumption | exact Acts.refl _ | exact hl.mono (by decide) | apply modEng_acts | apply dropPin_acts
    | apply lockRings_acts | apply returnPair_acts | apply remeasure_acts | apply settleRings_acts | apply bump_acts
    | apply applyHeld_acts | apply optFault_acts | apply forEach_acts | refine Acts.ite ?_ ?_ | refine Acts.upd ?_
    | intro _ | split

theorem execScrub_acts {L : Nat} {x t : State} {a0 a1} (hl : Sub 11413827797 L) (e : execScrub a0 a1 x = .next t) :
    Acts L x t := by
  unfold execScrub at e
  cases e
  try dsimp only
  repeat' with_reducible first
    | assumption | exact Acts.refl _ | exact hl.mono (by decide) | apply oneWord_acts | apply takeSlot_acts
    | refine Acts.ite ?_ ?_ | refine Acts.upd ?_ | intro _ | split

theorem execReleasePacket_acts {L : Nat} {x t : State} {a0 a1} (hl : Sub 11430736085 L) (e : execReleasePacket a0 a1 x = .next t) :
    Acts L x t := by
  unfold execReleasePacket at e
  cases e
  try dsimp only
  repeat' with_reducible first
    | assumption | exact Acts.refl _ | exact hl.mono (by decide) | apply arrive_acts | apply sendPacket_acts
    | refine Acts.ite ?_ ?_ | refine Acts.upd ?_ | intro _ | split

theorem execWriteEntry_acts {L : Nat} {x t : State} {a0 a1 a2 a3 a4} (hl : Sub 102005473279 L) (e : execWriteEntry a0 a1 a2 a3 a4 x = .next t) :
    Acts L x t := by
  unfold execWriteEntry at e
  cases e
  try dsimp only
  repeat' with_reducible first
    | assumption | exact Acts.refl _ | exact hl.mono (by decide) | apply odWrite_acts | refine Acts.ite ?_ ?_
    | refine Acts.upd ?_ | intro _ | split

theorem writeMsix_acts {L : Nat} {s x : State} {a0 a1 a2} (hl : Sub 9126805504 L) (h : Acts L s x) :
    Acts L s (writeMsix a0 a1 a2 x) := by
  unfold writeMsix
  try dsimp only
  repeat' with_reducible first
    | assumption | exact Acts.refl _ | exact hl.mono (by decide) | apply msix_acts | refine Acts.ite ?_ ?_
    | refine Acts.upd ?_ | intro _ | split

theorem cqHead_acts {L : Nat} {s x : State} {a0 a1} (hl : Sub 11408511104 L) (h : Acts L s x) :
    Acts L s (cqHead a0 a1 x) := by
  unfold cqHead
  try dsimp only
  repeat' with_reducible first
    | assumption | exact Acts.refl _ | exact hl.mono (by decide) | apply ringError_acts | apply modRing_acts
    | apply releaseHeld_acts | refine Acts.ite ?_ ?_ | refine Acts.upd ?_ | intro _ | split

theorem execCqDoorbell_acts {L : Nat} {x t : State} {a0 a1} (hl : Sub 11408511104 L) (e : execCqDoorbell a0 a1 x = .next t) :
    Acts L x t := by
  unfold execCqDoorbell at e
  cases e
  try dsimp only
  repeat' with_reducible first
    | assumption | exact Acts.refl _ | exact hl.mono (by decide) | apply cqHead_acts | refine Acts.ite ?_ ?_
    | refine Acts.upd ?_ | intro _ | split

theorem execGetMctpVersionSupport_acts {L : Nat} {x t : State} {a0 a1} (hl : Sub 34359738368 L) (e : execGetMctpVersionSupport a0 a1 x = .next t) :
    Acts L x t := by
  unfold execGetMctpVersionSupport at e
  cases e
  try dsimp only
  repeat' with_reducible first
    | assumption | exact Acts.refl _ | exact hl.mono (by decide) | apply mctp_acts | apply Laws.control_acts
    | refine Acts.ite ?_ ?_ | refine Acts.upd ?_ | intro _ | split

theorem execOpticsBringUp_acts {L : Nat} {x t : State} {a0 a1} (hl : Sub 11441025525 L) (e : execOpticsBringUp a0 a1 x = .next t) :
    Acts L x t := by
  unfold execOpticsBringUp at e
  cases e
  try dsimp only
  repeat' with_reducible first
    | assumption | exact Acts.refl _ | exact hl.mono (by decide) | apply leaveStep5_acts | apply bringUp_acts
    | refine Acts.ite ?_ ?_ | refine Acts.upd ?_ | intro _ | split

theorem execDieAnnounceTimeout_acts {L : Nat} {x t : State} {a0} (hl : Sub 11413778645 L) (e : execDieAnnounceTimeout a0 x = .next t) :
    Acts L x t := by
  unfold execDieAnnounceTimeout at e
  cases e
  try dsimp only
  repeat' with_reducible first
    | assumption | exact Acts.refl _ | exact hl.mono (by decide) | apply reportDie_acts | refine Acts.ite ?_ ?_
    | refine Acts.upd ?_ | intro _ | split

theorem execThrottleStepDown_acts {L : Nat} {x t : State} (hl : Sub 2 L) (e : execThrottleStepDown x = .next t) :
    Acts L x t := by
  unfold execThrottleStepDown at e
  cases e
  exact Acts.ite ((Acts.refl _).updBy
    ⟨rfl, rfl, rfl, id, fun b => ⟨b.1, b.2, b.3, b.4, b.5, b.6, b.7⟩, fun b => ⟨b.1, b.2, Nat.le_trans (Nat.sub_le _ _) b.3⟩⟩) (Acts.refl _)

theorem writeWaiting_acts {L : Nat} {s x : State} (hl : Sub 11408511104 L) (h : Acts L s x) :
    Acts L s (writeWaiting x) := by
  unfold writeWaiting
  try dsimp only
  repeat' with_reducible first
    | assumption | exact Acts.refl _ | exact hl.mono (by decide) | apply finishCmd_acts | apply forEach_acts
    | refine Acts.ite ?_ ?_ | refine Acts.upd ?_ | intro _ | split

theorem execMcLive_acts {L : Nat} {x t : State} (hl : Sub 102005473279 L) (e : execMcLive x = .next t) :
    Acts L x t := by
  unfold execMcLive at e
  cases e
  try dsimp only
  repeat' with_reducible first
    | assumption | exact Acts.refl _ | exact hl.mono (by decide) | apply postHeld_acts | apply refreshMirror_acts
    | apply closeSessions_acts | apply writeWaiting_acts | apply restartValidation_acts | apply activationDone_acts
    | apply settleUpdate_acts | apply drainMgmt_acts | refine Acts.ite ?_ ?_ | refine Acts.upd ?_ | intro _ | split

theorem modCmd_acts {L : Nat} {s x : State} {a0 a1} (hl : Sub 134217728 L) (h : Acts L s x) :
    Acts L s (modCmd a0 a1 x) := by
  unfold modCmd
  try dsimp only
  repeat' with_reducible first
    | assumption | exact Acts.refl _ | exact hl.mono (by decide) | refine Acts.ite ?_ ?_ | refine Acts.upd ?_ | intro _
    | split

theorem failHostPiece_acts {L : Nat} {s x : State} {a0 a1} (hl : Sub 11408511104 L) (h : Acts L s x) :
    Acts L s (failHostPiece a0 a1 x) := by
  unfold failHostPiece
  try dsimp only
  repeat' with_reducible first
    | assumption | exact Acts.refl _ | exact hl.mono (by decide) | apply logWith_acts | apply modCmd_acts
    | refine Acts.ite ?_ ?_ | refine Acts.upd ?_ | intro _ | split

theorem verifyComponent_acts {L : Nat} {s x : State} (hl : Sub 11413763285 L) (h : Acts L s x) :
    Acts L s (verifyComponent x) := by
  unfold verifyComponent
  try dsimp only
  repeat' with_reducible first
    | assumption | exact Acts.refl _ | exact hl.mono (by decide) | apply setFw_acts | apply modImage_acts
    | apply raise_acts | refine Acts.ite ?_ ?_ | refine Acts.upd ?_ | intro _ | split

theorem execProjectionEval_acts {L : Nat} {x t : State} {a0} (hl : Sub 80133370069 L) (e : execProjectionEval a0 x = .next t) :
    Acts L x t := by
  unfold execProjectionEval at e
  cases e
  try dsimp only
  repeat' with_reducible first
    | assumption | exact Acts.refl _ | exact hl.mono (by decide) | apply evaluate_acts | apply issueReplays_acts
    | refine Acts.ite ?_ ?_ | refine Acts.upd ?_ | intro _ | split

theorem execTransferData_acts {L : Nat} {x t : State} {a0 a1 a2} (hl : Sub 11464585429 L) (e : execTransferData a0 a1 a2 x = .next t) :
    Acts L x t := by
  unfold execTransferData at e
  cases e
  try dsimp only
  repeat' with_reducible first
    | assumption | exact Acts.refl _ | exact hl.mono (by decide) | apply arrive_acts | apply takeData_acts
    | refine Acts.ite ?_ ?_ | refine Acts.upd ?_ | refine Acts.pair (by assumption) (takeData_acts ?_ ?_) | intro _
    | split

theorem vectorReady_acts {L : Nat} {s x : State} {a0} (hl : Sub 68719607808 L) (h : Acts L s x) :
    Acts L s (vectorReady a0 x) := by
  unfold vectorReady
  try dsimp only
  repeat' with_reducible first
    | assumption | exact Acts.refl _ | exact hl.mono (by decide) | apply runComputes_acts | apply loadOut_acts
    | apply forEach_acts | refine Acts.ite ?_ ?_ | refine Acts.upd ?_ | intro _ | split

theorem execVectorRunComplete_acts {L : Nat} {x t : State} {a0} (hl : Sub 80150147285 L) (e : execVectorRunComplete a0 x = .next t) :
    Acts L x t := by
  unfold execVectorRunComplete at e
  cases e
  try dsimp only
  repeat' with_reducible first
    | assumption | exact Acts.refl _ | exact hl.mono (by decide) | apply vectorReady_acts | apply complete_acts
    | apply bump_acts | apply vectorIdle_acts | apply runEffects_acts | refine Acts.ite ?_ ?_ | refine Acts.upd ?_
    | intro _ | split

theorem execResumeFlit_acts {L : Nat} {x t : State} {a0 a1} (hl : Sub 15708729557 L) (e : execResumeFlit a0 a1 x = .next t) :
    Acts L x t := by
  unfold execResumeFlit at e
  cases e
  try dsimp only
  repeat' with_reducible first
    | assumption | exact Acts.refl _ | exact hl.mono (by decide) | apply modPair_acts | apply wire_acts
    | apply returnPair_acts | apply onlyIf_acts | apply forEach_acts | refine Acts.ite ?_ ?_ | refine Acts.upd ?_
    | intro _ | split

theorem execOverCurrentTrip_acts {L : Nat} {x t : State} (hl : Sub 11413762271 L) (e : execOverCurrentTrip x = .next t) :
    Acts L x t := by
  unfold execOverCurrentTrip at e
  cases e
  try dsimp only
  repeat' with_reducible first
    | assumption | exact Acts.refl _ | exact hl.mono (by decide) | apply beginShutdown_acts | refine Acts.ite ?_ ?_
    | refine Acts.upd ?_ | intro _ | split

theorem execPcieLinkUp_acts {L : Nat} {x t : State} {a0 a1} (hl : Sub 11745104000 L) (e : execPcieLinkUp a0 a1 x = .next t) :
    Acts L x t := by
  unfold execPcieLinkUp at e
  cases e
  try dsimp only
  repeat' with_reducible first
    | assumption | exact Acts.refl _ | exact hl.mono (by decide) | apply hostInterfaceReset_acts | apply logFault_acts
    | apply onlyIf_acts | refine Acts.ite ?_ ?_ | refine Acts.upd ?_ | intro _ | split

theorem execLaunch_acts {L : Nat} {x t : State} {a0 a1 a2} (hl : Sub 11413753985 L) (e : execLaunch a0 a1 a2 x = .next t) :
    Acts L x t := by
  unfold execLaunch at e
  cases e
  try dsimp only
  repeat' with_reducible first
    | assumption | exact Acts.refl _ | exact hl.mono (by decide) | apply submit_acts | apply launchRead_acts
    | refine Acts.ite ?_ ?_ | refine Acts.upd ?_ | intro _ | split

theorem execConfigurationRequest_acts {L : Nat} {x t : State} (hl : Sub 8589934592 L) (e : execConfigurationRequest x = .next t) :
    Acts L x t := by
  unfold execConfigurationRequest at e
  cases e
  try dsimp only
  repeat' with_reducible first
    | assumption | exact Acts.refl _ | exact hl.mono (by decide) | apply hostOut_acts | refine Acts.ite ?_ ?_
    | refine Acts.upd ?_ | intro _ | split

theorem execHostMemoryCompletion_acts {L : Nat} {x t : State} {a0 a1 a2 a3 a4} (hl : Sub 11514523861 L) (e : execHostMemoryCompletion a0 a1 a2 a3 a4 x = .next t) :
    Acts L x t := by
  unfold execHostMemoryCompletion at e
  cases e
  try dsimp only
  repeat' with_reducible first
    | assumption | exact Acts.refl _ | exact hl.mono (by decide) | apply failHostPiece_acts | apply returnPages_acts
    | apply modCmd_acts | apply homeFill_acts | apply fillWaits_acts | apply readLines_acts | apply noteUnstable_acts
    | apply hostOut_acts | refine Acts.ite ?_ ?_ | refine Acts.upd ?_
    | refine Acts.pair (by assumption) (readLines_acts ?_ ?_) | intro _ | split

theorem dropFar_acts {L : Nat} {s x : State} {a0} (hl : Sub 65536 L) (h : Acts L s x) :
    Acts L s (dropFar a0 x) := by
  unfold dropFar
  try dsimp only
  repeat' with_reducible first
    | assumption | exact Acts.refl _ | exact hl.mono (by decide) | refine Acts.ite ?_ ?_ | refine Acts.upd ?_ | intro _
    | split

theorem launchReq_acts {L : Nat} {s x : State} {a0 a1 a2} (hl : Sub 11430736085 L) (h : Acts L s x) :
    Acts L s (launchReq a0 a1 a2 x) := by
  unfold launchReq
  try dsimp only
  repeat' with_reducible first
    | assumption | exact Acts.refl _ | exact hl.mono (by decide) | apply modHer_acts | apply tokenIssue_acts
    | apply dropFar_acts | apply bump_acts | apply addReq_acts | apply sendPacket_acts | refine Acts.ite ?_ ?_
    | refine Acts.upd ?_ | refine Acts.pair (by assumption) (tokenIssue_acts ?_ ?_)
    | refine Acts.pair (by assumption) (addReq_acts ?_ ?_) | intro _ | split

theorem storeBuffer_acts {L : Nat} {s x : State} {a0 a1 a2} (hl : Sub 11430998229 L) (h : Acts L s x) :
    Acts L s (storeBuffer a0 a1 a2 x) := by
  unfold storeBuffer
  try dsimp only
  repeat' with_reducible first
    | assumption | exact Acts.refl _ | exact hl.mono (by decide) | apply launchReq_acts | apply raiseWith_acts
    | apply bufWriteMasked_acts | refine Acts.ite ?_ ?_ | refine Acts.upd ?_ | intro _ | split

theorem execMsixCoalesceTimer_acts {L : Nat} {x t : State} {a0} (hl : Sub 9261023232 L) (e : execMsixCoalesceTimer a0 x = .next t) :
    Acts L x t := by
  unfold execMsixCoalesceTimer at e
  cases e
  try dsimp only
  repeat' with_reducible first
    | assumption | exact Acts.refl _ | exact hl.mono (by decide) | apply msix_acts | apply modRing_acts
    | refine Acts.ite ?_ ?_ | refine Acts.upd ?_ | intro _ | split

theorem execSetdasa_acts {L : Nat} {x t : State} {a0 a1 a2} (hl : Sub 2048 L) (e : execSetdasa a0 a1 a2 x = .next t) :
    Acts L x t := by
  unfold execSetdasa at e
  cases e
  try dsimp only
  repeat' with_reducible first
    | assumption | exact Acts.refl _ | exact hl.mono (by decide) | apply setDyn_acts | refine Acts.ite ?_ ?_
    | refine Acts.upd ?_ | intro _ | split

theorem execFenceComplete_acts {L : Nat} {x t : State} {a0 a1} (hl : Sub 11414155477 L) (e : execFenceComplete a0 a1 x = .next t) :
    Acts L x t := by
  unfold execFenceComplete at e
  cases e
  try dsimp only
  repeat' with_reducible first
    | assumption | exact Acts.refl _ | exact hl.mono (by decide) | apply endFence_acts | refine Acts.ite ?_ ?_
    | refine Acts.upd ?_ | intro _ | split

theorem farFound_acts {L : Nat} {s x : State} {a0 a1 a2} (hl : Sub 11413827797 L) (h : Acts L s x) :
    Acts L s (farFound a0 a1 a2 x) := by
  unfold farFound
  try dsimp only
  repeat' with_reducible first
    | assumption | exact Acts.refl _ | exact hl.mono (by decide) | apply cacheCorrected_acts | apply setFar_acts
    | refine Acts.ite ?_ ?_ | refine Acts.upd ?_ | intro _ | split

theorem requestLoad_acts {L : Nat} {s x : State} {a0 a1 a2 a3 a4} (hl : Sub 11430736085 L) (h : Acts L s x) :
    Acts L s (requestLoad a0 a1 a2 a3 a4 x) := by
  unfold requestLoad
  try dsimp only
  repeat' with_reducible first
    | assumption | exact Acts.refl _ | exact hl.mono (by decide) | apply launchReq_acts | apply raiseWith_acts
    | apply bufWord_acts | apply farFound_acts | refine Acts.ite ?_ ?_ | refine Acts.upd ?_ | intro _ | split

theorem execSessionIdleTimeout_acts {L : Nat} {x t : State} {a0} (hl : Sub 11413763797 L) (e : execSessionIdleTimeout a0 x = .next t) :
    Acts L x t := by
  unfold execSessionIdleTimeout at e
  cases e
  try dsimp only
  repeat' with_reducible first
    | assumption | exact Acts.refl _ | exact hl.mono (by decide) | apply closeWhere_acts | refine Acts.ite ?_ ?_
    | refine Acts.upd ?_ | intro _ | split

theorem execLanternOpComplete_acts {L : Nat} {x t : State} {a0 a1 a2 a3} (hl : Sub 80167284949 L) (e : execLanternOpComplete a0 a1 a2 a3 x = .next t) :
    Acts L x t := by
  unfold execLanternOpComplete at e
  cases e
  try dsimp only
  repeat' with_reducible first
    | assumption | exact Acts.refl _ | exact hl.mono (by decide) | apply modTile_acts | apply lanRun_acts
    | apply openRows_acts | apply complete_acts | apply bump_acts | refine Acts.ite ?_ ?_ | refine Acts.upd ?_
    | refine Acts.pair2 (by assumption) (lanRun_acts ?_ ?_) | intro _ | split

theorem execPcieLinkDown_acts {L : Nat} {x t : State} (hl : Sub 11676946560 L) (e : execPcieLinkDown x = .next t) :
    Acts L x t := by
  unfold execPcieLinkDown at e
  cases e
  try dsimp only
  repeat' with_reducible first
    | assumption | exact Acts.refl _ | exact hl.mono (by decide) | apply pcieDown_acts | refine Acts.ite ?_ ?_
    | refine Acts.upd ?_ | intro _ | split

theorem takeMarker_acts {L : Nat} {s x : State} {a0 a1} (hl : Sub 2097152 L) (h : Acts L s x) :
    Acts L s (takeMarker a0 a1 x) := by
  unfold takeMarker
  try dsimp only
  repeat' with_reducible first
    | assumption | exact Acts.refl _ | exact hl.mono (by decide) | apply markRings_acts | apply modFib_acts
    | apply modEng_acts | refine Acts.ite ?_ ?_ | refine Acts.upd ?_ | intro _ | split

theorem execRefclkFault_acts {L : Nat} {x t : State} (hl : Sub 11413762261 L) (e : execRefclkFault x = .next t) :
    Acts L x t := by
  unfold execRefclkFault at e
  cases e
  try dsimp only
  repeat' with_reducible first
    | assumption | exact Acts.refl _ | exact hl.mono (by decide) | apply raise_acts | refine Acts.ite ?_ ?_
    | refine Acts.upd ?_ | intro _ | split

theorem execUndervoltageLockout_acts {L : Nat} {x t : State} (hl : Sub 80530604031 L) (e : execUndervoltageLockout x = .next t) :
    Acts L x t := by
  unfold execUndervoltageLockout at e
  cases e
  dsimp only
  have hp : (writeLossRecord x).pow = x.pow := by unfold writeLossRecord putLoss; split <;> rfl
  have k : Acts L x { writeLossRecord x with pow := { (writeLossRecord x).pow with railsOk := false } } :=
    Acts.upd (writeLossRecord_acts (hl.mono (by decide)) (Acts.refl x))
  rw [hp] at k
  exact Acts.ite (Acts.ite k (warmReset_acts (hl.mono (by decide)) (voltageFault_acts (hl.mono (by decide)) k))) (Acts.refl _)

theorem execDeadTargetTimeout_acts {L : Nat} {x t : State} {a0} (hl : Sub 11430670549 L) (e : execDeadTargetTimeout a0 x = .next t) :
    Acts L x t := by
  unfold execDeadTargetTimeout at e
  cases e
  try dsimp only
  repeat' with_reducible first
    | assumption | exact Acts.refl _ | exact hl.mono (by decide) | apply bump_acts | apply resolveLost_acts
    | refine Acts.ite ?_ ?_ | refine Acts.upd ?_ | intro _ | split

theorem writeBar0_acts {L : Nat} {s x : State} {a0 a1 a2} (hl : Sub 102005473279 L) (h : Acts L s x) :
    Acts L s (writeBar0 a0 a1 a2 x) := by
  unfold writeBar0
  try dsimp only
  repeat' with_reducible first
    | assumption | exact Acts.refl _ | exact hl.mono (by decide) | apply writeRing_acts | apply sqTail_acts
    | apply cqHead_acts | apply writeMsix_acts | apply clearUnstable_acts | apply forEach_acts | refine Acts.ite ?_ ?_
    | refine Acts.upd ?_ | intro _ | split

theorem execNakFlit_acts {L : Nat} {x t : State} {a0} (hl : Sub 11413762517 L) (e : execNakFlit a0 x = .next t) :
    Acts L x t := by
  unfold execNakFlit at e
  cases e
  try dsimp only
  repeat' with_reducible first
    | assumption | exact Acts.refl _ | exact hl.mono (by decide) | apply takeAck_acts | apply countReplay_acts
    | apply replayPhase_acts | apply modPair_acts | apply onlyIf_acts | refine Acts.ite ?_ ?_ | refine Acts.upd ?_
    | intro _ | split

theorem execHomeSliceStore_acts {L : Nat} {x t : State} {a0 a1} (hl : Sub 11464323285 L) (e : execHomeSliceStore a0 a1 x = .next t) :
    Acts L x t := by
  unfold execHomeSliceStore at e
  cases e
  try dsimp only
  repeat' with_reducible first
    | assumption | exact Acts.refl _ | exact hl.mono (by decide) | apply answerReq_acts | apply raiseWith_acts
    | apply writeWaits_acts | apply whenInvalidated_acts | apply homeWrite_acts | refine Acts.ite ?_ ?_
    | refine Acts.upd ?_ | intro _ | split

theorem execCancelUpdate_acts {L : Nat} {x t : State} {a0} (hl : Sub 45773501653 L) (e : execCancelUpdate a0 x = .next t) :
    Acts L x t := by
  unfold execCancelUpdate at e
  cases e
  try dsimp only
  repeat' with_reducible first
    | assumption | exact Acts.refl _ | exact hl.mono (by decide) | apply inUpdate_acts | apply Laws.control_acts
    | apply cancelUpdate_acts | refine Acts.ite ?_ ?_ | refine Acts.upd ?_ | intro _ | split

theorem execStretchRelease_acts {L : Nat} {x t : State} (hl : Sub 11413893343 L) (e : execStretchRelease x = .next t) :
    Acts L x t := by
  unfold execStretchRelease at e
  cases e
  try dsimp only
  repeat' with_reducible first
    | assumption | exact Acts.refl _ | exact hl.mono (by decide) | apply eachTile_acts | apply evaluate_acts
    | refine Acts.ite ?_ ?_ | refine Acts.upd ?_ | intro _ | split

theorem farWithdraws_acts {L : Nat} {s x : State} {a0 a1 a2} (hl : Sub 11415859413 L) (h : Acts L s x) :
    Acts L s (farWithdraws a0 a1 a2 x) := by
  unfold farWithdraws
  try dsimp only
  repeat' with_reducible first
    | assumption | exact Acts.refl _ | exact hl.mono (by decide) | apply modFib_acts | apply withdrawQuiet_acts
    | refine Acts.ite ?_ ?_ | refine Acts.upd ?_ | intro _ | split

theorem execIntercalaryNotice_acts {L : Nat} {x t : State} {a0 a1} (hl : Sub 11415859413 L) (e : execIntercalaryNotice a0 a1 x = .next t) :
    Acts L x t := by
  unfold execIntercalaryNotice at e
  cases e
  try dsimp only
  repeat' with_reducible first
    | assumption | exact Acts.refl _ | exact hl.mono (by decide) | apply farWithdraws_acts | apply freeSlot_acts
    | apply forEach_acts | refine Acts.ite ?_ ?_ | refine Acts.upd ?_ | intro _ | split

theorem execFwUpdateTimeout_acts {L : Nat} {x t : State} (hl : Sub 11413763285 L) (e : execFwUpdateTimeout x = .next t) :
    Acts L x t := by
  unfold execFwUpdateTimeout at e
  cases e
  try dsimp only
  repeat' with_reducible first
    | assumption | exact Acts.refl _ | exact hl.mono (by decide) | apply cancelUpdate_acts | refine Acts.ite ?_ ?_
    | refine Acts.upd ?_ | intro _ | split

theorem execFlitCrcFailure_acts {L : Nat} {x t : State} {a0} (hl : Sub 4299161600 L) (e : execFlitCrcFailure a0 x = .next t) :
    Acts L x t := by
  unfold execFlitCrcFailure at e
  cases e
  try dsimp only
  repeat' with_reducible first
    | assumption | exact Acts.refl _ | exact hl.mono (by decide) | apply modPair_acts | apply sendNak_acts
    | refine Acts.ite ?_ ?_ | refine Acts.upd ?_ | intro _ | split

theorem storeElems_acts {L : Nat} {s x : State} {a0 a1 a2 a3} (hl : Sub 131072 L) (h : Acts L s x) :
    Acts L s (storeElems a0 a1 a2 a3 x) := by
  induction a3 generalizing a0 a1 a2 x with
  | nil => exact h
  | cons y l ih =>
    unfold storeElems
    try dsimp only
    repeat' with_reducible first
      | apply ih | assumption | exact Acts.refl _ | exact hl.mono (by decide) | apply setFlags_acts | apply setGen_acts
      | apply modHer_acts | refine Acts.ite ?_ ?_ | refine Acts.upd ?_ | intro _ | split

theorem execUpdateComponent_acts {L : Nat} {x t : State} {a0 a1 a2} (hl : Sub 43486549136 L) (e : execUpdateComponent a0 a1 a2 x = .next t) :
    Acts L x t := by
  unfold execUpdateComponent at e
  cases e
  try dsimp only
  repeat' with_reducible first
    | assumption | exact Acts.refl _ | exact hl.mono (by decide) | apply inUpdate_acts | apply modImage_acts
    | apply Laws.control_acts | apply setFw_acts | refine Acts.ite ?_ ?_ | refine Acts.upd ?_ | intro _ | split

theorem execRequestFirmwareData_acts {L : Nat} {x t : State} {a0 a1} (hl : Sub 45773501653 L) (e : execRequestFirmwareData a0 a1 x = .next t) :
    Acts L x t := by
  unfold execRequestFirmwareData at e
  cases e
  try dsimp only
  repeat' with_reducible first
    | assumption | exact Acts.refl _ | exact hl.mono (by decide) | apply inUpdate_acts | apply Laws.control_acts
    | apply verifyComponent_acts | refine Acts.ite ?_ ?_ | refine Acts.upd ?_ | intro _ | split

theorem execProcession_acts {L : Nat} {x t : State} {a0} (hl : Sub 11413893333 L) (e : execProcession a0 x = .next t) :
    Acts L x t := by
  unfold execProcession at e
  cases e
  try dsimp only
  repeat' with_reducible first
    | assumption | exact Acts.refl _ | exact hl.mono (by decide) | apply issueVector_acts | refine Acts.ite ?_ ?_
    | refine Acts.upd ?_ | intro _ | split

theorem execReturnNotice_acts {L : Nat} {x t : State} {a0 a1} (hl : Sub 11415859413 L) (e : execReturnNotice a0 a1 x = .next t) :
    Acts L x t := by
  unfold execReturnNotice at e
  cases e
  try dsimp only
  repeat' with_reducible first
    | assumption | exact Acts.refl _ | exact hl.mono (by decide) | apply returnPair_acts | apply modFib_acts
    | apply freeSlot_acts | apply forEach_acts | refine Acts.ite ?_ ?_ | refine Acts.upd ?_ | intro _ | split

theorem execLedgerFlit_acts {L : Nat} {x t : State} {a0 a1} (hl : Sub 15744381141 L) (e : execLedgerFlit a0 a1 x = .next t) :
    Acts L x t := by
  unfold execLedgerFlit at e
  cases e
  try dsimp only
  repeat' with_reducible first
    | assumption | exact Acts.refl _ | exact hl.mono (by decide) | apply optFault_acts | apply takeAck_acts
    | apply takePhase_acts | apply conservation_acts | apply bump_acts | apply takeSeq_acts | apply onlyIf_acts
    | refine Acts.ite ?_ ?_ | refine Acts.upd ?_ | intro _ | split

theorem execMgmt_acts {L : Nat} {x t : State} {a0 a1 a2 a3 a4 a5} (hl : Sub 102005473279 L) (e : execMgmt a0 a1 a2 a3 a4 a5 x = .next t) :
    Acts L x t := by
  unfold execMgmt at e
  cases e
  try dsimp only
  repeat' with_reducible first
    | assumption | exact Acts.refl _ | exact hl.mono (by decide) | apply submit_acts | apply mgmtRead_acts
    | refine Acts.ite ?_ ?_ | refine Acts.upd ?_ | intro _ | split

theorem execMarkerCodeword_acts {L : Nat} {x t : State} {a0 a1} (hl : Sub 15710826709 L) (e : execMarkerCodeword a0 a1 x = .next t) :
    Acts L x t := by
  unfold execMarkerCodeword at e
  cases e
  try dsimp only
  repeat' with_reducible first
    | assumption | exact Acts.refl _ | exact hl.mono (by decide) | apply sendMarker_acts | apply takeMarker_acts
    | apply modFib_acts | apply withdraw_acts | apply wrongRing_acts | apply remeasure_acts | apply returnPair_acts
    | apply lossStep_acts | apply forEach_acts | refine Acts.ite ?_ ?_ | refine Acts.upd ?_ | intro _ | split

theorem execRxLightLoss_acts {L : Nat} {x t : State} {a0} (hl : Sub 11424248053 L) (e : execRxLightLoss a0 x = .next t) :
    Acts L x t := by
  unfold execRxLightLoss at e
  cases e
  try dsimp only
  repeat' with_reducible first
    | assumption | exact Acts.refl _ | exact hl.mono (by decide) | apply withdraw_acts | apply modFib_acts
    | apply openRing_acts | apply leaveStep7_acts | apply modPair_acts | apply forEach_acts | refine Acts.ite ?_ ?_
    | refine Acts.upd ?_ | intro _ | split

theorem execHeraldRequest_acts {L : Nat} {x t : State} {a0 a1 a2 a3} (hl : Sub 80150474965 L) (e : execHeraldRequest a0 a1 a2 a3 x = .next t) :
    Acts L x t := by
  unfold execHeraldRequest at e
  cases e
  try dsimp only
  repeat' with_reducible first
    | assumption | exact Acts.refl _ | exact hl.mono (by decide) | apply vectorReady_acts | apply bufWord_acts
    | apply storeElems_acts | apply modHer_acts | apply launchReq_acts | apply refuseRequest_acts
    | apply requestLoad_acts | apply storeBuffer_acts | apply onlyIf_acts | refine Acts.ite ?_ ?_ | refine Acts.upd ?_
    | intro _ | split

theorem execMasqueRun_acts {L : Nat} {x t : State} {a0} (hl : Sub 11413893333 L) (e : execMasqueRun a0 x = .next t) :
    Acts L x t := by
  unfold execMasqueRun at e
  cases e
  try dsimp only
  repeat' with_reducible first
    | assumption | exact Acts.refl _ | exact hl.mono (by decide) | apply issueVector_acts | refine Acts.ite ?_ ?_
    | refine Acts.upd ?_ | intro _ | split

theorem judgeInput_acts {L : Nat} {s x : State} {a0 a1} (hl : Sub 11415859413 L) (h : Acts L s x) :
    Acts L s (judgeInput a0 a1 x) := by
  unfold judgeInput
  try dsimp only
  repeat' with_reducible first
    | assumption | exact Acts.refl _ | exact hl.mono (by decide) | apply modEng_acts | apply optFault_acts
    | apply onlyIf_acts | refine Acts.ite ?_ ?_ | refine Acts.upd ?_ | intro _ | split

theorem execFarInvalidateAck_acts {L : Nat} {x t : State} {a0 a1} (hl : Sub 11430736085 L) (e : execFarInvalidateAck a0 a1 x = .next t) :
    Acts L x t := by
  unfold execFarInvalidateAck at e
  cases e
  try dsimp only
  repeat' with_reducible first
    | assumption | exact Acts.refl _ | exact hl.mono (by decide) | apply setFar_acts | apply acknowledge_acts
    | apply forEach_acts | refine Acts.ite ?_ ?_ | refine Acts.upd ?_ | intro _ | split

theorem execMirrorWrite_acts {L : Nat} {x t : State} {a0 a1 a2 a3 a4 a5} (hl : Sub 37748736 L) (e : execMirrorWrite a0 a1 a2 a3 a4 a5 x = .next t) :
    Acts L x t := by
  unfold execMirrorWrite at e
  cases e
  try dsimp only
  repeat' with_reducible first
    | assumption | exact Acts.refl _ | exact hl.mono (by decide) | apply freeSlot_acts | refine Acts.ite ?_ ?_
    | refine Acts.upd ?_ | intro _ | split

theorem execHomeSliceLoad_acts {L : Nat} {x t : State} {a0 a1} (hl : Sub 80150212821 L) (e : execHomeSliceLoad a0 a1 x = .next t) :
    Acts L x t := by
  unfold execHomeSliceLoad at e
  cases e
  try dsimp only
  repeat' with_reducible first
    | assumption | exact Acts.refl _ | exact hl.mono (by decide) | apply homeRead_acts | apply placeFar_acts
    | apply answerReq_acts | apply onlyIf_acts | refine Acts.ite ?_ ?_ | refine Acts.upd ?_
    | refine Acts.pair2 (by assumption) (homeRead_acts ?_ ?_) | intro _ | split

theorem execPerstNLow_acts {L : Nat} {x t : State} (hl : Sub 80530604031 L) (e : execPerstNLow x = .next t) :
    Acts L x t := by
  unfold execPerstNLow at e
  cases e
  try dsimp only
  repeat' with_reducible first
    | assumption | exact Acts.refl _ | exact hl.mono (by decide) | apply warmReset_acts | refine Acts.ite ?_ ?_
    | refine Acts.upd ?_ | intro _ | split

theorem execAtomicPacket_acts {L : Nat} {x t : State} {a0 a1 a2} (hl : Sub 11464323285 L) (e : execAtomicPacket a0 a1 a2 x = .next t) :
    Acts L x t := by
  unfold execAtomicPacket at e
  cases e
  try dsimp only
  repeat' with_reducible first
    | assumption | exact Acts.refl _ | exact hl.mono (by decide) | apply arrive_acts | apply serveAtomic_acts
    | refine Acts.ite ?_ ?_ | refine Acts.upd ?_ | refine Acts.pair (by assumption) (serveAtomic_acts ?_ ?_) | intro _
    | split

theorem execPass_acts {L : Nat} {x t : State} {a0 a1} (hl : Sub 80133370069 L) (e : execPass a0 a1 x = .next t) :
    Acts L x t := by
  unfold execPass at e
  cases e
  try dsimp only
  repeat' with_reducible first
    | assumption | exact Acts.refl _ | exact hl.mono (by decide) | apply raiseWith_acts | apply modTile_acts
    | apply evaluate_acts | apply bufWord_acts | apply beginPass_acts | apply issue_acts | refine Acts.ite ?_ ?_
    | refine Acts.upd ?_ | intro _ | split

theorem execTimeResponse_acts {L : Nat} {x t : State} {a0 a1 a2} (hl : Sub 11422150869 L) (e : execTimeResponse a0 a1 a2 x = .next t) :
    Acts L x t := by
  unfold execTimeResponse at e
  cases e
  try dsimp only
  repeat' with_reducible first
    | assumption | exact Acts.refl _ | exact hl.mono (by decide) | apply freeSlot_acts | apply resumeCalends_acts
    | apply judgeTheta_acts | refine Acts.ite ?_ ?_ | refine Acts.upd ?_ | intro _ | split

theorem execManifestCommit_acts {L : Nat} {x t : State} {a0} (hl : Sub 8212 L) (e : execManifestCommit a0 x = .next t) :
    Acts L x t := by
  unfold execManifestCommit at e
  cases e
  dsimp only
  have w : (writeCopy a0 x.nv).gradeS = x.nv.gradeS ∧ (writeCopy a0 x.nv).factoryOff = x.nv.factoryOff ∧
      (writeCopy a0 x.nv).persist = x.nv.persist ∧ (writeCopy a0 x.nv).audit = x.nv.audit := by
    unfold writeCopy; dsimp only; split <;> exact ⟨rfl, rfl, rfl, rfl⟩
  have k : Acts L x { x with nv := writeCopy a0 x.nv } := (Acts.refl x).updBy
    ⟨rfl, w.1, w.2.1, id, fun b => ⟨b.1, b.2, b.3, w.2.2.1 ▸ b.4, w.2.2.2 ▸ b.5, b.6, b.7⟩, fun b => ⟨b.1, b.2, b.3⟩⟩
  refine Acts.ite (Acts.ite (forEach_acts (k.updBy ?_) (fun _ _ k => nvApply_acts (hl.mono (by decide)) k)) k) (Acts.refl _)
  refine ⟨rfl, rfl, rfl, id, fun b => ⟨?_, b.2, b.3, b.4, b.5, b.6, b.7⟩, fun b => ⟨b.1, b.2, b.3⟩⟩
  show (List.drop _ x.pow.journal).length ≤ 64
  rw [List.length_drop]
  have := b.journal
  dsimp only at this
  omega

theorem firstSeason_acts {L : Nat} {s x : State} (hl : Sub 80261771733 L) (h : Acts L s x) :
    Acts L s (firstSeason x) := by
  unfold firstSeason
  try dsimp only
  repeat' with_reducible first
    | assumption | exact Acts.refl _ | exact hl.mono (by decide) | apply startSeason_acts | apply takeValues_acts
    | apply clearSeason_acts | refine Acts.ite ?_ ?_ | refine Acts.upd ?_ | intro _ | split

theorem execOnchipBlockReceive_acts {L : Nat} {x t : State} {a0 a1 a2 a3 a4} (hl : Sub 11413958869 L) (e : execOnchipBlockReceive a0 a1 a2 a3 a4 x = .next t) :
    Acts L x t := by
  unfold execOnchipBlockReceive at e
  cases e
  try dsimp only
  repeat' with_reducible first
    | assumption | exact Acts.refl _ | exact hl.mono (by decide) | apply modChan_acts | apply countHerald_acts
    | apply bump_acts | apply raiseWith_acts | apply correctedWith_acts | apply onlyIf_acts | refine Acts.ite ?_ ?_
    | refine Acts.upd ?_ | intro _ | split

theorem execOverrunNotice_acts {L : Nat} {x t : State} {a0 a1} (hl : Sub 11413893333 L) (e : execOverrunNotice a0 a1 x = .next t) :
    Acts L x t := by
  unfold execOverrunNotice at e
  cases e
  try dsimp only
  repeat' with_reducible first
    | assumption | exact Acts.refl _ | exact hl.mono (by decide) | apply takeNotice_acts | apply overrunEffect_acts
    | refine Acts.ite ?_ ?_ | refine Acts.upd ?_ | intro _ | split

theorem execSealAcknowledgement_acts {L : Nat} {x t : State} {a0 a1} (hl : Sub 2185232384 L) (e : execSealAcknowledgement a0 a1 x = .next t) :
    Acts L x t := by
  unfold execSealAcknowledgement at e
  cases e
  try dsimp only
  repeat' with_reducible first
    | assumption | exact Acts.refl _ | exact hl.mono (by decide) | apply freeSlot_acts | apply settleTwin_acts
    | apply bump_acts | refine Acts.ite ?_ ?_ | refine Acts.upd ?_ | intro _ | split

theorem execRxLightAppear_acts {L : Nat} {x t : State} {a0 a1} (hl : Sub 11415859669 L) (e : execRxLightAppear a0 a1 x = .next t) :
    Acts L x t := by
  unfold execRxLightAppear at e
  cases e
  try dsimp only
  repeat' with_reducible first
    | assumption | exact Acts.refl _ | exact hl.mono (by decide) | apply modPair_acts | apply startTraining_acts
    | apply settleRings_acts | apply lockRings_acts | apply lightFibre_acts | apply onlyIf_acts | refine Acts.ite ?_ ?_
    | refine Acts.upd ?_ | intro _ | split

theorem execColdReset_acts {L : Nat} {x t : State} {a0} (hl : Sub 73014411263 L) (e : execColdReset a0 x = .next t) :
    Acts L x t := by
  unfold execColdReset at e
  cases e
  dsimp only
  have k : Acts L x (clearVolatile (writeLossRecord x)) := clearVolatile_acts (hl.mono (by decide)) (writeLossRecord_acts (hl.mono (by decide)) (Acts.refl x))
  generalize clearVolatile (writeLossRecord x) = y at k
  refine Acts.ite (Acts.refl _) (k.updBy ?_)
  refine ⟨rfl, rfl, rfl, id, fun b => ⟨?_, Nat.zero_le _, Nat.zero_le _, b.4, b.5, Nat.zero_le _, b.7⟩,
    fun _ => ⟨(by decide : 4 ≤ 16), Nat.le_refl 16, Nat.zero_le 32⟩⟩
  show List.length (if a0 = true then [] else y.pow.journal) ≤ 64
  split
  · exact Nat.zero_le _
  · exact b.1

theorem execWithdrawalNotice_acts {L : Nat} {x t : State} {a0 a1} (hl : Sub 11415859413 L) (e : execWithdrawalNotice a0 a1 x = .next t) :
    Acts L x t := by
  unfold execWithdrawalNotice at e
  cases e
  try dsimp only
  repeat' with_reducible first
    | assumption | exact Acts.refl _ | exact hl.mono (by decide) | apply farWithdraws_acts | apply freeSlot_acts
    | apply forEach_acts | refine Acts.ite ?_ ?_ | refine Acts.upd ?_ | intro _ | split

theorem execInputOutOfRange_acts {L : Nat} {x t : State} (hl : Sub 11413762269 L) (e : execInputOutOfRange x = .next t) :
    Acts L x t := by
  unfold execInputOutOfRange at e
  cases e
  try dsimp only
  repeat' with_reducible first
    | assumption | exact Acts.refl _ | exact hl.mono (by decide) | apply voltageFault_acts | refine Acts.ite ?_ ?_
    | refine Acts.upd ?_ | intro _ | split

theorem execRegisterWrite_acts {L : Nat} {x t : State} {a0 a1 a2 a3} (hl : Sub 102005473279 L) (e : execRegisterWrite a0 a1 a2 a3 x = .next t) :
    Acts L x t := by
  unfold execRegisterWrite at e
  cases e
  try dsimp only
  repeat' with_reducible first
    | assumption | exact Acts.refl _ | exact hl.mono (by decide) | apply writeDevice_acts | apply writeBar0_acts
    | refine Acts.ite ?_ ?_ | refine Acts.upd ?_ | intro _ | split

theorem settlePages_acts {L : Nat} {s x : State} {a0} (hl : Sub 67108864 L) (h : Acts L s x) :
    Acts L s (settlePages a0 x) := by
  unfold settlePages
  try dsimp only
  repeat' with_reducible first
    | assumption | exact Acts.refl _ | exact hl.mono (by decide) | apply setFlag_acts | apply onlyIf_acts
    | apply forEach_acts | refine Acts.ite ?_ ?_ | refine Acts.upd ?_ | intro _ | split

theorem execHostTransferComplete_acts {L : Nat} {x t : State} {a0} (hl : Sub 11475619968 L) (e : execHostTransferComplete a0 x = .next t) :
    Acts L x t := by
  unfold execHostTransferComplete at e
  cases e
  try dsimp only
  repeat' with_reducible first
    | assumption | exact Acts.refl _ | exact hl.mono (by decide) | apply settlePages_acts | apply noteUnstable_acts
    | apply finishCmd_acts | refine Acts.ite ?_ ?_ | refine Acts.upd ?_ | intro _ | split

theorem execLanternOp_acts {L : Nat} {x t : State} {a0} (hl : Sub 11413893333 L) (e : execLanternOp a0 x = .next t) :
    Acts L x t := by
  unfold execLanternOp at e
  cases e
  try dsimp only
  repeat' with_reducible first
    | assumption | exact Acts.refl _ | exact hl.mono (by decide) | apply issued_acts | apply modTile_acts
    | refine Acts.ite ?_ ?_ | refine Acts.upd ?_ | intro _ | split

theorem takeSample_acts {L : Nat} {s x : State} {a0 a1 a2} (hl : Sub 11415859413 L) (h : Acts L s x) :
    Acts L s (takeSample a0 a1 a2 x) := by
  unfold takeSample
  try dsimp only
  repeat' with_reducible first
    | assumption | exact Acts.refl _ | exact hl.mono (by decide) | apply setLight_acts | apply sampleInput_acts
    | apply recordBaseline_acts | apply modEng_acts | apply autoCommission_acts | refine Acts.ite ?_ ?_
    | refine Acts.upd ?_ | intro _ | split

theorem execLaserSample_acts {L : Nat} {x t : State} {a0 a1 a2} (hl : Sub 11415859413 L) (e : execLaserSample a0 a1 a2 x = .next t) :
    Acts L x t := by
  unfold execLaserSample at e
  cases e
  try dsimp only
  repeat' with_reducible first
    | assumption | exact Acts.refl _ | exact hl.mono (by decide) | apply takeSample_acts | apply judgeInput_acts
    | refine Acts.ite ?_ ?_ | refine Acts.upd ?_ | intro _ | split

theorem execHomeSliceAtomic_acts {L : Nat} {x t : State} {a0 a1} (hl : Sub 11464323285 L) (e : execHomeSliceAtomic a0 a1 x = .next t) :
    Acts L x t := by
  unfold execHomeSliceAtomic at e
  cases e
  try dsimp only
  repeat' with_reducible first
    | assumption | exact Acts.refl _ | exact hl.mono (by decide) | apply answerReq_acts | apply raiseWith_acts
    | apply writeWaits_acts | apply homeAtomic_acts | apply whenInvalidated_acts | apply setReq_acts
    | refine Acts.ite ?_ ?_ | refine Acts.upd ?_ | refine Acts.pair2 (by assumption) (homeAtomic_acts ?_ ?_) | intro _
    | split

theorem sampleDiode_acts {L : Nat} {s x : State} {a0} (hl : Sub 11413762269 L) (h : Acts L s x) :
    Acts L s (sampleDiode a0 x) := by
  unfold sampleDiode
  try dsimp only
  repeat' with_reducible first
    | assumption | exact Acts.refl _ | exact hl.mono (by decide) | apply raiseWith_acts | apply onlyIf_acts
    | refine Acts.ite ?_ ?_ | refine Acts.upd ?_ | intro _ | split

theorem execTransferRead_acts {L : Nat} {x t : State} {a0 a1 a2} (hl : Sub 11430736085 L) (e : execTransferRead a0 a1 a2 x = .next t) :
    Acts L x t := by
  unfold execTransferRead at e
  cases e
  try dsimp only
  repeat' with_reducible first
    | assumption | exact Acts.refl _ | exact hl.mono (by decide) | apply arrive_acts | apply serveRead_acts
    | refine Acts.ite ?_ ?_ | refine Acts.upd ?_ | refine Acts.pair (by assumption) (serveRead_acts ?_ ?_) | intro _
    | split

theorem execBeginSession_acts {L : Nat} {x t : State} {a0 a1 a2} (hl : Sub 97313108693 L) (e : execBeginSession a0 a1 a2 x = .next t) :
    Acts L x t := by
  unfold execBeginSession at e
  cases e
  try dsimp only
  repeat' with_reducible first
    | assumption | exact Acts.refl _ | exact hl.mono (by decide) | apply odBegin_acts | refine Acts.ite ?_ ?_
    | refine Acts.upd ?_ | intro _ | split

theorem execPairingRecord_acts {L : Nat} {x t : State} {a0 a1} (hl : Sub 80166826453 L) (e : execPairingRecord a0 a1 x = .next t) :
    Acts L x t := by
  unfold execPairingRecord at e
  cases e
  try dsimp only
  repeat' with_reducible first
    | assumption | exact Acts.refl _ | exact hl.mono (by decide) | apply judgePairing_acts | apply freeSlot_acts
    | refine Acts.ite ?_ ?_ | refine Acts.upd ?_ | intro _ | split

theorem execWaitComplete_acts {L : Nat} {x t : State} {a0 a1} (hl : Sub 11422281941 L) (e : execWaitComplete a0 a1 x = .next t) :
    Acts L x t := by
  unfold execWaitComplete at e
  cases e
  try dsimp only
  repeat' with_reducible first
    | assumption | exact Acts.refl _ | exact hl.mono (by decide) | apply complete_acts | apply timeAtLeast_acts
    | refine Acts.ite ?_ ?_ | refine Acts.upd ?_ | intro _ | split

theorem execGetStatus_acts {L : Nat} {x t : State} {a0} (hl : Sub 34359738368 L) (e : execGetStatus a0 x = .next t) :
    Acts L x t := by
  unfold execGetStatus at e
  cases e
  try dsimp only
  repeat' with_reducible first
    | assumption | exact Acts.refl _ | exact hl.mono (by decide) | apply pldm_acts | apply Laws.control_acts
    | refine Acts.ite ?_ ?_ | refine Acts.upd ?_ | intro _ | split

theorem execRingDisable_acts {L : Nat} {x t : State} {a0 a1} (hl : Sub 11413753985 L) (e : execRingDisable a0 a1 x = .next t) :
    Acts L x t := by
  unfold execRingDisable at e
  cases e
  try dsimp only
  repeat' with_reducible first
    | assumption | exact Acts.refl _ | exact hl.mono (by decide) | apply disableRing_acts | refine Acts.ite ?_ ?_
    | refine Acts.upd ?_ | intro _ | split

theorem execLaserFadeTrip_acts {L : Nat} {x t : State} {a0} (hl : Sub 11415859413 L) (e : execLaserFadeTrip a0 x = .next t) :
    Acts L x t := by
  unfold execLaserFadeTrip at e
  cases e
  try dsimp only
  repeat' with_reducible first
    | assumption | exact Acts.refl _ | exact hl.mono (by decide) | apply beginSwitch_acts | apply endWindow_acts
    | apply engineOut_acts | refine Acts.ite ?_ ?_ | refine Acts.upd ?_ | intro _ | split

theorem execPreFecWindow_acts {L : Nat} {x t : State} {a0} (hl : Sub 11415859669 L) (e : execPreFecWindow a0 x = .next t) :
    Acts L x t := by
  unfold execPreFecWindow at e
  cases e
  try dsimp only
  repeat' with_reducible first
    | assumption | exact Acts.refl _ | exact hl.mono (by decide) | apply modFib_acts | apply withdraw_acts
    | apply optFault_acts | apply retrain_acts | refine Acts.ite ?_ ?_ | refine Acts.upd ?_ | intro _ | split

theorem execHoldoverTimeout_acts {L : Nat} {x t : State} (hl : Sub 11422150869 L) (e : execHoldoverTimeout x = .next t) :
    Acts L x t := by
  unfold execHoldoverTimeout at e
  cases e
  try dsimp only
  repeat' with_reducible first
    | assumption | exact Acts.refl _ | exact hl.mono (by decide) | apply raise_acts | refine Acts.ite ?_ ?_
    | refine Acts.upd ?_ | intro _ | split

theorem execReadEntry_acts {L : Nat} {x t : State} {a0 a1 a2 a3 a4 a5} (hl : Sub 28593631445 L) (e : execReadEntry a0 a1 a2 a3 a4 a5 x = .next t) :
    Acts L x t := by
  unfold execReadEntry at e
  cases e
  try dsimp only
  repeat' with_reducible first
    | assumption | exact Acts.refl _ | exact hl.mono (by decide) | apply odRead_acts | refine Acts.ite ?_ ?_
    | refine Acts.upd ?_ | intro _ | split

theorem execLedgerFetch_acts {L : Nat} {x t : State} {a0 a1} (hl : Sub 80167022805 L) (e : execLedgerFetch a0 a1 x = .next t) :
    Acts L x t := by
  unfold execLedgerFetch at e
  cases e
  try dsimp only
  repeat' with_reducible first
    | assumption | exact Acts.refl _ | exact hl.mono (by decide) | apply ledgerEnter_acts | apply homeRead_acts
    | apply bump_acts | apply modTile_acts | refine Acts.ite ?_ ?_ | refine Acts.upd ?_
    | refine Acts.pair2 (by assumption) (homeRead_acts ?_ ?_) | intro _ | split

theorem execStream_acts {L : Nat} {x t : State} {a0} (hl : Sub 11413893333 L) (e : execStream a0 x = .next t) :
    Acts L x t := by
  unfold execStream at e
  cases e
  try dsimp only
  repeat' with_reducible first
    | assumption | exact Acts.refl _ | exact hl.mono (by decide) | apply issued_acts | apply modHer_acts
    | refine Acts.ite ?_ ?_ | refine Acts.upd ?_ | intro _ | split

theorem execReadyReport_acts {L : Nat} {x t : State} (hl : Sub 80261771733 L) (e : execReadyReport x = .next t) :
    Acts L x t := by
  unfold execReadyReport at e
  cases e
  try dsimp only
  repeat' with_reducible first
    | assumption | exact Acts.refl _ | exact hl.mono (by decide) | apply firstSeason_acts | apply setPower_acts
    | apply autoCommission_acts | apply forEach_acts | refine Acts.ite ?_ ?_ | refine Acts.upd ?_ | intro _ | split

theorem execPlannedSwitchover_acts {L : Nat} {x t : State} {a0} (hl : Sub 11415859413 L) (e : execPlannedSwitchover a0 x = .next t) :
    Acts L x t := by
  unfold execPlannedSwitchover at e
  cases e
  try dsimp only
  repeat' with_reducible first
    | assumption | exact Acts.refl _ | exact hl.mono (by decide) | apply beginSwitch_acts | apply endWindow_acts
    | apply onlyIf_acts | refine Acts.ite ?_ ?_ | refine Acts.upd ?_ | intro _ | split

theorem execPieceAcknowledgement_acts {L : Nat} {x t : State} {a0 a1} (hl : Sub 11430670549 L) (e : execPieceAcknowledgement a0 a1 x = .next t) :
    Acts L x t := by
  unfold execPieceAcknowledgement at e
  cases e
  try dsimp only
  repeat' with_reducible first
    | assumption | exact Acts.refl _ | exact hl.mono (by decide) | apply arrive_acts | apply takePieceAck_acts
    | refine Acts.ite ?_ ?_ | refine Acts.upd ?_ | refine Acts.pair (by assumption) (takePieceAck_acts ?_ ?_) | intro _
    | split

theorem execHostMemoryTimeout_acts {L : Nat} {x t : State} {a0 a1 a2 a3} (hl : Sub 11447414997 L) (e : execHostMemoryTimeout a0 a1 a2 a3 x = .next t) :
    Acts L x t := by
  unfold execHostMemoryTimeout at e
  cases e
  try dsimp only
  repeat' with_reducible first
    | assumption | exact Acts.refl _ | exact hl.mono (by decide) | apply homeFill_acts | apply failHostPiece_acts
    | apply modCmd_acts | apply forEach_acts | refine Acts.ite ?_ ?_ | refine Acts.upd ?_ | intro _ | split

theorem execDiodeSample_acts {L : Nat} {x t : State} {a0} (hl : Sub 11413762271 L) (e : execDiodeSample a0 x = .next t) :
    Acts L x t := by
  unfold execDiodeSample at e
  cases e
  dsimp only
  have k : Acts L x (judgeWindow (forEach ((a0.take 25).zipIdx) sampleDiode x)) :=
    judgeWindow_acts (hl.mono (by decide)) (forEach_acts (Acts.refl x) (fun _ _ k => sampleDiode_acts (hl.mono (by decide)) k))
  generalize judgeWindow (forEach ((a0.take 25).zipIdx) sampleDiode x) = y at k
  refine Acts.ite (Acts.refl _) (Acts.ite k ?_)
  split
  · exact beginShutdown_acts (hl.mono (by decide)) k
  · refine Acts.ite (raiseWith_acts (hl.mono (by decide)) (k.updBy ?_)) k
    exact ⟨rfl, rfl, rfl, id, fun b => ⟨b.1, b.2, b.3, b.4, b.5, b.6, b.7⟩, fun b => ⟨b.1, b.2, Nat.min_le_left _ _⟩⟩

/-- A write of the entry of row `r`, whose effect has the set `L`. -/
theorem writeAs_effect_acts {L : Nat} {s x : State} {q r role fp offset data} (hl : Sub 28593631701 L)
    (he : ∀ d old y, Acts L s y → Acts L s (odEffect (OdRow.key r) d old y)) (h : Acts L s x) :
    Acts L s (writeAs q r role fp offset data x) := by
  have ha {d y} (k : Acts L s y) : Acts L s (acceptWrite r d y) := by
    unfold acceptWrite
    exact he _ _ _ (onlyIf_acts (takeValue_acts (hl.mono (by decide)) k) (fun _ k => postEvent_acts (hl.mono (by decide)) k))
  have hr {st l y} (k : Acts L s y) : Acts L s (respond q st l y) := respond_acts (hl.mono (by decide)) k
  have hj {l y} (k : Acts L s y) : Acts L s (journalPut l y) := journalPut_acts (hl.mono (by decide)) k
  have hx {c d y} (k : Acts L s y) : Acts L s (raise c d y) := raise_acts (hl.mono (by decide)) k
  unfold writeAs
  dsimp only
  split
  · split
    · refine hr (onlyIf_acts (onlyIf_acts (hj (onlyIf_acts h ?_)) (fun _ k => hx k)) (fun _ k => ha k))
      exact fun _ k => Acts.upd k
    · exact hr (Acts.upd h)
  · exact hr (onlyIf_acts h (fun _ k => ha k))

theorem odPut_effect_acts {L : Nat} {x t : State} {q index sub size v} {r : OdRow} (hr : odRow index sub = some r)
    (hl : Sub 28593631701 L) (he : ∀ d old y, Acts L x y → Acts L x (odEffect (OdRow.key r) d old y))
    (e : odPut q index sub size v x = .next t) : Acts L x t := by
  unfold odPut odWrite at e
  cases e
  refine serve_acts (hl.mono (by decide)) (Acts.refl _) ?_
  intro _ _ _ y k
  rw [hr]
  exact writeAs_effect_acts hl he k

theorem execCoordWrite_acts {L : Nat} {x t : State} {a0 a1} (hl : Sub 28618797557 L) (e : execCoordWrite a0 a1 x = .next t) : Acts L x t :=
  odPut_effect_acts (r := ⟨0x4000, 0x01, 3, 2, .anonymous, some .installer, false, 0, 65535, 0, 16383⟩)
    (by decide) (hl.mono (by decide)) (fun _ _ _ k => Acts.ite (firstCoord_acts (hl.mono (by decide)) k) k) e

theorem execLaserRestore_acts {L : Nat} {x t : State} {a0 a1} (hl : Sub 28595728853 L) (e : execLaserRestore a0 a1 x = .next t) : Acts L x t :=
  odPut_effect_acts (r := ⟨0x3001, 0x08, 2, 1, .operator, some .installer, true, 0, 0, 0, 15⟩)
    (by decide) (hl.mono (by decide)) (fun _ _ _ k => restoreLaser_acts (hl.mono (by decide)) k) e

theorem execAlmanacSet_acts {L : Nat} {x t : State} {a0 a1} (hl : Sub 28602020309 L) (e : execAlmanacSet a0 a1 x = .next t) : Acts L x t :=
  odPut_effect_acts (r := ⟨0xA000, 0x0C, 5, 8, .operator, some .installer, true, 0, 0, 0, 18446744073709551615⟩)
    (by decide) (hl.mono (by decide)) (fun _ _ _ k => resumeCalends_acts (hl.mono (by decide)) (Acts.upd k)) e

theorem execProbationWrite_acts {L : Nat} {x t : State} {a0 a1} (hl : Sub 28593631701 L) (e : execProbationWrite a0 a1 x = .next t) : Acts L x t :=
  odPut_effect_acts (r := ⟨0x8003, 0x07, 3, 2, .operator, some .operator, false, 0, 0, 0, 720⟩)
    (by decide) (hl.mono (by decide)) (fun _ _ _ k => onlyIf_acts k (fun _ k => bandFault_acts (hl.mono (by decide)) k)) e

theorem execUnpairKeep_acts {L : Nat} {x t : State} {a0} (hl : Sub 28627186133 L) (e : execUnpairKeep a0 x = .next t) : Acts L x t :=
  odPut_effect_acts (r := ⟨0x9003, 0x01, 2, 1, .operator, some .installer, true, 0, 0, 0, 1⟩)
    (by decide) (hl.mono (by decide)) (fun _ _ _ k => Acts.upd k) e

theorem execFwActivate_acts {L : Nat} {x t : State} {a0 a1} (hl : Sub 28593633269 L) (e : execFwActivate a0 a1 x = .next t) : Acts L x t :=
  odPut_effect_acts (r := ⟨0x1105, 0x03, 1, 1, .operator, some .installer, true, 0, 0, 0, 1⟩)
    (by decide) (hl.mono (by decide)) (fun _ _ _ k => onlyIf_acts k (fun _ k => activateReady_acts (hl.mono (by decide)) k)) e

theorem execUnpairRelease_acts {L : Nat} {x t : State} {a0} (hl : Sub 28627186133 L) (e : execUnpairRelease a0 x = .next t) : Acts L x t :=
  odPut_effect_acts (r := ⟨0x9003, 0x01, 2, 1, .operator, some .installer, true, 0, 0, 0, 1⟩)
    (by decide) (hl.mono (by decide)) (fun _ _ _ k => Acts.upd k) e

theorem execFibrePark_acts {L : Nat} {x t : State} {a0 a1} (hl : Sub 28595728853 L) (e : execFibrePark a0 a1 x = .next t) : Acts L x t :=
  odPut_effect_acts (r := ⟨0x3001, 0x09, 2, 1, .operator, some .installer, true, 0, 0, 0, 191⟩)
    (by decide) (hl.mono (by decide)) (fun _ _ _ k => parkFibre_acts (hl.mono (by decide)) k) e

theorem execPowerTargetReady_acts {L : Nat} {x t : State} {a0} (hl : Sub 102005440501 L) (e : execPowerTargetReady a0 x = .next t) : Acts L x t :=
  odPut_effect_acts (r := ⟨0x2000, 0x02, 2, 1, .operator, some .operator, false, 0, 2, 1, 2⟩)
    (by decide) (hl.mono (by decide)) (fun _ _ _ k => powerTarget_acts (hl.mono (by decide)) k) e

theorem execLostClear_acts {L : Nat} {x t : State} {a0 a1} (hl : Sub 28627186133 L) (e : execLostClear a0 a1 x = .next t) : Acts L x t :=
  odPut_effect_acts (r := ⟨0x9003, 0x02, 1, 1, .operator, some .installer, true, 0, 0, 0, 1⟩)
    (by decide) (hl.mono (by decide)) (fun _ _ _ k => onlyIf_acts k (fun _ k => clearLost_acts (hl.mono (by decide)) k)) e

theorem execTileClock_acts {L : Nat} {x t : State} {a0 a1} (hl : Sub 28593631701 L) (e : execTileClock a0 a1 x = .next t) : Acts L x t :=
  odPut_effect_acts (r := ⟨0x6001, 0x04, 2, 1, .operator, some .operator, false, 0, 16, 4, 16⟩)
    (by decide) (hl.mono (by decide)) (fun _ _ _ k => k) e

theorem execPowerTargetStandby_acts {L : Nat} {x t : State} {a0} (hl : Sub 102005440501 L) (e : execPowerTargetStandby a0 x = .next t) : Acts L x t :=
  odPut_effect_acts (r := ⟨0x2000, 0x02, 2, 1, .operator, some .operator, false, 0, 2, 1, 2⟩)
    (by decide) (hl.mono (by decide)) (fun _ _ _ k => powerTarget_acts (hl.mono (by decide)) k) e

theorem execLaserRelease_acts {L : Nat} {x t : State} {a0 a1} (hl : Sub 28595728853 L) (e : execLaserRelease a0 a1 x = .next t) : Acts L x t :=
  odPut_effect_acts (r := ⟨0x3001, 0x07, 2, 1, .operator, some .installer, true, 0, 0, 0, 15⟩)
    (by decide) (hl.mono (by decide)) (fun _ _ _ k => releaseLaser_acts (hl.mono (by decide)) k) e

theorem execRetireClear_acts {L : Nat} {x t : State} {a0 a1} (hl : Sub 28594155989 L) (e : execRetireClear a0 a1 x = .next t) : Acts L x t :=
  odPut_effect_acts (r := ⟨0x6010, 0x07, 3, 2, .operator, some .maker, true, 1, 0, 0, 1535⟩)
    (by decide) (hl.mono (by decide)) (fun _ _ _ k => modArr_acts (hl.mono (by decide)) k) e

theorem execTileReset_acts {L : Nat} {x t : State} {a0 a1} (hl : Sub 97330278869 L) (e : execTileReset a0 a1 x = .next t) : Acts L x t :=
  odPut_effect_acts (r := ⟨0x8001, 0x03, 3, 2, .operator, some .operator, true, 0, 0, 0, 511⟩)
    (by decide) (hl.mono (by decide)) (fun _ _ _ k => askTileReset_acts (hl.mono (by decide)) k) e

theorem execWarmReset_acts {L : Nat} {x t : State} {a0 a1} (hl : Sub 97710473215 L) (e : execWarmReset a0 a1 x = .next t) : Acts L x t :=
  odPut_effect_acts (r := ⟨0x8001, 0x02, 1, 1, .operator, some .installer, true, 0, 0, 0, 1⟩)
    (by decide) (hl.mono (by decide)) (fun _ _ _ k => onlyIf_acts k (fun _ k => warmReset_acts (hl.mono (by decide)) (raise_acts (hl.mono (by decide)) k))) e

theorem execCertFloor_acts {L : Nat} {x t : State} {a0 a1} (hl : Sub 28593631701 L) (e : execCertFloor a0 a1 x = .next t) : Acts L x t :=
  odPut_effect_acts (r := ⟨0x7003, 0x03, 4, 4, .operator, some .maker, false, 0, 0, 0, 4294967295⟩)
    (by decide) (hl.mono (by decide)) (fun _ _ _ k => k) e

theorem execLaserReturn_acts {L : Nat} {x t : State} {a0 a1} (hl : Sub 28595728853 L) (e : execLaserReturn a0 a1 x = .next t) : Acts L x t :=
  odPut_effect_acts (r := ⟨0x3001, 0x06, 2, 1, .operator, some .installer, true, 0, 0, 0, 7⟩)
    (by decide) (hl.mono (by decide)) (fun _ _ _ k => planSwitch_acts (hl.mono (by decide)) k) e

theorem execCurrentLimit_acts {L : Nat} {x t : State} {a0 a1} (hl : Sub 28593631701 L) (e : execCurrentLimit a0 a1 x = .next t) : Acts L x t :=
  odPut_effect_acts (r := ⟨0x2001, 0x01, 2, 1, .operator, some .installer, false, 0, 60, 20, 70⟩)
    (by decide) (hl.mono (by decide)) (fun _ _ _ k => k) e

theorem execSeasonReset_acts {L : Nat} {x t : State} {a0 a1} (hl : Sub 97442066933 L) (e : execSeasonReset a0 a1 x = .next t) : Acts L x t :=
  odPut_effect_acts (r := ⟨0x8001, 0x01, 1, 1, .operator, some .operator, true, 0, 0, 0, 1⟩)
    (by decide) (hl.mono (by decide)) (fun _ _ _ k => onlyIf_acts k (fun _ k => askSeason_acts (hl.mono (by decide)) k)) e

theorem execFibreUnpark_acts {L : Nat} {x t : State} {a0 a1} (hl : Sub 28595728853 L) (e : execFibreUnpark a0 a1 x = .next t) : Acts L x t :=
  odPut_effect_acts (r := ⟨0x3001, 0x09, 2, 1, .operator, some .installer, true, 0, 0, 0, 191⟩)
    (by decide) (hl.mono (by decide)) (fun _ _ _ k => parkFibre_acts (hl.mono (by decide)) k) e

theorem execCommission_acts {L : Nat} {x t : State} {a0 a1} (hl : Sub 28595728853 L) (e : execCommission a0 a1 x = .next t) : Acts L x t :=
  odPut_effect_acts (r := ⟨0x3001, 0x05, 3, 2, .operator, some .installer, true, 0, 0, 0, 65535⟩)
    (by decide) (hl.mono (by decide)) (fun _ _ _ k => commissionInputs_acts (hl.mono (by decide)) k) e

theorem execLaneMapCommit_acts {L : Nat} {x t : State} {a0 a1} (hl : Sub 28593631701 L) (e : execLaneMapCommit a0 a1 x = .next t) : Acts L x t :=
  odPut_effect_acts (r := ⟨0x1200, 0x03, 1, 1, .operator, some .maker, true, 0, 0, 0, 1⟩)
    (by decide) (hl.mono (by decide)) (fun _ _ _ k => k) e

end Sys2Proof.Laws
end

