-- ==== Sys2Proof/Laws/State.lean ====
section
/-!
SUPPORT. The updates of the state: each leaves every other field of `State` as it was, and what an entry of a table reads as after an
update of it, of another entry, and of another table.
-/

set_option Elab.async false

namespace Sys2Proof.Machine

set_option linter.unusedVariables false

/-! ### modTile -/

@[simp] theorem modTile_pow (t : Nat) (f : Tile → Tile) (s : State) : (modTile t f s).pow = s.pow := rfl
@[simp] theorem modTile_nv (t : Nat) (f : Tile → Tile) (s : State) : (modTile t f s).nv = s.nv := rfl
@[simp] theorem modTile_boot (t : Nat) (f : Tile → Tile) (s : State) : (modTile t f s).boot = s.boot := rfl
@[simp] theorem modTile_mgmt (t : Nat) (f : Tile → Tile) (s : State) : (modTile t f s).mgmt = s.mgmt := rfl
@[simp] theorem modTile_dies (t : Nat) (f : Tile → Tile) (s : State) : (modTile t f s).dies = s.dies := rfl
@[simp] theorem modTile_store (t : Nat) (f : Tile → Tile) (s : State) : (modTile t f s).store = s.store := rfl
@[simp] theorem modTile_tkeep (t : Nat) (f : Tile → Tile) (s : State) : (modTile t f s).tkeep = s.tkeep := rfl
@[simp] theorem modTile_arrs (t : Nat) (f : Tile → Tile) (s : State) : (modTile t f s).arrs = s.arrs := rfl
@[simp] theorem modTile_frames (t : Nat) (f : Tile → Tile) (s : State) : (modTile t f s).frames = s.frames := rfl
@[simp] theorem modTile_optics (t : Nat) (f : Tile → Tile) (s : State) : (modTile t f s).optics = s.optics := rfl
@[simp] theorem modTile_links (t : Nat) (f : Tile → Tile) (s : State) : (modTile t f s).links = s.links := rfl
@[simp] theorem modTile_time (t : Nat) (f : Tile → Tile) (s : State) : (modTile t f s).time = s.time := rfl
@[simp] theorem modTile_fabric (t : Nat) (f : Tile → Tile) (s : State) : (modTile t f s).fabric = s.fabric := rfl
@[simp] theorem modTile_twin (t : Nat) (f : Tile → Tile) (s : State) : (modTile t f s).twin = s.twin := rfl
@[simp] theorem modTile_host (t : Nat) (f : Tile → Tile) (s : State) : (modTile t f s).host = s.host := rfl
@[simp] theorem modTile_health (t : Nat) (f : Tile → Tile) (s : State) : (modTile t f s).health = s.health := rfl
@[simp] theorem modTile_out (t : Nat) (f : Tile → Tile) (s : State) : (modTile t f s).out = s.out := rfl
@[simp] theorem modTile_fresh (t : Nat) (f : Tile → Tile) (s : State) : (modTile t f s).fresh = s.fresh := rfl
@[simp] theorem modTile_pending (t : Nat) (f : Tile → Tile) (s : State) : (modTile t f s).pending = s.pending := rfl

/-! ### modKeep -/

@[simp] theorem modKeep_pow (t : Nat) (f : TileKeep → TileKeep) (s : State) : (modKeep t f s).pow = s.pow := rfl
@[simp] theorem modKeep_nv (t : Nat) (f : TileKeep → TileKeep) (s : State) : (modKeep t f s).nv = s.nv := rfl
@[simp] theorem modKeep_boot (t : Nat) (f : TileKeep → TileKeep) (s : State) : (modKeep t f s).boot = s.boot := rfl
@[simp] theorem modKeep_mgmt (t : Nat) (f : TileKeep → TileKeep) (s : State) : (modKeep t f s).mgmt = s.mgmt := rfl
@[simp] theorem modKeep_dies (t : Nat) (f : TileKeep → TileKeep) (s : State) : (modKeep t f s).dies = s.dies := rfl
@[simp] theorem modKeep_store (t : Nat) (f : TileKeep → TileKeep) (s : State) : (modKeep t f s).store = s.store := rfl
@[simp] theorem modKeep_tiles (t : Nat) (f : TileKeep → TileKeep) (s : State) : (modKeep t f s).tiles = s.tiles := rfl
@[simp] theorem modKeep_arrs (t : Nat) (f : TileKeep → TileKeep) (s : State) : (modKeep t f s).arrs = s.arrs := rfl
@[simp] theorem modKeep_frames (t : Nat) (f : TileKeep → TileKeep) (s : State) : (modKeep t f s).frames = s.frames := rfl
@[simp] theorem modKeep_optics (t : Nat) (f : TileKeep → TileKeep) (s : State) : (modKeep t f s).optics = s.optics := rfl
@[simp] theorem modKeep_links (t : Nat) (f : TileKeep → TileKeep) (s : State) : (modKeep t f s).links = s.links := rfl
@[simp] theorem modKeep_time (t : Nat) (f : TileKeep → TileKeep) (s : State) : (modKeep t f s).time = s.time := rfl
@[simp] theorem modKeep_fabric (t : Nat) (f : TileKeep → TileKeep) (s : State) : (modKeep t f s).fabric = s.fabric := rfl
@[simp] theorem modKeep_twin (t : Nat) (f : TileKeep → TileKeep) (s : State) : (modKeep t f s).twin = s.twin := rfl
@[simp] theorem modKeep_host (t : Nat) (f : TileKeep → TileKeep) (s : State) : (modKeep t f s).host = s.host := rfl
@[simp] theorem modKeep_health (t : Nat) (f : TileKeep → TileKeep) (s : State) : (modKeep t f s).health = s.health := rfl
@[simp] theorem modKeep_out (t : Nat) (f : TileKeep → TileKeep) (s : State) : (modKeep t f s).out = s.out := rfl
@[simp] theorem modKeep_fresh (t : Nat) (f : TileKeep → TileKeep) (s : State) : (modKeep t f s).fresh = s.fresh := rfl
@[simp] theorem modKeep_pending (t : Nat) (f : TileKeep → TileKeep) (s : State) : (modKeep t f s).pending = s.pending := rfl

/-! ### modArr -/

@[simp] theorem modArr_pow (a : Nat) (f : Arr → Arr) (s : State) : (modArr a f s).pow = s.pow := rfl
@[simp] theorem modArr_nv (a : Nat) (f : Arr → Arr) (s : State) : (modArr a f s).nv = s.nv := rfl
@[simp] theorem modArr_boot (a : Nat) (f : Arr → Arr) (s : State) : (modArr a f s).boot = s.boot := rfl
@[simp] theorem modArr_mgmt (a : Nat) (f : Arr → Arr) (s : State) : (modArr a f s).mgmt = s.mgmt := rfl
@[simp] theorem modArr_dies (a : Nat) (f : Arr → Arr) (s : State) : (modArr a f s).dies = s.dies := rfl
@[simp] theorem modArr_store (a : Nat) (f : Arr → Arr) (s : State) : (modArr a f s).store = s.store := rfl
@[simp] theorem modArr_tiles (a : Nat) (f : Arr → Arr) (s : State) : (modArr a f s).tiles = s.tiles := rfl
@[simp] theorem modArr_tkeep (a : Nat) (f : Arr → Arr) (s : State) : (modArr a f s).tkeep = s.tkeep := rfl
@[simp] theorem modArr_frames (a : Nat) (f : Arr → Arr) (s : State) : (modArr a f s).frames = s.frames := rfl
@[simp] theorem modArr_optics (a : Nat) (f : Arr → Arr) (s : State) : (modArr a f s).optics = s.optics := rfl
@[simp] theorem modArr_links (a : Nat) (f : Arr → Arr) (s : State) : (modArr a f s).links = s.links := rfl
@[simp] theorem modArr_time (a : Nat) (f : Arr → Arr) (s : State) : (modArr a f s).time = s.time := rfl
@[simp] theorem modArr_fabric (a : Nat) (f : Arr → Arr) (s : State) : (modArr a f s).fabric = s.fabric := rfl
@[simp] theorem modArr_twin (a : Nat) (f : Arr → Arr) (s : State) : (modArr a f s).twin = s.twin := rfl
@[simp] theorem modArr_host (a : Nat) (f : Arr → Arr) (s : State) : (modArr a f s).host = s.host := rfl
@[simp] theorem modArr_health (a : Nat) (f : Arr → Arr) (s : State) : (modArr a f s).health = s.health := rfl
@[simp] theorem modArr_out (a : Nat) (f : Arr → Arr) (s : State) : (modArr a f s).out = s.out := rfl
@[simp] theorem modArr_fresh (a : Nat) (f : Arr → Arr) (s : State) : (modArr a f s).fresh = s.fresh := rfl
@[simp] theorem modArr_pending (a : Nat) (f : Arr → Arr) (s : State) : (modArr a f s).pending = s.pending := rfl

/-! ### modPair -/

@[simp] theorem modPair_pow (p : Nat) (f : Pair → Pair) (s : State) : (modPair p f s).pow = s.pow := rfl
@[simp] theorem modPair_nv (p : Nat) (f : Pair → Pair) (s : State) : (modPair p f s).nv = s.nv := rfl
@[simp] theorem modPair_boot (p : Nat) (f : Pair → Pair) (s : State) : (modPair p f s).boot = s.boot := rfl
@[simp] theorem modPair_mgmt (p : Nat) (f : Pair → Pair) (s : State) : (modPair p f s).mgmt = s.mgmt := rfl
@[simp] theorem modPair_dies (p : Nat) (f : Pair → Pair) (s : State) : (modPair p f s).dies = s.dies := rfl
@[simp] theorem modPair_store (p : Nat) (f : Pair → Pair) (s : State) : (modPair p f s).store = s.store := rfl
@[simp] theorem modPair_tiles (p : Nat) (f : Pair → Pair) (s : State) : (modPair p f s).tiles = s.tiles := rfl
@[simp] theorem modPair_tkeep (p : Nat) (f : Pair → Pair) (s : State) : (modPair p f s).tkeep = s.tkeep := rfl
@[simp] theorem modPair_arrs (p : Nat) (f : Pair → Pair) (s : State) : (modPair p f s).arrs = s.arrs := rfl
@[simp] theorem modPair_frames (p : Nat) (f : Pair → Pair) (s : State) : (modPair p f s).frames = s.frames := rfl
@[simp] theorem modPair_optics (p : Nat) (f : Pair → Pair) (s : State) : (modPair p f s).optics = s.optics := rfl
@[simp] theorem modPair_time (p : Nat) (f : Pair → Pair) (s : State) : (modPair p f s).time = s.time := rfl
@[simp] theorem modPair_fabric (p : Nat) (f : Pair → Pair) (s : State) : (modPair p f s).fabric = s.fabric := rfl
@[simp] theorem modPair_twin (p : Nat) (f : Pair → Pair) (s : State) : (modPair p f s).twin = s.twin := rfl
@[simp] theorem modPair_host (p : Nat) (f : Pair → Pair) (s : State) : (modPair p f s).host = s.host := rfl
@[simp] theorem modPair_health (p : Nat) (f : Pair → Pair) (s : State) : (modPair p f s).health = s.health := rfl
@[simp] theorem modPair_out (p : Nat) (f : Pair → Pair) (s : State) : (modPair p f s).out = s.out := rfl
@[simp] theorem modPair_fresh (p : Nat) (f : Pair → Pair) (s : State) : (modPair p f s).fresh = s.fresh := rfl
@[simp] theorem modPair_pending (p : Nat) (f : Pair → Pair) (s : State) : (modPair p f s).pending = s.pending := rfl

/-! ### modFib -/

@[simp] theorem modFib_pow (p : Nat) (f : Fib → Fib) (s : State) : (modFib p f s).pow = s.pow := rfl
@[simp] theorem modFib_nv (p : Nat) (f : Fib → Fib) (s : State) : (modFib p f s).nv = s.nv := rfl
@[simp] theorem modFib_boot (p : Nat) (f : Fib → Fib) (s : State) : (modFib p f s).boot = s.boot := rfl
@[simp] theorem modFib_mgmt (p : Nat) (f : Fib → Fib) (s : State) : (modFib p f s).mgmt = s.mgmt := rfl
@[simp] theorem modFib_dies (p : Nat) (f : Fib → Fib) (s : State) : (modFib p f s).dies = s.dies := rfl
@[simp] theorem modFib_store (p : Nat) (f : Fib → Fib) (s : State) : (modFib p f s).store = s.store := rfl
@[simp] theorem modFib_tiles (p : Nat) (f : Fib → Fib) (s : State) : (modFib p f s).tiles = s.tiles := rfl
@[simp] theorem modFib_tkeep (p : Nat) (f : Fib → Fib) (s : State) : (modFib p f s).tkeep = s.tkeep := rfl
@[simp] theorem modFib_arrs (p : Nat) (f : Fib → Fib) (s : State) : (modFib p f s).arrs = s.arrs := rfl
@[simp] theorem modFib_frames (p : Nat) (f : Fib → Fib) (s : State) : (modFib p f s).frames = s.frames := rfl
@[simp] theorem modFib_links (p : Nat) (f : Fib → Fib) (s : State) : (modFib p f s).links = s.links := rfl
@[simp] theorem modFib_time (p : Nat) (f : Fib → Fib) (s : State) : (modFib p f s).time = s.time := rfl
@[simp] theorem modFib_fabric (p : Nat) (f : Fib → Fib) (s : State) : (modFib p f s).fabric = s.fabric := rfl
@[simp] theorem modFib_twin (p : Nat) (f : Fib → Fib) (s : State) : (modFib p f s).twin = s.twin := rfl
@[simp] theorem modFib_host (p : Nat) (f : Fib → Fib) (s : State) : (modFib p f s).host = s.host := rfl
@[simp] theorem modFib_health (p : Nat) (f : Fib → Fib) (s : State) : (modFib p f s).health = s.health := rfl
@[simp] theorem modFib_out (p : Nat) (f : Fib → Fib) (s : State) : (modFib p f s).out = s.out := rfl
@[simp] theorem modFib_fresh (p : Nat) (f : Fib → Fib) (s : State) : (modFib p f s).fresh = s.fresh := rfl
@[simp] theorem modFib_pending (p : Nat) (f : Fib → Fib) (s : State) : (modFib p f s).pending = s.pending := rfl

/-! ### modEng -/

@[simp] theorem modEng_pow (n : Nat) (f : Eng → Eng) (s : State) : (modEng n f s).pow = s.pow := rfl
@[simp] theorem modEng_nv (n : Nat) (f : Eng → Eng) (s : State) : (modEng n f s).nv = s.nv := rfl
@[simp] theorem modEng_boot (n : Nat) (f : Eng → Eng) (s : State) : (modEng n f s).boot = s.boot := rfl
@[simp] theorem modEng_mgmt (n : Nat) (f : Eng → Eng) (s : State) : (modEng n f s).mgmt = s.mgmt := rfl
@[simp] theorem modEng_dies (n : Nat) (f : Eng → Eng) (s : State) : (modEng n f s).dies = s.dies := rfl
@[simp] theorem modEng_store (n : Nat) (f : Eng → Eng) (s : State) : (modEng n f s).store = s.store := rfl
@[simp] theorem modEng_tiles (n : Nat) (f : Eng → Eng) (s : State) : (modEng n f s).tiles = s.tiles := rfl
@[simp] theorem modEng_tkeep (n : Nat) (f : Eng → Eng) (s : State) : (modEng n f s).tkeep = s.tkeep := rfl
@[simp] theorem modEng_arrs (n : Nat) (f : Eng → Eng) (s : State) : (modEng n f s).arrs = s.arrs := rfl
@[simp] theorem modEng_frames (n : Nat) (f : Eng → Eng) (s : State) : (modEng n f s).frames = s.frames := rfl
@[simp] theorem modEng_links (n : Nat) (f : Eng → Eng) (s : State) : (modEng n f s).links = s.links := rfl
@[simp] theorem modEng_time (n : Nat) (f : Eng → Eng) (s : State) : (modEng n f s).time = s.time := rfl
@[simp] theorem modEng_fabric (n : Nat) (f : Eng → Eng) (s : State) : (modEng n f s).fabric = s.fabric := rfl
@[simp] theorem modEng_twin (n : Nat) (f : Eng → Eng) (s : State) : (modEng n f s).twin = s.twin := rfl
@[simp] theorem modEng_host (n : Nat) (f : Eng → Eng) (s : State) : (modEng n f s).host = s.host := rfl
@[simp] theorem modEng_health (n : Nat) (f : Eng → Eng) (s : State) : (modEng n f s).health = s.health := rfl
@[simp] theorem modEng_out (n : Nat) (f : Eng → Eng) (s : State) : (modEng n f s).out = s.out := rfl
@[simp] theorem modEng_fresh (n : Nat) (f : Eng → Eng) (s : State) : (modEng n f s).fresh = s.fresh := rfl
@[simp] theorem modEng_pending (n : Nat) (f : Eng → Eng) (s : State) : (modEng n f s).pending = s.pending := rfl

/-! ### modHer -/

@[simp] theorem modHer_pow (t h : Nat) (f : Herald → Herald) (s : State) : (modHer t h f s).pow = s.pow := rfl
@[simp] theorem modHer_nv (t h : Nat) (f : Herald → Herald) (s : State) : (modHer t h f s).nv = s.nv := rfl
@[simp] theorem modHer_boot (t h : Nat) (f : Herald → Herald) (s : State) : (modHer t h f s).boot = s.boot := rfl
@[simp] theorem modHer_mgmt (t h : Nat) (f : Herald → Herald) (s : State) : (modHer t h f s).mgmt = s.mgmt := rfl
@[simp] theorem modHer_dies (t h : Nat) (f : Herald → Herald) (s : State) : (modHer t h f s).dies = s.dies := rfl
@[simp] theorem modHer_store (t h : Nat) (f : Herald → Herald) (s : State) : (modHer t h f s).store = s.store := rfl
@[simp] theorem modHer_tkeep (t h : Nat) (f : Herald → Herald) (s : State) : (modHer t h f s).tkeep = s.tkeep := rfl
@[simp] theorem modHer_arrs (t h : Nat) (f : Herald → Herald) (s : State) : (modHer t h f s).arrs = s.arrs := rfl
@[simp] theorem modHer_frames (t h : Nat) (f : Herald → Herald) (s : State) : (modHer t h f s).frames = s.frames := rfl
@[simp] theorem modHer_optics (t h : Nat) (f : Herald → Herald) (s : State) : (modHer t h f s).optics = s.optics := rfl
@[simp] theorem modHer_links (t h : Nat) (f : Herald → Herald) (s : State) : (modHer t h f s).links = s.links := rfl
@[simp] theorem modHer_time (t h : Nat) (f : Herald → Herald) (s : State) : (modHer t h f s).time = s.time := rfl
@[simp] theorem modHer_fabric (t h : Nat) (f : Herald → Herald) (s : State) : (modHer t h f s).fabric = s.fabric := rfl
@[simp] theorem modHer_twin (t h : Nat) (f : Herald → Herald) (s : State) : (modHer t h f s).twin = s.twin := rfl
@[simp] theorem modHer_host (t h : Nat) (f : Herald → Herald) (s : State) : (modHer t h f s).host = s.host := rfl
@[simp] theorem modHer_health (t h : Nat) (f : Herald → Herald) (s : State) : (modHer t h f s).health = s.health := rfl
@[simp] theorem modHer_out (t h : Nat) (f : Herald → Herald) (s : State) : (modHer t h f s).out = s.out := rfl
@[simp] theorem modHer_fresh (t h : Nat) (f : Herald → Herald) (s : State) : (modHer t h f s).fresh = s.fresh := rfl
@[simp] theorem modHer_pending (t h : Nat) (f : Herald → Herald) (s : State) : (modHer t h f s).pending = s.pending := rfl

/-! ### modRing -/

@[simp] theorem modRing_pow (i : Nat) (f : Ring → Ring) (s : State) : (modRing i f s).pow = s.pow := rfl
@[simp] theorem modRing_nv (i : Nat) (f : Ring → Ring) (s : State) : (modRing i f s).nv = s.nv := rfl
@[simp] theorem modRing_boot (i : Nat) (f : Ring → Ring) (s : State) : (modRing i f s).boot = s.boot := rfl
@[simp] theorem modRing_mgmt (i : Nat) (f : Ring → Ring) (s : State) : (modRing i f s).mgmt = s.mgmt := rfl
@[simp] theorem modRing_dies (i : Nat) (f : Ring → Ring) (s : State) : (modRing i f s).dies = s.dies := rfl
@[simp] theorem modRing_store (i : Nat) (f : Ring → Ring) (s : State) : (modRing i f s).store = s.store := rfl
@[simp] theorem modRing_tiles (i : Nat) (f : Ring → Ring) (s : State) : (modRing i f s).tiles = s.tiles := rfl
@[simp] theorem modRing_tkeep (i : Nat) (f : Ring → Ring) (s : State) : (modRing i f s).tkeep = s.tkeep := rfl
@[simp] theorem modRing_arrs (i : Nat) (f : Ring → Ring) (s : State) : (modRing i f s).arrs = s.arrs := rfl
@[simp] theorem modRing_frames (i : Nat) (f : Ring → Ring) (s : State) : (modRing i f s).frames = s.frames := rfl
@[simp] theorem modRing_optics (i : Nat) (f : Ring → Ring) (s : State) : (modRing i f s).optics = s.optics := rfl
@[simp] theorem modRing_links (i : Nat) (f : Ring → Ring) (s : State) : (modRing i f s).links = s.links := rfl
@[simp] theorem modRing_time (i : Nat) (f : Ring → Ring) (s : State) : (modRing i f s).time = s.time := rfl
@[simp] theorem modRing_fabric (i : Nat) (f : Ring → Ring) (s : State) : (modRing i f s).fabric = s.fabric := rfl
@[simp] theorem modRing_twin (i : Nat) (f : Ring → Ring) (s : State) : (modRing i f s).twin = s.twin := rfl
@[simp] theorem modRing_health (i : Nat) (f : Ring → Ring) (s : State) : (modRing i f s).health = s.health := rfl
@[simp] theorem modRing_out (i : Nat) (f : Ring → Ring) (s : State) : (modRing i f s).out = s.out := rfl
@[simp] theorem modRing_fresh (i : Nat) (f : Ring → Ring) (s : State) : (modRing i f s).fresh = s.fresh := rfl
@[simp] theorem modRing_pending (i : Nat) (f : Ring → Ring) (s : State) : (modRing i f s).pending = s.pending := rfl

/-! ### modBundle -/

@[simp] theorem modBundle_pow (b : Nat) (f : Bundle → Bundle) (s : State) : (modBundle b f s).pow = s.pow := rfl
@[simp] theorem modBundle_nv (b : Nat) (f : Bundle → Bundle) (s : State) : (modBundle b f s).nv = s.nv := rfl
@[simp] theorem modBundle_boot (b : Nat) (f : Bundle → Bundle) (s : State) : (modBundle b f s).boot = s.boot := rfl
@[simp] theorem modBundle_mgmt (b : Nat) (f : Bundle → Bundle) (s : State) : (modBundle b f s).mgmt = s.mgmt := rfl
@[simp] theorem modBundle_store (b : Nat) (f : Bundle → Bundle) (s : State) : (modBundle b f s).store = s.store := rfl
@[simp] theorem modBundle_tiles (b : Nat) (f : Bundle → Bundle) (s : State) : (modBundle b f s).tiles = s.tiles := rfl
@[simp] theorem modBundle_tkeep (b : Nat) (f : Bundle → Bundle) (s : State) : (modBundle b f s).tkeep = s.tkeep := rfl
@[simp] theorem modBundle_arrs (b : Nat) (f : Bundle → Bundle) (s : State) : (modBundle b f s).arrs = s.arrs := rfl
@[simp] theorem modBundle_frames (b : Nat) (f : Bundle → Bundle) (s : State) : (modBundle b f s).frames = s.frames := rfl
@[simp] theorem modBundle_optics (b : Nat) (f : Bundle → Bundle) (s : State) : (modBundle b f s).optics = s.optics := rfl
@[simp] theorem modBundle_links (b : Nat) (f : Bundle → Bundle) (s : State) : (modBundle b f s).links = s.links := rfl
@[simp] theorem modBundle_time (b : Nat) (f : Bundle → Bundle) (s : State) : (modBundle b f s).time = s.time := rfl
@[simp] theorem modBundle_fabric (b : Nat) (f : Bundle → Bundle) (s : State) : (modBundle b f s).fabric = s.fabric := rfl
@[simp] theorem modBundle_twin (b : Nat) (f : Bundle → Bundle) (s : State) : (modBundle b f s).twin = s.twin := rfl
@[simp] theorem modBundle_host (b : Nat) (f : Bundle → Bundle) (s : State) : (modBundle b f s).host = s.host := rfl
@[simp] theorem modBundle_health (b : Nat) (f : Bundle → Bundle) (s : State) : (modBundle b f s).health = s.health := rfl
@[simp] theorem modBundle_out (b : Nat) (f : Bundle → Bundle) (s : State) : (modBundle b f s).out = s.out := rfl
@[simp] theorem modBundle_fresh (b : Nat) (f : Bundle → Bundle) (s : State) : (modBundle b f s).fresh = s.fresh := rfl
@[simp] theorem modBundle_pending (b : Nat) (f : Bundle → Bundle) (s : State) : (modBundle b f s).pending = s.pending := rfl

/-! ### modChan -/

@[simp] theorem modChan_pow (i : Nat) (f : Chan → Chan) (s : State) : (modChan i f s).pow = s.pow := rfl
@[simp] theorem modChan_nv (i : Nat) (f : Chan → Chan) (s : State) : (modChan i f s).nv = s.nv := rfl
@[simp] theorem modChan_boot (i : Nat) (f : Chan → Chan) (s : State) : (modChan i f s).boot = s.boot := rfl
@[simp] theorem modChan_mgmt (i : Nat) (f : Chan → Chan) (s : State) : (modChan i f s).mgmt = s.mgmt := rfl
@[simp] theorem modChan_dies (i : Nat) (f : Chan → Chan) (s : State) : (modChan i f s).dies = s.dies := rfl
@[simp] theorem modChan_tiles (i : Nat) (f : Chan → Chan) (s : State) : (modChan i f s).tiles = s.tiles := rfl
@[simp] theorem modChan_tkeep (i : Nat) (f : Chan → Chan) (s : State) : (modChan i f s).tkeep = s.tkeep := rfl
@[simp] theorem modChan_arrs (i : Nat) (f : Chan → Chan) (s : State) : (modChan i f s).arrs = s.arrs := rfl
@[simp] theorem modChan_frames (i : Nat) (f : Chan → Chan) (s : State) : (modChan i f s).frames = s.frames := rfl
@[simp] theorem modChan_optics (i : Nat) (f : Chan → Chan) (s : State) : (modChan i f s).optics = s.optics := rfl
@[simp] theorem modChan_links (i : Nat) (f : Chan → Chan) (s : State) : (modChan i f s).links = s.links := rfl
@[simp] theorem modChan_time (i : Nat) (f : Chan → Chan) (s : State) : (modChan i f s).time = s.time := rfl
@[simp] theorem modChan_fabric (i : Nat) (f : Chan → Chan) (s : State) : (modChan i f s).fabric = s.fabric := rfl
@[simp] theorem modChan_twin (i : Nat) (f : Chan → Chan) (s : State) : (modChan i f s).twin = s.twin := rfl
@[simp] theorem modChan_host (i : Nat) (f : Chan → Chan) (s : State) : (modChan i f s).host = s.host := rfl
@[simp] theorem modChan_health (i : Nat) (f : Chan → Chan) (s : State) : (modChan i f s).health = s.health := rfl
@[simp] theorem modChan_out (i : Nat) (f : Chan → Chan) (s : State) : (modChan i f s).out = s.out := rfl
@[simp] theorem modChan_fresh (i : Nat) (f : Chan → Chan) (s : State) : (modChan i f s).fresh = s.fresh := rfl
@[simp] theorem modChan_pending (i : Nat) (f : Chan → Chan) (s : State) : (modChan i f s).pending = s.pending := rfl

/-! ### storeSetByte -/

@[simp] theorem storeSetByte_pow (a : Nat) (b : Byte) (s : State) : (storeSetByte a b s).pow = s.pow := rfl
@[simp] theorem storeSetByte_nv (a : Nat) (b : Byte) (s : State) : (storeSetByte a b s).nv = s.nv := rfl
@[simp] theorem storeSetByte_boot (a : Nat) (b : Byte) (s : State) : (storeSetByte a b s).boot = s.boot := rfl
@[simp] theorem storeSetByte_mgmt (a : Nat) (b : Byte) (s : State) : (storeSetByte a b s).mgmt = s.mgmt := rfl
@[simp] theorem storeSetByte_dies (a : Nat) (b : Byte) (s : State) : (storeSetByte a b s).dies = s.dies := rfl
@[simp] theorem storeSetByte_tiles (a : Nat) (b : Byte) (s : State) : (storeSetByte a b s).tiles = s.tiles := rfl
@[simp] theorem storeSetByte_tkeep (a : Nat) (b : Byte) (s : State) : (storeSetByte a b s).tkeep = s.tkeep := rfl
@[simp] theorem storeSetByte_arrs (a : Nat) (b : Byte) (s : State) : (storeSetByte a b s).arrs = s.arrs := rfl
@[simp] theorem storeSetByte_frames (a : Nat) (b : Byte) (s : State) : (storeSetByte a b s).frames = s.frames := rfl
@[simp] theorem storeSetByte_optics (a : Nat) (b : Byte) (s : State) : (storeSetByte a b s).optics = s.optics := rfl
@[simp] theorem storeSetByte_links (a : Nat) (b : Byte) (s : State) : (storeSetByte a b s).links = s.links := rfl
@[simp] theorem storeSetByte_time (a : Nat) (b : Byte) (s : State) : (storeSetByte a b s).time = s.time := rfl
@[simp] theorem storeSetByte_fabric (a : Nat) (b : Byte) (s : State) : (storeSetByte a b s).fabric = s.fabric := rfl
@[simp] theorem storeSetByte_twin (a : Nat) (b : Byte) (s : State) : (storeSetByte a b s).twin = s.twin := rfl
@[simp] theorem storeSetByte_host (a : Nat) (b : Byte) (s : State) : (storeSetByte a b s).host = s.host := rfl
@[simp] theorem storeSetByte_health (a : Nat) (b : Byte) (s : State) : (storeSetByte a b s).health = s.health := rfl
@[simp] theorem storeSetByte_out (a : Nat) (b : Byte) (s : State) : (storeSetByte a b s).out = s.out := rfl
@[simp] theorem storeSetByte_fresh (a : Nat) (b : Byte) (s : State) : (storeSetByte a b s).fresh = s.fresh := rfl
@[simp] theorem storeSetByte_pending (a : Nat) (b : Byte) (s : State) : (storeSetByte a b s).pending = s.pending := rfl

/-! ### storeZero -/

@[simp] theorem storeZero_pow (s : State) : (storeZero s).pow = s.pow := rfl
@[simp] theorem storeZero_nv (s : State) : (storeZero s).nv = s.nv := rfl
@[simp] theorem storeZero_boot (s : State) : (storeZero s).boot = s.boot := rfl
@[simp] theorem storeZero_mgmt (s : State) : (storeZero s).mgmt = s.mgmt := rfl
@[simp] theorem storeZero_dies (s : State) : (storeZero s).dies = s.dies := rfl
@[simp] theorem storeZero_tiles (s : State) : (storeZero s).tiles = s.tiles := rfl
@[simp] theorem storeZero_tkeep (s : State) : (storeZero s).tkeep = s.tkeep := rfl
@[simp] theorem storeZero_arrs (s : State) : (storeZero s).arrs = s.arrs := rfl
@[simp] theorem storeZero_frames (s : State) : (storeZero s).frames = s.frames := rfl
@[simp] theorem storeZero_optics (s : State) : (storeZero s).optics = s.optics := rfl
@[simp] theorem storeZero_links (s : State) : (storeZero s).links = s.links := rfl
@[simp] theorem storeZero_time (s : State) : (storeZero s).time = s.time := rfl
@[simp] theorem storeZero_fabric (s : State) : (storeZero s).fabric = s.fabric := rfl
@[simp] theorem storeZero_twin (s : State) : (storeZero s).twin = s.twin := rfl
@[simp] theorem storeZero_host (s : State) : (storeZero s).host = s.host := rfl
@[simp] theorem storeZero_health (s : State) : (storeZero s).health = s.health := rfl
@[simp] theorem storeZero_out (s : State) : (storeZero s).out = s.out := rfl
@[simp] theorem storeZero_fresh (s : State) : (storeZero s).fresh = s.fresh := rfl
@[simp] theorem storeZero_pending (s : State) : (storeZero s).pending = s.pending := rfl

/-! ### setPoison -/

@[simp] theorem setPoison_pow (line : Nat) (p : Bool) (s : State) : (setPoison line p s).pow = s.pow := rfl
@[simp] theorem setPoison_nv (line : Nat) (p : Bool) (s : State) : (setPoison line p s).nv = s.nv := rfl
@[simp] theorem setPoison_boot (line : Nat) (p : Bool) (s : State) : (setPoison line p s).boot = s.boot := rfl
@[simp] theorem setPoison_mgmt (line : Nat) (p : Bool) (s : State) : (setPoison line p s).mgmt = s.mgmt := rfl
@[simp] theorem setPoison_dies (line : Nat) (p : Bool) (s : State) : (setPoison line p s).dies = s.dies := rfl
@[simp] theorem setPoison_tiles (line : Nat) (p : Bool) (s : State) : (setPoison line p s).tiles = s.tiles := rfl
@[simp] theorem setPoison_tkeep (line : Nat) (p : Bool) (s : State) : (setPoison line p s).tkeep = s.tkeep := rfl
@[simp] theorem setPoison_arrs (line : Nat) (p : Bool) (s : State) : (setPoison line p s).arrs = s.arrs := rfl
@[simp] theorem setPoison_frames (line : Nat) (p : Bool) (s : State) : (setPoison line p s).frames = s.frames := rfl
@[simp] theorem setPoison_optics (line : Nat) (p : Bool) (s : State) : (setPoison line p s).optics = s.optics := rfl
@[simp] theorem setPoison_links (line : Nat) (p : Bool) (s : State) : (setPoison line p s).links = s.links := rfl
@[simp] theorem setPoison_time (line : Nat) (p : Bool) (s : State) : (setPoison line p s).time = s.time := rfl
@[simp] theorem setPoison_fabric (line : Nat) (p : Bool) (s : State) : (setPoison line p s).fabric = s.fabric := rfl
@[simp] theorem setPoison_twin (line : Nat) (p : Bool) (s : State) : (setPoison line p s).twin = s.twin := rfl
@[simp] theorem setPoison_host (line : Nat) (p : Bool) (s : State) : (setPoison line p s).host = s.host := rfl
@[simp] theorem setPoison_health (line : Nat) (p : Bool) (s : State) : (setPoison line p s).health = s.health := rfl
@[simp] theorem setPoison_out (line : Nat) (p : Bool) (s : State) : (setPoison line p s).out = s.out := rfl
@[simp] theorem setPoison_fresh (line : Nat) (p : Bool) (s : State) : (setPoison line p s).fresh = s.fresh := rfl
@[simp] theorem setPoison_pending (line : Nat) (p : Bool) (s : State) : (setPoison line p s).pending = s.pending := rfl

/-! ### freshen -/

@[simp] theorem freshen_pow (s : State) : (freshen s).pow = s.pow := rfl
@[simp] theorem freshen_nv (s : State) : (freshen s).nv = s.nv := rfl
@[simp] theorem freshen_boot (s : State) : (freshen s).boot = s.boot := rfl
@[simp] theorem freshen_mgmt (s : State) : (freshen s).mgmt = s.mgmt := rfl
@[simp] theorem freshen_dies (s : State) : (freshen s).dies = s.dies := rfl
@[simp] theorem freshen_store (s : State) : (freshen s).store = s.store := rfl
@[simp] theorem freshen_tiles (s : State) : (freshen s).tiles = s.tiles := rfl
@[simp] theorem freshen_tkeep (s : State) : (freshen s).tkeep = s.tkeep := rfl
@[simp] theorem freshen_arrs (s : State) : (freshen s).arrs = s.arrs := rfl
@[simp] theorem freshen_frames (s : State) : (freshen s).frames = s.frames := rfl
@[simp] theorem freshen_optics (s : State) : (freshen s).optics = s.optics := rfl
@[simp] theorem freshen_links (s : State) : (freshen s).links = s.links := rfl
@[simp] theorem freshen_time (s : State) : (freshen s).time = s.time := rfl
@[simp] theorem freshen_fabric (s : State) : (freshen s).fabric = s.fabric := rfl
@[simp] theorem freshen_twin (s : State) : (freshen s).twin = s.twin := rfl
@[simp] theorem freshen_host (s : State) : (freshen s).host = s.host := rfl
@[simp] theorem freshen_health (s : State) : (freshen s).health = s.health := rfl
@[simp] theorem freshen_out (s : State) : (freshen s).out = s.out := rfl
@[simp] theorem freshen_pending (s : State) : (freshen s).pending = s.pending := rfl

/-! ### bump -/

@[simp] theorem bump_pow (key n : Nat) (s : State) : (bump key n s).pow = s.pow := rfl
@[simp] theorem bump_nv (key n : Nat) (s : State) : (bump key n s).nv = s.nv := rfl
@[simp] theorem bump_boot (key n : Nat) (s : State) : (bump key n s).boot = s.boot := rfl
@[simp] theorem bump_mgmt (key n : Nat) (s : State) : (bump key n s).mgmt = s.mgmt := rfl
@[simp] theorem bump_dies (key n : Nat) (s : State) : (bump key n s).dies = s.dies := rfl
@[simp] theorem bump_store (key n : Nat) (s : State) : (bump key n s).store = s.store := rfl
@[simp] theorem bump_tiles (key n : Nat) (s : State) : (bump key n s).tiles = s.tiles := rfl
@[simp] theorem bump_tkeep (key n : Nat) (s : State) : (bump key n s).tkeep = s.tkeep := rfl
@[simp] theorem bump_arrs (key n : Nat) (s : State) : (bump key n s).arrs = s.arrs := rfl
@[simp] theorem bump_frames (key n : Nat) (s : State) : (bump key n s).frames = s.frames := rfl
@[simp] theorem bump_optics (key n : Nat) (s : State) : (bump key n s).optics = s.optics := rfl
@[simp] theorem bump_links (key n : Nat) (s : State) : (bump key n s).links = s.links := rfl
@[simp] theorem bump_time (key n : Nat) (s : State) : (bump key n s).time = s.time := rfl
@[simp] theorem bump_fabric (key n : Nat) (s : State) : (bump key n s).fabric = s.fabric := rfl
@[simp] theorem bump_twin (key n : Nat) (s : State) : (bump key n s).twin = s.twin := rfl
@[simp] theorem bump_host (key n : Nat) (s : State) : (bump key n s).host = s.host := rfl
@[simp] theorem bump_out (key n : Nat) (s : State) : (bump key n s).out = s.out := rfl
@[simp] theorem bump_fresh (key n : Nat) (s : State) : (bump key n s).fresh = s.fresh := rfl
@[simp] theorem bump_pending (key n : Nat) (s : State) : (bump key n s).pending = s.pending := rfl

/-! ### hostOut -/

@[simp] theorem hostOut_pow (o : HostOut) (s : State) : (hostOut o s).pow = s.pow := rfl
@[simp] theorem hostOut_nv (o : HostOut) (s : State) : (hostOut o s).nv = s.nv := rfl
@[simp] theorem hostOut_boot (o : HostOut) (s : State) : (hostOut o s).boot = s.boot := rfl
@[simp] theorem hostOut_mgmt (o : HostOut) (s : State) : (hostOut o s).mgmt = s.mgmt := rfl
@[simp] theorem hostOut_dies (o : HostOut) (s : State) : (hostOut o s).dies = s.dies := rfl
@[simp] theorem hostOut_store (o : HostOut) (s : State) : (hostOut o s).store = s.store := rfl
@[simp] theorem hostOut_tiles (o : HostOut) (s : State) : (hostOut o s).tiles = s.tiles := rfl
@[simp] theorem hostOut_tkeep (o : HostOut) (s : State) : (hostOut o s).tkeep = s.tkeep := rfl
@[simp] theorem hostOut_arrs (o : HostOut) (s : State) : (hostOut o s).arrs = s.arrs := rfl
@[simp] theorem hostOut_frames (o : HostOut) (s : State) : (hostOut o s).frames = s.frames := rfl
@[simp] theorem hostOut_optics (o : HostOut) (s : State) : (hostOut o s).optics = s.optics := rfl
@[simp] theorem hostOut_links (o : HostOut) (s : State) : (hostOut o s).links = s.links := rfl
@[simp] theorem hostOut_time (o : HostOut) (s : State) : (hostOut o s).time = s.time := rfl
@[simp] theorem hostOut_fabric (o : HostOut) (s : State) : (hostOut o s).fabric = s.fabric := rfl
@[simp] theorem hostOut_twin (o : HostOut) (s : State) : (hostOut o s).twin = s.twin := rfl
@[simp] theorem hostOut_host (o : HostOut) (s : State) : (hostOut o s).host = s.host := rfl
@[simp] theorem hostOut_health (o : HostOut) (s : State) : (hostOut o s).health = s.health := rfl
@[simp] theorem hostOut_fresh (o : HostOut) (s : State) : (hostOut o s).fresh = s.fresh := rfl
@[simp] theorem hostOut_pending (o : HostOut) (s : State) : (hostOut o s).pending = s.pending := rfl

/-! ### wire -/

@[simp] theorem wire_pow (x : Sent) (s : State) : (wire x s).pow = s.pow := rfl
@[simp] theorem wire_nv (x : Sent) (s : State) : (wire x s).nv = s.nv := rfl
@[simp] theorem wire_boot (x : Sent) (s : State) : (wire x s).boot = s.boot := rfl
@[simp] theorem wire_mgmt (x : Sent) (s : State) : (wire x s).mgmt = s.mgmt := rfl
@[simp] theorem wire_dies (x : Sent) (s : State) : (wire x s).dies = s.dies := rfl
@[simp] theorem wire_store (x : Sent) (s : State) : (wire x s).store = s.store := rfl
@[simp] theorem wire_tiles (x : Sent) (s : State) : (wire x s).tiles = s.tiles := rfl
@[simp] theorem wire_tkeep (x : Sent) (s : State) : (wire x s).tkeep = s.tkeep := rfl
@[simp] theorem wire_arrs (x : Sent) (s : State) : (wire x s).arrs = s.arrs := rfl
@[simp] theorem wire_frames (x : Sent) (s : State) : (wire x s).frames = s.frames := rfl
@[simp] theorem wire_optics (x : Sent) (s : State) : (wire x s).optics = s.optics := rfl
@[simp] theorem wire_links (x : Sent) (s : State) : (wire x s).links = s.links := rfl
@[simp] theorem wire_time (x : Sent) (s : State) : (wire x s).time = s.time := rfl
@[simp] theorem wire_fabric (x : Sent) (s : State) : (wire x s).fabric = s.fabric := rfl
@[simp] theorem wire_twin (x : Sent) (s : State) : (wire x s).twin = s.twin := rfl
@[simp] theorem wire_host (x : Sent) (s : State) : (wire x s).host = s.host := rfl
@[simp] theorem wire_health (x : Sent) (s : State) : (wire x s).health = s.health := rfl
@[simp] theorem wire_fresh (x : Sent) (s : State) : (wire x s).fresh = s.fresh := rfl
@[simp] theorem wire_pending (x : Sent) (s : State) : (wire x s).pending = s.pending := rfl

/-! ### Entries of the tables -/

@[simp] theorem tileOf_modKeep (t : Nat) (f : TileKeep → TileKeep) (s : State) (k : Nat) : tileOf (modKeep t f s) k = tileOf s k := rfl
@[simp] theorem tileOf_modArr (a : Nat) (f : Arr → Arr) (s : State) (k : Nat) : tileOf (modArr a f s) k = tileOf s k := rfl
@[simp] theorem tileOf_modPair (p : Nat) (f : Pair → Pair) (s : State) (k : Nat) : tileOf (modPair p f s) k = tileOf s k := rfl
@[simp] theorem tileOf_modFib (p : Nat) (f : Fib → Fib) (s : State) (k : Nat) : tileOf (modFib p f s) k = tileOf s k := rfl
@[simp] theorem tileOf_modEng (n : Nat) (f : Eng → Eng) (s : State) (k : Nat) : tileOf (modEng n f s) k = tileOf s k := rfl
@[simp] theorem tileOf_modRing (i : Nat) (f : Ring → Ring) (s : State) (k : Nat) : tileOf (modRing i f s) k = tileOf s k := rfl
@[simp] theorem tileOf_modBundle (b : Nat) (f : Bundle → Bundle) (s : State) (k : Nat) : tileOf (modBundle b f s) k = tileOf s k := rfl
@[simp] theorem tileOf_modChan (i : Nat) (f : Chan → Chan) (s : State) (k : Nat) : tileOf (modChan i f s) k = tileOf s k := rfl
@[simp] theorem tileOf_storeSetByte (a : Nat) (b : Byte) (s : State) (k : Nat) : tileOf (storeSetByte a b s) k = tileOf s k := rfl
@[simp] theorem tileOf_storeZero (s : State) (k : Nat) : tileOf (storeZero s) k = tileOf s k := rfl
@[simp] theorem tileOf_setPoison (line : Nat) (p : Bool) (s : State) (k : Nat) : tileOf (setPoison line p s) k = tileOf s k := rfl
@[simp] theorem tileOf_freshen (s : State) (k : Nat) : tileOf (freshen s) k = tileOf s k := rfl
@[simp] theorem tileOf_bump (key n : Nat) (s : State) (k : Nat) : tileOf (bump key n s) k = tileOf s k := rfl
@[simp] theorem tileOf_hostOut (o : HostOut) (s : State) (k : Nat) : tileOf (hostOut o s) k = tileOf s k := rfl
@[simp] theorem tileOf_wire (x : Sent) (s : State) (k : Nat) : tileOf (wire x s) k = tileOf s k := rfl
@[simp] theorem tileOf_modTile_other (t : Nat) (f : Tile → Tile) (s : State) (k : Nat) (h : k ≠ t) : tileOf (modTile t f s) k = tileOf s k :=
  mget_mmod_other h
theorem tileOf_modTile_self (t : Nat) (f : Tile → Tile) (s : State) (h : f (tileOf s t) ≠ {}) : tileOf (modTile t f s) t = f (tileOf s t) :=
  mget_mmod_self h
theorem tileOf_modTile (t : Nat) (f : Tile → Tile) (s : State) (w : mwf {} s.tiles = true) : tileOf (modTile t f s) t = f (tileOf s t) :=
  mget_mset_self' w

@[simp] theorem keepOf_modTile (t : Nat) (f : Tile → Tile) (s : State) (k : Nat) : keepOf (modTile t f s) k = keepOf s k := rfl
@[simp] theorem keepOf_modArr (a : Nat) (f : Arr → Arr) (s : State) (k : Nat) : keepOf (modArr a f s) k = keepOf s k := rfl
@[simp] theorem keepOf_modPair (p : Nat) (f : Pair → Pair) (s : State) (k : Nat) : keepOf (modPair p f s) k = keepOf s k := rfl
@[simp] theorem keepOf_modFib (p : Nat) (f : Fib → Fib) (s : State) (k : Nat) : keepOf (modFib p f s) k = keepOf s k := rfl
@[simp] theorem keepOf_modEng (n : Nat) (f : Eng → Eng) (s : State) (k : Nat) : keepOf (modEng n f s) k = keepOf s k := rfl
@[simp] theorem keepOf_modHer (t h : Nat) (f : Herald → Herald) (s : State) (k : Nat) : keepOf (modHer t h f s) k = keepOf s k := rfl
@[simp] theorem keepOf_modRing (i : Nat) (f : Ring → Ring) (s : State) (k : Nat) : keepOf (modRing i f s) k = keepOf s k := rfl
@[simp] theorem keepOf_modBundle (b : Nat) (f : Bundle → Bundle) (s : State) (k : Nat) : keepOf (modBundle b f s) k = keepOf s k := rfl
@[simp] theorem keepOf_modChan (i : Nat) (f : Chan → Chan) (s : State) (k : Nat) : keepOf (modChan i f s) k = keepOf s k := rfl
@[simp] theorem keepOf_storeSetByte (a : Nat) (b : Byte) (s : State) (k : Nat) : keepOf (storeSetByte a b s) k = keepOf s k := rfl
@[simp] theorem keepOf_storeZero (s : State) (k : Nat) : keepOf (storeZero s) k = keepOf s k := rfl
@[simp] theorem keepOf_setPoison (line : Nat) (p : Bool) (s : State) (k : Nat) : keepOf (setPoison line p s) k = keepOf s k := rfl
@[simp] theorem keepOf_freshen (s : State) (k : Nat) : keepOf (freshen s) k = keepOf s k := rfl
@[simp] theorem keepOf_bump (key n : Nat) (s : State) (k : Nat) : keepOf (bump key n s) k = keepOf s k := rfl
@[simp] theorem keepOf_hostOut (o : HostOut) (s : State) (k : Nat) : keepOf (hostOut o s) k = keepOf s k := rfl
@[simp] theorem keepOf_wire (x : Sent) (s : State) (k : Nat) : keepOf (wire x s) k = keepOf s k := rfl
@[simp] theorem keepOf_modKeep_other (t : Nat) (f : TileKeep → TileKeep) (s : State) (k : Nat) (h : k ≠ t) : keepOf (modKeep t f s) k = keepOf s k :=
  mget_mmod_other h
theorem keepOf_modKeep_self (t : Nat) (f : TileKeep → TileKeep) (s : State) (h : f (keepOf s t) ≠ {}) : keepOf (modKeep t f s) t = f (keepOf s t) :=
  mget_mmod_self h
theorem keepOf_modKeep (t : Nat) (f : TileKeep → TileKeep) (s : State) (w : mwf {} s.tkeep = true) : keepOf (modKeep t f s) t = f (keepOf s t) :=
  mget_mset_self' w

@[simp] theorem arrOf_modTile (t : Nat) (f : Tile → Tile) (s : State) (k : Nat) : arrOf (modTile t f s) k = arrOf s k := rfl
@[simp] theorem arrOf_modKeep (t : Nat) (f : TileKeep → TileKeep) (s : State) (k : Nat) : arrOf (modKeep t f s) k = arrOf s k := rfl
@[simp] theorem arrOf_modPair (p : Nat) (f : Pair → Pair) (s : State) (k : Nat) : arrOf (modPair p f s) k = arrOf s k := rfl
@[simp] theorem arrOf_modFib (p : Nat) (f : Fib → Fib) (s : State) (k : Nat) : arrOf (modFib p f s) k = arrOf s k := rfl
@[simp] theorem arrOf_modEng (n : Nat) (f : Eng → Eng) (s : State) (k : Nat) : arrOf (modEng n f s) k = arrOf s k := rfl
@[simp] theorem arrOf_modHer (t h : Nat) (f : Herald → Herald) (s : State) (k : Nat) : arrOf (modHer t h f s) k = arrOf s k := rfl
@[simp] theorem arrOf_modRing (i : Nat) (f : Ring → Ring) (s : State) (k : Nat) : arrOf (modRing i f s) k = arrOf s k := rfl
@[simp] theorem arrOf_modBundle (b : Nat) (f : Bundle → Bundle) (s : State) (k : Nat) : arrOf (modBundle b f s) k = arrOf s k := rfl
@[simp] theorem arrOf_modChan (i : Nat) (f : Chan → Chan) (s : State) (k : Nat) : arrOf (modChan i f s) k = arrOf s k := rfl
@[simp] theorem arrOf_storeSetByte (a : Nat) (b : Byte) (s : State) (k : Nat) : arrOf (storeSetByte a b s) k = arrOf s k := rfl
@[simp] theorem arrOf_storeZero (s : State) (k : Nat) : arrOf (storeZero s) k = arrOf s k := rfl
@[simp] theorem arrOf_setPoison (line : Nat) (p : Bool) (s : State) (k : Nat) : arrOf (setPoison line p s) k = arrOf s k := rfl
@[simp] theorem arrOf_freshen (s : State) (k : Nat) : arrOf (freshen s) k = arrOf s k := rfl
@[simp] theorem arrOf_bump (key n : Nat) (s : State) (k : Nat) : arrOf (bump key n s) k = arrOf s k := rfl
@[simp] theorem arrOf_hostOut (o : HostOut) (s : State) (k : Nat) : arrOf (hostOut o s) k = arrOf s k := rfl
@[simp] theorem arrOf_wire (x : Sent) (s : State) (k : Nat) : arrOf (wire x s) k = arrOf s k := rfl
@[simp] theorem arrOf_modArr_other (a : Nat) (f : Arr → Arr) (s : State) (k : Nat) (h : k ≠ a) : arrOf (modArr a f s) k = arrOf s k :=
  mget_mmod_other h
theorem arrOf_modArr_self (a : Nat) (f : Arr → Arr) (s : State) (h : f (arrOf s a) ≠ {}) : arrOf (modArr a f s) a = f (arrOf s a) :=
  mget_mmod_self h
theorem arrOf_modArr (a : Nat) (f : Arr → Arr) (s : State) (w : mwf {} s.arrs = true) : arrOf (modArr a f s) a = f (arrOf s a) :=
  mget_mset_self' w

@[simp] theorem pairOf_modTile (t : Nat) (f : Tile → Tile) (s : State) (k : Nat) : pairOf (modTile t f s) k = pairOf s k := rfl
@[simp] theorem pairOf_modKeep (t : Nat) (f : TileKeep → TileKeep) (s : State) (k : Nat) : pairOf (modKeep t f s) k = pairOf s k := rfl
@[simp] theorem pairOf_modArr (a : Nat) (f : Arr → Arr) (s : State) (k : Nat) : pairOf (modArr a f s) k = pairOf s k := rfl
@[simp] theorem pairOf_modFib (p : Nat) (f : Fib → Fib) (s : State) (k : Nat) : pairOf (modFib p f s) k = pairOf s k := rfl
@[simp] theorem pairOf_modEng (n : Nat) (f : Eng → Eng) (s : State) (k : Nat) : pairOf (modEng n f s) k = pairOf s k := rfl
@[simp] theorem pairOf_modHer (t h : Nat) (f : Herald → Herald) (s : State) (k : Nat) : pairOf (modHer t h f s) k = pairOf s k := rfl
@[simp] theorem pairOf_modRing (i : Nat) (f : Ring → Ring) (s : State) (k : Nat) : pairOf (modRing i f s) k = pairOf s k := rfl
@[simp] theorem pairOf_modBundle (b : Nat) (f : Bundle → Bundle) (s : State) (k : Nat) : pairOf (modBundle b f s) k = pairOf s k := rfl
@[simp] theorem pairOf_modChan (i : Nat) (f : Chan → Chan) (s : State) (k : Nat) : pairOf (modChan i f s) k = pairOf s k := rfl
@[simp] theorem pairOf_storeSetByte (a : Nat) (b : Byte) (s : State) (k : Nat) : pairOf (storeSetByte a b s) k = pairOf s k := rfl
@[simp] theorem pairOf_storeZero (s : State) (k : Nat) : pairOf (storeZero s) k = pairOf s k := rfl
@[simp] theorem pairOf_setPoison (line : Nat) (p : Bool) (s : State) (k : Nat) : pairOf (setPoison line p s) k = pairOf s k := rfl
@[simp] theorem pairOf_freshen (s : State) (k : Nat) : pairOf (freshen s) k = pairOf s k := rfl
@[simp] theorem pairOf_bump (key n : Nat) (s : State) (k : Nat) : pairOf (bump key n s) k = pairOf s k := rfl
@[simp] theorem pairOf_hostOut (o : HostOut) (s : State) (k : Nat) : pairOf (hostOut o s) k = pairOf s k := rfl
@[simp] theorem pairOf_wire (x : Sent) (s : State) (k : Nat) : pairOf (wire x s) k = pairOf s k := rfl
@[simp] theorem pairOf_modPair_other (p : Nat) (f : Pair → Pair) (s : State) (k : Nat) (h : k ≠ p) : pairOf (modPair p f s) k = pairOf s k :=
  mget_mmod_other h
theorem pairOf_modPair_self (p : Nat) (f : Pair → Pair) (s : State) (h : f (pairOf s p) ≠ {}) : pairOf (modPair p f s) p = f (pairOf s p) :=
  mget_mmod_self h
theorem pairOf_modPair (p : Nat) (f : Pair → Pair) (s : State) (w : mwf {} s.links.pairs = true) : pairOf (modPair p f s) p = f (pairOf s p) :=
  mget_mset_self' w

@[simp] theorem fibOf_modTile (t : Nat) (f : Tile → Tile) (s : State) (k : Nat) : fibOf (modTile t f s) k = fibOf s k := rfl
@[simp] theorem fibOf_modKeep (t : Nat) (f : TileKeep → TileKeep) (s : State) (k : Nat) : fibOf (modKeep t f s) k = fibOf s k := rfl
@[simp] theorem fibOf_modArr (a : Nat) (f : Arr → Arr) (s : State) (k : Nat) : fibOf (modArr a f s) k = fibOf s k := rfl
@[simp] theorem fibOf_modPair (p : Nat) (f : Pair → Pair) (s : State) (k : Nat) : fibOf (modPair p f s) k = fibOf s k := rfl
@[simp] theorem fibOf_modEng (n : Nat) (f : Eng → Eng) (s : State) (k : Nat) : fibOf (modEng n f s) k = fibOf s k := rfl
@[simp] theorem fibOf_modHer (t h : Nat) (f : Herald → Herald) (s : State) (k : Nat) : fibOf (modHer t h f s) k = fibOf s k := rfl
@[simp] theorem fibOf_modRing (i : Nat) (f : Ring → Ring) (s : State) (k : Nat) : fibOf (modRing i f s) k = fibOf s k := rfl
@[simp] theorem fibOf_modBundle (b : Nat) (f : Bundle → Bundle) (s : State) (k : Nat) : fibOf (modBundle b f s) k = fibOf s k := rfl
@[simp] theorem fibOf_modChan (i : Nat) (f : Chan → Chan) (s : State) (k : Nat) : fibOf (modChan i f s) k = fibOf s k := rfl
@[simp] theorem fibOf_storeSetByte (a : Nat) (b : Byte) (s : State) (k : Nat) : fibOf (storeSetByte a b s) k = fibOf s k := rfl
@[simp] theorem fibOf_storeZero (s : State) (k : Nat) : fibOf (storeZero s) k = fibOf s k := rfl
@[simp] theorem fibOf_setPoison (line : Nat) (p : Bool) (s : State) (k : Nat) : fibOf (setPoison line p s) k = fibOf s k := rfl
@[simp] theorem fibOf_freshen (s : State) (k : Nat) : fibOf (freshen s) k = fibOf s k := rfl
@[simp] theorem fibOf_bump (key n : Nat) (s : State) (k : Nat) : fibOf (bump key n s) k = fibOf s k := rfl
@[simp] theorem fibOf_hostOut (o : HostOut) (s : State) (k : Nat) : fibOf (hostOut o s) k = fibOf s k := rfl
@[simp] theorem fibOf_wire (x : Sent) (s : State) (k : Nat) : fibOf (wire x s) k = fibOf s k := rfl
@[simp] theorem fibOf_modFib_other (p : Nat) (f : Fib → Fib) (s : State) (k : Nat) (h : k ≠ p) : fibOf (modFib p f s) k = fibOf s k :=
  mget_mmod_other h
theorem fibOf_modFib_self (p : Nat) (f : Fib → Fib) (s : State) (h : f (fibOf s p) ≠ {}) : fibOf (modFib p f s) p = f (fibOf s p) :=
  mget_mmod_self h
theorem fibOf_modFib (p : Nat) (f : Fib → Fib) (s : State) (w : mwf {} s.optics.fibs = true) : fibOf (modFib p f s) p = f (fibOf s p) :=
  mget_mset_self' w

@[simp] theorem engOf_modTile (t : Nat) (f : Tile → Tile) (s : State) (k : Nat) : engOf (modTile t f s) k = engOf s k := rfl
@[simp] theorem engOf_modKeep (t : Nat) (f : TileKeep → TileKeep) (s : State) (k : Nat) : engOf (modKeep t f s) k = engOf s k := rfl
@[simp] theorem engOf_modArr (a : Nat) (f : Arr → Arr) (s : State) (k : Nat) : engOf (modArr a f s) k = engOf s k := rfl
@[simp] theorem engOf_modPair (p : Nat) (f : Pair → Pair) (s : State) (k : Nat) : engOf (modPair p f s) k = engOf s k := rfl
@[simp] theorem engOf_modFib (p : Nat) (f : Fib → Fib) (s : State) (k : Nat) : engOf (modFib p f s) k = engOf s k := rfl
@[simp] theorem engOf_modHer (t h : Nat) (f : Herald → Herald) (s : State) (k : Nat) : engOf (modHer t h f s) k = engOf s k := rfl
@[simp] theorem engOf_modRing (i : Nat) (f : Ring → Ring) (s : State) (k : Nat) : engOf (modRing i f s) k = engOf s k := rfl
@[simp] theorem engOf_modBundle (b : Nat) (f : Bundle → Bundle) (s : State) (k : Nat) : engOf (modBundle b f s) k = engOf s k := rfl
@[simp] theorem engOf_modChan (i : Nat) (f : Chan → Chan) (s : State) (k : Nat) : engOf (modChan i f s) k = engOf s k := rfl
@[simp] theorem engOf_storeSetByte (a : Nat) (b : Byte) (s : State) (k : Nat) : engOf (storeSetByte a b s) k = engOf s k := rfl
@[simp] theorem engOf_storeZero (s : State) (k : Nat) : engOf (storeZero s) k = engOf s k := rfl
@[simp] theorem engOf_setPoison (line : Nat) (p : Bool) (s : State) (k : Nat) : engOf (setPoison line p s) k = engOf s k := rfl
@[simp] theorem engOf_freshen (s : State) (k : Nat) : engOf (freshen s) k = engOf s k := rfl
@[simp] theorem engOf_bump (key n : Nat) (s : State) (k : Nat) : engOf (bump key n s) k = engOf s k := rfl
@[simp] theorem engOf_hostOut (o : HostOut) (s : State) (k : Nat) : engOf (hostOut o s) k = engOf s k := rfl
@[simp] theorem engOf_wire (x : Sent) (s : State) (k : Nat) : engOf (wire x s) k = engOf s k := rfl
@[simp] theorem engOf_modEng_other (n : Nat) (f : Eng → Eng) (s : State) (k : Nat) (h : k ≠ n) : engOf (modEng n f s) k = engOf s k :=
  mget_mmod_other h
theorem engOf_modEng_self (n : Nat) (f : Eng → Eng) (s : State) (h : f (engOf s n) ≠ {}) : engOf (modEng n f s) n = f (engOf s n) :=
  mget_mmod_self h
theorem engOf_modEng (n : Nat) (f : Eng → Eng) (s : State) (w : mwf {} s.optics.engs = true) : engOf (modEng n f s) n = f (engOf s n) :=
  mget_mset_self' w

@[simp] theorem ringOf_modTile (t : Nat) (f : Tile → Tile) (s : State) (k : Nat) : ringOf (modTile t f s) k = ringOf s k := rfl
@[simp] theorem ringOf_modKeep (t : Nat) (f : TileKeep → TileKeep) (s : State) (k : Nat) : ringOf (modKeep t f s) k = ringOf s k := rfl
@[simp] theorem ringOf_modArr (a : Nat) (f : Arr → Arr) (s : State) (k : Nat) : ringOf (modArr a f s) k = ringOf s k := rfl
@[simp] theorem ringOf_modPair (p : Nat) (f : Pair → Pair) (s : State) (k : Nat) : ringOf (modPair p f s) k = ringOf s k := rfl
@[simp] theorem ringOf_modFib (p : Nat) (f : Fib → Fib) (s : State) (k : Nat) : ringOf (modFib p f s) k = ringOf s k := rfl
@[simp] theorem ringOf_modEng (n : Nat) (f : Eng → Eng) (s : State) (k : Nat) : ringOf (modEng n f s) k = ringOf s k := rfl
@[simp] theorem ringOf_modHer (t h : Nat) (f : Herald → Herald) (s : State) (k : Nat) : ringOf (modHer t h f s) k = ringOf s k := rfl
@[simp] theorem ringOf_modBundle (b : Nat) (f : Bundle → Bundle) (s : State) (k : Nat) : ringOf (modBundle b f s) k = ringOf s k := rfl
@[simp] theorem ringOf_modChan (i : Nat) (f : Chan → Chan) (s : State) (k : Nat) : ringOf (modChan i f s) k = ringOf s k := rfl
@[simp] theorem ringOf_storeSetByte (a : Nat) (b : Byte) (s : State) (k : Nat) : ringOf (storeSetByte a b s) k = ringOf s k := rfl
@[simp] theorem ringOf_storeZero (s : State) (k : Nat) : ringOf (storeZero s) k = ringOf s k := rfl
@[simp] theorem ringOf_setPoison (line : Nat) (p : Bool) (s : State) (k : Nat) : ringOf (setPoison line p s) k = ringOf s k := rfl
@[simp] theorem ringOf_freshen (s : State) (k : Nat) : ringOf (freshen s) k = ringOf s k := rfl
@[simp] theorem ringOf_bump (key n : Nat) (s : State) (k : Nat) : ringOf (bump key n s) k = ringOf s k := rfl
@[simp] theorem ringOf_hostOut (o : HostOut) (s : State) (k : Nat) : ringOf (hostOut o s) k = ringOf s k := rfl
@[simp] theorem ringOf_wire (x : Sent) (s : State) (k : Nat) : ringOf (wire x s) k = ringOf s k := rfl
@[simp] theorem ringOf_modRing_other (i : Nat) (f : Ring → Ring) (s : State) (k : Nat) (h : k ≠ i) : ringOf (modRing i f s) k = ringOf s k :=
  mget_mmod_other h
theorem ringOf_modRing_self (i : Nat) (f : Ring → Ring) (s : State) (h : f (ringOf s i) ≠ {}) : ringOf (modRing i f s) i = f (ringOf s i) :=
  mget_mmod_self h
theorem ringOf_modRing (i : Nat) (f : Ring → Ring) (s : State) (w : mwf {} s.host.rings = true) : ringOf (modRing i f s) i = f (ringOf s i) :=
  mget_mset_self' w

@[simp] theorem bundleOf_modTile (t : Nat) (f : Tile → Tile) (s : State) (k : Nat) : bundleOf (modTile t f s) k = bundleOf s k := rfl
@[simp] theorem bundleOf_modKeep (t : Nat) (f : TileKeep → TileKeep) (s : State) (k : Nat) : bundleOf (modKeep t f s) k = bundleOf s k := rfl
@[simp] theorem bundleOf_modArr (a : Nat) (f : Arr → Arr) (s : State) (k : Nat) : bundleOf (modArr a f s) k = bundleOf s k := rfl
@[simp] theorem bundleOf_modPair (p : Nat) (f : Pair → Pair) (s : State) (k : Nat) : bundleOf (modPair p f s) k = bundleOf s k := rfl
@[simp] theorem bundleOf_modFib (p : Nat) (f : Fib → Fib) (s : State) (k : Nat) : bundleOf (modFib p f s) k = bundleOf s k := rfl
@[simp] theorem bundleOf_modEng (n : Nat) (f : Eng → Eng) (s : State) (k : Nat) : bundleOf (modEng n f s) k = bundleOf s k := rfl
@[simp] theorem bundleOf_modHer (t h : Nat) (f : Herald → Herald) (s : State) (k : Nat) : bundleOf (modHer t h f s) k = bundleOf s k := rfl
@[simp] theorem bundleOf_modRing (i : Nat) (f : Ring → Ring) (s : State) (k : Nat) : bundleOf (modRing i f s) k = bundleOf s k := rfl
@[simp] theorem bundleOf_modChan (i : Nat) (f : Chan → Chan) (s : State) (k : Nat) : bundleOf (modChan i f s) k = bundleOf s k := rfl
@[simp] theorem bundleOf_storeSetByte (a : Nat) (b : Byte) (s : State) (k : Nat) : bundleOf (storeSetByte a b s) k = bundleOf s k := rfl
@[simp] theorem bundleOf_storeZero (s : State) (k : Nat) : bundleOf (storeZero s) k = bundleOf s k := rfl
@[simp] theorem bundleOf_setPoison (line : Nat) (p : Bool) (s : State) (k : Nat) : bundleOf (setPoison line p s) k = bundleOf s k := rfl
@[simp] theorem bundleOf_freshen (s : State) (k : Nat) : bundleOf (freshen s) k = bundleOf s k := rfl
@[simp] theorem bundleOf_bump (key n : Nat) (s : State) (k : Nat) : bundleOf (bump key n s) k = bundleOf s k := rfl
@[simp] theorem bundleOf_hostOut (o : HostOut) (s : State) (k : Nat) : bundleOf (hostOut o s) k = bundleOf s k := rfl
@[simp] theorem bundleOf_wire (x : Sent) (s : State) (k : Nat) : bundleOf (wire x s) k = bundleOf s k := rfl
@[simp] theorem bundleOf_modBundle_other (b : Nat) (f : Bundle → Bundle) (s : State) (k : Nat) (h : k ≠ b) : bundleOf (modBundle b f s) k = bundleOf s k :=
  mget_mmod_other h
theorem bundleOf_modBundle_self (b : Nat) (f : Bundle → Bundle) (s : State) (h : f (bundleOf s b) ≠ {}) : bundleOf (modBundle b f s) b = f (bundleOf s b) :=
  mget_mmod_self h
theorem bundleOf_modBundle (b : Nat) (f : Bundle → Bundle) (s : State) (w : mwf {} s.dies.bundles = true) : bundleOf (modBundle b f s) b = f (bundleOf s b) :=
  mget_mset_self' w

@[simp] theorem chanOf_modTile (t : Nat) (f : Tile → Tile) (s : State) (k : Nat) : chanOf (modTile t f s) k = chanOf s k := rfl
@[simp] theorem chanOf_modKeep (t : Nat) (f : TileKeep → TileKeep) (s : State) (k : Nat) : chanOf (modKeep t f s) k = chanOf s k := rfl
@[simp] theorem chanOf_modArr (a : Nat) (f : Arr → Arr) (s : State) (k : Nat) : chanOf (modArr a f s) k = chanOf s k := rfl
@[simp] theorem chanOf_modPair (p : Nat) (f : Pair → Pair) (s : State) (k : Nat) : chanOf (modPair p f s) k = chanOf s k := rfl
@[simp] theorem chanOf_modFib (p : Nat) (f : Fib → Fib) (s : State) (k : Nat) : chanOf (modFib p f s) k = chanOf s k := rfl
@[simp] theorem chanOf_modEng (n : Nat) (f : Eng → Eng) (s : State) (k : Nat) : chanOf (modEng n f s) k = chanOf s k := rfl
@[simp] theorem chanOf_modHer (t h : Nat) (f : Herald → Herald) (s : State) (k : Nat) : chanOf (modHer t h f s) k = chanOf s k := rfl
@[simp] theorem chanOf_modRing (i : Nat) (f : Ring → Ring) (s : State) (k : Nat) : chanOf (modRing i f s) k = chanOf s k := rfl
@[simp] theorem chanOf_modBundle (b : Nat) (f : Bundle → Bundle) (s : State) (k : Nat) : chanOf (modBundle b f s) k = chanOf s k := rfl
@[simp] theorem chanOf_storeSetByte (a : Nat) (b : Byte) (s : State) (k : Nat) : chanOf (storeSetByte a b s) k = chanOf s k := rfl
@[simp] theorem chanOf_storeZero (s : State) (k : Nat) : chanOf (storeZero s) k = chanOf s k := rfl
@[simp] theorem chanOf_setPoison (line : Nat) (p : Bool) (s : State) (k : Nat) : chanOf (setPoison line p s) k = chanOf s k := rfl
@[simp] theorem chanOf_freshen (s : State) (k : Nat) : chanOf (freshen s) k = chanOf s k := rfl
@[simp] theorem chanOf_bump (key n : Nat) (s : State) (k : Nat) : chanOf (bump key n s) k = chanOf s k := rfl
@[simp] theorem chanOf_hostOut (o : HostOut) (s : State) (k : Nat) : chanOf (hostOut o s) k = chanOf s k := rfl
@[simp] theorem chanOf_wire (x : Sent) (s : State) (k : Nat) : chanOf (wire x s) k = chanOf s k := rfl
@[simp] theorem chanOf_modChan_other (i : Nat) (f : Chan → Chan) (s : State) (k : Nat) (h : k ≠ i) : chanOf (modChan i f s) k = chanOf s k :=
  mget_mmod_other h
theorem chanOf_modChan_self (i : Nat) (f : Chan → Chan) (s : State) (h : f (chanOf s i) ≠ {}) : chanOf (modChan i f s) i = f (chanOf s i) :=
  mget_mmod_self h
theorem chanOf_modChan (i : Nat) (f : Chan → Chan) (s : State) (w : mwf {} s.store.chans = true) : chanOf (modChan i f s) i = f (chanOf s i) :=
  mget_mset_self' w

@[simp] theorem now_modTile (t : Nat) (f : Tile → Tile) (s : State) : now (modTile t f s) = now s := rfl
@[simp] theorem storeByte_modTile (t : Nat) (f : Tile → Tile) (s : State) (k : Nat) : storeByte (modTile t f s) k = storeByte s k := rfl
@[simp] theorem now_modKeep (t : Nat) (f : TileKeep → TileKeep) (s : State) : now (modKeep t f s) = now s := rfl
@[simp] theorem storeByte_modKeep (t : Nat) (f : TileKeep → TileKeep) (s : State) (k : Nat) : storeByte (modKeep t f s) k = storeByte s k := rfl
@[simp] theorem now_modArr (a : Nat) (f : Arr → Arr) (s : State) : now (modArr a f s) = now s := rfl
@[simp] theorem storeByte_modArr (a : Nat) (f : Arr → Arr) (s : State) (k : Nat) : storeByte (modArr a f s) k = storeByte s k := rfl
@[simp] theorem now_modPair (p : Nat) (f : Pair → Pair) (s : State) : now (modPair p f s) = now s := rfl
@[simp] theorem storeByte_modPair (p : Nat) (f : Pair → Pair) (s : State) (k : Nat) : storeByte (modPair p f s) k = storeByte s k := rfl
@[simp] theorem now_modFib (p : Nat) (f : Fib → Fib) (s : State) : now (modFib p f s) = now s := rfl
@[simp] theorem storeByte_modFib (p : Nat) (f : Fib → Fib) (s : State) (k : Nat) : storeByte (modFib p f s) k = storeByte s k := rfl
@[simp] theorem now_modEng (n : Nat) (f : Eng → Eng) (s : State) : now (modEng n f s) = now s := rfl
@[simp] theorem storeByte_modEng (n : Nat) (f : Eng → Eng) (s : State) (k : Nat) : storeByte (modEng n f s) k = storeByte s k := rfl
@[simp] theorem now_modHer (t h : Nat) (f : Herald → Herald) (s : State) : now (modHer t h f s) = now s := rfl
@[simp] theorem storeByte_modHer (t h : Nat) (f : Herald → Herald) (s : State) (k : Nat) : storeByte (modHer t h f s) k = storeByte s k := rfl
@[simp] theorem now_modRing (i : Nat) (f : Ring → Ring) (s : State) : now (modRing i f s) = now s := rfl
@[simp] theorem storeByte_modRing (i : Nat) (f : Ring → Ring) (s : State) (k : Nat) : storeByte (modRing i f s) k = storeByte s k := rfl
@[simp] theorem now_modBundle (b : Nat) (f : Bundle → Bundle) (s : State) : now (modBundle b f s) = now s := rfl
@[simp] theorem storeByte_modBundle (b : Nat) (f : Bundle → Bundle) (s : State) (k : Nat) : storeByte (modBundle b f s) k = storeByte s k := rfl
@[simp] theorem now_modChan (i : Nat) (f : Chan → Chan) (s : State) : now (modChan i f s) = now s := rfl
@[simp] theorem storeByte_modChan (i : Nat) (f : Chan → Chan) (s : State) (k : Nat) : storeByte (modChan i f s) k = storeByte s k := rfl
@[simp] theorem now_storeSetByte (a : Nat) (b : Byte) (s : State) : now (storeSetByte a b s) = now s := rfl
@[simp] theorem now_storeZero (s : State) : now (storeZero s) = now s := rfl
@[simp] theorem now_setPoison (line : Nat) (p : Bool) (s : State) : now (setPoison line p s) = now s := rfl
@[simp] theorem storeByte_setPoison (line : Nat) (p : Bool) (s : State) (k : Nat) : storeByte (setPoison line p s) k = storeByte s k := rfl
@[simp] theorem now_freshen (s : State) : now (freshen s) = now s := rfl
@[simp] theorem storeByte_freshen (s : State) (k : Nat) : storeByte (freshen s) k = storeByte s k := rfl
@[simp] theorem now_bump (key n : Nat) (s : State) : now (bump key n s) = now s := rfl
@[simp] theorem storeByte_bump (key n : Nat) (s : State) (k : Nat) : storeByte (bump key n s) k = storeByte s k := rfl
@[simp] theorem now_hostOut (o : HostOut) (s : State) : now (hostOut o s) = now s := rfl
@[simp] theorem storeByte_hostOut (o : HostOut) (s : State) (k : Nat) : storeByte (hostOut o s) k = storeByte s k := rfl
@[simp] theorem now_wire (x : Sent) (s : State) : now (wire x s) = now s := rfl
@[simp] theorem storeByte_wire (x : Sent) (s : State) (k : Nat) : storeByte (wire x s) k = storeByte s k := rfl
@[simp] theorem tileOf_modHer_other (t h : Nat) (f : Herald → Herald) (s : State) (k : Nat) (n : k ≠ t) :
    tileOf (modHer t h f s) k = tileOf s k := tileOf_modTile_other t _ s k n
@[simp] theorem storeByte_storeSetByte_other (a k : Nat) (b : Byte) (s : State) (h : k ≠ a) :
    storeByte (storeSetByte a b s) k = storeByte s k := mget_mset_other h
@[simp] theorem storeByte_storeZero (s : State) (k : Nat) : storeByte (storeZero s) k = 0 := rfl

end Sys2Proof.Machine
end

