-- ==== Sys2Proof/Machine/Bar0.lean ====
section
/-!
DEFINITION. What the host reads in BAR0 (12): the global, ring, doorbell, MSI-X, ownership and unstable-read registers, and the mirror
of the Object Dictionary (R14, R425, R427, R428, R433, R465). No command reads them: a read changes nothing.
-/

set_option Elab.async false

namespace Sys2Proof.Machine

/-! ## Registers -/

/-- `RING_CTL` (R433). -/
def ringCtl (r : Ring) : Nat :=
  packFields [(r.sqLog, 0), (r.cqLog, 8), (flag r.en, 16), (flag r.err, 17), (flag r.stall, 18), (flag r.idle, 19)]

/-- The 32-bit word of a ring's registers at an offset that is a multiple of 4 (R433). -/
def ringWord (r : Ring) (o : Nat) : Nat :=
  match o with
  | 0x00 => r.sqBase.toNat % 2 ^ 32
  | 0x04 => r.sqBase.toNat / 2 ^ 32
  | 0x08 => r.cqBase.toNat % 2 ^ 32
  | 0x0C => r.cqBase.toNat / 2 ^ 32
  | 0x10 => ringCtl r
  | 0x14 => packFields [(r.coalCount, 0), (r.coalTime, 8)]
  | 0x18 => r.sqHead
  | 0x1C => r.cqTail
  | _ => 0

/-- The 32-bit word of the global registers at an offset that is a multiple of 4 (R425). -/
def globalWord (s : State) (o : Nat) : Nat :=
  match o with
  | 0x00 => hostStat s
  | 0x08 => faultLast s
  | 0x10 => s.host.faultTime.toNat % 2 ^ 32
  | 0x14 => s.host.faultTime.toNat / 2 ^ 32
  | 0x18 => now s % 2 ^ 32
  | 0x1C => now s / 2 ^ 32
  | 0x20 => s.host.dropped
  | _ => 0

/-! ## The mirror (R465) -/

/-- The entries of the mirror with the mirror offsets of their values: one after the other behind the directory, each at a multiple of
8 (their order is the model's, DESIGN CHOICE, log entry 29). -/
def mirrorPlan : List (OdRow × Nat) :=
  (mirrorRows.foldl (fun (x : List (OdRow × Nat) × Nat) r => (x.1 ++ [(r, x.2)], x.2 + 8 * ceilDiv r.size 8))
    ([], 64 + 16 * mirrorRows.length)).1

/-- A directory record (R465). -/
def mirrorEntry (r : OdRow) (at_ : Nat) : List Byte :=
  leBytes 2 r.index ++ leBytes 1 r.sub ++ leBytes 1 r.typ ++ leBytes 4 at_ ++ leBytes 4 r.size ++ leBytes 1 (roleByte (some r.rd)) ++
    leBytes 1 (roleByte r.wr) ++ leBytes 1 r.apply ++ [0]

/-- The mirror's header (R465). -/
def mirrorHeader (s : State) : List Byte :=
  fillTo 64 ([0x4F, 0x44, 0x4D, 0x52] ++ leBytes 4 s.mgmt.mirrorGen.toNat ++ leBytes 4 mirrorRows.length ++ leBytes 4 64 ++
    leBytes 8 s.mgmt.mirrorTime.toNat)

/-- One byte of the mirror at its mirror offset. -/
def mirrorByte (s : State) (o : Nat) : Byte :=
  if o < 64 then (mirrorHeader s).getD o 0
  else if o < 64 + 16 * mirrorRows.length then
    match mirrorPlan[(o - 64) / 16]? with
    | some (r, at_) => (mirrorEntry r at_).getD (o % 16) 0
    | none => 0
  else
    match mirrorPlan.find? (fun x => decide (x.2 ≤ o ∧ o < x.2 + x.1.size)) with
    | some (r, at_) => (mget [] s.mgmt.mirror r.key).getD (o - at_) 0
    | none => 0

/-! ## The map (R425) -/

/-- The 32-bit word of BAR0 at an offset that is a multiple of 4: reserved places and the doorbells, which are write-only, read as zero
(R14, R425). -/
def barWord (s : State) (a : Nat) : Nat :=
  if a < 0x1000 then globalWord s a
  else if a < 0x1800 then ringWord (ringOf s ((a - 0x1000) / 64)) (a % 64)
  else if 0x30000 ≤ a ∧ a < 0x30400 then (mget 0 s.host.msix ((a - 0x30000) / 16)).toNat / 2 ^ (8 * (a % 16)) % 2 ^ 32
  else if 0x31000 ≤ a ∧ a < 0x31008 then s.host.pba.toNat / 2 ^ (8 * (a - 0x31000)) % 2 ^ 32
  else if 0x40000 ≤ a ∧ a < 0x40800 then
    packFields ((List.range 16).map (fun j => (pageFlag s ((a - 0x40000) * 4 + j), 2 * j)))
  else if 0x41000 ≤ a ∧ a < 0x41400 then
    flagBits ((List.range 32).map (fun j => mget false s.host.unstable ((a - 0x41000) * 8 + j)))
  else if 0x2000000 ≤ a ∧ a < 0x4000000 then leNat ((List.range 4).map (fun i => mirrorByte s (a - 0x2000000 + i)))
  else 0

/-- A host read of BAR0 of 4 or 8 bytes at a multiple of its size; none while the link is down. -/
def barRead (s : State) (a n : Nat) : Option Nat :=
  if s.host.linkUp = false ∨ a % n ≠ 0 then none
  else if n = 4 then some (barWord s a)
  else if n = 8 then some (barWord s a + 2 ^ 32 * barWord s (a + 4))
  else none

end Sys2Proof.Machine
end

