-- ==== Sys2Proof/Tests/Slice0.lean ====
section
/-!
SUPPORT. Own tests. The witnesses show that the hypotheses of every statement can be met, one theorem for the clauses of each
command; the tests at the end are worked examples of the spec and one ill-formed command for each check.
-/

set_option Elab.async false

namespace Sys2Proof.Tests

open Machine

/-- A package that is up: Ready, with its rails, its hub and its core. -/
def up : State := { State.reset with
  pow := { state := .ready, railsOk := true }
  boot := { step := 9, hub := true, mcRuns := true, odLive := true, ready := true, slotTaken := true, manifestOk := true } }
/-- The package right after the input has come: Standby. -/
def standing : State := { State.reset with pow := { state := .standby } }

/-! ## Witnesses: states and operands that meet the hypotheses of the statements -/

theorem witness_input_off : State.reset.pow.state = .off := by decide
theorem witness_input_on : up.pow.state ≠ .off ∧ up.pow.state ≠ .latched ∧ up.pow.railsOk = true := by decide
theorem witness_trip : up.pow.state = .ready ∧ up.pow.shutdown = 0 ∧ up.boot.hub = true ∧ up.boot.ready = true ∧
    up.boot.outOfService = none ∧ up.pow.outOfRange = false := by decide
/-- A shutdown has begun. -/
def shutting (n : Nat) : State := { up with pow := { up.pow with shutdown := n } }
theorem witness_deadline : (shutting 1).pow.shutdown = 1 ∧ (shutting 2).pow.shutdown = 2 := by decide
theorem witness_governor_down : up.boot.hub = true ∧ 4 < up.pow.cap ∧
    dyLt (dyInt (1000 * limitAmps up)) (inputFiltered up 61000) = true := by decide
/-- The clock is capped, and the current has been low for nine periods. -/
def capped : State := { up with pow := { up.pow with cap := 4, lowRun := 9 } }
theorem witness_governor_up : capped.pow.cap < 16 ∧ 9 ≤ capped.pow.lowRun ∧
    dyLt (dyInt (1000 * limitAmps capped)) (inputFiltered capped 57000) = false ∧
    dyLe (inputFiltered capped 57000) (dyInt (1000 * limitAmps capped - 3000)) = true := by decide
theorem witness_governor_hold : dyLt (dyInt (1000 * limitAmps up)) (inputFiltered up 60000) = false ∧
    dyLe (inputFiltered up 60000) (dyInt (1000 * limitAmps up - 3000)) = false := by decide
theorem witness_stretch : up.boot.hub = true ∧ up.pow.stretch = false ∧ 4 ≤ up.pow.cap := by decide
theorem witness_release : ({ up with pow := { up.pow with stretch := true } } : State).pow.stretch = true := by decide
/-- Die CD3 stands at 92 °C. -/
def hot : State := { up with pow := { up.pow with hotEpisode := true, steps := 31, diodes := [(3, { f := { y := dyInt 736 } })] } }
theorem witness_hot : anyHot hot = true ∧ hot.pow.hotEpisode = true ∧ hot.pow.state ≠ .latched := by decide
theorem witness_cool : allCool { up with pow := { up.pow with steps := 1 } } = true := by decide
/-- Converter `i` reported an over-current before. -/
def flagged (i : Nat) : State := { up with pow := { up.pow with conv := [(i, 4)] } }
theorem witness_converter : (4 : BitVec 4) &&& mget 0 (flagged 7).pow.conv 7 ≠ 0 ∧ (flagged 7).pow.fscMap = 0xFF ∧
    (4 : BitVec 4) &&& mget 0 (flagged 8).pow.conv 8 ≠ 0 := by decide
/-- A journal with one record. -/
def journalled (k : JKind) : State := { up with
  pow := { up.pow with nvOpen := true, journal := [{ kind := k }] }, nv := { up.nv with committing := true } }
theorem witness_journal : (journalled (.penalty 5)).pow.nvOpen = true ∧ (journalled (.retire 0)).nv.committing = true := by
  decide
theorem witness_penalty : up.pow.nvOpen = false ∧ up.pow.journal.length < 64 ∧
    ({ up with pow := { up.pow with nvOpen := true } } : State).pow.journal = [] := by decide
theorem witness_perst : up.host.perst = true ∧ up.boot.hub = true ∧ standing.boot.hub = false := by decide

/-- A request in session 1 on port I3C-A. -/
def ask : OdReq := { via := .i3cA, tag := 7, session := 1, bad := false }
/-- A proven Maker session on port I3C-A. -/
def makerSession (vigil : Bool) : Sess :=
  { num := 1, via := .i3cA, role := .maker, proven := true, nonce := [], keyFp := List.replicate 32 0, byVigil := vigil }
/-- A package that is up, with a Maker session. -/
def ruled : State := { up with mgmt := { sessions := [makerSession false], nextSession := 2 } }
theorem witness_maker : MakerWrites ruled ask := ⟨by decide, by decide, by decide, by decide⟩
theorem witness_read : (odRow 0x8003 4).map (fun r => rankAtLeast .maker r.rd) = some true ∧
    (odRow 0x8003 4).map (fun r => odValue ruled r false) = some [24, 0] := by decide
theorem witness_event_read : ruled.boot.heldLost = false ∧ ruled.mgmt.events = [] ∧ ruled.mgmt.eventSeq = 0 := by decide
theorem witness_refusals : (odRow 0x9999 1).isNone = true ∧ ((odRow 0x8003 1).map (·.wr)) = some none ∧
    (odRow 0x8003 4).map (fun r => rangeOk ruled r [0, 0]) = some false ∧ (odRow 0x8003 4).map (·.size) = some 2 := by decide
/-- The journal is full. -/
def full : State := { ruled with pow := { ruled.pow with journal := List.replicate 64 { kind := .penalty 0 } } }
theorem witness_full : full.pow.journal.length = 64 ∧ (roleOf full ask false).map Prod.fst = some .maker := by decide
theorem witness_mctp : mctpAnswers up .i3cA = true := by decide
theorem witness_i3c : up.mgmt.dynA = none ∧ up.mgmt.dynB = none ∧ up.pow.state ≠ .off := by decide
/-- A firmware update in progress. -/
def updating (n : Nat) : State := { ruled with mgmt := { ruled.mgmt with
  fw := { state := n, via := some .i3cA, session := 1, component := 2, size := 7000, table := [2] } } }
theorem witness_update : updaterSession ruled .i3cA = some (makerSession false) ∧ ruled.mgmt.fw.state = 0 ∧
    (updating 1).mgmt.fw.state = 1 ∧ 2 ∈ (updating 1).mgmt.fw.table ∧ (updating 2).mgmt.fw.progress + 1 < 7000 ∧
    (updating 5).boot.activating = false ∧ (mcImage (updating 5) (!activeSlot (updating 5) 1)).ready = false := by decide
theorem witness_begin : lockedOut up .i3cA = false ∧ (up.mgmt.sessions.filter (fun x => !x.byVigil)).length < 16 ∧
    roleNamed 3 = some .maker := by decide
/-- An endpoint in lockout. -/
def locked : State := { up with mgmt := { lockout := [(0, true)] } }
theorem witness_lockout : lockedOut locked .i3cA = true ∧ locked.mgmt.lockout = [(viaCode .i3cA, true)] := by decide
/-- A session that waits for its proof. -/
def unproven : State := { up with mgmt := { sessions := [{ makerSession false with proven := false }], nextSession := 2 } }
theorem witness_prove : sessionOf unproven ask false = some { makerSession false with proven := false } := by decide
theorem witness_end : ask.session ≠ 0 ∧ sessionOf ruled ask false = some (makerSession false) := by decide
theorem witness_attest : (roleOf up { ask with session := 0 } false).isSome = true := by decide
theorem witness_key : ∀ k ∈ installerKeys ++ operatorKeyEntries, enrolled ruled k ≠ some (List.replicate 1312 5) := by decide
theorem witness_floor : odLatest ruled 0x700303 0 ≤ (3 : U32).toNat := by decide
theorem witness_floor_low : (3 : U32).toNat <
    odLatest { ruled with mgmt := { ruled.mgmt with latest := [(0x700303, [9, 0, 0, 0])] } } 0x700303 0 := by decide

theorem witness_mc_watchdog : up.boot.hub = true ∧ up.boot.mcRuns = true ∧
    (recent (now up) 3600000000000 up.boot.mcRestarts).length < 2 ∧ 2 ≤ (recent 5 3600000000000 [3, 4]).length := by decide
/-- Tile 9 runs a frame. -/
def working : State := { up with tiles := [(9, { st := 1 })] }
theorem witness_marshal_watchdog : (tileOf working (9 : TileNo).val).st = 1 := by decide
/-- A package on its last hour of probation, in Watch. -/
def probed (h band : Nat) : State := { ruled with
  mgmt := { ruled.mgmt with latest := [(0x800307, [BitVec.ofNat 8 h, 0])] }, health := { band := band } }
theorem witness_probation : probation (probed 1 1) = 1 ∧ NotDeferred (probed 1 1) 0x800307 := by
  constructor
  · decide
  · show mget [] (probed 1 1).mgmt.inForce 0x800307 = []
    decide
/-- The core is being restarted, or activated from a slot. -/
def coming (slot : Option Bool) : State := { up with boot := { up.boot with mcRuns := false, activating := true, actSlot := slot } }
theorem witness_live : (coming none).boot.activating = true ∧ (coming none).host.cmds = [] ∧ (coming none).boot.actSlot = none ∧
    (coming (some true)).boot.actSlot = some true ∧ (coming none).boot.mcStopped = false := by decide
theorem witness_activate : (mshImage { ruled with nv := { ruled.nv with mshB := { ready := true } } } true).ready = true ∧
    activeSlot ruled 2 = false ∧ (mcImage ruled (!activeSlot ruled 1)).ready = false := by decide
theorem witness_season : ruled.boot.ready = true ∧ ruled.store.migrating = false ∧ calBusy ruled = false ∧
    ruled.store.segMarked = [] ∧ ruled.twin.phase = 0 := by decide
/-- A package with a launch held. -/
def heldCal : Cal :=
  { addr := 0, start := 8, cid := 4, ring := 0, slot := 0, hdr := {}, readAt := 0, armed := false, larder := {} }
def launched : State := { ruled with frames := { held := some heldCal } }
theorem witness_busy : calBusy launched = true ∧ launched.pow.state = .ready := by decide
/-- Standby, served by Vigil. -/
def vigilRuled : State := { standing with
  pow := { standing.pow with railsOk := true }, mgmt := { sessions := [makerSession true], nextSession := 2 } }
theorem witness_target_ready : serverOf vigilRuled ask.via = some true ∧ identityOnly vigilRuled = false ∧
    (roleOf vigilRuled ask true).map Prod.fst = some .maker ∧ vigilRuled.boot.starting = false := by decide
theorem witness_current_limit : (60 : Byte).toNat ≤ odLatest ruled 0x200102 70 ∧ odLatest ruled 0x600105 4 ≤ (12 : Byte).toNat := by
  decide

/-- A start in step `n`. -/
def starting (n : Nat) : State := { State.reset with
  pow := { state := .standby, railsOk := true }
  boot := { step := n, starting := true, hub := decide (2 < n), mcRuns := decide (2 < n) } }
theorem witness_boot : diodesValid (starting 1) = false ∧ (starting 2).boot.starting = true ∧
    acceptManifest (starting 2).nv.copyA (starting 2).nv.copyB = .ok 1 ∧
    imageValid (starting 2) 1 (mcImage (starting 2) (starting 2).nv.slotMc) = true := by decide
theorem witness_boot_blocked : imageValid { starting 2 with nv := { mcA := {} } } 1 {} = false ∧
    ({ makerOk := false } : ManCopy).makerOk = false := by decide
/-- Bundle 5 with a number of bad lanes. -/
def lanes (n : Nat) : LaneTest := ⟨5, BitVec.ofNat 68 (2 ^ n - 1), false, false⟩
theorem witness_lanes : (goodLanes (lanes 4).bad).length = 64 ∧ (goodLanes (lanes 5).bad).length = 63 ∧
    (goodLanes (lanes 36).bad).length = 32 ∧ (goodLanes (lanes 37).bad).length = 31 ∧
    imageValid (starting 3) 2 (mshImage (starting 3) (starting 3).nv.slotMsh) = true ∧ (starting 3).dies.bundles = [] := by decide
/-- The announce record of die-map entry 0, the hub. -/
def hubRecord : AnnounceRec :=
  { typ := 1, pos := 0, build := 0, serial := 0, flags := 0, check := BitVec.ofNat 16 (crc16 (announceBytes ⟨1, 0, 0, 0, 0, 0⟩)) }
theorem witness_announce : crc16 (announceBytes hubRecord) = hubRecord.check.toNat ∧
    (hubRecord.typ.toNat, hubRecord.pos.toNat) = dieExpected 0 ∧ (mget {} (starting 3).dies.map 0).reported = false ∧
    dieExpected 1 ≠ dieExpected 0 := by decide +kernel
/-- Step 4, with the first compute die answered. -/
def step4 : State := { starting 4 with dies := { map := [(1, { answered := true })], tested := true } }
theorem witness_self_test : (chanOf step4 7).tested = false ∧ (mget {} step4.dies.map (1 + 7 / 64)).answered = true := by decide
/-- Step 8, with the time root's state. -/
def step8 : State := { starting 8 with time := { state := 4 } }
theorem witness_ready : readyNow step8 = true := by decide

/-- A launch that is armed to begin at once, with its image at address 0. -/
def armedCal : Cal :=
  { heldCal with armed := true, start := 0, hdr := { k := 13, frames := 1, lead := 1000, fclk := 16, calId := 9 } }
/-- The running Calendar in its first frame. -/
def baseRun : Run :=
  { cal := armedCal, ordinal := 3, record := 0, openC := 0, leaped := false, remaining := [], leapOrds := []
    leapAdvised := false, haltAt := none, haltCode := 0, aborted := false, abortFrom := 0, halted := false, completed := none
    halting := none, executed := 3 }
/-- A package that runs a Calendar. -/
def runs (r : Run) (x : Tile) : State := { ruled with
  pow := { ruled.pow with state := .run }, frames := { run := some r }, tiles := [(0, x)] }
theorem witness_calend_idle : ruled.boot.ready = true ∧ ruled.frames.run.isNone = true ∧ ruled.frames.held.isNone = true ∧
    nextCalend ruled * 2 ^ ruled.frames.k < 2 ^ 64 := by decide
theorem witness_calend_begin : armedCal.armed = true ∧ armedCal.start ≤ nextCalend ruled * 2 ^ armedCal.hdr.k := by decide
theorem witness_calend_close : closingIndex baseRun ≤ nextCalend (runs baseRun { st := 2 }) ∧
    (runs baseRun { st := 2 }).tiles.all (fun x => x.2.st ≠ 1) = true ∧ (runs baseRun { st := 2 }).store.migrating = false := by
  decide
theorem witness_calend_middle : nextCalend (runs { baseRun with leaped := true } {}) < closingIndex { baseRun with leaped := true } := by
  decide
theorem witness_calend_halt : ({ baseRun with haltAt := some 1 } : Run).haltAt = some 1 ∧
    1 ≤ nextCalend (runs { baseRun with haltAt := some 1 } {}) := by decide
theorem witness_incomplete : (tileOf (runs baseRun { st := 1 }) (0 : TileNo).val).st = 1 ∧
    (tileOf (runs baseRun { st := 1 }) (0 : TileNo).val).stuck = false := by decide
/-- The command of the running launch. -/
def runCmd : Cmd := { cid := 4, ring := 0, slot := 0, kind := .launch, pieces := [], unstable := false, aborted := false, code := 0 }
/-- The package that runs, with the launch's command outstanding in a ring of four entries. -/
def owing (r : Run) (x : Tile) : State := { runs r x with
  host := { linkUp := true, cmds := [runCmd], rings := [(0, { sqLog := 2, cqLog := 2, en := true, idle := false })] } }
theorem witness_outcome : RingRoom (owing { baseRun with completed := some 8192 } {}) 0 ∧
    (owing { baseRun with completed := some 8192 } {}).frames.held.isNone = true := by decide
/-- An image at address 0: its section table, one frame record, one list set, in which tile 0 has the pass list at 0x1000 with
`bytes`, and the descriptor section at 0x2000 with `desc`. -/
def imageCells (bytes desc : List Host.Cell) : List Host.Cell :=
  [(112, 1), (117, 1), (120, 16), (128, 2), (133, 2), (137, 8), (144, 3), (149, 0x10), (152, 96), (160, 4), (165, 0x20), (169, 1),
    (261, 200), (513, 0x10), (4096, 1)] ++ bytes ++ desc
/-- The Calendar runs on tile 0 an entry of the kind, with a descriptor. -/
def entered (kind : Byte) (desc : List Host.Cell) : State := { owing baseRun { st := 1, list := some (4096, 1) } with
  store := { cells := imageCells [(4116, kind)] desc } }
theorem witness_wait : (issuable (entered 7 []) (0 : TileNo).val 7).isSome = true ∧
    issuable (runs baseRun {}) (0 : TileNo).val 7 = none := by decide
/-- Tile 0 with a Wait entry on its board. -/
def waiting : State := runs baseRun
  { st := 1, list := some (4096, 1), pos := 1, board := [{ pos := 0, kind := 7, cost := 0, at_ := 0, notBefore := 25 }] }
theorem witness_wait_complete : (tileOf waiting (0 : TileNo).val).board.find?
      (fun b => decide (b.pos = (0 : BitVec 12).toNat) && decide (b.kind = 7)) =
    some { pos := 0, kind := 7, cost := 0, at_ := 0, notBefore := 25 } ∧ allIssued (tileOf waiting 0) = true := by decide
/-- Tile 0 with an entry that costs more than the frame has left. -/
def slow (leaped : Bool) (cost : Nat) : State := runs { baseRun with leaped := leaped }
  { st := 1, list := some (4096, 1), pos := 1, board := [{ pos := 0, kind := 7, cost := cost, at_ := 0, notBefore := 0 }] }
theorem witness_projection :
    ((tileOf (slow false 20000) 0).opened + 2 ^ 13) * (projection (slow false 20000) 0 0).2 < (projection (slow false 20000) 0 0).1 ∧
    (projection (slow false 10) 0 0).1 ≤ ((tileOf (slow false 10) 0).opened + 2 ^ 13) * (projection (slow false 10) 0 0).2 ∧
    ((tileOf (slow true 40000) 0).opened + 2 * 2 ^ 13) * (projection (slow true 40000) 0 0).2 < (projection (slow true 40000) 0 0).1 := by
  decide
/-- A notice of the running Calendar's current frame, with halting Calend 5. -/
def note (typ : Byte) : Notice :=
  { typ := typ, ordinal := 3, origin := 2, tile := 0, code := 0x1003, calId := 9, haltAt := 5, rsv := false }
theorem witness_notices : (note 1).calId = baseRun.cal.hdr.calId ∧ (note 1).ordinal.toNat = baseRun.ordinal ∧
    (runs baseRun {}).frames.seen.contains (1, (note 1).ordinal.toNat, (note 1).origin.toNat) = false ∧
    now (runs baseRun {}) < (note 2).haltAt.toNat * 2 ^ baseRun.cal.hdr.k ∧
    now (runs baseRun {}) < (baseRun.openC + 1) * 2 ^ baseRun.cal.hdr.k := by decide
theorem witness_notice_late : (5 : U64).toNat * 2 ^ baseRun.cal.hdr.k ≤ now { runs baseRun {} with time := { alm := 40960 } } ∧
    ((5 : U64) : U64) ≠ 0 := by decide
theorem witness_marshal_halted : tileQuiet { st := 3 } = true ∧ tileQuiet { st := 3, resetDue := true } = true ∧
    tileQuiet { st := 3, xfers := [{ pos := 0, tag := 0, way := 0, bytes := 0, pshift := 0, status := 0, pieces := [], need := 1, code := 0 }] } = false := by
  decide
/-- The entry of ring 0 with `CID` 8. -/
def entry8 : SqHead := { ring := 0, cid := 8, reserved := false }
/-- A package with ring 0 enabled. -/
def ringed : State := { ruled with host := { linkUp := true, rings := [(0, { sqLog := 2, cqLog := 2, en := true, idle := false })] } }
theorem witness_submits : Submits ringed entry8 := ⟨by decide, by decide, by decide, by decide, by decide, by decide⟩
theorem witness_launch : ringed.frames.held.isNone = true ∧ ringed.frames.refuse.isNone = true ∧ ringed.twin.phase ≠ 1 ∧
    ringed.frames.kept.isEmpty = true := by decide
theorem witness_validation : (imageFound launched 0 heldCal.hdr).map (fun x => (x.code, x.off)) = some (0x1020, 0) ∧ heldCal.armed = false := by decide
theorem witness_tile_clock : clockPending capped (0 : TileNo).val = true ∧ (tileOf capped (0 : TileNo).val).runs = [] ∧
    (tileOf (runs baseRun {}) (0 : TileNo).val).st ≠ 4 := by decide

/-- A Pass descriptor at 0x2000: one INT8 product into an INT32 at 0x100. -/
def passDesc : List Host.Cell :=
  [(8194, 0x66), (8195, 10), (8196, 1), (8197, 1), (8198, 1), (8204, 128), (8209, 1), (8216, 0xFF), (8217, 0xFF), (8218, 0xFF),
    (8219, 0xFF), (8220, 0xFF), (8221, 0xFF), (8222, 0xFF), (8223, 0xFF)]
theorem witness_pass : (issuable (entered 0 passDesc) (0 : TileNo).val 0).isSome = true ∧
    clockPending (entered 0 passDesc) (0 : TileNo).val = false ∧ arrayTakes (entered 0 passDesc) (0 : TileNo).val 0 = true := by decide
/-- A pass in flight on array F of tile 0. -/
def onePass (replay : Bool) : PassRun :=
  { pos := 0, desc := 8192, out := [(256, 9)], line0 := 2, line1 := 2, vchecks := [.skip, .int 0, .int 5], cchecks := [], tau := 19
    macs := 1, is_ := false, cycles := 129, replay := replay, code := 0, stopped := false }
/-- Tile 0 with that pass on its board. -/
def passing (replay : Bool) (x : Arr) : State := { owing baseRun
    { st := 1, list := some (4096, 1), pos := 1, board := [⟨0, 0, 20, 0, 0⟩], runs := [(0, onePass replay)] } with
  store := { cells := imageCells [] passDesc }, arrs := if x = {} then [] else [(0, x)] }
theorem witness_commit : mfind (tileOf (passing true {}) (0 : TileNo).val).runs (0 : Fin 3).val = some (onePass true) ∧
    (onePass true).macs ≠ 0 := by decide
theorem witness_pending : ((List.range' 2 1).any (linePending (passing false {}) (0 : TileNo).val)) = true := by decide
theorem witness_tally : (onePass false).vchecks[(0 : BitVec 12).toNat]? = some .skip ∧
    tallyFails (.int 0) 19 ⟨0, 0⟩ = false ∧ tallyFails (.int 5) 19 ⟨0, 0⟩ = true ∧
    (arrOf (passing false { prior := true, p := 7 }) 0).p < 1000000 ∧ (arrOf (passing false { state := 1, prior := true }) 0).state ≠ 0 := by
  decide
theorem witness_replay : replayFits (passing false {}) (0 : TileNo).val 0 = (true, false) ∧ haltPassed (passing false {}) = false ∧
    (tileOf (passing false {}) (0 : TileNo).val).runs = [(0, onePass false)] ∧
    (passOf (readStore (passing false {}) 8192 64)).array = (0 : Fin 3).val := by decide
/-- The frame of tile 0 is over. -/
def latePass : State := { passing false {} with time := { alm := 100000 } }
theorem witness_no_replay : (replayFits latePass (0 : TileNo).val 0).1 = false := by decide
/-- Array 4 is retired, array 5 disabled at the factory. -/
def retired : State := { ruled with arrs := [(4, { state := 3 })], nv := { ruled.nv with factoryOff := [(5, true)] } }
theorem witness_retire_clear : (arrOf retired (4 : U16).toNat).state = 3 ∧ mget false retired.nv.factoryOff (4 : U16).toNat = false ∧
    mget false retired.nv.factoryOff (5 : U16).toNat = true ∧ retired.pow.nvOpen = false := by decide
theorem witness_lane_commit : ruled.mgmt.laneCommit = false ∧ ruled.pow.nvOpen = false := by decide
/-- A Procession or Masque entry at 0x2000 with input port 0 on Herald 1. -/
theorem witness_vector_issue : (issuable (entered 2 [(8208, 9)]) (0 : TileNo).val 2).isSome = true ∧
    (portsOf false (runBytes (entered 2 [(8208, 9)]) false 8192)).length = 1 ∧
    (issuable (entered 3 [(8204, 1)]) (0 : TileNo).val 3).isSome = true := by decide
/-- A vector run in flight on tile 0. -/
def vecRun (computed : Bool) : VecRun := { masque := false, pos := 0, desc := 8192, ports := [(0, 1)], computed := computed }
/-- Tile 0 with that run; its Calendar halts when `halt` is set. -/
def vectoring (computed halt : Bool) : State := { owing { baseRun with halting := if halt then some 9 else none }
    { st := if halt then 3 else 1, list := some (4096, 1), pos := 1, board := [⟨0, 2, 20, 0, 0⟩], vec := some (vecRun computed)
      reload := true, vmode := true } with store := { cells := imageCells [] [(8208, 9)] } }
theorem witness_vector : (tileOf (vectoring true false) (0 : TileNo).val).vec = some (vecRun true) ∧
    herDone (herOf (vectoring true false) (0 : TileNo).val 1) = true ∧ haltPassed (vectoring true true) = true ∧
    (tileOf (vectoring true false) (0 : TileNo).val).reload = true := by decide
theorem witness_lantern_issue : (issuable (entered 4 []) (0 : TileNo).val 4).isSome = true := by decide
/-- Tile 0 with a Lantern op in flight, which waits for a ledger line when `wait` says so. -/
def lantern (op : Byte) (halt : Bool) (wait : Option Nat) : State := { owing { baseRun with halting := if halt then some 9 else none }
    { st := if halt then 3 else 1, list := some (4096, 1), pos := 1, board := [⟨0, 4, 20, 0, 0⟩]
      lan := some { pos := 0, desc := 8192, row := 0, waitLine := wait }, ledger := [(8, 5)] } with
  store := { cells := imageCells [] [(8193, op)] } }
theorem witness_lantern : (lanternAt (lantern 15 false none) 8192).op = 15 ∧ (lanternAt (lantern 0 false none) 8192).op = 0 ∧
    haltPassed (lantern 0 true none) = true ∧ ((tileOf (lantern 4 false (some 1)) 0).lan.map (·.waitLine)) = some (some 1) := by
  decide
/-- A Stream descriptor at 0x2000: four INT8 elements from address 0x8000 to the buffer on Herald 3. -/
def streamDesc : List Host.Cell :=
  [(8194, 6), (8196, 4), (8197, 3), (8201, 0x80), (8208, 4), (8212, 1), (8216, 1), (8220, 1), (8224, 1)]
theorem witness_stream : (issuable (entered 1 streamDesc) (0 : TileNo).val 1).isSome = true ∧
    (streamOf (descBytes (entered 1 streamDesc) ((issuable (entered 1 streamDesc) 0 1).getD ⟨0, 0, false, [], 0, 0, 0, 0⟩) 64)).herald = 3 := by
  decide
/-- The same stream in one direction. -/
def streamD (dir : Nat) (addr : Nat) : StreamD := { dir := dir, fmt := 6, aop := 1, depth := 4, herald := 3, addr := addr, counts := [4, 1, 1, 1], strides := [1, 0, 0, 0] }
/-- Tile 0 with the stream on Herald 3. -/
def streaming (dir addr : Nat) : State := { owing baseRun
    { st := 1, list := some (4096, 1), pos := 1, board := [⟨0, 1, 20, 0, 0⟩]
      her := [(3, { busy := true, dir := dir, d := streamD dir addr, total := 4 })] } with
  fabric := { coord := some 0 } }
theorem witness_request : nextRun (herOf (streaming 0 0x8000) (0 : TileNo).val (3 : Fin 8).val) = (256, 4, none) ∧
    gaKey (256 * 128) = ownKey (streaming 0 0x8000) ∧ gaSpace (256 * 128) = 0 ∧
    nearFree (streaming 1 0x8000) 0 (herOf (streaming 1 0x8000) 0 3) 0 4 = true ∧
    farCopy (streaming 0 0x8000) (256 * 128) (tileDie 0) = none ∧
    outstanding (streaming 1 0x8000) 0 (gaKey (256 * 128)) (farDie 0 (gaLocal (256 * 128))) < 4 := by decide
theorem witness_request_remote : gaKey (((2 ^ 50 + 0x8000) / 128) * 128) ≠ ownKey (streaming 0 (2 ^ 50 + 0x8000)) ∧
    rightsOk (streaming 0 (2 ^ 50 + 0x8000)) 1 0 0x8000 0x8080 0 = false ∧
    (nextRun (herOf (streaming 0 (2 ^ 50 + 0x8000)) 0 3)).1 = (2 ^ 50 + 0x8000) / 128 := by decide
/-- An answered request of Herald 3 for the stream's first element. -/
def answered (kind : ReqKind) : Req :=
  { kind := kind, tile := 0, unit := 3, dest := 0, die := 0, remote := false, addr := 0x8000, len := 128, prio := false
    nofar := false, n0 := 0, cnt := 1, piece := 0, wr := [], aop := 1, fmt := 10, word0 := 3, word1 := 0, token := none, sent := 0
    answered := true, poison := false, undeliverable := false, data := [7, 8, 9, 10] }
theorem witness_return : (answered .store).answered = true ∧ (answered .store).unit < 8 ∧ 0 < (answered .store).cnt ∧
    (farLines (streamD 0 0x8000) 0).1 = (farLines (streamD 0 0x8000) 0).2 ∧
    pendingIn (streaming 0 0x8000) 0 (nearSpan (streamD 0 0x8000) 0).1 (nearSpan (streamD 0 0x8000) 0).2 = false := by decide
theorem witness_stream_done : herDone { busy := true, total := 4, next := 4 } = true ∧ herDone { busy := true, total := 4 } = false := by
  decide
/-- A request that waits at its home, with a store's bytes. -/
def homing (kind : ReqKind) : State := { ruled with fabric := { reqs := [(0, some { answered kind with
  answered := false, data := [], wr := [(5, 0xFF), (6, 0), (7, 0x0F)] })] } }
theorem witness_home : (homeReq (homing .load) 0 .load).isSome = true ∧ (homeReq (homing .store) 0 .store).isSome = true ∧
    (homeReq (homing .atomic) 0 .atomic).isSome = true ∧ rowBusy (homing .load) 0x8000 = false ∧
    poisoned (homing .load) (0x8000 / 128) = false ∧ Memory.wf (homing .store) = true ∧
    writeRoom (homing .store) 0x8000 = true ∧ farDies (homing .store) (ownGa (homing .store) 0x8000) = [] := by decide
/-- The Mirror area does not cover the word. -/
def unmirrored (kind : ReqKind) : State := { homing kind with twin := { mirrorSize := 0 } }
theorem witness_home_write : writeDenied (unmirrored .store) 0x8000 128 = none ∧
    writeDenied (homing .store) 0x8000 128 = some 0x7012 ∧ 0x8000 < capacity (homing .load) := by decide
theorem witness_home_poison : poisoned { homing .load with store := { poison := [(256, true)] } } 256 = true := by decide
theorem witness_invalidate : reqOf (homing .store) 0 = some { answered .store with
    answered := false, data := [], wr := [(5, 0xFF), (6, 0), (7, 0x0F)] } := by decide
theorem witness_scrub : ruled.boot.hub = true ∧ rowBusy ruled (0 : BitVec 34).toNat = false ∧
    (chanOf { ruled with store := { chans := [(0, { tested := true })] } }
      (physChan { ruled with store := { chans := [(0, { tested := true })] } } (0 : BitVec 34).toNat)).tested = true := by decide
/-- Channel 0 is tested, and path 2 to it has failed this many times in a row. -/
def noisy (n : Nat) : State := { ruled with store := { chans := [(0, { tested := true, fails := [(2, n)] })] } }
theorem witness_blocks : crc16 [] = (0xFFFF : U16).toNat ∧ crc16 [] ≠ (1 : U16).toNat ∧
    (chanOf (noisy 3) (0 : TileNo).val).tested = true ∧ mwf 0 (chanOf (noisy 3) (0 : TileNo).val).fails = true ∧
    mget 0 (chanOf (noisy 3) (0 : TileNo).val).fails (2 : Fin 8).val < 15 ∧
    15 ≤ mget 0 (chanOf (noisy 15) (0 : TileNo).val).fails (2 : Fin 8).val := by decide
/-- Bundle 0 with these blocks in the retry buffer of its second direction. -/
def bundled (l : List Block) : State := { ruled with dies := { bundles := [(0, { retry1 := l })] } }
theorem witness_bundle : (bundleOf (bundled []) (0 : Fin 108).val).width ≠ 2 ∧ (bundleOf (bundled []) (0 : Fin 108).val).retry0 = [] ∧
    blockArrives [1, 2] 0 = some [1, 2] ∧ blockArrives [1, 2] 1 = none := by decide +kernel
theorem witness_bundle_retry : (bundleOf (bundled [{ data := [1, 2], fails := 1 }, { data := [3], got := some [3] }])
      (0 : Fin 108).val).retry1 = [{ data := [1, 2], fails := 1 }, { data := [3], got := some [3] }] ∧
    (bundleOf (bundled [{ data := [1, 2], fails := 15 }]) (0 : Fin 108).val).retry1 = [{ data := [1, 2], fails := 15 }] := by decide
theorem witness_migration : ({ ruled with store := { migrating := true } } : State).store.migrating = true ∧
    ruled.store.migrating = false ∧ mget false ({ ruled with store := { copying := [(3, true)] } } : State).store.copying 3 = true := by
  decide

/-- Engine 0 in service, with fibre 0. -/
def lighting (e : Eng) (f : Fib) (p : Pair) : State := { ruled with
  optics := { engs := [(0, e)], fibs := if f = {} then [] else [(0, f)] }, links := { pairs := [(0, p)] } }
/-- An engine in service on its primary input. -/
def eng0 : Eng := { state := 0, reqP := true, lightP := true }
/-- Start-up at step 5, with engine 0 in bring-up. -/
def rising : State := { ruled with boot := { ruled.boot with starting := true, step := 5, ready := false } }
/-- Eight lines at 20.00 dBm. -/
def bright : List Int := List.replicate 8 2000
/-- A bring-up with this primary input. -/
def brought (l : Option (List Int)) : BringUp := { primary := l, spare := none, items := [], groupsFailed := 0, lit := 3, lockFailed := [9] }
theorem witness_bring_up : rising.boot.step = 5 ∧ (engOf rising (0 : EngineNo).val).state = 3 ∧
    chooseInput (inputsRead 0 (brought (some bright)) rising) (0 : EngineNo).val = some false ∧
    chooseInput (inputsRead 0 (brought none) rising) (0 : EngineNo).val = none ∧ bit (3 : Byte).toNat 1 = true ∧
    (9 : RingNo) ∈ (brought none).lockFailed ∧ (9 : RingNo).val / 8 = 1 ∧ ∀ l ∈ (engOf rising 0).src, l < 8 := by decide
theorem witness_recheck : (engOf (lighting { eng0 with state := 2 } {} {}) 0).state = 2 ∧
    chooseInput (inputsRead 0 (brought (some bright)) (lighting { eng0 with state := 2 } {} {})) 0 = some false ∧
    inputBelow (sampleInput 0 false bright (setLight 0 false true (setLight 0 false true (lighting { eng0 with state := 2 } {} {}))))
      0 false (fadeB (lighting { eng0 with state := 2 } {} {})) = true := by decide
theorem witness_engine : (engOf (lighting eng0 {} {}) 0).state = 0 ∧ (engOf (lighting eng0 {} {}) 0).lost = false ∧
    (engOf (lighting eng0 {} {}) 0).spareFor = 15 ∧ (engOf (lighting eng0 {} {}) 0).spareDue = 15 ∧
    bit (engOf (lighting { eng0 with grpFail := 4 } {} {}) 0).grpFail.toNat (2 : Fin 9).val = true ∧
    bit (engOf (lighting { eng0 with spareFor := 3 } {} {}) 0).grpFail.toNat (2 : Fin 9).val = false := by decide
/-- A calibration window of this item is open. -/
def calibrating (item : Nat) : State := lighting { eng0 with icActive := true, icItem := item, icSub := decide (item < 9) } {} {}
theorem witness_window : (engOf (calibrating 4) 0).icItem < 9 ∧ (engOf (calibrating 4) 0).icSub = true ∧
    9 ≤ (engOf (calibrating 9) 0).icItem ∧ (engOf (calibrating 16) 0).icItem < 17 := by decide
/-- A laser line at 20.00 dBm, with that baseline. -/
def line20 : Line := { f := { raw := [2000, 2000, 2000], y := dyInt 2000 }, baseline := some 2000 }
/-- Engine 0 with both inputs at their baselines. -/
def based (e : Eng) : State :=
  { ruled with optics := { engs := [(0, e)], lines := (List.range 16).map (fun i => (i, line20)) } }
/-- The same with its lines 10 dB down. -/
def faded (e : Eng) : State := { ruled with optics := { engs := [(0, e)], lines := (List.range 16).map (fun i =>
  (i, { line20 with f := { raw := [0, 0, 0], y := dyInt 1000 } })) } }
theorem witness_fade : inputBelow (takeSample 0 false (List.replicate 8 0) (faded eng0)) 0 false (fadeA (faded eng0)) = false ∧
    inputBelow (takeSample 0 false bright (based eng0)) 0 false (fadeA (based eng0)) = true := by decide
theorem witness_fade_spare : inputBelow (takeSample 0 true (List.replicate 8 0)
      (faded { eng0 with reqP := false, reqS := true, lightS := true })) 0 true
    (fadeB (faded { eng0 with reqP := false, reqS := true, lightS := true })) = false := by decide
theorem witness_laser : (engOf (based { eng0 with lightP := false }) 0).lightP = false ∧
    (engOf (based { eng0 with reqS := true, lightS := true }) 0).lightS = true ∧
    inputBelow (based { eng0 with sel := true, reqS := true, lightS := true }) 0 false
      (fadeA (based { eng0 with sel := true, reqS := true, lightS := true })) = true := by decide
/-- A planned switchover has waited 1 s. -/
def planned : State := { based { eng0 with reqS := true, lightS := true, switchPend := true } with time := { alm := 1000000000 } }
theorem witness_planned : (engOf planned 0).pendSince + 1000000000 ≤ now planned ∧
    inputBelow planned 0 (!(engOf planned 0).sel) (fadeC planned) = true ∧
    (List.range 8).all (fun k => decide (k = 0 ∨ (engOf planned k).state ≠ 1)) = true := by decide
theorem witness_switching : (engOf (based { eng0 with switching := some true }) 0).switching = some true ∧
    (lineOf (based eng0) (lineKey 0 false 3)).f.raw ≠ [] := by decide
/-- A fibre in service. -/
def fib0 : Fib := { lit := true, locked := true }
/-- A pair in service. -/
def pair0 : Pair := { level := 3, withdrawn := false }
theorem witness_fibre_dark : (fibOf (lighting eng0 {} pair0) 0).lit = false ∧ startTrainingMay (lighting eng0 {} pair0) 0 = true := by
  decide
theorem witness_fibre_lit : (fibOf (lighting eng0 fib0 pair0) 0).lit = true ∧ (pairOf (lighting eng0 fib0 pair0) 0).level ≠ 0 ∧
    fibreUp (lighting eng0 fib0 pair0) 0 = true ∧
    startTrainingMay (lighting eng0 { lit := true } {}) 0 = true := by
  decide
/-- Engine 0 with fibre 0 lit, and its receive ring 0 so. -/
def locking (r : Reso) : State := lighting { eng0 with rings := [(0, r)] } { lit := true } pair0
theorem witness_lock : (rxRings 0)[(0 : Fin 8).val]? = some 0 ∧ (txRings (locking {}) 0)[(0 : Fin 8).val]? = some 64 ∧
    (resoOf (locking { ok := 4 }) (0 / 8) 0).ok = 4 ∧ (resoOf (locking { ok := 4 }) 0 0).locked = false ∧
    (resoOf (locking { ok := 4 }) 0 0).failed = false ∧ (resoOf (locking { attempts := 1 }) 0 0).attempts = 1 ∧
    (resoOf (locking { attempts := 2 }) 0 0).attempts = 2 := by decide
/-- Every ring of fibre 0 is locked but one that is verified. -/
def lastRing : State :=
  lighting { eng0 with rings := (0, { ok := 4 }) :: (List.range' 1 7 ++ List.range' 64 8).map (fun k => (k, { locked := true })) }
    { lit := true } {}
theorem witness_lock_last : (∀ j ∈ Machine.ringsOf lastRing (0 : PairNo).val, j ≠ 0 → (resoOf lastRing (0 / 8) j).locked = true) ∧
    (∀ k ∈ txRings lastRing (0 : PairNo).val, (resoOf lastRing (0 / 8) k).locked = true ∧ (resoOf lastRing (0 / 8) k).failed = false) ∧
    (pairOf lastRing (0 : PairNo).val).level = 0 ∧ startTrainingMay lastRing (0 : PairNo).val = true := by decide
/-- A marker of matching words. -/
def goodMarker : Marker := { words := (List.range 8).map (fun j => some (laneWord ruled 0 j)), ownReceive := 40
                             report := (List.range 8).map (laneWord ruled 0), reportPower := 60, ownPower := 100, ways := [] }
/-- A marker of wrong words. -/
def wrongMarker : Marker := { goodMarker with words := (List.range 8).map (fun j => some (laneWord ruled 0 (7 - j))) }
/-- Fibre 0 in service, each ring of its group having shown three matching words. -/
def marking : State := lighting { eng0 with rings := (List.range' 64 8).map (fun k => (k, { locked := true, ok := 3 })) } fib0 pair0
theorem witness_marker : (fibOf marking (0 : PairNo).val).measured = false ∧ txRings (takeMarker 0 goodMarker marking) 0 ≠ [] ∧
    wrongRings (takeMarker 0 goodMarker marking) 0 = [] ∧
    ringsVerified (takeMarker 0 goodMarker marking) (0 / 8) (txRings (takeMarker 0 goodMarker marking) 0) = true := by decide +kernel
/-- Receive ring 0 is locked and has shown a wrong line once. -/
def misled : State := lighting { eng0 with rings := [(0, { locked := true, bad := 1 })] } fib0 pair0
theorem witness_wrong_line : wrongRings (takeMarker 0 wrongMarker misled) (0 : PairNo).val = [0] ∧
    (fibOf misled (0 : PairNo).val).locked = true := by decide +kernel
/-- A word of zeros that ends in these symbols. -/
def wordOf (q : List Nat) : List Nat := List.replicate (272 - q.length) 0 ++ q
/-- The lines of a word of zeros, of one whose last symbol is 5, and of one whose last nine symbols are 1. -/
def lines0 : List (List (BitVec 10)) := []
def lines1 : List (List (BitVec 10)) := List.replicate 7 [] ++ [List.replicate 33 0 ++ [5]]
def lines9 : List (List (BitVec 10)) := List.replicate 7 (List.replicate 33 0 ++ [1]) ++ [List.replicate 32 0 ++ [1, 1]]
/-- The syndromes of that last word. -/
def syn9 : List Nat := (List.range 16).map (fun i => gfEval (gfAlpha i) (List.replicate 9 1))
theorem lines1_word : codeSymbols lines1 = wordOf [5] := by decide +kernel
theorem lines9_word : codeSymbols lines9 = wordOf (List.replicate 9 1) := by decide +kernel
theorem lines1_corrected : takeOut (wordOf [5]) (List.replicate 16 5) (locator (List.replicate 16 5)).loc = List.replicate 272 0 := by
  decide +kernel
theorem lines9_not_corrected : inCode (takeOut (wordOf (List.replicate 9 1)) syn9 (locator syn9).loc) = false := by decide +kernel
theorem witness_codeword : fecDecode (codeSymbols lines0) = some (codeSymbols lines0) :=
  fecDecode_inCode _ ((show codeSymbols lines0 = List.replicate 272 0 by decide +kernel) ▸ inCode_zeros 272)
theorem witness_codeword_corrected : fecDecode (codeSymbols lines1) = some (List.replicate 272 0) ∧
    List.replicate 272 0 ≠ codeSymbols lines1 := by
  rw [lines1_word, fecDecode_error (wordOf [5]) (List.replicate 16 5) ((syndromes_zeros _ _).trans (by decide +kernel)) (by decide),
    lines1_corrected, inCode_zeros]
  decide +kernel
theorem witness_codeword_lost : fecDecode (codeSymbols lines9) = none := by
  rw [lines9_word, fecDecode_error (wordOf (List.replicate 9 1)) syn9 ((syndromes_zeros _ _).trans (by decide +kernel)) (by decide +kernel),
    lines9_not_corrected]
  rfl
/-- Fibre 0 in service, its window so. -/
def window (retry : Bool) (words bad fixed : Nat) : State :=
  lighting eng0 { fib0 with fecRetry := retry, words := words, badWords := bad, fixedBits := fixed } pair0
theorem witness_pre_fec : fibreUp (window false 1 0 1) (0 : PairNo).val = true ∧ (fibOf (window true 1 0 1) 0).fecRetry = true ∧
    24 * (2720 * (fibOf (window false 1 0 1) 0).words) <
      100000 * ((fibOf (window false 1 0 1) 0).fixedBits + 100 * (fibOf (window false 1 0 1) 0).badWords) ∧
    100000 * ((fibOf (window false 1 0 0) 0).fixedBits + 100 * (fibOf (window false 1 0 0) 0).badWords) ≤
      24 * (2720 * (fibOf (window false 1 0 0) 0).words) := by decide
theorem witness_park : (pairOf (lighting eng0 fib0 pair0) (0 : PairNo).val).level ≠ 0 ∧
    (pairOf (lighting eng0 fib0 pair0) (0 : PairNo).val).latched = false ∧ (fibOf (lighting eng0 fib0 pair0) 0).locked = true ∧
    7 ≤ (lighting eng0 fib0 pair0).boot.step ∧ MakerWrites (lighting eng0 fib0 pair0) ask :=
  ⟨by decide, by decide, by decide, by decide, by decide, by decide, by decide, by decide⟩

/-- The package at coordinate 0, with pair 0 of engine 0 in this state. -/
def linked (p : Pair) : State := { lighting eng0 fib0 p with
  fabric := { coord := some 0, egress := 0x7FF, size := 0x040808 }, time := { alm := 5000 } }
/-- The same with every pair of direction 0 in that state. -/
def linkedAll (p : Pair) : State := { linked p with links := { pairs := (List.range 8).map (fun n => (8 * n, p)) } }
/-- A load packet. -/
def load1 : Packet := { kind := 1, addr := 0x8000, len := 8 }
theorem witness_send_quiet : (fibOf (lighting eng0 {} pair0) (0 : PairNo).val).lit = false := by decide
theorem witness_send_train : (pairOf (linked { pair0 with training := true }) (0 : PairNo).val).training = true ∧
    (engOf (linked pair0) ((0 : PairNo).val / 8)).state = 0 ∧ (engOf (linked pair0) 0).paused = false := by decide
/-- A flit of VC2 in the replay buffer. -/
def txFlit : TxFlit := { body := .data 2 (.packet load1), rhome := 0, crVc := 0, crCount := 0 }
/-- A pair with one flit unacknowledged, to be sent again when `r` is 1. -/
def pairSent (r : Nat) : Pair := { pair0 with n := 7, u := 6, replay := [txFlit], resend := r }
theorem witness_send_replay : txUp (linkedAll (pairSent 1)) (0 : PairNo).val = true ∧
    carriedHere (linkedAll (pairSent 1)) (0 : PairNo).val = [] := by decide
theorem witness_send_replay_flit : (pairSent 1).replay[(pairSent 1).replay.length - (pairSent 1).resend]? = some txFlit := rfl
theorem witness_send_ledger : (pairOf (linkedAll { pair0 with ledgerDue := some 3 }) (0 : PairNo).val).ledgerDue = some 3 := by decide
/-- A pair with a packet queued on VC0. -/
def pairQueued : Pair := { pair0 with q := [(0, [(false, .packet load1)])] }
theorem witness_send_pick : pickVc (pairOf (linkedAll pairQueued) (0 : PairNo).val) = some 0 := by decide
theorem witness_send_data : mget [] (pairOf (linkedAll pairQueued) (0 : PairNo).val).q 0 = (false, .packet load1) :: [] := rfl
theorem witness_send_idle : pickVc (pairOf (linkedAll pair0) (0 : PairNo).val) = none ∧ (linkedAll pair0).links.splits = [] := by decide
theorem witness_credit : (pairOf (linked { pair0 with ackDue := true, d := [(1, 4)], g := [(1, 2)] }) (0 : PairNo).val).ackDue = true ∧
    (pairOf (linked { pair0 with level := 2, ackDue := true }) (0 : PairNo).val).level = 2 := by decide
/-- The header of a flit on pair 0 with this `SEQ` and `ACK`. -/
def hdr0 (seq ack : U16) : FlitHdr :=
  { pair := 0, carry := false, home := 0, rhome := 0, rphase := false, seq := seq, ack := ack, crVc := 1, crCount := 0 }
theorem witness_receives : receives (linked (pairSent 0)) (hdr0 0 6).pair.val = true ∧
    spacePair (linked (pairSent 0)) (hdr0 0 6) = 0 ∧ reversePair (linked (pairSent 0)) (hdr0 0 6) = 0 ∧
    (hdr0 0 6).ack.toNat = ((pairOf (linked (pairSent 0)) 0).u + 1 - 1) % 65536 ∧
    (hdr0 0 6).seq.toNat = (pairOf (linked (pairSent 0)) 0).e % 65536 := by decide
theorem witness_places : seqPlace (pairOf (linked { pair0 with e := 5 }) 0).e (hdr0 3 0).seq.toNat = .duplicate ∧
    seqPlace (pairOf (linked { pair0 with e := 5 }) 0).e (hdr0 9 0).seq.toNat = .ahead := by decide
/-- A Ledger that holds: nothing sent, nothing spent. -/
def ledger0 (n : U64) : LedgerBody :=
  { epoch := 0, phaseId := 0, calend := 1, n := n, u := 0, vcs := (List.range 6).map (fun v => ⟨0, 0, vcCredits v⟩) }
theorem witness_ledger : ledgerBreaks (pairOf (linked pair0) 0) (ledger0 0) = false ∧
    ledgerBreaks (pairOf (linked pair0) 0) (ledger0 1) = true ∧ (ledger0 0).epoch = (pairOf (linked pair0) 0).epoch := by decide
theorem witness_nak : (hdr0 0 5).ack.toNat = ((pairOf (linked (pairSent 0)) 0).u + 65535) % 65536 ∧
    15 ≤ (pairOf (linked { pairSent 0 with stuckReplays := 15 }) 0).stuckReplays := by decide
/-- A package whose engine 0 receives a multicast phase on fibre 0. -/
def phased (o : Bool) : State := { linked { pair0 with rxPhase := [(9, 2)] } with
  optics := { engs := [(0, { eng0 with mcastRx := 1 })], fibs := [(0, { fib0 with phaseOpen := o })] } }
theorem witness_phase : (fibOf (phased true) 0).phaseOpen = true ∧ (fibOf (phased false) 0).phaseOpen = false ∧
    bit (engOf (phased true) (0 / 8)).mcastRx.toNat (0 % 8) = true ∧
    putReady (phased true) (packetAccess load1 []) (gaSpace load1.addr.toNat) (gaLocal load1.addr.toNat) load1.len = true ∧
    (hdr0 2 0).seq.toNat = mget 0 (pairOf (phased true) 0).rxPhase (9 : U32).toNat % 65536 ∧
    bit (engOf (linked pair0) (0 / 8)).mcastRx.toNat (0 % 8) = false := by decide
theorem witness_timers : (pairOf (linked { pair0 with nakFor := some 0 }) (0 : PairNo).val).nakFor = some 0 ∧
    upPairs (linked (pairSent 0)) (dirOf (0 : PairNo).val) ≠ [] ∧ (pairOf (linked pair0) (0 : PairNo).val).replay = [] := by decide
/-- A pair in training, with this many good records in a row. -/
def pairTraining (n : Nat) : Pair := { pair0 with training := true, trainGood := n, trainFails := n }
/-- The training record of the package at coordinate `c`. -/
def train0 (c : Coord) (d : Byte) (slot : BitVec 3) (l : BitVec 4) (ep : U32) : TrainRec :=
  { coord := c, dir := d, slot := slot, fibre := 0, lowest := l, highest := l, epoch := ep, serial := 9, build := 0 }
theorem witness_train : (pairOf (linked (pairTraining 3)) (0 : PairNo).val).trainGood = 3 ∧
    farExpected (linked (pairTraining 3)) (dirOf 0) (1 : Coord).toNat = true ∧ (1 : Byte).toNat = oppDir (dirOf 0) ∧
    farExpected (linked (pairTraining 3)) (dirOf 0) (2 : Coord).toNat = false ∧
    commonLevel (linked (pairTraining 3)) (train0 1 1 0 1 0) = none ∧
    commonLevel (linked (pairTraining 3)) (train0 1 1 0 3 0) = some 3 ∧ max 0 (5 : U32).toNat + 1 < 2 ^ 32 := by decide
/-- The same package at coordinate 1, whose far end at 0 is the smaller. -/
def linkedOne : State := { linked (pairTraining 3) with fabric := { coord := some 1, egress := 0x7FF } }
theorem witness_train_slot : (2 : BitVec 3).toNat ≠ ownSlot (9 : PairNo).val ∧ (0 : Byte).toNat = oppDir (dirOf (9 : PairNo).val) ∧
    farExpected linkedOne (dirOf (9 : PairNo).val) (0 : Coord).toNat = true ∧ (0 : Coord).toNat < ownKey linkedOne := by decide
theorem witness_train_resume : (pairOf (linked { pairTraining 3 with epoch := 4, farSerial := 9 }) 0).epoch =
    (train0 1 1 0 3 4).epoch ∧ (train0 1 1 0 3 4).epoch ≠ 0 := by decide
theorem witness_resume : slotPair (linked (pairSent 0)) (dirOf (0 : PairNo).val) 0 = some 0 ∧
    (7 : U16).toNat = ((pairOf (linked (pairSent 0)) 0).u + 1) % 65536 := by decide
theorem witness_resume_all : (dirPairs (dirOf 0)).all (fun g => decide ((pairOf (linkedAll (pairSent 0)) g).level ≠ 0)) = true := by decide
theorem witness_link_notice : 0 ∈ noticePairs (linked pair0) (0 : PairNo).val ⟨1, 0⟩ ∧
    mayReturn (modFib 0 (fun x => { x with farWithdrawn := false })
      (lighting eng0 { fib0 with cls := 2, farWithdrawn := true } { pair0 with withdrawn := true })) 0 = true := by decide
/-- The package with this time state. -/
def timed (t : Time) : State := { linked pair0 with time := t }
/-- A time message of generation 3. -/
def msg0 (depth : Byte) (t1 t2 t3 : Nat) : TimeMsg := { kind := 3, depth := depth, root := 6, gen := 3, t1 := t1, t2 := t2, t3 := t3 }
theorem witness_live_dirs : 0 ∈ liveDirs (timed { state := 4 }) := by decide
theorem witness_delay : 0 < delayOf (timed {}) 0 (msg0 0 0 6553600 6553600) 13107200 := by decide
theorem witness_theta : (thetaOf (timed { parent := some 0, gen := 3, state := 1, goods := 15, stepped := true }) 0 (msg0 0 0 6553600 6553600)
      13107200).natAbs ≤ thetaNs.natAbs ∧
    8 * thetaNs.natAbs < (thetaOf (timed { parent := some 0, gen := 3, state := 2 }) 0 (msg0 0 0 6553600 6553600) 17107200).natAbs := by decide
theorem witness_beacon : (msg0 44 0 0 0).gen = (timed { gen := 3, root := 6, state := 1 }).time.gen ∧
    44 ≤ (msg0 44 0 0 0).depth.toNat ∧ (timed { gen := 2, root := 6, state := 4 }).time.gen.toNat < (msg0 0 0 0 0).gen.toNat ∧
    (msg0 0 0 0 0).gen.toNat < (timed { gen := 5 }).time.gen.toNat := by decide
theorem witness_root_claim : (timed { alm := 5000000, gen := 1, root := 0, state := 2 }).time.lastBeacon + 1000000 +
      100000 * rankOf (timed { root := 0 }).time.root.toNat (ownKey (timed {})) ≤ now (timed { alm := 5000000 }) ∧
    now (timed { alm := 5 }) < (timed {}).time.lastBeacon + 1000000 := by decide
theorem witness_holdover : (timed { alm := 300000, parent := some 0, state := 2 }).time.lastResp + 256000 ≤ now (timed { alm := 300000 }) ∧
    now (timed { alm := 5 }) < (timed {}).time.lastResp + 256000 := by decide
theorem witness_hold_timeout : (timed { state := 3 }).time.holdSince + 1000000 * odNum (timed { state := 3 }) 0xA0000A 20 <
    now (timed { alm := 900000000 }) := by decide
theorem witness_almanac : (timed {}).time.state = 0 ∧ (timed { state := 2 }).time.state ≠ 0 := by decide
theorem witness_slice : dirInside (linked pair0) (dirOf (0 : PairNo).val) = true ∧
    (ownSlice (linked pair0)).seasonId = (linked pair0).fabric.seasonId ∧ (1 : U64) ≠ (linked pair0).fabric.seasonId := by decide

/-- The package at coordinate 0 with its link to coordinate 1 up, and no Mirror area. -/
def net : State := { linkedAll pair0 with twin := { mirrorSize := 0 } }
/-- A packet from the package at coordinate 1. -/
def from1 (kind : Byte) (addr : U64) : Packet :=
  { kind := kind, src := 1, srcTile := 3, rtag := 5, addr := addr, len := 4, data := [1, 2, 3, 4], pbytes := 4 }
theorem witness_forward : packetDest (from1 1 (2 ^ 50)) = 1 ∧ ownKey net = 0 ∧ nextDir net 1 = some 0 ∧ dirInside net 0 = true := by
  decide
theorem witness_arrives (k : Fin 16) : (from1 (BitVec.ofNat 8 k.val) 0x8000).rsv = false ∧ net.boot.hub = true ∧
    net.boot.outOfService = none ∧ ((k.val = 1 ∨ k.val = 2 ∨ k.val = 3 ∨ k.val = 7 ∨ k.val = 8 ∨ k.val = 12) →
      packetDest (from1 (BitVec.ofNat 8 k.val) 0x8000) = ownKey net) := by revert k; decide
theorem witness_routed (k : Fin 16) : (k.val = 4 ∨ k.val = 5 ∨ k.val = 6 ∨ k.val = 9 ∨ k.val = 10 ∨ k.val = 13) →
    (kindVc (BitVec.ofNat 8 k.val : Byte).toNat).isSome = true ∧
    nextDir net (packetDest (responseTo (from1 1 0x8000) k.val)) = some 0 := by revert k; decide
theorem witness_load_home : gaSpace (from1 1 0x8000).addr.toNat = 0 ∧ rowBusy net 0x8000 = false ∧ 0x8000 < capacity net ∧
    poisoned net (0x8000 / 128) = false ∧ gaLocal (from1 1 0x8000).addr.toNat % 128 + (from1 1 0x8000).len ≤ 128 := by decide
theorem witness_store_home : Memory.wf net = true ∧ writeDenied net (gaLocal (0x8000 : U64).toNat / 128 * 128) 128 = none ∧
    writeRoom net 0x8000 = true ∧ farDies net (ownGa net 0x8000) = [] ∧
    writeDenied (linkedAll pair0) 0x8000 128 = some 0x7012 := by decide
theorem witness_atomic_home : atomicOk 1 10 = true ∧ writeDenied net 0x8000 4 = none := by decide
theorem witness_release_home : mget 0 net.store.epochs (from1 0x0C 0).region.toNat + 1 ≠ 0 := by decide
theorem witness_transfer_home : putReady net (packetAccess (from1 7 0x8000) []) 0 (gaLocal (0x8000 : U64).toNat) 4 = true ∧
    readReady net (packetAccess (from1 8 0x8000) []) 0 0x8000 4 = true ∧
    net.fabric.openPieces = [] := by decide
/-- A request of tile 0 to the package at coordinate 1, with number and tag 5. -/
def asking (kind : ReqKind) (run : Option Run) : State := { net with
  time := { alm := 9000000 }, frames := { run := run }
  fabric := { net.fabric with reqs := [(5, some { answered kind with
    answered := false, data := [], remote := true, dest := 1, token := some 2, piece := 0, unit := 5 })] }
  tiles := [(0, { st := 1, xfers := [{ pos := 0, tag := 5, way := 0, bytes := 4, pshift := 12, status := 0, pieces := [], need := 1, code := 0 }]
                  fences := [⟨5, 1, false, 1, 7, 0x100, 4, 0, true, false, 0⟩] })] }
/-- A response to it. -/
def back (kind : Byte) : Packet := { from1 kind 0x8000 with src := 0, srcTile := 0, rtag := 5 }
theorem witness_response : reqByTag (asking .load none) (back 4) [.load, .epochRead] = some 5 ∧
    reqByTag (asking .store none) (back 5) [.store] = some 5 ∧ reqByTag (asking .atomic none) (back 6) [.atomic] = some 5 ∧
    reqByTag (asking .store none) (back 0x0B) [.load, .store, .atomic, .release, .epochRead] = some 5 ∧
    reqByTag (asking .load none) (back 5) [.store] = none ∧ packetDest (back 5) = ownKey net := by decide
theorem witness_silent : (asking .load none).fabric.deadTimeout * 1000 ≤ now (asking .load none) ∧
    now net < 1000 * net.fabric.deadTimeout := by decide
theorem witness_halt_resolve : ({ baseRun with halting := some 9 } : Run).halting = some 9 ∧ 9 + 2000 ≤ now (asking .load none) := by
  decide
theorem witness_release_ack : reqByTag (asking .release none) (back 0x0D) [.release] = some 5 ∧
    (fenceAt (asking .release none) 0 5).isSome = true := by decide
theorem witness_piece : (xferOf (asking .pull none) 0 5).isSome = true ∧ (pieceReq (asking .pull none) 0 5 0 .pull none).isSome = true ∧
    pieceSize 4 12 0 = 4 ∧ putReady (asking .pull none) (ownAccess 0 false []) 0 0x8000 4 = true ∧ writeDenied (asking .pull none) 0x8000 4 = none ∧
    (pieceReq (asking .piece none) 0 5 0 .piece (some (gaKey (back 0x0A).addr.toNat))).isSome = false ∧
    (pieceReq (asking .piece none) 0 5 0 .piece (some (gaKey (2 ^ 50)))).isSome = true := by decide
/-- Start-up waits for its coordinate. -/
def placed : State := { ruled with boot := { ruled.boot with step := 6 } }
theorem witness_coord : mget [] placed.mgmt.latest 0x400001 = [] ∧ placed.boot.blocked = false ∧
    mget [] ({ ruled.mgmt with latest := [(0x400001, [7, 0])] } : Mgmt).latest 0x400001 = leBytes 2 (7 : U16).toNat := by decide
/-- A Transfer descriptor at 0x2000: 64 bytes from 0x8000 to 0x8000 of the package at coordinate 1. -/
def xferCells : List Host.Cell :=
  [(8195, 12), (8201, 0x80), (8209, 0x80), (8214, 4), (8216, 64), (8220, 1)]
/-- The Calendar runs on tile 0 a Transfer or Fence entry; the slice is a package or two wide. -/
def sending (kind : Byte) (desc : List Host.Cell) (size : U32) : State := { entered kind desc with
  links := (linkedAll pair0).links, fabric := { coord := some 0, egress := 0x7FF, size := size } }
theorem witness_transfer : ((issuable (sending 5 xferCells 0x10102) (0 : TileNo).val 5).map (fun e =>
      let d := xferDesc (descBytes (sending 5 xferCells 0x10102) e 64)
      (xferFree (sending 5 xferCells 0x10102) (ownAccess 0 d.prio []) d, d.phase, gaKey d.dst, xferPieces d, xferRights (sending 5 xferCells 0x10102) d false 1,
        xferRights (sending 5 xferCells 0x10101) d false 1))) = some (true, false, 1, 1, true, false) := by decide
theorem witness_fence : (issuable (sending 6 [] 0x10102) (0 : TileNo).val 6).isSome = true := by decide
/-- Tile 0 with a Fence at position 5. -/
def fencing (op : Nat) (target : Coord) (sent ans : Bool) (size : U32) : State := { sending 6 [] size with
  tiles := [(0, { st := 1, list := some (4096, 1), pos := 6, board := [⟨5, 6, 0, 0, 0⟩], nextOrd := 9
                  fences := [⟨5, op, false, target, 7, 0x100, 4, 0, sent, ans, 3⟩] })] }
theorem witness_fence_run : (fenceAt (fencing 1 0 false false 0x10102) 0 (5 : BitVec 12).toNat).isSome = true ∧
    fenceClear (fencing 1 0 false false 0x10102) 0 ⟨5, 1, false, 0, 7, 0x100, 4, 0, false, false, 3⟩ = true ∧
    rightsOk (fencing 1 1 false false 0x10102) 1 0 (7 * 2 ^ 26) (8 * 2 ^ 26) 1 = true ∧
    rightsOk (fencing 1 1 false false 0x10101) 1 0 (7 * 2 ^ 26) (8 * 2 ^ 26) 1 = false ∧
    rightsOk (fencing 2 1 false false 0x10102) 1 0 (7 * 2 ^ 26) (8 * 2 ^ 26) 0 = true := by decide
/-- Tile 0 with a Transfer of two pieces at position 5. -/
def moving (p : SMap Piece) : State := { sending 5 [] 0x10102 with
  tiles := [(0, { st := 1, list := some (4096, 1), pos := 6, board := [⟨5, 5, 0, 0, 0⟩]
                  xfers := [⟨5, 3, 0, 8192, 12, 0x100, p, 1, 0⟩] })] }
theorem witness_transfer_end : (mget {} ([(0, { done := true }), (1, { done := true })] : SMap Piece) 1).done = true ∧
    ceilDiv 8192 (2 ^ 12) = 2 ∧ (mget {} ([(0, { done := true }), (1, { failed := true })] : SMap Piece) 1).failed = true := by decide

/-- The package at coordinate 0 with its Twin link up and this twin state. -/
def twinned (w : Twin) : State := { ruled with
  links := { pairs := (List.range 8).map (fun n => (8 * n + 7, pair0)) }, time := { alm := 2000000 }
  fabric := { coord := some 0 }, twin := w }
/-- One Keep region of one page at 0x40000000. -/
def keep1 : List KeepEntry := [⟨0x40000000, 0x200000⟩]
/-- A holder: paired, with a Mirror area of one page at the start of the Store. -/
def holder : Twin := { state := 2, held := true, partnerCoord := some 5, mirrorSize := 0x200000, partnerTable := keep1, keep := keep1 }
theorem witness_holds : holds (twinned holder) = true ∧ dirOf (7 : PairNo).val = 10 ∧ (twinned holder).twin.detached = false ∧
    (twinned holder).twin.journal.length < 1048576 ∧ holds (twinned {}) = false := by decide
/-- A holder whose journal is full. -/
theorem witness_journal_full (w : MWrite) : holds (twinned { holder with journal := List.replicate 1048576 w }) = true ∧
    1048576 ≤ (twinned { holder with journal := List.replicate 1048576 w }).twin.journal.length :=
  ⟨(show holds (twinned holder) = true by decide), Nat.le_of_eq (List.length_replicate (n := 1048576) (a := w)).symm⟩
/-- An owner whose Keep regions are mirrored. -/
def owner : Twin := { holder with mirrored := true, keepSealed := 3 }
theorem witness_seal_ack : owner.mirrored = true ∧ owner.dirtyP = [] ∧ owner.keepSealed < (8 : U64).toNat := by decide
/-- A journalled write of the first line of the Keep region, under epoch 4. -/
def mwrite1 : MWrite := ⟨0, 4, false, 0x40000000, 5, List.replicate 128 9⟩
/-- A holder with all eight markers of epoch `c`. -/
def marked (c : Nat) (j : List MWrite) : State :=
  twinned { holder with markers := (List.range 8).map (fun k => (k, c)), journal := j }
theorem witness_commit_epoch : (List.range 8).all (fun k => decide (mfind (marked 6 []).twin.markers k = some 6)) = true ∧
    sealedBy 6 mwrite1 = true ∧ sealedBy 3 mwrite1 = false ∧ Memory.wf (marked 6 [mwrite1]) = true ∧
    keepPageOf (marked 6 [mwrite1]).twin.partnerTable mwrite1.addr = some 0 := by decide
theorem witness_commit_line : mwrite1.data.length = 128 := List.length_replicate
/-- A pairing record of a package with one Keep page. -/
def pair1 (c : U16) (total : U64) : PairRec :=
  { serial := 3, coord := c, keepValid := true, keepTotal := total, mirrorSize := 0, sealed := 0, table := [⟨0x80000000, 0x200000⟩]
    heldTable := none }
theorem witness_pairing : neighbour (twinned holder) (ownKey (twinned holder)) 10 < 65536 ∧
    (pair1 7 0).coord.toNat ≠ neighbour (twinned holder) (ownKey (twinned holder)) 10 ∧
    (twinned holder).twin.mirrorSize < (0x400000 : U64).toNat ∧ mirrorOk (twinned holder) = true ∧
    keepOk (twinned holder) (twinned holder).twin.keep = true ∧ (twinned holder).twin.partnerTable ≠ (pair1 0 0).table := by decide
/-- The source of a protect phase, of page 0. -/
def source : Twin := { owner with source := true, phase := 2, dirtyP := [(0, true)] }
theorem witness_rebuild_send : nextPage (twinned source).twin.dirtyP (twinned source).twin.flying = some 0 ∧
    keepPageAddr (twinned source).twin.keep 0 = some 0x40000000 ∧ upPairs (twinned source) 10 ≠ [] ∧
    (dirPairs 10).all (fun g => (mget [] (pairOf (twinned source) g).q 4).isEmpty) = true := by decide
/-- The receiver of a protect phase, with these bytes of page 0 already in. -/
def receiver (got : Nat) : Twin := { holder with receiver := true, phase := 2, rbGot := if got = 0 then [] else [(0, got)] }
theorem witness_rebuild_data : (twinned (receiver 0)).twin.receiver = true ∧
    mget 0 (twinned (receiver 0)).twin.rbGot 0 + 2 < 2 ^ 21 ∧ 2 ^ 21 ≤ mget 0 (twinned (receiver 2097150)).twin.rbGot 0 + 2 := by decide
theorem witness_page_ack : mget false (twinned { source with flying := [(0, true)] }).twin.flying 0 = true ∧
    mdel [(0, true)] 0 = ([] : SMap Bool) ∧ mdel [(0, true), (1, true)] 0 ≠ ([] : SMap Bool) := by decide
theorem witness_departure : (twinned holder).twin.receiver = false ∧ (twinned holder).twin.partnerCoord.isSome = true ∧
    (twinned holder).twin.lastFlit + 1000 * odNum (twinned holder) 0x900204 1000 ≤ now (twinned holder) ∧
    now ruled < ruled.twin.lastFlit + 1000 * odNum ruled 0x900204 1000 := by decide
theorem witness_lost : (twinned { holder with state := 4 }).twin.state = 4 ∧ MakerWrites (twinned holder) ask :=
  ⟨rfl, by decide, by decide, by decide, by decide⟩

/-- The package with these host-port settings and no Mirror area. -/
def hosted (h : HostPort) : State := { ruled with host := h, twin := { mirrorSize := 0 } }
/-- The link up, with page 0 host-owned. -/
def page0 : HostPort := { linkUp := true, pages := [(0, 1)], gen := 6, width := 16 }
theorem witness_link : (hosted page0).host.linkUp = true ∧ ruled.host.linkUp = false ∧ ruled.host.perst = true ∧ ruled.boot.hub = true ∧
    3 ≤ (6 : BitVec 3).toNat ∧ (16 : BitVec 5).toNat ∈ [1, 2, 4, 8, 16] ∧ (5 : BitVec 3).toNat ≤ 6 := by decide
theorem witness_host_read : (0x100 : BitVec 34).toNat + (8 : BitVec 13).toNat ≤ capacity (hosted page0) ∧
    Machine.pagesOf (0x100 : BitVec 34).toNat (8 : BitVec 13).toNat = [0] ∧ pageFlag (hosted page0) 0 = 1 ∧
    poisoned (hosted page0) 2 = false ∧ linesOf (0x100 : BitVec 34).toNat 8 = [2] ∧ pageGone (hosted page0) 0 = false ∧
    Machine.pagesOf (0x200000 : BitVec 34).toNat 8 = [1] ∧ pageFlag (hosted page0) 1 ≠ 1 := by decide
theorem witness_host_write : Memory.wf (hosted page0) = true ∧ writeRoom (hosted page0) (2 * 128) = true ∧
    mget false (hosted page0).host.dropLogged 1 = false ∧ mget false (hosted { page0 with dropLogged := [(1, true)] }).host.dropLogged 1 = true := by
  decide
theorem witness_register : (tileOf (runs baseRun { st := 1, flags := 7 }) 0).st ≠ 0 ∧ (ringOf (hosted page0) 3).en = false ∧
    (ringOf ringed 0).en = true := by decide
/-- The package with ring 0 so. -/
def ringAs (r : Ring) (c : List Cmd) : State := hosted { page0 with rings := [(0, r)], cmds := c }
/-- A ring of 16 entries that runs. -/
def ring16 : Ring := { sqLog := 4, cqLog := 4, en := true, idle := false }
theorem witness_ring : ringConfigOk { ringOf (ringAs {} []) (0 : Fin 32).val with
      sqLog := (0x404 : U32).toNat % 32, cqLog := (0x404 : U32).toNat / 256 % 32 } = true ∧
    (ringOf (ringAs { sqBase := 8 } []) (0 : Fin 32).val).sqBase.toNat % 4096 ≠ 0 ∧ (ringOf (ringAs ring16 []) (0 : Fin 32).val).sqLog ≠ 0 ∧
    (3 : U32).toNat < 2 ^ (ringOf (ringAs ring16 []) (0 : Fin 32).val).sqLog ∧ 2 ^ (ringOf (ringAs ring16 []) (0 : Fin 32).val).sqLog ≤ (16 : U32).toNat ∧
    RingRoom (ringAs ring16 []) 0 ∧ (ringOf (ringAs { ring16 with unsignalled := 2 } []) 0).unsignalled ≠ 0 ∧
    (mget 0 (ringAs ring16 []).host.msix 2).toNat / 2 ^ 96 % 2 = 0 := by decide
/-- A host Transfer of 8,192 bytes in two pieces. -/
def xin8 (p : SMap HPiece) : Cmd :=
  { cid := 4, ring := 0, slot := 1, kind := .xin 0x9000 0 8192 12, pieces := p, unstable := false, aborted := false, code := 0 }
/-- The same, out of the Store. -/
def xout8 (p : SMap HPiece) : Cmd := { xin8 p with kind := .xout 0x9000 0 8192 12 }
theorem witness_disable : isTransfer (xin8 []) = true ∧ (List.range (transferPieces (xin8 []))).all (hostPieceFinal (xin8 [])) = false := by
  decide
/-- An entry whose operation nobody defines. -/
def raw9 : SqRaw := { bytes := [0x77, 0, 0, 0, 9], message := [] }
theorem witness_doorbell : (ringOf (ringAs ring16 []) 0).sqHead ≠ (3 : U32).toNat ∧ fieldAt (fillTo 64 raw9.bytes) 0 1 ≠ 0 ∧
    fieldAt (fillTo 64 ({ bytes := [0, 0, 0, 0, 9], message := [] } : SqRaw).bytes) 0 1 = 0 ∧
    BitVec.ofNat 32 (fieldAt (fillTo 64 raw9.bytes) 4 4) = (9 : U32) ∧ cmdOutstanding (ringAs ring16 []) 9 = false := by decide
theorem witness_ring_idle : (ringOf (ringAs { ring16 with en := false } []) 0).held = [] ∧
    (ringOf (ringAs { ring16 with en := false } []) 0).sqLog ≠ 0 := by decide
theorem witness_entry : Submits (ringAs ring16 []) entry8 := ⟨by decide, by decide, by decide, by decide, by decide, by decide⟩
theorem witness_host_transfer : transferForm (8192 : U64).toNat (12 : Byte).toNat = true ∧
    firstBad (ringAs ring16 []) 0 8192 (fun f => decide (f ≠ 1)) = none ∧
    firstBad (ringAs ring16 []) 0x200000 8192 (fun f => decide (f ≠ 1)) = some 1 ∧
    firstBad (ringAs ring16 []) 0 8192 (fun f => decide (f = 2)) = none := by decide
theorem witness_own : ownForm (3 : U16).toNat (1 : U16).toNat = true ∧
    (List.range' (3 : U16).toNat (1 : U16).toNat).find? (ownRefuses (ringAs ring16 []) true) = none ∧
    ownRefuses (ringAs ring16 []) false 0 = false ∧ mget 0 (ringAs ring16 []).host.pages 0 ≠ 0 ∧
    (List.range' 3 1).find? (ownRefuses { ringAs ring16 [] with twin := {} } true) = some 3 := by decide
/-- The bytes of an INFO request for OD 0x1000.01. -/
def infoBytes1 : List Byte := [0x7E, 0x1F, 0x4B, 1, 3, 0, 7, 0, 0, 0, 0, 0, 0x00, 0x10, 1, 0] ++ List.replicate 8 0
theorem witness_mgmt : mgmtForm (24 : U16).toNat (56 : U16).toNat = true ∧ (ringAs ring16 []).boot.odLive = true ∧
    serverOf (ringAs ring16 []) .mgmt = some false ∧ (odRow 0x1000 1).isSome = true ∧
    { ringAs ring16 [] with boot := { ruled.boot with odLive := false } }.boot.odLive = false := by decide
theorem witness_mgmt_message : (parseMessage .mgmt (fillTo 24 infoBytes1)).q.bad = false ∧ (parseMessage .mgmt (fillTo 24 infoBytes1)).opc = 3 ∧
    (roleOf (ringAs ring16 []) (parseMessage .mgmt (fillTo 24 infoBytes1)).q false).map Prod.fst = some .anonymous := by decide
theorem witness_completion : (ringAs ring16 [xin8 []]).host.cmds.find? (fun x => decide (x.cid = 4)) = some (xin8 []) ∧
    hostPieceFinal (xin8 []) ((5 : BitVec 35).toNat / 2 ^ 12) = false ∧ ([1, 2] : List Byte).length ≤ min (0 / 2 ^ 12 * 2 ^ 12 +
      hostPieceSize (xin8 []) (5 / 2 ^ 12) - 5) (hostPieceSize (xin8 []) (5 / 2 ^ 12) - (hostPiece (xin8 []) (5 / 2 ^ 12)).got) := by decide
/-- Both pieces have all their bytes. -/
def allIn : SMap HPiece := [(0, { got := 4096 }), (1, { got := 4096 })]
theorem witness_transfer_done : (List.range (transferPieces (xin8 allIn))).all (hostPieceDone (xin8 allIn)) = true ∧
    RingRoom (ringAs ring16 [xin8 allIn]) (xin8 allIn).ring ∧
    (List.range (transferPieces (xin8 [(0, { got := 4096 }), (1, { failed := true })]))).all
      (hostPieceFinal (xin8 [(0, { got := 4096 }), (1, { failed := true })])) = true := by decide
/-- An ABORT of command 4. -/
def abort4 : Cmd := { xin8 [] with cid := 6, slot := 2, kind := .abort 4 [] }
theorem witness_abort : abortMayRun (ringAs ring16 [abort4]) [] = true ∧ cmdOutstanding (ringAs ring16 [abort4]) 4 = false ∧
    (ringAs ring16 [abort4, xin8 []]).host.cmds.find? (fun y => decide (y.cid = 4)) = some (xin8 []) := by decide

theorem witness_dropped : Machine.pagesOf (0x200000 : BitVec 34).toNat ([1, 2] : List Byte).length = [1] ∧ pageFlag (hosted page0) 1 ≠ 1 ∧
    1 ∈ Machine.pagesOf (0x1FFFFF : BitVec 34).toNat ([1, 2] : List Byte).length ∧
    (linesOf (0x1FFFFF : BitVec 34).toNat 2).all (fun l => writeRoom (hosted page0) (l * 128)) = true ∧ Memory.wf (hosted page0) = true := by
  decide
theorem witness_flag_change : ownForm (3 : U16).toNat 1 = true ∧ mwf false (ringAs ring16 []).host.dropLogged = true ∧
    ownRefuses (ringAs ring16 []) true (3 : U16).toNat = false ∧ mget 0 (ringAs ring16 []).host.pages (3 : U16).toNat ≠ 1 ∧
    ownRefuses (ringAs ring16 []) false (0 : U16).toNat = false ∧ mget 0 (ringAs ring16 []).host.pages (0 : U16).toNat ≠ 0 := by decide
theorem witness_deferred : (runs baseRun { st := 1 }).frames.run = some baseRun ∧ baseRun.completed = none ∧
    (tileOf (runs baseRun { st := 1 }) (0 : TileNo).val).st ≠ 4 ∧ MakerWrites (runs baseRun { st := 1 }) ask :=
  ⟨rfl, rfl, by decide, by decide, by decide, by decide, by decide⟩
theorem witness_deferred_applied : (tileOf (runs baseRun { st := 3, resetDue := true }) (0 : TileNo).val).st = 3 ∧
    tileQuiet (tileOf (runs baseRun { st := 3, resetDue := true }) (0 : TileNo).val) = true := by decide
theorem witness_invariant : Memory.wf State.reset = true ∧ RecordsBounded State.reset ∧ PowerInRange State.reset :=
  ⟨by decide, ⟨by decide, by decide, by decide, by decide, by decide, by decide, by decide⟩, ⟨by decide, by decide, by decide⟩⟩
theorem witness_step : (match step State.reset with | .next t => decide (t = State.reset) | _ => false) = true := by decide

theorem witness_calend_clean : CalendClean (runs baseRun { st := 2 }) :=
  ⟨fun _ => (show localBreaks {} = false by decide), fun _ => rfl, fun _ n h => (nomatch (show none = some n from h)),
    by decide⟩
/-- A launch is armed, and no frame runs. -/
def armedNow : State := { ruled with frames := { held := some armedCal } }
theorem witness_calend_armed : armedNow.frames.haltedHeld = false ∧ armedCal.start ≤ nextCalend armedNow * 2 ^ armedCal.hdr.k ∧
    (∀ t, (tileOf armedNow t).stuck = false) := ⟨by decide, by decide, fun _ => rfl⟩
theorem witness_calend_armed_clean : CalendClean armedNow :=
  ⟨fun _ => (show localBreaks {} = false by decide), fun _ => rfl, fun _ n h => (nomatch (show none = some n from h)),
    by decide⟩
theorem witness_projection_time : now (slow false 20000) ≤ (tileOf (slow false 20000) 0).opened + 2 ^ 13 - 1000 ∧
    (∀ x ∈ (tileOf (slow false 20000) 0).runs, x.2.stopped = false) ∧ (tileOf (slow true 40000) 0).second = false := by decide
theorem witness_pass_inputs : (passInputs (passOf (readStore (entered 0 passDesc) 8192 64))).any
      (fun x => pendingIn (entered 0 passDesc) (0 : TileNo).val x.1 x.2) = false ∧ (entered 0 passDesc).pow.shutdown = 0 ∧
    (tileOf (entered 0 passDesc) 0).refusedAt ≠ some ((tileOf (entered 0 passDesc) 0).ordinal, (tileOf (entered 0 passDesc) 0).pos) := by
  decide
theorem witness_pass_refused : (tileOf (runs baseRun { refusedAt := some (0, 0) }) (0 : TileNo).val).refusedAt =
    some ((tileOf (runs baseRun { refusedAt := some (0, 0) }) 0).ordinal, (tileOf (runs baseRun { refusedAt := some (0, 0) }) 0).pos) := by
  decide
/-- A Pass entry whose output lies over a pass in flight on array F, which it does not ask for. -/
def overlapping : State := { entered 0 ((8193, 1) :: passDesc) with
  tiles := [(0, { st := 1, list := some (4096, 1), runs := [(0, onePass false)] })] }
theorem witness_pass_overlap : (issuable overlapping (0 : TileNo).val 0).isSome = true ∧
    clockPending overlapping (0 : TileNo).val = false ∧
    (let d := passOf (descBytes overlapping ((issuable overlapping 0 0).getD ⟨0, 0, false, [], 0, 0, 0, 0⟩) 64)
     arrayTakes overlapping 0 d.array = true ∧ mfind (tileOf overlapping 0).runs d.array = none ∧
      (List.range' (passLines d).1 ((passLines d).2 + 1 - (passLines d).1)).any (linePending overlapping 0) = true) := by decide
theorem witness_vector_free : VectorFree (entered 2 [(8208, 9)]) (0 : TileNo).val false ((issuable (entered 2 [(8208, 9)]) 0 2).getD
      ⟨0, 0, false, [], 0, 0, 0, 0⟩) ∧
    VectorFree (entered 3 [(8204, 1)]) (0 : TileNo).val true ((issuable (entered 3 [(8204, 1)]) 0 3).getD
      ⟨0, 0, false, [], 0, 0, 0, 0⟩) :=
  ⟨⟨by decide, by decide, by decide, by decide⟩, ⟨by decide, by decide, by decide, by decide⟩⟩
/-- A run whose input on Herald 1 is in, and whose output on Herald 2 is not yet written. -/
def computing : State := { owing baseRun { st := 1, list := some (4096, 1), pos := 1, board := [⟨0, 2, 20, 0, 0⟩]
                                           vec := some { vecRun false with ports := [(0, 1), (4, 2)] }, her := [(2, { busy := true, total := 4 })] } with
  store := { cells := imageCells [] [(8208, 9)] } }
theorem witness_vector_compute : (∀ p ∈ ({ vecRun false with ports := [(0, 1), (4, 2)] } : VecRun).ports, p.1 < 4 →
      herDone (herOf computing (0 : TileNo).val p.2) = true) ∧
    (∃ p ∈ ({ vecRun false with ports := [(0, 1), (4, 2)] } : VecRun).ports, herDone (herOf computing (0 : TileNo).val p.2) = false) := by
  decide
theorem witness_vector_done : ∀ p ∈ (vecRun true).ports, herDone (herOf (vectoring true false) (0 : TileNo).val p.2) = true := by decide
theorem witness_lantern_rows : (let d := { lanternAt (lantern 0 false none) 8192 with off := 8192 - runImg (lantern 0 false none), pos := 0 }
    (gaccExtent d :: lanReads d).any (fun x => pendingIn (lantern 0 false none) (0 : TileNo).val x.1 x.2)) = false := by decide
theorem witness_ledger_fetch : (tileOf (lantern 4 false (some 1)) (0 : TileNo).val).lines.length < 4096 ∧
    (mfind (tileOf (lantern 4 false (some 1)) (0 : TileNo).val).ledger (8 * 1 + 0)).isSome = true := by decide
theorem witness_request_free : (tileOf (streaming 0 0x8000) (0 : TileNo).val).vec = none ∧
    (herOf (streaming 0 0x8000) 0 (3 : Fin 8).val).next < (herOf (streaming 0 0x8000) 0 (3 : Fin 8).val).total ∧
    (herOf (streaming 0 0x8000) 0 (3 : Fin 8).val).inflight < (herOf (streaming 0 0x8000) 0 (3 : Fin 8).val).d.depth ∧
    haltPassed (streaming 0 0x8000) = false ∧ (256 : Nat) < 2 ^ 57 ∧ (2 ^ 50 + 0x8000) / 128 < 2 ^ 57 := by decide
theorem witness_class : classTurn (homing .load) (physChan (homing .load) 0x8000) false (some 0) = true ∧
    lineTurn (homing .load) false 256 { cache := .missed } (some 0) = true ∧
    dirtyLine { homing .load with store := { dirty := [(256, true)] } } 256 = true ∧
    classTurn ruled (physChan ruled 0) false none = true := by decide
/-- A bulk load waits at its home behind a latency-critical one of another tile for the same channel. -/
def queueing : State := { homing .load with fabric := { reqs := [(0, some { answered .load with answered := false, data := [] })
  , (1, some { answered .load with answered := false, data := [], prio := true, tile := 1 })] } }
theorem witness_class_waits : (homeReq queueing 0 .load).isSome = true ∧ lineTurn queueing false 256 { cache := .missed } (some 0) = false := by
  decide
theorem witness_far_waits : reqOf (homing .store) 0 ≠ none ∧
    ({ homing .store with store := { waits := [⟨256, [(1 : EngineNo).val, (2 : EngineNo).val], some 0, none⟩] } } : State).store.waits =
      [⟨(256 : BitVec 57).toNat, [(1 : EngineNo).val, (2 : EngineNo).val], some 0, none⟩] := by decide
theorem witness_group : bit (engOf (lighting eng0 {} {}) 0).grpFail.toNat 8 = false ∧
    (engOf (lighting { eng0 with spareFor := 2, icSub := true } {} {}) 0).icSub = true ∧
    bit (engOf (lighting { eng0 with spareFor := 2, icSub := true } {} {}) 0).grpFail.toNat (2 : Fin 9).val = false := by decide
theorem witness_monitor : (256 * (3 : Fin 17).val + (71 : Fin 81).val) ∈ monKeys := by decide
theorem witness_switch_window : (engOf (lighting { eng0 with icActive := true, icSwitch := true } {} {}) 0).icActive = true ∧
    (engOf (lighting { eng0 with icActive := true, icSwitch := true } {} {}) 0).icSwitch = true ∧
    (fibOf (lighting { eng0 with icActive := true, icItem := 9 } fib0 {}) (8 * 0 + (9 - 9))).lit = true := by decide
theorem witness_sampled : (inputBelow (inputsSampled 0 (List.replicate 8 0) [] (faded eng0)) 0 false (fadeA (faded eng0))) = false ∧
    inputBelow (inputsSampled 0 bright [] (based eng0)) 0 false (fadeA (based eng0)) = true ∧
    inputBelow (inputsSampled 0 [] (List.replicate 8 0) (faded { eng0 with reqP := false, reqS := true, lightS := true })) 0 true
      (fadeB (faded { eng0 with reqP := false, reqS := true, lightS := true })) = false := by decide
theorem witness_trip_to_other : inputBelow (based { eng0 with reqS := true, lightS := true }) 0
      (!(engOf (based { eng0 with reqS := true, lightS := true }) 0).sel) (fadeC (based eng0)) = true ∧
    inputBelow (based eng0) 0 (!(engOf (based eng0) 0).sel) (fadeC (based eng0)) = false ∧ (engOf (based eng0) 0).noInput = false := by
  decide
/-- A planned switchover whose window is open. -/
def plannedNow : State := based { eng0 with reqS := true, lightS := true, switchPend := true, icActive := true, icSwitch := true }
theorem witness_planned_window : (engOf plannedNow 0).icActive = true ∧ (engOf plannedNow 0).icSwitch = true ∧
    (engOf plannedNow 0).switchPend = true ∧ inputBelow plannedNow 0 (!(engOf plannedNow 0).sel) (fadeC plannedNow) = true := by decide
/-- The same without a window, with a Calend 1 s after the crossing. -/
def plannedLate : State := { based { eng0 with reqS := true, lightS := true, switchPend := true } with frames := { k := 13, calDue := 200000 } }
theorem witness_planned_late : (engOf plannedLate 0).pendSince + 1000000000 ≤ lastCalend plannedLate ∧
    inputBelow plannedLate 0 (!(engOf plannedLate 0).sel) (fadeC plannedLate) = true := by decide
theorem witness_releases : inputBelow (based { eng0 with reqS := true, lightS := true }) 0 true (fadeB (based eng0)) = true ∧
    inputBelow (based { eng0 with sel := true, reqS := true, lightS := true }) 0
      (!(engOf (based { eng0 with sel := true, reqS := true, lightS := true }) 0).sel) (fadeA (based eng0)) = true ∧
    inputBelow (based eng0) 0 (!(engOf (based eng0) 0).sel) (fadeA (based eng0)) = false ∧ MakerWrites (based eng0) ask :=
  ⟨by decide, by decide, by decide, by decide, by decide, by decide, by decide⟩
theorem witness_trains : trains (pairOf (linked { pair0 with training := true }) (0 : PairNo).val) = true ∧
    trains (pairOf (linkedAll pair0) 0) = false ∧ carried (linkedAll pair0) 0 = false ∧ phaseCopies 0 (linkedAll pair0) = none := by decide
theorem witness_turns : (turn 0 (linkedAll { pairQueued with ackDue := true })).isSome = true ∧
    (turn 0 (linkedAll { pair0 with ackDue := true })).isNone = true ∧
    txUp (linkedAll { pair0 with level := 2, ackDue := true }) 0 = true ∧
    (turn 0 (linkedAll { pair0 with level := 2, ackDue := true })).isNone = true := by decide
theorem witness_payload : strayPayload (0 : Fin 6).val (.packet load1) (linked pair0) = none := by decide
theorem witness_bad_ledger : (pairOf (linked pair0) 0).latched = false ∧ (ledger0 0).phaseId = 0 ∧
    ({ ledger0 0 with epoch := 7 } : LedgerBody).epoch ≠ (pairOf (linked pair0) 0).epoch ∧
    (pairOf (linked { pairSent 1 with u := 6 }) 0).resend ≠ 0 := by decide
/-- A split of engine 0 that has sent two flits to member 0, of which one is acknowledged. -/
def split0 : Split :=
  { engine := 0, group := 0, phaseId := 9, members := [0], lit := [0], base := 0, buf := [], acked := [(0, 1)], sent := [(0, 2)]
    queue := [], ledgerDue := none, ended := false }
theorem witness_phase_timers : (pairOf (linked { pair0 with nakPhase := some (9, 2), rxPhase := [(9, 2)] }) (0 : PairNo).val).nakPhase =
      some (9, 2) ∧ mget 0 (pairOf (linked { pair0 with nakPhase := some (9, 2), rxPhase := [(9, 2)] }) 0).rxPhase 9 = 2 ∧
    phaseAhead { linkedAll pair0 with links := { (linkedAll pair0).links with splits := [split0] } } (0 : PairNo).val = true ∧
    split0.members.contains (0 : PairNo).val = true ∧ mget 0 split0.acked 0 ≠ 0 := by decide
theorem witness_retrain : (pairOf (linked pair0) (0 : PairNo).val).training = false ∧ (pairOf (linked pair0) (0 : PairNo).val).level ≠ 0 ∧
    (pairOf (linked pair0) (0 : PairNo).val).needResume = false ∧ (pairOf (linked pair0) (0 : PairNo).val).levelPark = false ∧
    (fibOf (linked pair0) (0 : PairNo).val).locked = true ∧ (pairOf (linked (pairTraining 2)) (0 : PairNo).val).trainGood < 3 ∧
    (pairOf (linked (pairTraining 1)) (0 : PairNo).val).trainFails < 2 ∧ 2 ≤ (pairOf (linked (pairTraining 2)) (0 : PairNo).val).trainFails ∧
    (pairOf (linked { pairSent 0 with needResume := true }) (0 : PairNo).val).needResume = true := by decide
theorem witness_slice_disagrees : (linked pair0).frames.refuse = none ∧
    ({ linked pair0 with frames := { refuse := some 0x7004 } } : State).frames.refuse = some 0x7004 := by decide
theorem witness_packet_ready : lineTurn net false (gaLocal (0x8000 : U64).toNat / 128) {} none = true ∧
    capacity net ≥ gaLocal (0x8000 : U64).toNat + 4 ∧ (linesOf (gaLocal (0x8000 : U64).toNat) 4).all (fun l => !poisoned net l) = true := by
  decide
/-- A Transfer descriptor at 0x2000: 64 bytes from 0x8000 of coordinate `a` to 0x8000 of coordinate `b`. -/
def wayCells (a b : Byte) : List Host.Cell :=
  [(8195, 12), (8201, 0x80), (8206, a), (8209, 0x80), (8214, b), (8216, 64), (8220, 1)]
/-- What the clauses on a Transfer's way ask of it: free, to `dst` from `src`, with the rights of a pull so. -/
def wayIs (s : State) (dst src : Nat) (pull : Bool) : Bool :=
  ((issuable s 0 5).map (fun e => let d := xferDesc (descBytes s e 64)
    xferFree s (ownAccess 0 d.prio []) d && !d.phase && decide (gaKey d.dst = dst) && decide (gaKey d.src = src) &&
      decide (xferRights s d true (gaKey d.src) = pull) && xferRights s d false (ownKey s) && decide (1 ≤ xferPieces d))).getD false
theorem witness_ways : wayIs (sending 5 (wayCells 4 0) 0x10102) 0 1 true = true ∧
    wayIs (sending 5 (wayCells 0 0) 0x10102) 0 0 true = true ∧ wayIs (sending 5 (wayCells 4 0) 0x10101) 0 1 false = true ∧
    ownKey (sending 5 (wayCells 4 0) 0x10102) = 0 := by decide
theorem witness_window_reads : linesReady (hosted page0) false [] (0x100 : BitVec 34).toNat (8 : BitVec 13).toNat = true ∧
    fillReady (hosted page0) false [] (0x100 : BitVec 34).toNat 8 = true ∧
    fillReady (hosted page0) false [] (0x1FFFFF : BitVec 34).toNat 2 = true ∧ mwf {} (hosted page0).host.rings = true := by decide
theorem witness_window_waits : linesReady { queueing with host := page0 } false [(256, { cache := .missed })]
    (0x8000 : BitVec 34).toNat (8 : BitVec 13).toNat = false := by decide
theorem witness_cq : (ringOf (ringAs ring16 []) (0 : Fin 32).val).idle = false ∧
    (ringOf (ringAs { ring16 with idle := true } []) (0 : Fin 32).val).idle = true ∧
    (3 : U32).toNat < 2 ^ (ringOf (ringAs ring16 []) (0 : Fin 32).val).cqLog ∧ (ringOf (ringAs ring16 []) (0 : Fin 32).val).held = [] := by
  decide
theorem witness_transfer_ready : fillReady (ringAs ring16 [xin8 []]) false [] (0 + (5 : BitVec 35).toNat) ([1, 2] : List Byte).length = true ∧
    linesReady (ringAs ring16 [xout8 []]) false [] (0 + (5 : BitVec 35).toNat) ([1, 2] : List Byte).length = true ∧
    (linesOf (0 + (5 : BitVec 35).toNat) 2).all (fun l => !poisoned (ringAs ring16 [xout8 []]) l) = true ∧
    (Machine.pagesOf (0 + (5 : BitVec 35).toNat) 2).all (fun p => !pageGone (ringAs ring16 [xout8 []]) p) = true := by decide
theorem witness_tile_map : mwf {} (runs baseRun { st := 3, resetDue := true }).tiles = true := by decide

/-! ## Worked examples of the spec -/

/-- 07, the example after R243: the parts of address 0x3_8C61_2A40. -/
theorem test_store_address : storeDie 0x38C612A40 = 4 ∧ storeChan 0x38C612A40 = 309 ∧ storeBank 0x38C612A40 = 3 ∧
    storeLineInBank 0x38C612A40 = 6338 ∧ storeSegNo 0x38C612A40 = 1236 := by decide
/-- 09, R324: the check value of CRC-32C over "123456789". -/
theorem test_crc32c : crc32c [0x31, 0x32, 0x33, 0x34, 0x35, 0x36, 0x37, 0x38, 0x39] = 0xE3069283 := by decide +kernel
/-- 03, the example of an E4M3 block: the element 0x7C is 384, and 499.2 saturates to 0x7E with `SATURATED`. -/
theorem test_e4m3 : decodeVal 4 0x7C = .fin false 12 5 ∧ (convert 4 0 true (.fin false 397 0) (0, [])).1 = 0x7C ∧
    (convert 4 0 true (.fin false 499 0) (0, [])).1 = 0x7E ∧ (convert 4 0 true (.fin false 499 0) (0, [])).2.1 = fSaturated := by decide
/-- 01, the example of a half-width bundle: lanes 3, 17, 40, 41 and 66 are bad. -/
theorem test_lanes : (goodLanes (BitVec.ofNat 68 (2 ^ 3 + 2 ^ 17 + 2 ^ 40 + 2 ^ 41 + 2 ^ 66))).length = 63 := by decide
/-- 10, the example of a remote load: its global address, its slot and its first hop. -/
theorem test_route : mkKey 1 29 22 = 5865 ∧ gaMake 5865 0 0x38C612A40 = 0x5BA400038C612A40 ∧ slotHash 0x38C612A40 = 3 ∧
    nextDir { ruled with fabric := { coord := some (BitVec.ofNat 14 (mkKey 6 3 20)), origin := BitVec.ofNat 14 (mkKey 0 0 16)
                                     size := 0x082008, egress := 0x7FF } } 5865 = some 4 := by decide
/-- 09, the example of a succession: the rank of key 8,060 after root 8,059. -/
theorem test_rank : mkKey 3 15 31 = 8059 ∧ rankOf 8059 8060 = 1 := by decide
/-- 13, the example of a write to `FADE_A`: its message is well-formed, and 20 is accepted where 35 is not. -/
theorem test_fade_write : (parseMessage .i3cA [0x7E, 0x1F, 0x4B, 1, 2, 0, 0x2A, 0, 3, 0, 0, 0, 1, 0x30, 1, 0, 0, 0, 0, 0, 1, 0, 0, 0, 0x14]).q =
      { via := .i3cA, tag := 0x2A, session := 3, bad := false } ∧
    (parseMessage .i3cA [0x7E, 0x1F, 0x4B, 1, 2, 0, 0x2A, 0, 3, 0, 0, 0, 1, 0x30, 1, 0, 0, 0, 0, 0, 1, 0, 0, 0, 0x14]).data = [20] := by decide

/-! ## Well-formedness: one ill-formed command for each check -/

theorem test_wf_fingerprint : (Instr.beginSession ask 3 [1]).illFormed = some .fingerprintLength := by decide
theorem test_wf_proof : (Instr.prove ask [1] []).illFormed = some .proofLength := by decide
theorem test_wf_nonce : (Instr.attest ask []).illFormed = some .nonceLength := by decide
theorem test_wf_key : (Instr.keyEnrolment ask true 1 [1]).illFormed = some .keyLength := by decide
theorem test_wf_diodes : (Instr.diodeSample [1]).illFormed = some .diodeCount := by decide
theorem test_wf_converters : (Instr.converterStatusRead []).illFormed = some .converterCount := by decide
theorem test_wf_laser : (Instr.laserSample 0 [1] []).illFormed = some .laserLines := by decide
theorem test_wf_block : (Instr.onchipBlockReceive 0 0 none [1] 0).illFormed = some .blockLength := by decide
theorem test_wf_codeword : (Instr.codewordReceive 0 [[1]]).illFormed = some .codewordLines := by decide
theorem test_wf_marker : (Instr.markerCodeword 0 { goodMarker with words := [] }).illFormed = some .markerWords ∧
    (Instr.markerCodeword 0 goodMarker).wf = true := by decide
theorem test_wf_host : (Instr.hostRead 0 0 []).illFormed = some .hostAccess ∧ (Instr.hostWrite 0 [1] [] []).illFormed = some .hostAccess := by
  decide
theorem test_wf_entry : (Instr.sqDoorbell 0 1 [{ bytes := [1], message := [] }]).illFormed = some .entryLength := by decide
theorem test_wf_link : (Instr.pcieLinkUp 2 16).illFormed = some .linkRate ∧ (Instr.pcieLinkUp 6 3).illFormed = some .linkRate := by decide
theorem test_wf_register : (Instr.registerWrite false 4 0 true).illFormed = some .registerAlignment := by decide
theorem test_wf_endpoint : (Instr.setEndpointId .mgmt 9).illFormed = some .notAnEndpoint := by decide
theorem test_wf_counts : (Instr.creditFlit (hdr0 0 0) [1]).illFormed = some .countsLength ∧
    (Instr.resumeFlit 0 [1]).illFormed = some .countsLength := by decide
theorem test_wf_good : (Instr.calend).wf = true ∧ (Instr.pcieLinkUp 6 16).wf = true ∧ (Instr.hostRead 0 8 []).wf = true := by decide
/-- No word spells a command: the command table gives no row any bits. -/
theorem test_no_word : decodeTableWord 16 0x1234 = none ∧ State.reset.withFetchWord 16 0x1234 = State.reset := ⟨rfl, rfl⟩

end Sys2Proof.Tests
end

/-!
PROOF. The frames of the commands: what a set of parts contains, and that each command completes within the set of parts of its
`mayChange`, with what `Acts` says of the operations it is made of.
-/

namespace Sys2Proof.Laws

open Machine

/-! ### Membership in a set of parts -/

/-- A part's number is its place in the list of all parts. -/
theorem everyPart_getElem?_index (p : Part) : everyPart[Part.index p]? = some p := by
  cases p <;> rfl

theorem Part.index_injective : Function.Injective Part.index := fun p q h => by
  have hq : everyPart[Part.index p]? = some q := h ▸ everyPart_getElem?_index q
  exact Option.some.inj ((everyPart_getElem?_index p).symm.trans hq)

/-- The bits that the fold of `Part.set` adds to a number are those of the list's parts. -/
theorem testBit_foldl_index (l : List Part) (a i : Nat) :
    (l.foldl (fun b p => b ||| 2 ^ Part.index p) a).testBit i = true ↔ a.testBit i = true ∨ ∃ p ∈ l, Part.index p = i := by
  induction l generalizing a with
  | nil => simp
  | cons p l ih => simp [ih, Nat.testBit_two_pow, or_assoc]

theorem testBit_set_index {l : List Part} {p : Part} : (Part.set l).testBit (Part.index p) = true ↔ p ∈ l := by
  simp [Part.set, testBit_foldl_index, Part.index_injective.eq_iff]

/-- What the set of a list does not hold stays the same. -/
theorem Acts.same_of_notMem {l : List Part} {s t : State} (h : Acts (Part.set l) s t) {p : Part} (hp : p ∉ l) :
    p.same s t :=
  (h.frame.part p).resolve_left (mt testBit_set_index.mp hp)

/-! ### Every command completes within its frame -/

/-- The command answers a next state, within the set of the parts that it may change. -/
def CompletesInFrame (c : Instr) (s : State) : Prop := ∃ t, exec c s = .next t ∧ Acts (Part.set c.mayChange) s t

/-- A command that answers a next state completes within its frame when the set `m` of the lemma about its meaning is the set of
its `mayChange`. -/
theorem CompletesInFrame.of_acts {c : Instr} {s t : State} {m : Nat} (e : exec c s = .next t)
    (acts : Sub m (Part.set c.mayChange) → exec c s = .next t → Acts (Part.set c.mayChange) s t)
    (hm : Part.set c.mayChange = m := by rfl) : CompletesInFrame c s :=
  ⟨t, e, acts (hm ▸ Sub.refl _) e⟩

open CompletesInFrame in
/-- One arm for each command, in the order of the dispatch: its meaning answers a next state, by the lemma about it. -/
theorem exec_completesInFrame (c : Instr) (s : State) : CompletesInFrame c s :=
  match c with
  | .vigilPresent _ => of_acts rfl execVigilPresent_acts
  | .coldReset _ => of_acts rfl execColdReset_acts
  | .mainRailsStart _ => of_acts rfl execMainRailsStart_acts
  | .undervoltageLockout => of_acts rfl execUndervoltageLockout_acts
  | .overVoltageTrip => of_acts rfl execOverVoltageTrip_acts
  | .inputOutOfRange => of_acts rfl execInputOutOfRange_acts
  | .perstNLow => of_acts rfl execPerstNLow_acts
  | .refclkFault => of_acts rfl execRefclkFault_acts
  | .boot _ => of_acts rfl execBoot_acts
  | .discovery _ => of_acts rfl execDiscovery_acts
  | .dieAnnounce _ _ => of_acts rfl execDieAnnounce_acts
  | .dieAnnounceTimeout _ => of_acts rfl execDieAnnounceTimeout_acts
  | .storeSelfTest _ _ _ _ => of_acts rfl execStoreSelfTest_acts
  | .opticsBringUp _ _ => of_acts rfl execOpticsBringUp_acts
  | .engineInputRecheck _ _ => of_acts rfl execEngineInputRecheck_acts
  | .rxLightAppear _ _ => of_acts rfl execRxLightAppear_acts
  | .readyReport => of_acts rfl execReadyReport_acts
  | .calend => of_acts rfl execCalend_acts
  | .outcomeFixed => of_acts rfl execOutcomeFixed_acts
  | .pass _ _ => of_acts rfl execPass_acts
  | .stream _ => of_acts rfl execStream_acts
  | .procession _ => of_acts rfl execProcession_acts
  | .masqueRun _ => of_acts rfl execMasqueRun_acts
  | .lanternOp _ => of_acts rfl execLanternOp_acts
  | .transfer _ _ => of_acts rfl execTransfer_acts
  | .fence _ => of_acts rfl execFence_acts
  | .release _ _ => of_acts rfl execRelease_acts
  | .acquire _ _ => of_acts rfl execAcquire_acts
  | .wait _ => of_acts rfl execWait_acts
  | .waitComplete _ _ => of_acts rfl execWaitComplete_acts
  | .tallyCheck _ _ _ _ _ => of_acts rfl execTallyCheck_acts
  | .arrayParityError _ _ => of_acts rfl execArrayParityError_acts
  | .passCommit _ _ => of_acts rfl execPassCommit_acts
  | .tileClockChange _ => of_acts rfl execTileClockChange_acts
  | .projectionEval _ => of_acts rfl execProjectionEval_acts
  | .overrunNotice _ _ => of_acts rfl execOverrunNotice_acts
  | .haltNotice _ _ => of_acts rfl execHaltNotice_acts
  | .abortNotice _ _ => of_acts rfl execAbortNotice_acts
  | .marshalHalted _ => of_acts rfl execMarshalHalted_acts
  | .launch _ _ _ => of_acts rfl execLaunch_acts
  | .validationComplete => of_acts rfl execValidationComplete_acts
  | .streamComplete _ _ => of_acts rfl execStreamComplete_acts
  | .heraldRequest _ _ _ _ => of_acts rfl execHeraldRequest_acts
  | .heraldLineReturn _ => of_acts rfl execHeraldLineReturn_acts
  | .vectorRunComplete _ => of_acts rfl execVectorRunComplete_acts
  | .vmodeReloadDone _ => of_acts rfl execVmodeReloadDone_acts
  | .vectorEccError _ _ => of_acts rfl execVectorEccError_acts
  | .vectorRunStop _ _ => of_acts rfl execVectorRunStop_acts
  | .lanternOpComplete _ _ _ _ => of_acts rfl execLanternOpComplete_acts
  | .ledgerFetch _ _ => of_acts rfl execLedgerFetch_acts
  | .homeSliceLoad _ _ => of_acts rfl execHomeSliceLoad_acts
  | .homeSliceStore _ _ => of_acts rfl execHomeSliceStore_acts
  | .homeSliceAtomic _ _ => of_acts rfl execHomeSliceAtomic_acts
  | .farInvalidateAck _ _ => of_acts rfl execFarInvalidateAck_acts
  | .rowCopyDone _ _ => of_acts rfl execRowCopyDone_acts
  | .scrub _ _ => of_acts rfl execScrub_acts
  | .onchipBlockReceive _ _ _ _ _ => of_acts rfl execOnchipBlockReceive_acts
  | .bundleBlockReceive _ _ _ _ _ _ => of_acts rfl execBundleBlockReceive_acts
  | .segmentMigrationDone => of_acts rfl execSegmentMigrationDone_acts
  | .codewordReceive _ _ => of_acts rfl execCodewordReceive_acts
  | .markerCodeword _ _ => of_acts rfl execMarkerCodeword_acts
  | .preFecWindow _ => of_acts rfl execPreFecWindow_acts
  | .laserSample _ _ _ => of_acts rfl execLaserSample_acts
  | .laserLightTimeout _ _ => of_acts rfl execLaserLightTimeout_acts
  | .laserFadeTrip _ => of_acts rfl execLaserFadeTrip_acts
  | .plannedSwitchover _ => of_acts rfl execPlannedSwitchover_acts
  | .switchoverComplete _ _ => of_acts rfl execSwitchoverComplete_acts
  | .ringLockAttempt _ _ _ _ => of_acts rfl execRingLockAttempt_acts
  | .groupFault _ _ => of_acts rfl execGroupFault_acts
  | .meshChangeDone _ => of_acts rfl execMeshChangeDone_acts
  | .trimmerUpdate _ _ _ => of_acts rfl execTrimmerUpdate_acts
  | .intercalaryWindowEnd _ _ _ _ => of_acts rfl execIntercalaryWindowEnd_acts
  | .engineLost _ => of_acts rfl execEngineLost_acts
  | .rxLightLoss _ => of_acts rfl execRxLightLoss_acts
  | .flitSend _ => of_acts rfl execFlitSend_acts
  | .flitCrcFailure _ => of_acts rfl execFlitCrcFailure_acts
  | .idleFlit _ => of_acts rfl execIdleFlit_acts
  | .dataFlit _ _ _ => of_acts rfl execDataFlit_acts
  | .creditFlit _ _ => of_acts rfl execCreditFlit_acts
  | .ledgerFlit _ _ => of_acts rfl execLedgerFlit_acts
  | .nakFlit _ => of_acts rfl execNakFlit_acts
  | .nakRepeat _ _ => of_acts rfl execNakRepeat_acts
  | .replayTimeout _ _ => of_acts rfl execReplayTimeout_acts
  | .creditFlitDue _ => of_acts rfl execCreditFlitDue_acts
  | .phaseFlit _ _ _ _ => of_acts rfl execPhaseFlit_acts
  | .trainFlit _ _ => of_acts rfl execTrainFlit_acts
  | .resumeFlit _ _ => of_acts rfl execResumeFlit_acts
  | .withdrawalNotice _ _ => of_acts rfl execWithdrawalNotice_acts
  | .returnNotice _ _ => of_acts rfl execReturnNotice_acts
  | .intercalaryNotice _ _ => of_acts rfl execIntercalaryNotice_acts
  | .timeRequestTick => of_acts rfl execTimeRequestTick_acts
  | .timeRequest _ _ _ _ => of_acts rfl execTimeRequest_acts
  | .timeResponse _ _ _ => of_acts rfl execTimeResponse_acts
  | .beaconTick => of_acts rfl execBeaconTick_acts
  | .beacon _ _ => of_acts rfl execBeacon_acts
  | .claim _ _ => of_acts rfl execClaim_acts
  | .rootClaim => of_acts rfl execRootClaim_acts
  | .holdoverEntry => of_acts rfl execHoldoverEntry_acts
  | .holdoverTimeout => of_acts rfl execHoldoverTimeout_acts
  | .sliceRecord _ _ => of_acts rfl execSliceRecord_acts
  | .loadPacket _ _ _ => of_acts rfl execLoadPacket_acts
  | .storePacket _ _ _ => of_acts rfl execStorePacket_acts
  | .atomicPacket _ _ _ => of_acts rfl execAtomicPacket_acts
  | .loadData _ _ => of_acts rfl execLoadData_acts
  | .writeAcknowledgement _ _ => of_acts rfl execWriteAcknowledgement_acts
  | .atomicData _ _ => of_acts rfl execAtomicData_acts
  | .transferData _ _ _ => of_acts rfl execTransferData_acts
  | .transferRead _ _ _ => of_acts rfl execTransferRead_acts
  | .transferReadData _ _ _ => of_acts rfl execTransferReadData_acts
  | .pieceAcknowledgement _ _ => of_acts rfl execPieceAcknowledgement_acts
  | .undeliverable _ _ => of_acts rfl execUndeliverable_acts
  | .releasePacket _ _ => of_acts rfl execReleasePacket_acts
  | .releaseAcknowledgement _ _ => of_acts rfl execReleaseAcknowledgement_acts
  | .transferComplete _ _ => of_acts rfl execTransferComplete_acts
  | .fenceComplete _ _ => of_acts rfl execFenceComplete_acts
  | .deadTargetTimeout _ => of_acts rfl execDeadTargetTimeout_acts
  | .haltRequestResolve => of_acts rfl execHaltRequestResolve_acts
  | .mirrorWrite _ _ _ _ _ _ => of_acts rfl execMirrorWrite_acts
  | .sealMarker _ _ => of_acts rfl execSealMarker_acts
  | .sealCommit => of_acts rfl execSealCommit_acts
  | .sealAcknowledgement _ _ => of_acts rfl execSealAcknowledgement_acts
  | .pairingRecord _ _ => of_acts rfl execPairingRecord_acts
  | .rebuildSend => of_acts rfl execRebuildSend_acts
  | .rebuildData _ _ _ _ _ _ => of_acts rfl execRebuildData_acts
  | .pageAcknowledgement _ _ _ => of_acts rfl execPageAcknowledgement_acts
  | .departureNotice _ n => of_acts rfl (execDepartureNotice_acts (a1 := n))
  | .unpairReleaseNotice _ n => of_acts rfl (execUnpairReleaseNotice_acts (a1 := n))
  | .unpairKeepNotice _ _ => of_acts rfl execUnpairKeepNotice_acts
  | .partnerLossTimeout => of_acts rfl execPartnerLossTimeout_acts
  | .pcieLinkDown => of_acts rfl execPcieLinkDown_acts
  | .pcieLinkUp _ _ => of_acts rfl execPcieLinkUp_acts
  | .functionLevelReset => of_acts rfl execFunctionLevelReset_acts
  | .pcieCorrectableError => of_acts rfl execPcieCorrectableError_acts
  | .hostRead _ _ _ => of_acts rfl execHostRead_acts
  | .hostWrite _ _ _ _ => of_acts rfl execHostWrite_acts
  | .unstableReadClear _ _ => of_acts rfl execUnstableReadClear_acts
  | .registerWrite _ _ _ _ => of_acts rfl execRegisterWrite_acts
  | .ringEnable _ _ => of_acts rfl execRingEnable_acts
  | .ringDisable _ _ => of_acts rfl execRingDisable_acts
  | .ringIdle _ => of_acts rfl execRingIdle_acts
  | .sqDoorbell _ _ _ => of_acts rfl execSqDoorbell_acts
  | .cqDoorbell _ _ => of_acts rfl execCqDoorbell_acts
  | .transferIn _ _ _ _ _ => of_acts rfl execTransferIn_acts
  | .transferOut _ _ _ _ _ => of_acts rfl execTransferOut_acts
  | .hostTransferComplete _ => of_acts rfl execHostTransferComplete_acts
  | .hostMemoryTimeout _ _ _ _ => of_acts rfl execHostMemoryTimeout_acts
  | .ownGive _ _ _ => of_acts rfl execOwnGive_acts
  | .ownTake _ _ _ => of_acts rfl execOwnTake_acts
  | .abortCommand _ _ => of_acts rfl execAbortCommand_acts
  | .abortEvaluate _ => of_acts rfl execAbortEvaluate_acts
  | .mgmt _ reqAddr _ _ _ _ => of_acts rfl (execMgmt_acts (a1 := reqAddr))
  | .msixCoalesceTimer _ => of_acts rfl execMsixCoalesceTimer_acts
  | .setEndpointId _ _ => of_acts rfl execSetEndpointId_acts
  | .getEndpointId _ => of_acts rfl execGetEndpointId_acts
  | .getMctpVersionSupport _ _ => of_acts rfl execGetMctpVersionSupport_acts
  | .getMessageTypeSupport _ => of_acts rfl execGetMessageTypeSupport_acts
  | .getVendorDefinedMessageSupport _ _ => of_acts rfl execGetVendorDefinedMessageSupport_acts
  | .entdaa _ _ => of_acts rfl execEntdaa_acts
  | .setdasa _ _ _ => of_acts rfl execSetdasa_acts
  | .readEntry _ _ _ _ _ _ => of_acts rfl execReadEntry_acts
  | .writeEntry _ _ _ _ _ => of_acts rfl execWriteEntry_acts
  | .infoEntry _ _ _ => of_acts rfl execInfoEntry_acts
  | .listEntries _ _ => of_acts rfl execListEntries_acts
  | .eventRead _ _ => of_acts rfl execEventRead_acts
  | .beginSession _ _ _ => of_acts rfl execBeginSession_acts
  | .prove _ _ _ => of_acts rfl execProve_acts
  | .endSession _ => of_acts rfl execEndSession_acts
  | .attest _ _ => of_acts rfl execAttest_acts
  | .sessionIdleTimeout _ => of_acts rfl execSessionIdleTimeout_acts
  | .provisionalSessionExpiry _ => of_acts rfl execProvisionalSessionExpiry_acts
  | .lockoutEnd _ => of_acts rfl execLockoutEnd_acts
  | .mirrorRefresh => of_acts rfl execMirrorRefresh_acts
  | .queryDeviceIdentifiers _ => of_acts rfl execQueryDeviceIdentifiers_acts
  | .getFirmwareParameters _ => of_acts rfl execGetFirmwareParameters_acts
  | .getStatus _ => of_acts rfl execGetStatus_acts
  | .requestUpdate _ => of_acts rfl execRequestUpdate_acts
  | .passComponentTable _ _ => of_acts rfl execPassComponentTable_acts
  | .updateComponent _ _ _ => of_acts rfl execUpdateComponent_acts
  | .requestFirmwareData _ _ => of_acts rfl execRequestFirmwareData_acts
  | .activateFirmware _ => of_acts rfl execActivateFirmware_acts
  | .cancelUpdateComponent _ => of_acts rfl execCancelUpdateComponent_acts
  | .cancelUpdate _ => of_acts rfl execCancelUpdate_acts
  | .fwUpdateTimeout => of_acts rfl execFwUpdateTimeout_acts
  | .mcLive => of_acts rfl execMcLive_acts
  | .liveActivationRevert => of_acts rfl execLiveActivationRevert_acts
  | .laneMapCommit _ _ => of_acts rfl execLaneMapCommit_acts
  | .retireClear _ _ => of_acts rfl execRetireClear_acts
  | .commission _ _ => of_acts rfl execCommission_acts
  | .laserReturn _ _ => of_acts rfl execLaserReturn_acts
  | .laserRelease _ _ => of_acts rfl execLaserRelease_acts
  | .laserRestore _ _ => of_acts rfl execLaserRestore_acts
  | .fibrePark _ _ => of_acts rfl execFibrePark_acts
  | .fibreUnpark _ _ => of_acts rfl execFibreUnpark_acts
  | .almanacSet _ _ => of_acts rfl execAlmanacSet_acts
  | .coordWrite _ _ => of_acts rfl execCoordWrite_acts
  | .tileClock _ _ => of_acts rfl execTileClock_acts
  | .currentLimit _ _ => of_acts rfl execCurrentLimit_acts
  | .unpairRelease _ => of_acts rfl execUnpairRelease_acts
  | .unpairKeep _ => of_acts rfl execUnpairKeep_acts
  | .lostClear _ _ => of_acts rfl execLostClear_acts
  | .fwActivate _ _ => of_acts rfl execFwActivate_acts
  | .keyEnrolment _ _ _ _ => of_acts rfl execKeyEnrolment_acts
  | .certFloor _ _ => of_acts rfl execCertFloor_acts
  | .powerTargetStandby _ => of_acts rfl execPowerTargetStandby_acts
  | .powerTargetReady _ => of_acts rfl execPowerTargetReady_acts
  | .seasonReset _ _ => of_acts rfl execSeasonReset_acts
  | .warmReset _ _ => of_acts rfl execWarmReset_acts
  | .tileReset _ _ => of_acts rfl execTileReset_acts
  | .probationWrite _ _ => of_acts rfl execProbationWrite_acts
  | .governorTick _ _ => of_acts rfl execGovernorTick_acts
  | .overCurrentStretch => of_acts rfl execOverCurrentStretch_acts
  | .stretchRelease => of_acts rfl execStretchRelease_acts
  | .overCurrentTrip => of_acts rfl execOverCurrentTrip_acts
  | .diodeSample _ => of_acts rfl execDiodeSample_acts
  | .shutdownDeadline => of_acts rfl execShutdownDeadline_acts
  | .throttleStepUp => of_acts rfl execThrottleStepUp_acts
  | .throttleStepDown => of_acts rfl execThrottleStepDown_acts
  | .converterStatusRead _ => of_acts rfl execConverterStatusRead_acts
  | .nvRecordWrite => of_acts rfl execNvRecordWrite_acts
  | .manifestCommit _ => of_acts rfl execManifestCommit_acts
  | .mcWatchdog => of_acts rfl execMcWatchdog_acts
  | .marshalWatchdog _ => of_acts rfl execMarshalWatchdog_acts
  | .vigilWatchdog => of_acts rfl execVigilWatchdog_acts
  | .reckoningUpdate => of_acts rfl execReckoningUpdate_acts
  | .probationCountdown => of_acts rfl execProbationCountdown_acts
  | .penaltySave => of_acts rfl execPenaltySave_acts
  | .trainingFailed _ => of_acts rfl execTrainingFailed_acts
  | .perstNRelease => of_acts rfl execPerstNRelease_acts
  | .configurationRequest => of_acts rfl execConfigurationRequest_acts
  | .hostMemoryCompletion _ _ _ _ _ => of_acts rfl execHostMemoryCompletion_acts
  | .inBandInterruptAcknowledge _ => of_acts rfl execInBandInterruptAcknowledge_acts
  | .inBandInterruptEnable _ _ => of_acts rfl execInBandInterruptEnable_acts

/-- Settles O59: each command answers a next state within its frame, by one lemma for each meaning of the dispatch; the parts outside
the frame are the same by `Acts.frame`, and the queue, the grade and the factory's array map by `Acts.keeps`. -/
theorem everyCommandCompletesWithinItsFrame : Obligations.EveryCommandCompletesWithinItsFrame := by
  intro c s
  obtain ⟨t, completes, acts⟩ := exec_completesInFrame c s
  exact ⟨t, completes, acts.keeps.pending, acts.keeps.grade, acts.keeps.factory, fun _ hp => acts.same_of_notMem hp⟩

end Sys2Proof.Laws

/-!
PROOF. What a fault counts (R531, R532): its own count, the counts that its bookkeeping advances beside it, and the counts that
stay. The lemma of an operation says that what a run has counted so far is still all that it has counted.
-/

namespace Sys2Proof.Laws

open Machine

/-- The faults that the bookkeeping of another fault may bring: a completion ring that is full (R435), a journal record that waits
(R500) and one that is lost (R501). -/
def sideCodes : List Nat := [0x8022, 0x9040, 0x9042]

/-- The counters that this bookkeeping advances: of records logged (R531), of rings found full (R435), of records lost (R501). -/
def sideKeys : List Nat := [0x800001, 0x110107, 0x200404]

/-- No Corrected fault is counted and, beside the bookkeeping's own, no other fault outside `codes` and no counter outside
`keys`. -/
structure CountsOnly (codes keys : List Nat) (s t : State) : Prop where
  evt : ∀ c, c ∉ sideCodes → c ∉ codes → faultCount t c = faultCount s c
  corr : t.health.corr = s.health.corr
  cnt : ∀ k, k ∉ sideKeys → k ∉ keys → cntOf t k = cntOf s k

section

variable {codes keys : List Nat} {s x y : State}

namespace CountsOnly

theorem refl (s : State) : CountsOnly codes keys s s := ⟨fun _ _ _ => rfl, rfl, fun _ _ _ => rfl⟩

theorem trans (h : CountsOnly codes keys s x) (k : CountsOnly codes keys x y) : CountsOnly codes keys s y :=
  ⟨fun c hs hc => (k.evt c hs hc).trans (h.evt c hs hc), k.corr.trans h.corr,
    fun c hs hc => (k.cnt c hs hc).trans (h.cnt c hs hc)⟩

/-- A change outside the counts. -/
theorem upd (h : CountsOnly codes keys s x) (hevt : y.health.evt = x.health.evt) (hcorr : y.health.corr = x.health.corr)
    (hcnt : y.health.cnt = x.health.cnt) : CountsOnly codes keys s y :=
  h.trans ⟨fun c _ _ => by rw [faultCount, faultCount, hevt], hcorr, fun k _ _ => by rw [cntOf, cntOf, hcnt]⟩

/-- An operation whose set of parts leaves the fault log out counts nothing. -/
theorem acts {L : Nat} (a : Acts L x y) (h : CountsOnly codes keys s x) (out : L.testBit 31 = false := by decide) :
    CountsOnly codes keys s y := by
  have e := a.frame.health.faultLog.resolve_left (by simp [out])
  simp only [faultLogOf, Prod.mk.injEq] at e
  obtain ⟨-, -, hcorr, -, hcnt, hevt⟩ := e
  exact h.upd hevt hcorr hcnt

theorem forEach {α : Type} {l : List α} {f : α → State → State} (h : CountsOnly codes keys s x)
    (hf : ∀ a y, CountsOnly codes keys s y → CountsOnly codes keys s (f a y)) : CountsOnly codes keys s (forEach l f x) := by
  induction l generalizing x with
  | nil => exact h
  | cons a l ih => exact ih (hf a x h)

theorem onlyIf {c : Bool} {f : State → State} (h : CountsOnly codes keys s x)
    (hf : CountsOnly codes keys s x → CountsOnly codes keys s (f x)) : CountsOnly codes keys s (onlyIf c f x) := by
  unfold Machine.onlyIf
  split
  · exact hf h
  · exact h

/-- What a list holds may be counted. -/
theorem of_evt {code : Nat} (hc : code ∈ sideCodes ∨ code ∈ codes) (h : CountsOnly codes keys s x) :
    CountsOnly codes keys s { x with health := { x.health with evt := mmod 0 x.health.evt code (fun c => c + 1) } } :=
  h.trans ⟨fun _ hs hn => mget_mmod_other (d := 0) (m := x.health.evt) (f := fun c => c + 1)
    (fun e => hc.elim (e ▸ hs) (e ▸ hn)), rfl, fun _ _ _ => rfl⟩

end CountsOnly

/-! ### Counters -/

theorem cntOf_bump_self {key n : Nat} (s : State) (h : n ≠ 0) : cntOf (bump key n s) key = cntOf s key + n :=
  mget_mmod_self (d := 0) (m := s.health.cnt) (f := fun c => c + n) (by omega)

theorem cntOf_bump_other {key k n : Nat} (s : State) (h : k ≠ key) : cntOf (bump key n s) k = cntOf s k :=
  mget_mmod_other (d := 0) (m := s.health.cnt) (f := fun c => c + n) h

theorem bump_counts {key n : Nat} (hk : key ∈ sideKeys ∨ key ∈ keys) (h : CountsOnly codes keys s x) :
    CountsOnly codes keys s (bump key n x) :=
  h.trans ⟨fun _ _ _ => rfl, rfl, fun _ hs hn => cntOf_bump_other x (fun e => hk.elim (e ▸ hs) (e ▸ hn))⟩

/-! ### The fault log -/

theorem appendFault_counts {r : FaultRec} (h : CountsOnly codes keys s x) : CountsOnly codes keys s (appendFault r x) := by
  have logged : CountsOnly codes keys s (bump 0x800001 1 { x with health := { x.health with
      log := lastN 1024 (x.health.log ++ [{ r with seq := x.health.seq }]), seq := x.health.seq + 1 } }) :=
    bump_counts (.inl (by decide)) (h.upd rfl rfl rfl)
  have posted := logged.acts (appendEvent_acts (a0 := 1) (a1 := r.sev) (a2 := r.code.toNat) (a3 := 0) (a4 := 0) (a5 := x.time.alm)
    (Sub.refl _) (.refl _))
  unfold appendFault
  dsimp only
  split
  · exact .acts (msix_acts (Sub.refl _) (.refl _)) (posted.upd rfl rfl rfl)
  · exact posted

theorem logRec_rest_counts {r : FaultRec} (h : CountsOnly codes keys s x) :
    CountsOnly codes keys s (if x.boot.mcRuns then appendFault r x else holdRec (.fault r) x) := by
  split
  · exact appendFault_counts h
  · exact .acts (holdRec_acts (Sub.refl _) (.refl _)) h

theorem logRec_counts {r : FaultRec} (hc : r.code.toNat ∈ sideCodes ∨ r.code.toNat ∈ codes) (h : CountsOnly codes keys s x) :
    CountsOnly codes keys s (logRec r x) := logRec_rest_counts (h.of_evt hc)

end

section

variable {codes keys : List Nat} {s x y : State} {code : Nat}

/-- What happens after a fault does not undo its count. -/
theorem Raised.later (h : Raised code s x) (k : CountsOnly codes keys x y) (hs : code ∉ sideCodes := by decide)
    (hc : code ∉ codes := by decide) : Raised code s y :=
  (k.evt code hs hc).trans h

theorem CountsOnly.then_raised (h : CountsOnly codes keys s x) (k : Raised code x y) (hs : code ∉ sideCodes := by decide)
    (hc : code ∉ codes := by decide) : Raised code s y := by
  unfold Raised at *
  rw [k, h.evt code hs hc]

/-- A record that is logged counts its fault. -/
theorem logRec_raised {r : FaultRec} (s : State) (hs : r.code.toNat ∉ sideCodes) : Raised r.code.toNat s (logRec r s) :=
  Raised.later (x := { s with health := { s.health with evt := mmod 0 s.health.evt r.code.toNat (fun c => c + 1) } })
    (codes := []) (keys := [])
    (mget_mmod_self (d := 0) (m := s.health.evt) (f := fun c => c + 1) (Nat.succ_ne_zero _))
    (logRec_rest_counts (.refl _)) hs (by simp)

theorem faultRec_code (byVigil : Bool) (tile : Option Nat) (ctx : Nat) (s : State) (h : code < 65536) :
    (faultRec code byVigil tile ctx s).code.toNat = code := by
  rw [faultRec, BitVec.toNat_ofNat, Nat.mod_eq_of_lt h]

theorem logWith_counts {tile : Option Nat} {ctx : Nat} {also : List Nat} (hc : code ∈ sideCodes ∨ code ∈ codes)
    (h : CountsOnly codes keys s x) (bits : code < 65536 := by decide) :
    CountsOnly codes keys s (logWith code tile ctx also x) :=
  logRec_counts (r := { faultRec code (decide (code = 0xD003)) tile ctx x with also := also })
    (by dsimp only; rwa [faultRec_code _ tile ctx x bits]) h

theorem logWith_raised (tile : Option Nat) (ctx : Nat) (also : List Nat) (s : State) (bits : code < 65536 := by decide)
    (hs : code ∉ sideCodes := by decide) : Raised code s (logWith code tile ctx also s) := by
  have e := faultRec_code (decide (code = 0xD003)) tile ctx s bits
  have k := logRec_raised (r := { faultRec code (decide (code = 0xD003)) tile ctx s with also := also }) s (by rwa [e])
  rwa [e] at k

/-! ### Corrected faults -/

/-- A Corrected fault is counted once, and nothing else is but its log record (R532). -/
structure CountsCorrected (code : Nat) (s t : State) : Prop where
  self : corrOf t code = corrOf s code + 1
  other : ∀ c, c ≠ code → corrOf t c = corrOf s c
  evt : ∀ c, c ∉ sideCodes → c ≠ code → faultCount t c = faultCount s c
  cnt : ∀ k, k ∉ sideKeys → cntOf t k = cntOf s k

theorem correctedWith_counts (tile : Option Nat) (ctx : Nat) (also : List Nat) (s : State) (bits : code < 65536 := by decide) :
    CountsCorrected code s (correctedWith code tile ctx also s) := by
  unfold correctedWith
  dsimp only
  set x : State := { s with health := { s.health with
    corr := mmod 0 s.health.corr code (fun c => c + 1), corrLogged := mset false s.health.corrLogged code true } }
  obtain ⟨hevt, hcorr, hcnt⟩ :=
    (CountsOnly.refl (codes := [code]) (keys := []) x).onlyIf (c := !mget false s.health.corrLogged code)
    (logWith_counts (tile := tile) (ctx := ctx) (also := also) (.inr (by simp)) · bits)
  constructor
  · rw [corrOf, hcorr]
    exact mget_mmod_self (d := 0) (m := s.health.corr) (f := fun c => c + 1) (Nat.succ_ne_zero _)
  · intro c hc
    rw [corrOf, hcorr]
    exact mget_mmod_other (d := 0) (m := s.health.corr) (f := fun c => c + 1) hc
  · exact fun c hs hc => hevt c hs (by simpa using hc)
  · exact fun k hk => hcnt k hk (by simp)

/-! ### Severities (R525 to R528) -/

theorem writeAudit_counts {a : Option Audit} (h : CountsOnly codes keys s x) : CountsOnly codes keys s (writeAudit a x) :=
  .acts (writeAudit_acts (Sub.refl _) (.refl _)) h

theorem journalPut_counts {r : JRec} (h : CountsOnly codes keys s x) : CountsOnly codes keys s (journalPut r x) := by
  unfold journalPut
  dsimp only
  split
  · exact .acts (nvApply_acts (Sub.refl _) (.refl _)) (writeAudit_counts h)
  · split
    · have audited := h.onlyIf (c := x.pow.nvOpen && x.pow.journal.isEmpty) (writeAudit_counts (a := r.audit))
      split
      · exact logWith_counts (.inl (by decide)) (audited.upd rfl rfl rfl)
      · exact audited.upd rfl rfl rfl
    · exact bump_counts (.inl (by decide)) (logWith_counts (.inl (by decide)) h)

theorem pushRecord_counts {i : Nat} {r : HRec} (h : CountsOnly codes keys s x) : CountsOnly codes keys s (pushRecord i r x) := by
  unfold pushRecord
  dsimp only
  split
  · exact .acts (writeRecord_acts (Sub.refl _) (.refl _)) h
  · split
    · exact h.upd rfl rfl rfl
    · exact bump_counts (.inl (by decide)) (logWith_counts (.inl (by decide)) (h.upd rfl rfl rfl))

theorem finishCmd_counts {cid : U32} {status code d0 d1 : Nat} (h : CountsOnly codes keys s x) :
    CountsOnly codes keys s (finishCmd cid status code d0 d1 x) := by
  unfold finishCmd
  split
  · exact h
  · exact pushRecord_counts (h.upd rfl rfl rfl)

theorem endLaunch_counts {c : Cal} {status code d0 d1 : Nat} (h : CountsOnly codes keys s x) :
    CountsOnly codes keys s (endLaunch c status code d0 d1 x) := by
  unfold endLaunch
  dsimp only
  refine .acts (settlePower_acts (Sub.refl _) (.refl _)) ?_
  split
  · exact h.upd rfl rfl rfl
  · exact finishCmd_counts h

theorem dropHeld_counts {status code d0 d1 : Nat} (h : CountsOnly codes keys s x) :
    CountsOnly codes keys s (dropHeld status code d0 d1 x) := by
  unfold dropHeld
  split
  · exact h
  · exact endLaunch_counts (h.upd rfl rfl rfl)

theorem sendOwn_counts {n : Notice} (h : CountsOnly codes keys s x) : CountsOnly codes keys s (sendOwn n x) :=
  .acts (sendOwn_acts (Sub.refl _) (.refl _)) h

theorem failHeld_counts {status code d0 typ : Nat} (h : CountsOnly codes keys s x) :
    CountsOnly codes keys s (failHeld status code d0 typ x) := by
  unfold failHeld
  split
  · exact h
  · exact dropHeld_counts (sendOwn_counts h)

theorem raiseHalt_counts {tile : Option Nat} (h : CountsOnly codes keys s x) :
    CountsOnly codes keys s (raiseHalt code tile x) := by
  unfold raiseHalt
  split
  · split
    · dsimp only
      apply sendOwn_counts
      split
      · exact h
      · exact h.upd rfl rfl rfl
    · exact failHeld_counts h
  · exact failHeld_counts h

theorem deviceFatal_counts {tile : Option Nat} {ctx : Nat} {also : List Nat} (h : CountsOnly codes keys s x) :
    CountsOnly codes keys s (deviceFatal code tile ctx also x) := by
  unfold deviceFatal
  dsimp only
  split
  · exact .acts (leaveService_acts (Sub.refl _) (.refl _)) (raiseHalt_counts (journalPut_counts h))
  · exact .acts (blockStart_acts (Sub.refl _) (.refl _)) (raiseHalt_counts (journalPut_counts h))

/-- A fault that is not Corrected is logged, and the rest of what its severity brings counts nothing more. -/
theorem raiseWith_counts_logWith {tile : Option Nat} {ctx : Nat} {also : List Nat} (sev : sevOf code ≠ 1)
    (h : CountsOnly codes keys s (logWith code tile ctx also x)) : CountsOnly codes keys s (raiseWith code tile ctx also x) := by
  unfold raiseWith
  split
  case _ => exact h
  case _ e => exact absurd e sev
  case _ => exact raiseHalt_counts h
  case _ => exact deviceFatal_counts h
  case _ => exact (deviceFatal_counts h).upd rfl rfl rfl

theorem raiseWith_counts {tile : Option Nat} {ctx : Nat} {also : List Nat} (hc : code ∈ sideCodes ∨ code ∈ codes)
    (h : CountsOnly codes keys s x) (sev : sevOf code ≠ 1 := by decide) (bits : code < 65536 := by decide) :
    CountsOnly codes keys s (raiseWith code tile ctx also x) :=
  raiseWith_counts_logWith sev (logWith_counts hc h bits)

theorem raiseWith_raised (tile : Option Nat) (ctx : Nat) (also : List Nat) (s : State) (sev : sevOf code ≠ 1 := by decide)
    (bits : code < 65536 := by decide) (hs : code ∉ sideCodes := by decide) : Raised code s (raiseWith code tile ctx also s) :=
  Raised.later (codes := []) (keys := []) (logWith_raised tile ctx also s bits hs)
    (raiseWith_counts_logWith sev (.refl _)) hs (by simp)

theorem raise_counts {ctx : Nat} (hc : code ∈ sideCodes ∨ code ∈ codes) (h : CountsOnly codes keys s x)
    (sev : sevOf code ≠ 1 := by decide) (bits : code < 65536 := by decide) : CountsOnly codes keys s (raise code ctx x) :=
  raiseWith_counts hc h sev bits

theorem raise_raised (ctx : Nat) (s : State) (sev : sevOf code ≠ 1 := by decide) (bits : code < 65536 := by decide)
    (hs : code ∉ sideCodes := by decide) : Raised code s (raise code ctx s) := raiseWith_raised none ctx [] s sev bits hs

/-- An Advisory is logged, and no more (R526). -/
theorem raise_of_advisory (ctx : Nat) (s : State) (sev : sevOf code = 0 := by decide) :
    raise code ctx s = logFault code none ctx s := by
  simp only [raise, raiseFault, raiseWith, sev, logFault]

/-! ### Changes of one row of a table count nothing -/

theorem modBundle_counts {b : Nat} {f : Bundle → Bundle} (h : CountsOnly codes keys s x) :
    CountsOnly codes keys s (modBundle b f x) := h.upd rfl rfl rfl

theorem modChan_counts {i : Nat} {f : Chan → Chan} (h : CountsOnly codes keys s x) :
    CountsOnly codes keys s (modChan i f x) := h.upd rfl rfl rfl

end

end Sys2Proof.Laws

/-!
PROOF. Start-up of the dies and their bundles (R24 to R36, R553): what the lane test of one bundle sets and raises, and how an
announced die is judged.
-/

namespace Sys2Proof.Laws

open Machine

/-- A part outside the set is the same. -/
theorem Acts.part {L : Nat} {s t : State} (h : Acts L s t) (p : Part) (out : L.testBit (Part.index p) = false := by decide) :
    p.same s t :=
  (h.frame.part p).resolve_left (by simp [out])

theorem Acts.ready {L : Nat} {s t : State} (h : Acts L s t) (out : L.testBit 6 = false := by decide) :
    t.boot.ready = s.boot.ready := by
  have e : startUpOf t.boot = startUpOf s.boot := h.part .startUp out
  simp only [startUpOf, Prod.mk.injEq] at e
  obtain ⟨-, -, -, -, -, hready, -⟩ := e
  exact hready

section

variable (code : Nat) (tile : Option Nat) (ctx : Nat) (also : List Nat) (s : State)

theorem raise_dies : (raise code ctx s).dies = s.dies := (raise_acts (Sub.refl _) (.refl s)).part .dies

/-! ### The firmware under a fault -/

/-- The firmware that the NV store holds, with its slots and floors (R510 to R513). -/
abbrev firmwareOf (x : Nv) := (x.slotMc, x.slotMsh, x.svnFloorMc, x.svnFloorMsh, x.mcA, x.mcB, x.mshA, x.mshB)

theorem logFault_nv : (logFault code tile ctx s).nv = s.nv := (logWith_acts (Sub.refl _) (.refl s)).part .nvStore

/-- The record of a Device-fatal fault leaves the firmware alone. -/
theorem journalPut_fault_firmware (r : FaultRec) : firmwareOf (journalPut { kind := .fault r } s).nv = firmwareOf s.nv := by
  unfold journalPut
  dsimp only [writeAudit, nvApply, onlyIf]
  split
  · rfl
  · split
    · split <;> split <;> simp only [logFault_nv]
    · simp only [bump, logFault_nv]

theorem deviceFatal_firmware : firmwareOf (deviceFatal code tile ctx also s).nv = firmwareOf s.nv := by
  have halt (x : State) : (raiseHalt code tile x).nv = x.nv := (raiseHalt_acts (Sub.refl _) (.refl x)).part .nvStore
  have leave (x : State) : (leaveService code x).nv = x.nv := (leaveService_acts (Sub.refl _) (.refl x)).part .nvStore
  unfold deviceFatal
  dsimp only
  split
  · rw [leave, halt, journalPut_fault_firmware]
  · rw [blockStart, halt, journalPut_fault_firmware]

/-- A Device-fatal fault is logged and takes the package out of the start or of service (R527, R528). -/
theorem raise_of_deviceFatal (h : sevOf code = 3) :
    raise code ctx s = deviceFatal code none ctx [] (logFault code none ctx s) := by
  simp only [raise, raiseFault, raiseWith, h, logFault]

/-- A Device-fatal fault at start leaves the package Ready-blocked (R528). -/
theorem deviceFatal_blocked (h : s.boot.ready = false) : (deviceFatal code tile ctx also s).boot.blocked = true := by
  have put (r : JRec) : (journalPut r s).boot.ready = s.boot.ready := (journalPut_acts (Sub.refl _) (.refl s)).ready
  have halt (x : State) : (raiseHalt code tile x).boot.ready = x.boot.ready := (raiseHalt_acts (Sub.refl _) (.refl x)).ready
  simp [deviceFatal, halt, put, h, blockStart]

end

/-! ### Microcode -/

/-- What the check of an image reads is the same in both states. -/
theorem imageValid_congr {s t : State} (component : Nat) (i : Image) (hv : valuesOf t.mgmt = valuesOf s.mgmt)
    (hf : firmwareOf t.nv = firmwareOf s.nv) : imageValid t component i = imageValid s component i := by
  simp only [valuesOf, firmwareOf, Prod.mk.injEq] at hv hf
  obtain ⟨hlatest, hforce⟩ := hv
  obtain ⟨-, -, hmc, hmsh, -⟩ := hf
  have hnum : odNum t 0x700303 0 = odNum s 0x700303 0 := by rw [odNum, odNum, odLatest, odLatest, hlatest, hforce]
  rw [imageValid, imageValid, hnum, hmc, hmsh]

/-- Both states hold the same active microcode, valid in both or in neither. -/
theorem activeMicrocode_congr {s t : State} (hv : valuesOf t.mgmt = valuesOf s.mgmt) (hf : firmwareOf t.nv = firmwareOf s.nv) :
    t.nv.slotMsh = s.nv.slotMsh ∧
      imageValid t 2 (mshImage t t.nv.slotMsh) = imageValid s 2 (mshImage s s.nv.slotMsh) := by
  rw [imageValid_congr 2 _ hv hf]
  simp only [firmwareOf, Prod.mk.injEq] at hf
  obtain ⟨-, hslot, -, -, -, -, hA, hB⟩ := hf
  simp only [mshImage, hslot, hA, hB, and_self]

theorem verifyMicrocode_of_valid {s : State} (h : imageValid s 2 (mshImage s s.nv.slotMsh) = true) :
    verifyMicrocode s = { s with boot := { s.boot with mshSlot := s.nv.slotMsh } } := by
  rw [verifyMicrocode, if_pos h]

/-- Step 3 ends with no other change than that of the step. -/
theorem leaveStep3_eq (s : State) : ∃ n, leaveStep3 s = { s with boot := { s.boot with step := n } } := by
  unfold leaveStep3
  split
  · exact ⟨4, rfl⟩
  · exact ⟨s.boot.step, rfl⟩

/-! ### The lane test (R25 to R29) -/

theorem laneWidth_full {x : LaneTest} (hc : x.clkFail = false) (hv : x.validFail = false) (h : 64 ≤ (goodLanes x.bad).length) :
    laneWidth x = 0 := by
  simp only [laneWidth, hc, hv, Bool.false_eq_true, false_or]
  rw [if_neg (by omega), if_neg (by omega)]

theorem laneWidth_half {x : LaneTest} (hc : x.clkFail = false) (hv : x.validFail = false) (h : 32 ≤ (goodLanes x.bad).length)
    (h' : (goodLanes x.bad).length < 64) : laneWidth x = 1 := by
  simp only [laneWidth, hc, hv, Bool.false_eq_true, false_or]
  rw [if_neg (by omega), if_pos h']

theorem laneWidth_out {x : LaneTest} (h : (goodLanes x.bad).length < 32 ∨ x.clkFail = true ∨ x.validFail = true) :
    laneWidth x = 2 := by
  simp only [laneWidth]
  rw [if_pos (by tauto)]

/-- What the test of a bundle writes into its row. -/
def testedBundle (t : LaneTest) (s : State) (x : Bundle) : Bundle :=
  { x with
    good := (goodLanes t.bad).length, width := laneWidth t, mapDiff := decide (laneMap t ≠ laneManifest s t.bundle.val)
    clkFail := t.clkFail, validFail := t.validFail
    map := if laneMap t = laneIdentity then [] else laneMap t, resend := 0 }

/-- The row of the bundle is written and a map other than the manifest's is reported, before its width is judged. -/
def takeTest (t : LaneTest) (s : State) : State :=
  onlyIf (decide (laneMap t ≠ laneManifest s t.bundle.val)) (raise 0x3001 t.bundle.val)
    (modBundle t.bundle.val (testedBundle t s) s)

theorem testBundle_eq (t : LaneTest) (s : State) :
    testBundle t s = onlyIf (decide (laneWidth t = 2)) (raise 0x3010 t.bundle.val)
      (onlyIf (decide (laneWidth t = 1)) (raise 0x3002 t.bundle.val) (takeTest t s)) := rfl

theorem takeTest_dies (t : LaneTest) (s : State) :
    (takeTest t s).dies = (modBundle t.bundle.val (testedBundle t s) s).dies := by
  unfold takeTest onlyIf
  split
  · exact raise_dies _ _ _
  · rfl

theorem testBundle_dies (t : LaneTest) (s : State) :
    (testBundle t s).dies = (modBundle t.bundle.val (testedBundle t s) s).dies := by
  rw [testBundle_eq, ← takeTest_dies]
  unfold onlyIf
  split <;> split <;> simp only [raise_dies]

theorem takeTest_counts {t : LaneTest} {s x : State} (h : CountsOnly [0x3001] [] s x) : CountsOnly [0x3001] [] s (takeTest t x) :=
  (modBundle_counts h).onlyIf fun h => raise_counts (.inr (by decide)) h

/-- A map other than the manifest's is an Advisory: beside the dies, taking a test changes only what a log record does. -/
theorem takeTest_acts (t : LaneTest) (s : State) : Acts (Part.set (.dies :: logParts)) s (takeTest t s) :=
  onlyIf_acts (modBundle_acts (Sub.mono (Sub.refl _) (by decide)) (.refl s)) fun y h => by
    rw [raise_of_advisory (code := 0x3001)]
    exact logWith_acts (Sub.mono (Sub.refl _) (by decide)) h

theorem testBundle_of_full {t : LaneTest} (s : State) (h : laneWidth t = 0) : testBundle t s = takeTest t s := by
  simp [testBundle_eq, h, onlyIf]

theorem testBundle_of_half {t : LaneTest} (s : State) (h : laneWidth t = 1) :
    testBundle t s = raise 0x3002 t.bundle.val (takeTest t s) := by
  simp [testBundle_eq, h, onlyIf]

theorem testBundle_of_out {t : LaneTest} (s : State) (h : laneWidth t = 2) :
    testBundle t s = raise 0x3010 t.bundle.val (takeTest t s) := by
  simp [testBundle_eq, h, onlyIf]

theorem laneWidth_cases (t : LaneTest) : laneWidth t = 0 ∨ laneWidth t = 1 ∨ laneWidth t = 2 := by
  simp only [laneWidth]
  split
  · exact .inr (.inr rfl)
  · split
    · exact .inr (.inl rfl)
    · exact .inl rfl

/-- Testing a bundle leaves the firmware alone. -/
theorem testBundle_firmware (t : LaneTest) (s : State) : firmwareOf (testBundle t s).nv = firmwareOf s.nv := by
  have taken : (takeTest t s).nv = s.nv := (takeTest_acts t s).part .nvStore
  rcases laneWidth_cases t with h | h | h
  · rw [testBundle_of_full s h, taken]
  · rw [testBundle_of_half s h, raise_of_advisory (code := 0x3002), logFault_nv, taken]
  · rw [testBundle_of_out s h, raise_of_deviceFatal 0x3010 _ _ (by decide), deviceFatal_firmware, logFault_nv, taken]

/-- A bundle out of service blocks the start (R28, R528). -/
theorem testBundle_blocked {t : LaneTest} {s : State} (h : laneWidth t = 2) (hr : s.boot.ready = false) :
    (testBundle t s).boot.blocked = true := by
  have logged (x : State) : (logFault 0x3010 none t.bundle.val x).boot.ready = x.boot.ready :=
    (logWith_acts (Sub.refl _) (.refl x)).ready
  rw [testBundle_of_out s h, raise_of_deviceFatal 0x3010 _ _ (by decide)]
  exact deviceFatal_blocked _ _ _ _ _ (by rw [logged, (takeTest_acts t s).ready, hr])

/-- The test of a bundle that has no bad lane. -/
def cleanTest (b : Nat) : LaneTest := ⟨Fin.ofNat 108 b, 0, false, false⟩

theorem cleanTest_width (b : Nat) : laneWidth (cleanTest b) = 0 := laneWidth_full rfl rfl (by decide : 64 ≤ (goodLanes 0).length)

/-- What testing every bundle but one without a bad lane leaves: log records and the rows of those bundles. -/
structure CleanTested (s t : State) : Prop where
  acts : Acts (Part.set (.dies :: logParts)) s t
  counts : CountsOnly [0x3001] [] s t
  rows : mwf {} s.dies.bundles = true → mwf {} t.dies.bundles = true

theorem CleanTested.refl (s : State) : CleanTested s s := ⟨.refl s, .refl s, id⟩

theorem CleanTested.test {s t : State} (h : CleanTested s t) (b : Nat) : CleanTested s (testBundle (cleanTest b) t) := by
  rw [testBundle_of_full t (cleanTest_width b)]
  refine ⟨h.acts.trans (takeTest_acts _ t), takeTest_counts h.counts, fun w => ?_⟩
  rw [takeTest_dies]
  exact mwf_mmod (h.rows w)

/-- Testing the bundles that a list of tests does not name. -/
def testRest (tests : List LaneTest) (s : State) : State :=
  forEach ((List.range 108).filter (fun b => !tests.any (fun t => decide (t.bundle.val = b))))
    (fun b s => testBundle (cleanTest b) s) s

theorem testRest_clean (tests : List LaneTest) (s : State) : CleanTested s (testRest tests s) := by
  unfold testRest
  generalize (List.range 108).filter _ = l
  suffices h : ∀ x, CleanTested s x → CleanTested s (forEach l (fun b s => testBundle (cleanTest b) s) x) from h s (.refl s)
  induction l with
  | nil => exact fun x h => h
  | cons b l ih => exact fun x h => ih _ (h.test b)

theorem execDiscovery_eq {s : State} (tests : List LaneTest) (hs : s.boot.starting = true) (h3 : s.boot.step = 3)
    (ht : s.dies.tested = false) : execDiscovery tests s = .next (
      let u := forEach tests testBundle (testRest tests s)
      leaveStep3 (verifyMicrocode { u with dies := { u.dies with tested := true } })) := by
  rw [execDiscovery, if_pos ⟨hs, h3, ht⟩]
  rfl


/-- One bundle is tested among bundles without a bad lane, and the microcode holds: what the start shows and has counted. -/
theorem execDiscovery_one {s : State} (x : LaneTest) (hs : s.boot.starting = true) (h3 : s.boot.step = 3)
    (ht : s.dies.tested = false) (hb : s.dies.bundles = []) (hv : imageValid s 2 (mshImage s s.nv.slotMsh) = true) :
    ∃ u t, execDiscovery [x] s = .next t ∧ CleanTested s u ∧ t.dies.tested = true ∧ t.boot.mshSlot = s.nv.slotMsh ∧
      bundleOf t x.bundle.val = testedBundle x u (bundleOf u x.bundle.val) ∧ t.health = (testBundle x u).health ∧
      t.boot.blocked = (testBundle x u).boot.blocked := by
  have clean := testRest_clean [x] s
  set u := testRest [x] s
  have hf : firmwareOf (testBundle x u).nv = firmwareOf s.nv :=
    (testBundle_firmware x u).trans (congrArg (fun n => firmwareOf n) (clean.acts.part .nvStore))
  have hm : valuesOf (testBundle x u).mgmt = valuesOf s.mgmt :=
    ((testBundle_acts (Sub.refl _) (.refl u)).part .values).trans (clean.acts.part .values)
  obtain ⟨hslot, himage⟩ := activeMicrocode_congr hm hf
  set v : State := { testBundle x u with dies := { (testBundle x u).dies with tested := true } }
  have hvalid : imageValid v 2 (mshImage v v.nv.slotMsh) = true := himage.trans hv
  obtain ⟨n, hn⟩ := leaveStep3_eq { v with boot := { v.boot with mshSlot := v.nv.slotMsh } }
  have hrow : bundleOf v x.bundle.val = testedBundle x u (bundleOf u x.bundle.val) := by
    rw [← bundleOf_modBundle x.bundle.val (testedBundle x u) u (clean.rows (by rw [hb]; rfl)), bundleOf, bundleOf,
      ← testBundle_dies]
  refine ⟨u, leaveStep3 (verifyMicrocode v), execDiscovery_eq [x] hs h3 ht, clean, ?_⟩
  rw [verifyMicrocode_of_valid hvalid, hn]
  exact ⟨rfl, hslot, hrow, rfl, rfl⟩

/-- The faults of a bundle's width, counted over the test of every bundle (R27, R28). -/
theorem CleanTested.half_raised {s u : State} (h : CleanTested s u) {x : LaneTest} (w : laneWidth x = 1) :
    Raised 0x3002 s (testBundle x u) := by
  rw [testBundle_of_half u w]
  exact (takeTest_counts h.counts).then_raised (raise_raised _ _)

theorem CleanTested.out_raised {s u : State} (h : CleanTested s u) {x : LaneTest} (w : laneWidth x = 2) :
    Raised 0x3010 s (testBundle x u) := by
  rw [testBundle_of_out u w]
  exact (takeTest_counts h.counts).then_raised (raise_raised _ _)

/-! ### The dies (R33 to R36) -/

/-- The record of die-map entry `e` names the type and the position of that entry. -/
def dieAgrees (e : Nat) (r : AnnounceRec) : Bool := decide ((r.typ.toNat, r.pos.toNat) = dieExpected e)

/-- The manifest lists the die of entry `e`. -/
def dieListed (s : State) (e : Nat) : Bool := !mget false s.nv.unlisted e

/-- The record's identity is the one that the manifest lists. -/
def dieSame (s : State) (e : Nat) (r : AnnounceRec) : Bool :=
  decide (r.build = mget 0 s.nv.dieBuild e) && decide (r.serial = mget 0 s.nv.dieSerial e)

/-- The entry holds a record, and is answered when `ok` says so. -/
def keepRecord (e : Nat) (rec_ : AnnounceRec) (ok : Bool) (s : State) : State :=
  { s with dies := { s.dies with map := mmod {} s.dies.map e (fun d => { d with rec_ := rec_, answered := d.answered || ok }) } }

/-- A record with a good check, of a die whose outcome is still due, is judged in the order of R35. -/
theorem execDieAnnounce_of_check {s : State} {e : Fin 81} {r : AnnounceRec} (hub : s.boot.hub = true)
    (hs : s.boot.starting = true) (h3 : s.boot.step = 3) (hr : (mget {} s.dies.map e.val).reported = false)
    (ha : (mget {} s.dies.map e.val).answered = false) (hc : crc16 (announceBytes r) = r.check.toNat) :
    ∃ rec_, execDieAnnounce e r s = .next (
      let u := keepRecord e.val rec_ (dieAgrees e.val r && dieListed s e.val && dieSame s e.val r) s
      if !dieAgrees e.val r then reportDie e.val 0x3021 u
      else if dieListed s e.val && !dieSame s e.val r then reportDie e.val 0x3022 u
      else if !dieListed s e.val then reportDie e.val 0x3023 u
      else leaveStep3 u) := by
  let flags := BitVec.ofNat 16 (r.flags.toNat % 2 +
      2 * flag (dieAgrees e.val r) + 4 * flag (dieListed s e.val && dieSame s e.val r))
  refine ⟨{ r with flags := flags }, ?_⟩
  rw [execDieAnnounce]
  simp only [hub, hs, h3, hr, ha, hc, Bool.true_eq_false, Bool.false_eq_true, Nat.lt_irrefl, or_self, if_false, ne_eq,
    not_true_eq_false, Bool.not_false, Bool.and_true, Bool.or_false]
  rfl

/-- The judgement of the record as the four conditions of R35 decide it. -/
theorem execDieAnnounce_cases {s : State} {e : Fin 81} {r : AnnounceRec} (hub : s.boot.hub = true)
    (hs : s.boot.starting = true) (h3 : s.boot.step = 3) (hr : (mget {} s.dies.map e.val).reported = false)
    (ha : (mget {} s.dies.map e.val).answered = false) (hc : crc16 (announceBytes r) = r.check.toNat) :
    (dieAgrees e.val r = false → ∃ u, execDieAnnounce e r s = .next (reportDie e.val 0x3021 u) ∧ u.health = s.health) ∧
    (dieAgrees e.val r = true → dieListed s e.val = true → dieSame s e.val r = false →
      ∃ u, execDieAnnounce e r s = .next (reportDie e.val 0x3022 u) ∧ u.health = s.health) ∧
    (dieAgrees e.val r = true → dieListed s e.val = false →
      ∃ u, execDieAnnounce e r s = .next (reportDie e.val 0x3023 u) ∧ u.health = s.health) ∧
    (dieAgrees e.val r = true → dieListed s e.val = true → dieSame s e.val r = true →
      ∃ rec_, execDieAnnounce e r s = .next (leaveStep3 (keepRecord e.val rec_ true s))) := by
  obtain ⟨rec_, hexec⟩ := execDieAnnounce_of_check hub hs h3 hr ha hc
  refine ⟨fun hag => ?_, fun hag hli hsa => ?_, fun hag hli => ?_, fun hag hli hsa => ⟨rec_, ?_⟩⟩
  · exact ⟨keepRecord e.val rec_ false s, by simpa [hag] using hexec, rfl⟩
  · exact ⟨keepRecord e.val rec_ false s, by simpa [hag, hli, hsa] using hexec, rfl⟩
  · exact ⟨keepRecord e.val rec_ false s, by simpa [hag, hli] using hexec, rfl⟩
  · simpa [hag, hli, hsa] using hexec

/-- A die that has answered stands so in the die map. -/
theorem keepRecord_answered (e : Nat) (rec_ : AnnounceRec) (s : State) :
    (mget {} (keepRecord e rec_ true s).dies.map e).answered = true ∧
      (mget {} (keepRecord e rec_ true s).dies.map e).reported = (mget {} s.dies.map e).reported := by
  have h : mget {} (keepRecord e rec_ true s).dies.map e =
      { (mget {} s.dies.map e) with rec_ := rec_, answered := (mget {} s.dies.map e).answered || true } :=
    mget_mmod_self (d := ({} : Die)) (m := s.dies.map)
      (f := fun d => { d with rec_ := rec_, answered := d.answered || true }) (by simp)
  rw [h]
  exact ⟨Bool.or_true _, rfl⟩

/-- An outcome that is reported on a state with the same counts is counted once. -/
theorem reportDie_raised_of_health {code : Nat} {s u : State} (e : Nat) (h : u.health = s.health)
    (sev : sevOf code ≠ 1 := by decide) (bits : code < 65536 := by decide) (hs : code ∉ sideCodes := by decide) :
    Raised code s (reportDie e code u) :=
  CountsOnly.then_raised (codes := []) (keys := []) (.upd (.refl s) (by rw [h]) (by rw [h]) (by rw [h]))
    (raise_raised e _ sev bits hs) hs (by simp)

theorem reportDie_reported (e code : Nat) (s : State) : (mget {} (reportDie e code s).dies.map e).reported = true := by
  rw [reportDie, raise_dies]
  exact congrArg Die.reported
    (mget_mmod_self (d := ({} : Die)) (m := s.dies.map) (f := fun d => { d with reported := true }) (by simp))

theorem execDieAnnounceTimeout_eq {s : State} {e : Fin 81} (hub : s.boot.hub = true) (hs : s.boot.starting = true)
    (h3 : s.boot.step = 3) (hr : (mget {} s.dies.map e.val).reported = false) (ha : (mget {} s.dies.map e.val).answered = false) :
    execDieAnnounceTimeout e s = .next (reportDie e.val 0x3020 s) := by
  rw [execDieAnnounceTimeout]
  simp only [hub, hs, h3, hr, ha, and_self, if_true]

/-- Settles O20: the result of the one test that finds fault is taken over bundles without a bad lane, by its width; the
die's record is judged by the cases of R35. -/
theorem discoveryJudgesLanesAndDies : Obligations.DiscoveryJudgesLanesAndDies := by
  refine ⟨fun s x hs h3 ht hb hv => ?_, fun s e r hub hs h3 hr ha => ?_⟩
  · obtain ⟨u, t, hexec, clean, htested, hslot, hrow, hhealth, hblocked⟩ := execDiscovery_one x hs h3 ht hb hv
    have evt (code : Nat) : faultCount t code = faultCount (testBundle x u) code := by rw [faultCount, faultCount, hhealth]
    refine ⟨t, hexec, htested, hslot, by rw [hrow, testedBundle], fun hc hv h => ?_, fun hc hv h h' => ?_, fun h => ?_⟩
    · rw [hrow]
      exact laneWidth_full hc hv h
    · rw [hrow, Raised, evt]
      exact ⟨laneWidth_half hc hv h h', clean.half_raised (laneWidth_half hc hv h h')⟩
    · rw [hrow, Raised, evt, hblocked]
      refine ⟨laneWidth_out h, clean.out_raised (laneWidth_out h), fun hready => testBundle_blocked (laneWidth_out h) ?_⟩
      exact clean.acts.ready.trans hready
  · have judged (hc : crc16 (announceBytes r) = r.check.toNat) := execDieAnnounce_cases hub hs h3 hr ha hc
    refine ⟨fun hc hp hl hbuild hser => ?_, fun hc hp => ?_, fun hc hp hl hser => ?_, fun hc hp hl => ?_, ?_⟩
    · obtain ⟨-, -, -, answered⟩ := judged hc
      have same : dieSame s e.val r = true := by rw [dieSame, decide_eq_true hbuild, decide_eq_true hser]; rfl
      obtain ⟨rec_, hexec⟩ := answered (decide_eq_true hp) (by rw [dieListed, hl]; rfl) same
      obtain ⟨n, hn⟩ := leaveStep3_eq (keepRecord e.val rec_ true s)
      obtain ⟨hanswered, hreported⟩ := keepRecord_answered e.val rec_ s
      refine ⟨_, hexec, ?_⟩
      rw [hn]
      exact ⟨hanswered, hreported.trans hr, rfl⟩
    · obtain ⟨place, -, -, -⟩ := judged hc
      obtain ⟨u, hexec, hu⟩ := place (decide_eq_false hp)
      exact ⟨_, hexec, reportDie_raised_of_health e.val hu⟩
    · obtain ⟨-, identity, -, -⟩ := judged hc
      have other : dieSame s e.val r = false := by rw [dieSame, decide_eq_false hser, Bool.and_false]
      obtain ⟨u, hexec, hu⟩ := identity (decide_eq_true hp) (by rw [dieListed, hl]; rfl) other
      exact ⟨_, hexec, reportDie_raised_of_health e.val hu⟩
    · obtain ⟨-, -, unlisted, -⟩ := judged hc
      obtain ⟨u, hexec, hu⟩ := unlisted (decide_eq_true hp) (by rw [dieListed, hl]; rfl)
      exact ⟨_, hexec, reportDie_raised_of_health e.val hu⟩
    · exact ⟨_, execDieAnnounceTimeout_eq hub hs h3 hr ha, reportDie_reported _ _ _, reportDie_raised_of_health e.val rfl⟩

end Sys2Proof.Laws

/-!
PROOF. The home slice (R46, R239 to R257, R261, R262): the bytes that a masked write changes, what the reads and the corrections of
a channel leave of the Store, and how a request is answered.
-/

namespace Sys2Proof.Laws

open Machine

/-! ### Bytes that a masked write changes (R246) -/

theorem storeByte_storeSetByte_self (a : Nat) (b : Byte) {s : State} (w : Memory.wf s = true) :
    storeByte (storeSetByte a b s) a = b := mget_mset_self' w

theorem storeSetByte_wf (a : Nat) (b : Byte) {s : State} (w : Memory.wf s = true) : Memory.wf (storeSetByte a b s) = true :=
  mwf_mset w

/-- One masked byte: the bits that the mask selects, and the old ones elsewhere. -/
theorem storeByte_maskedByte (a : Nat) (b m : Byte) {s : State} (w : Memory.wf s = true) :
    storeByte (if m = 0 then s else storeSetByte a ((storeByte s a &&& ~~~m) ||| (b &&& m)) s) a =
      (storeByte s a &&& ~~~m) ||| (b &&& m) := by
  split
  · rename_i h
    subst h
    rw [show ~~~(0 : Byte) = BitVec.allOnes 8 from rfl, BitVec.and_allOnes, show b &&& 0 = 0 from BitVec.and_zero]
    exact BitVec.or_zero.symm
  · exact storeByte_storeSetByte_self a _ w

theorem storeByte_storeWriteMasked_outside {a k : Nat} {l : List (Byte × Byte)} (s : State) (h : k < a ∨ a + l.length ≤ k) :
    storeByte (storeWriteMasked a l s) k = storeByte s k := by
  induction l generalizing a s with
  | nil => rfl
  | cons y l ih =>
    obtain ⟨b, m⟩ := y
    rw [List.length_cons] at h
    rw [storeWriteMasked, ih _ (by omega)]
    split
    · rfl
    · exact storeByte_storeSetByte_other a k _ s (by omega)

theorem storeByte_storeWriteMasked_inside {a : Nat} {l : List (Byte × Byte)} {s : State} (w : Memory.wf s = true) {i : Nat}
    (h : i < l.length) :
    storeByte (storeWriteMasked a l s) (a + i) = (storeByte s (a + i) &&& ~~~l[i].2) ||| (l[i].1 &&& l[i].2) := by
  induction l generalizing a s i with
  | nil => exact absurd h (Nat.not_lt_zero i)
  | cons y l ih =>
    obtain ⟨b, m⟩ := y
    rw [storeWriteMasked]
    set u := if m = 0 then s else storeSetByte a ((storeByte s a &&& ~~~m) ||| (b &&& m)) s
    cases i with
    | zero =>
      rw [storeByte_storeWriteMasked_outside u (.inl (by omega))]
      exact storeByte_maskedByte a b m w
    | succ i =>
      have hu : Memory.wf u = true := by
        unfold u
        split
        · exact w
        · exact storeSetByte_wf _ _ w
      have hs : storeByte u (a + 1 + i) = storeByte s (a + 1 + i) := by
        unfold u
        split
        · rfl
        · exact storeByte_storeSetByte_other _ _ _ _ (by omega)
      have e := ih (a := a + 1) hu (i := i) (by simpa using h)
      rw [hs] at e
      rw [show a + (i + 1) = a + 1 + i by omega]
      exact e

/-! ### What reads and corrections leave of the Store (R252 to R257) -/

/-- The far copies and the writes that wait for them. -/
abbrev copiesOf (x : Store) := (x.far, x.waits)

/-- What of the Store the failure of a row leaves: the poison, the channels, the far copies and the writes that wait. -/
abbrev rowKeeps (x : Store) := (x.poison, x.chans, x.far, x.waits)

theorem rowKeeps_of_rest {x y : Store} (h : storeRestOf y = storeRestOf x) : rowKeeps y = rowKeeps x := by
  simp only [storeRestOf, Prod.mk.injEq] at h
  obtain ⟨hpoison, hchans, -, -, -, -, -, -, -, hfar, hwaits, -⟩ := h
  rw [rowKeeps, hpoison, hchans, hfar, hwaits]

theorem copiesOf_of_rowKeeps {x y : Store} (h : rowKeeps y = rowKeeps x) : copiesOf y = copiesOf x :=
  (Prod.mk.inj (Prod.mk.inj h).2).2

theorem Acts.rowKeeps {L : Nat} {s t : State} (h : Acts L s t) (out : L.testBit 16 = false := by decide) :
    rowKeeps t.store = rowKeeps s.store := rowKeeps_of_rest (h.part .storeRest out)

theorem raise_rowKeeps (code ctx : Nat) (s : State) : rowKeeps (raise code ctx s).store = rowKeeps s.store :=
  (raise_acts (Sub.refl _) (.refl s)).rowKeeps

theorem markSegment_rowKeeps (row : Nat) (s : State) : rowKeeps (markSegment row s).store = rowKeeps s.store := by
  unfold markSegment
  dsimp only
  split
  · rfl
  · split
    · exact raise_rowKeeps _ _ _
    · split <;> rw [raise_rowKeeps]

theorem remapRow_rowKeeps (row : Nat) (copy : Bool) (s : State) : rowKeeps (remapRow row copy s).store = rowKeeps s.store :=
  (journalPut_acts (Sub.refl _) (.refl _)).rowKeeps

theorem rowFailure_rowKeeps (row : Nat) (copy : Bool) (s : State) : rowKeeps (rowFailure row copy s).store = rowKeeps s.store := by
  unfold rowFailure
  dsimp only
  split
  · rw [remapRow_rowKeeps, raise_rowKeeps]
  · split
    · rw [remapRow_rowKeeps, markSegment_rowKeeps]
    · exact markSegment_rowKeeps row s

theorem corrected_rowKeeps (code : Nat) (tile : Option Nat) (ctx : Nat) (s : State) :
    rowKeeps (corrected code tile ctx s).store = rowKeeps s.store := (corrected_acts (Sub.refl _) (.refl s)).rowKeeps

theorem wordFound_copies (a : Nat) (w : WordRead) (s : State) : copiesOf (wordFound a w s).2.store = copiesOf s.store := by
  unfold wordFound
  cases w with
  | clean => rfl
  | corrected k =>
    dsimp only
    split
    · rfl
    · exact (copiesOf_of_rowKeeps (corrected_rowKeeps _ _ _ _) :)
  | uncorrectable => rfl

theorem takeSlot_copies (ch : Nat) (critical : Bool) (s : State) : copiesOf (takeSlot ch critical s).store = copiesOf s.store := by
  unfold takeSlot onlyIf
  dsimp only
  split <;> rfl

theorem setDirty_copies (line : Nat) (d : Bool) (s : State) : copiesOf (setDirty line d s).store = copiesOf s.store := rfl

theorem writeBack_copies (line : Nat) (s : State) : copiesOf (writeBack line s).store = copiesOf s.store := by
  unfold writeBack
  split
  · dsimp only
    rw [setDirty_copies, takeSlot_copies, takeSlot_copies]
  · rfl

theorem lineWords_copies (line : Nat) (x : LineRead) (s : State) : copiesOf (lineWords line x s).store = copiesOf s.store := by
  have found : copiesOf (wordFound (line * 128 + 64) x.w1 (wordFound (line * 128) x.w0 s).2).2.store = copiesOf s.store := by
    rw [wordFound_copies, wordFound_copies]
  unfold lineWords onlyIf
  dsimp only
  split
  · rw [copiesOf_of_rowKeeps (rowFailure_rowKeeps _ _ _), found]
  · exact found

theorem channelRead_copies (critical : Bool) (line : Nat) (x : LineRead) (s : State) :
    copiesOf (channelRead critical line x s).store = copiesOf s.store := by
  rw [channelRead, lineWords_copies, takeSlot_copies, takeSlot_copies, writeBack_copies]

theorem lineFound_copies (critical : Bool) (line : Nat) (x : LineRead) (s : State) :
    copiesOf (lineFound critical line x s).store = copiesOf s.store := by
  have corrects (y : State) : copiesOf (cacheCorrected (homeSlice line) y).store = copiesOf y.store :=
    copiesOf_of_rowKeeps (cacheCorrected_acts (Sub.refl _) (.refl y)).rowKeeps
  unfold lineFound
  split
  · rfl
  · exact corrects s
  · exact channelRead_copies _ _ _ _
  · split
    · exact (copiesOf_of_rowKeeps (raise_rowKeeps _ _ _) :)
    · rw [channelRead_copies, corrects]

theorem lineFound_cells (critical : Bool) (line : Nat) (x : LineRead) (s : State) :
    (lineFound critical line x s).store.cells = s.store.cells := (lineFound_acts (Sub.refl _) (.refl s)).part .storeBytes

/-! ### A write at its home (R46, R246) -/

/-- A write of part of a line takes what its read found; one of the whole line reads nothing (R246). -/
def readForWrite (critical : Bool) (x : LineRead) (a : Nat) (cells : List (Byte × Byte)) (s : State) : State :=
  onlyIf (!wholeLine cells) (lineFound critical (a / 128) x) s

theorem readForWrite_cells (critical : Bool) (x : LineRead) (a : Nat) (cells : List (Byte × Byte)) (s : State) :
    (readForWrite critical x a cells s).store.cells = s.store.cells := by
  unfold readForWrite onlyIf
  split
  · exact lineFound_cells _ _ _ _
  · rfl

theorem readForWrite_copies (critical : Bool) (x : LineRead) (a : Nat) (cells : List (Byte × Byte)) (s : State) :
    copiesOf (readForWrite critical x a cells s).store = copiesOf s.store := by
  unfold readForWrite onlyIf
  split
  · exact lineFound_copies _ _ _ _
  · rfl

/-- The line is dirty, and poison goes with a write of all of it; the mirror write follows (R246, R252, R401). -/
def afterWrite (a : Nat) (cells : List (Byte × Byte)) (s : State) : State :=
  mirrorLine (a / 128) (touched a cells) (onlyIf (wholeLine cells) (setPoison (a / 128) false) (setDirty (a / 128) true s))

theorem homeWrite_eq (critical : Bool) (x : LineRead) (a : Nat) (cells : List (Byte × Byte)) (s : State) :
    homeWrite critical x a cells s = afterWrite a cells (storeWriteMasked a cells (readForWrite critical x a cells s)) := rfl

theorem marked_acts (a : Nat) (cells : List (Byte × Byte)) (s : State) :
    Acts (Part.set [.storeRest]) s (onlyIf (wholeLine cells) (setPoison (a / 128) false) (setDirty (a / 128) true s)) :=
  onlyIf_acts (setDirty_acts (Sub.refl _) (.refl s)) fun _ h => setPoison_acts (Sub.refl _) h

theorem afterWrite_cells (a : Nat) (cells : List (Byte × Byte)) (s : State) :
    (afterWrite a cells s).store.cells = s.store.cells := by
  have mirrored (y : State) : (mirrorLine (a / 128) (touched a cells) y).store.cells = y.store.cells :=
    (mirrorLine_acts (Sub.refl _) (.refl y)).part .storeBytes
  exact (mirrored _).trans ((marked_acts a cells s).part .storeBytes)

theorem afterWrite_copies (a : Nat) (cells : List (Byte × Byte)) (s : State) :
    copiesOf (afterWrite a cells s).store = copiesOf s.store := by
  have mirrored (y : State) : copiesOf (mirrorLine (a / 128) (touched a cells) y).store = copiesOf y.store :=
    copiesOf_of_rowKeeps (mirrorLine_acts (Sub.refl _) (.refl y)).rowKeeps
  rw [afterWrite, mirrored]
  unfold onlyIf
  split <;> rfl

theorem storeWriteMasked_copies (a : Nat) (cells : List (Byte × Byte)) (s : State) :
    copiesOf (storeWriteMasked a cells s).store = copiesOf s.store :=
  copiesOf_of_rowKeeps (storeWriteMasked_acts (Sub.refl _) (.refl s)).rowKeeps

theorem homeWrite_copies (critical : Bool) (x : LineRead) (a : Nat) (cells : List (Byte × Byte)) (s : State) :
    copiesOf (homeWrite critical x a cells s).store = copiesOf s.store := by
  rw [homeWrite_eq, afterWrite_copies, storeWriteMasked_copies, readForWrite_copies]

theorem homeWrite_fabric (critical : Bool) (x : LineRead) (a : Nat) (cells : List (Byte × Byte)) (s : State) :
    (homeWrite critical x a cells s).fabric = s.fabric := (homeWrite_acts (Sub.refl _) (.refl s)).part .fabric

theorem storeByte_homeWrite (critical : Bool) (x : LineRead) (a : Nat) (cells : List (Byte × Byte)) (s : State) (k : Nat) :
    storeByte (homeWrite critical x a cells s) k = storeByte (storeWriteMasked a cells (readForWrite critical x a cells s)) k := by
  rw [homeWrite_eq, storeByte, afterWrite_cells, storeByte]

theorem storeByte_readForWrite (critical : Bool) (x : LineRead) (a : Nat) (cells : List (Byte × Byte)) (s : State) (k : Nat) :
    storeByte (readForWrite critical x a cells s) k = storeByte s k := by
  rw [storeByte, readForWrite_cells, storeByte]

theorem storeByte_homeWrite_inside (critical : Bool) (x : LineRead) {a : Nat} {cells : List (Byte × Byte)} {s : State}
    (w : Memory.wf s = true) {i : Nat} (h : i < cells.length) :
    storeByte (homeWrite critical x a cells s) (a + i) =
      (storeByte s (a + i) &&& ~~~cells[i].2) ||| (cells[i].1 &&& cells[i].2) := by
  have wf : Memory.wf (readForWrite critical x a cells s) = true := by rw [Memory.wf, readForWrite_cells]; exact w
  rw [storeByte_homeWrite, storeByte_storeWriteMasked_inside wf h, storeByte_readForWrite]

theorem storeByte_homeWrite_outside (critical : Bool) (x : LineRead) {a k : Nat} {cells : List (Byte × Byte)} (s : State)
    (h : k < a ∨ a + cells.length ≤ k) : storeByte (homeWrite critical x a cells s) k = storeByte s k := by
  rw [storeByte_homeWrite, storeByte_storeWriteMasked_outside _ h, storeByte_readForWrite]

/-! ### Answers to a request (R46, R368) -/

theorem reqOf_setReq_self (r : Nat) (q : Req) (s : State) : reqOf (setReq r (some q) s) r = some q :=
  mget_mset_self (d := none) (m := s.fabric.reqs) (Option.some_ne_none q)

/-- A request still open is answered with the data and the mark that it is given. -/
theorem answerReq_answers {s : State} {r : Nat} {q : Req} (h : reqOf s r = some q) (hopen : q.answered = false)
    (data : List Byte) (poison : Bool) :
    ∃ q', reqOf (answerReq r data poison s) r = some q' ∧ q'.answered = true ∧ q'.poison = poison ∧ q'.data = data := by
  refine ⟨{ q with answered := true, poison := poison, data := data, token := none }, ?_, rfl, rfl, rfl⟩
  rw [answerReq, h]
  simp only [hopen, Bool.false_eq_true, if_false]
  exact reqOf_setReq_self _ _ _

theorem acknowledge_own (r : Nat) {q : Req} {s : State} (h : reqOf s r = some q) :
    acknowledge (some r) none s = answerReq r q.data q.poison s := by
  simp only [acknowledge, h]

theorem homeReq_spec {s : State} {r : Nat} {kind : ReqKind} {q : Req} (h : homeReq s r kind = some q) :
    reqOf s r = some q ∧ q.answered = false := by
  unfold homeReq at h
  split at h
  · cases h
  · rename_i p hp
    split at h
    · rename_i c
      obtain ⟨-, -, answered, -⟩ := c
      cases h
      exact ⟨hp, answered⟩
    · cases h

/-- A write without far copies is answered at once; one with far copies waits for each of their dies (R46). -/
theorem whenInvalidated_own {s : State} {r : Nat} {q : Req} (a : Nat) (h : reqOf s r = some q) :
    (farDies s (ownGa s a) = [] → whenInvalidated a (some r) none s = answerReq r q.data q.poison s) ∧
    (farDies s (ownGa s a) ≠ [] → whenInvalidated a (some r) none s = { s with store := { s.store with
      waits := s.store.waits ++ [⟨ownGa s a / 128, farDies s (ownGa s a), some r, none⟩] } }) := by
  unfold whenInvalidated
  dsimp only
  refine ⟨fun hd => ?_, fun hd => ?_⟩
  · rw [if_pos hd, acknowledge_own r h]
  · rw [if_neg hd]

theorem farDies_congr {s t : State} (a : Nat) (hf : t.fabric.coord = s.fabric.coord) (hc : copiesOf t.store = copiesOf s.store) :
    ownGa t a = ownGa s a ∧ farDies t (ownGa t a) = farDies s (ownGa s a) := by
  have hga : ownGa t a = ownGa s a := by rw [ownGa, ownGa, ownKey, ownKey, hf]
  simp only [copiesOf, Prod.mk.injEq] at hc
  obtain ⟨hfar, -⟩ := hc
  exact ⟨hga, by rw [hga, farDies, farDies, hfar]⟩

theorem answerReq_cells (r : Nat) (data : List Byte) (poison : Bool) (s : State) :
    (answerReq r data poison s).store.cells = s.store.cells := (answerReq_acts (Sub.refl _) (.refl s)).part .storeBytes

theorem storeByte_answerReq (r : Nat) (data : List Byte) (poison : Bool) (s : State) (k : Nat) :
    storeByte (answerReq r data poison s) k = storeByte s k := by
  rw [storeByte, answerReq_cells, storeByte]

theorem answerReq_counts {codes keys : List Nat} {s x : State} {r : Nat} {data : List Byte} {poison : Bool}
    (h : CountsOnly codes keys s x) : CountsOnly codes keys s (answerReq r data poison x) :=
  h.acts (answerReq_acts (Sub.refl _) (.refl _))

/-! ### Stores (R46, R67, R243, R246, R399, R402) -/

/-- The three faults for which a write is barred (R67, R243, R399). -/
theorem writeDenied_cases {s : State} {a n code : Nat} (h : writeDenied s a n = some code) :
    code = 0x2013 ∨ code = 0x1014 ∨ code = 0x7012 := by
  unfold writeDenied at h
  split at h
  · exact .inl (Option.some.inj h).symm
  · split at h
    · exact .inr (.inl (Option.some.inj h).symm)
    · split at h
      · exact .inr (.inr (Option.some.inj h).symm)
      · cases h

theorem deniedFault_raised {s t : State} {a n code ctx : Nat} {tile : Option Nat} {also : List Nat}
    (h : writeDenied s a n = some code) (k : CountsOnly [] [] (raiseWith code tile ctx also s) t) : Raised code s t := by
  obtain rfl | rfl | rfl := writeDenied_cases h <;> exact Raised.later (raiseWith_raised tile ctx also s) k

section

variable {s : State} {r : Nat} {q : Req} (x : LineRead)

theorem execHomeSliceStore_of_denied {code : Nat} (h : homeReq s r .store = some q)
    (hd : writeDenied s (gaLocal q.addr.toNat) q.len = some code) :
    execHomeSliceStore r x s = .next (answerReq r [] false (raiseWith code (some q.tile)
      (addrContext 0 (gaLocal q.addr.toNat)) (deniedNames s code (gaLocal q.addr.toNat) []) s)) := by
  simp only [execHomeSliceStore, h, hd]

theorem execHomeSliceStore_of_full (h : homeReq s r .store = some q)
    (hd : writeDenied s (gaLocal q.addr.toNat) q.len = none) (hr : writeRoom s (gaLocal q.addr.toNat) = false) :
    execHomeSliceStore r x s = .next (writeWaits (gaLocal q.addr.toNat) s) := by
  simp only [execHomeSliceStore, h, hd, hr, if_true]

theorem execHomeSliceStore_of_room (h : homeReq s r .store = some q)
    (hd : writeDenied s (gaLocal q.addr.toNat) q.len = none) (hr : writeRoom s (gaLocal q.addr.toNat) = true)
    (ht : wholeLine q.wr = true ∨ lineTurn s q.prio (gaLocal q.addr.toNat / 128) x (some r) = true) :
    execHomeSliceStore r x s = .next (whenInvalidated (gaLocal q.addr.toNat) (some r) none
      (homeWrite q.prio x (gaLocal q.addr.toNat) q.wr s)) := by
  have turn : ¬(wholeLine q.wr = false ∧ lineTurn s q.prio (gaLocal q.addr.toNat / 128) x (some r) = false) := by
    rintro ⟨hw, hl⟩
    rw [hw, hl] at ht
    simp at ht
  simp only [execHomeSliceStore, h, hd, hr, turn, Bool.true_eq_false, if_false]

end

theorem stallKeep_spec (s : State) :
    (stallKeep s).twin.stall = true ∧ (stallKeep s).store = s.store ∧ (stallKeep s).fabric = s.fabric := by
  unfold stallKeep
  split
  · rename_i h
    exact ⟨h, rfl, rfl⟩
  · exact ⟨rfl, rfl, rfl⟩

/-- Settles O39: the write that takes effect is the masked write of the Store's bytes, whatever its read found; then the far copies
decide between an answer and a wait. -/
theorem homeSlicesWriteExactlyTheMaskedBits : Obligations.HomeSlicesWriteExactlyTheMaskedBits := by
  intro s r q w h
  obtain ⟨hreq, hopen⟩ := homeReq_spec h
  refine ⟨fun hd hr x ht => ?_, fun code hd x => ?_, fun hd hr hb x => ?_⟩
  · set a := gaLocal q.addr.toNat
    have hf := homeWrite_fabric q.prio x a q.wr s
    have hc := homeWrite_copies q.prio x a q.wr s
    have inside := fun i (hi : i < q.wr.length) => storeByte_homeWrite_inside q.prio x (a := a) w hi
    have outside := fun k (hk : k < a ∨ a + q.wr.length ≤ k) => storeByte_homeWrite_outside q.prio x s hk
    have hexec := execHomeSliceStore_of_room x h hd hr ht
    set u := homeWrite q.prio x a q.wr s
    have hu : reqOf u r = some q := by rw [reqOf, hf]; exact hreq
    obtain ⟨hga, hfar⟩ := farDies_congr a (congrArg Fabric.coord hf) hc
    obtain ⟨answered, waits⟩ := whenInvalidated_own a hu
    rw [hfar, hga] at waits
    rw [hfar] at answered
    by_cases alone : farDies s (ownGa s a) = []
    · obtain ⟨q', hq', done, -, -⟩ := answerReq_answers hu hopen q.data q.poison
      refine ⟨_, hexec.trans (congrArg Host.Outcome.next (answered alone)), fun i hi => ?_, fun k hk => ?_,
        fun _ => ⟨q', hq', done⟩, fun shared => absurd alone shared⟩
      · rw [storeByte_answerReq]
        exact inside i hi
      · rw [storeByte_answerReq]
        exact outside k hk
    · refine ⟨_, hexec.trans (congrArg Host.Outcome.next (waits alone)), inside, outside, fun e => absurd e alone,
        fun _ => ⟨hu, ?_⟩⟩
      show u.store.waits ++ _ = _
      rw [show u.store.waits = s.store.waits from congrArg Prod.snd hc]
  · set u := raiseWith code (some q.tile) (addrContext 0 (gaLocal q.addr.toNat)) (deniedNames s code (gaLocal q.addr.toNat) []) s
    have acts : Acts (Part.set faultParts) s u := raiseWith_acts (Sub.refl _) (.refl s)
    have hu : reqOf u r = some q := (congrArg (fun f : Fabric => mget none f.reqs r) (acts.part .fabric)).trans hreq
    obtain ⟨q', hq', done, -, -⟩ := answerReq_answers hu hopen [] false
    refine ⟨_, execHomeSliceStore_of_denied x h hd, (answerReq_cells _ _ _ _).trans (acts.part .storeBytes), ?_, q', hq', done⟩
    exact deniedFault_raised hd (answerReq_counts (.refl u))
  · obtain ⟨stall, store, fabric⟩ := stallKeep_spec s
    refine ⟨stallKeep s, ?_, by rw [store], stall, by rw [reqOf, fabric]; exact hreq⟩
    rw [← show writeWaits (gaLocal q.addr.toNat) s = stallKeep s from if_neg (by rw [hb]; exact Bool.false_ne_true)]
    exact execHomeSliceStore_of_full x h hd hr

end Sys2Proof.Laws

/-!
PROOF. Atomics at their home and the acknowledgements that wait for other dies (R46, R261, R262).
-/

namespace Sys2Proof.Laws

open Machine

/-! ### Words as bytes (R8) -/

theorem leBytes_length (n v : Nat) : (leBytes n v).length = n := by
  induction n generalizing v with
  | zero => rfl
  | succ n ih => rw [leBytes, List.length_cons, ih]

/-- The bytes of the number that some bytes spell are those bytes. -/
theorem leBytes_leNat (l : List Byte) : leBytes l.length (leNat l) = l := by
  induction l with
  | nil => rfl
  | cons b l ih =>
    have low : BitVec.ofNat 8 (leNat (b :: l)) = b := by
      apply BitVec.eq_of_toNat_eq
      rw [BitVec.toNat_ofNat, leNat]
      have := b.isLt
      omega
    have high : leNat (b :: l) / 256 = leNat l := by
      rw [leNat]
      have := b.isLt
      omega
    rw [List.length_cons, leBytes, low, high, ih]

theorem storeBytes_length (s : State) (a n : Nat) : (storeBytes s a n).length = n := by simp [storeBytes]

/-- A write of whole bytes leaves exactly them in its place (R246). -/
theorem storeBytes_homeWrite_wholeBytes (critical : Bool) (x : LineRead) (a : Nat) (l : List Byte) {s : State}
    (w : Memory.wf s = true) : storeBytes (homeWrite critical x a (wholeBytes l) s) a l.length = l := by
  refine List.ext_getElem (storeBytes_length _ _ _) fun i hi hl => ?_
  have hw : i < (wholeBytes l).length := by simpa [wholeBytes] using hl
  have cell : (wholeBytes l)[i] = (l[i], 0xFF) := by simp [wholeBytes]
  have e := storeByte_homeWrite_inside critical x (a := a) w hw
  rw [cell, show ~~~(0xFF : Byte) = 0 from rfl, show storeByte s (a + i) &&& 0 = 0 from BitVec.and_zero,
    show (0xFF : Byte) = BitVec.allOnes 8 from rfl, BitVec.and_allOnes, show (0 : Byte) ||| l[i] = l[i] from BitVec.zero_or] at e
  simpa [storeBytes] using e

/-! ### Atomics (R261, R262) -/

/-- A write into a line that is held at its home counts only what its mirror write does (R401). -/
theorem mirrorLine_counts {codes keys : List Nat} {s x : State} {line mask : Nat} (hw : 0x900401 ∈ keys) (hs : 0x900404 ∈ keys)
    (h : CountsOnly codes keys s x) : CountsOnly codes keys s (mirrorLine line mask x) := by
  unfold mirrorLine
  split
  · exact h
  · split
    · exact h.upd rfl rfl rfl
    · refine bump_counts (.inr hw) (.acts (enqueueTwin_acts (Sub.refl _) (.refl _)) ?_)
      unfold unstallKeep
      split
      · exact bump_counts (.inr hs) (h.upd rfl rfl rfl)
      · exact h

theorem homeWrite_counts (critical : Bool) (a : Nat) (cells : List (Byte × Byte)) (s : State) :
    CountsOnly [] [0x900401, 0x900404] s (homeWrite critical {} a cells s) := by
  have held : readForWrite critical {} a cells s = s := by unfold readForWrite onlyIf; split <;> rfl
  rw [homeWrite_eq, held, afterWrite]
  refine mirrorLine_counts (by decide) (by decide) (.acts (marked_acts _ _ _)
    (.acts (storeWriteMasked_acts (Sub.refl _) (.refl _)) (.refl s)))

/-- An atomic on a line that is held and not poisoned: the old word, and the write of the new one. -/
theorem homeAtomic_held {s : State} {a : Nat} (aop fmt w0 w1 : Nat) (critical : Bool) (tile : Option Nat) (by_ : List Nat)
    (h : poisoned s (a / 128) = false) :
    homeAtomic a aop fmt w0 w1 critical {} tile by_ s = (leNat (storeBytes s a 4), false, bump 0x500205 1
      (homeWrite critical {} a (wholeBytes (leBytes 4 (atomicWord aop fmt (leNat (storeBytes s a 4)) w0 w1))) s)) := by
  have held : lineFound critical (a / 128) {} s = s := rfl
  simp only [homeAtomic, held, h, Bool.false_eq_true, if_false]

theorem lineTurn_held (s : State) (critical : Bool) (line : Nat) (me : Option Nat) : lineTurn s critical line {} me = true := rfl

section

variable {s : State} {r : Nat} {q : Req}

/-- The new word of an atomic, and its old one (R262). -/
def newWord (s : State) (q : Req) : Nat :=
  atomicWord q.aop q.fmt (leNat (storeBytes s (gaLocal q.addr.toNat) 4)) q.word0.toNat q.word1.toNat

/-- The word is written and the operation is counted. -/
def atomicWritten (s : State) (q : Req) : State :=
  bump 0x500205 1 (homeWrite q.prio {} (gaLocal q.addr.toNat) (wholeBytes (leBytes 4 (newWord s q))) s)

theorem bump_fabric (key n : Nat) (s : State) : (bump key n s).fabric = s.fabric := rfl

theorem bump_store (key n : Nat) (s : State) : (bump key n s).store = s.store := rfl

theorem storeByte_setReq (r : Nat) (q : Option Req) (s : State) (k : Nat) : storeByte (setReq r q s) k = storeByte s k := rfl

theorem setReq_store (r : Nat) (q : Option Req) (s : State) : (setReq r q s).store = s.store := rfl

theorem setReq_coord (r : Nat) (q : Option Req) (s : State) : (setReq r q s).fabric.coord = s.fabric.coord := rfl

theorem atomicWritten_fabric (s : State) (q : Req) : (atomicWritten s q).fabric = s.fabric := by
  rw [atomicWritten, bump_fabric, homeWrite_fabric]

theorem atomicWritten_copies (s : State) (q : Req) : copiesOf (atomicWritten s q).store = copiesOf s.store := by
  rw [atomicWritten, bump_store, homeWrite_copies]

/-- The request holds the old word. -/
def atomicReturn (s : State) (q : Req) : Req := { q with data := storeBytes s (gaLocal q.addr.toNat) 4, poison := false }

theorem execHomeSliceAtomic_held (h : homeReq s r .atomic = some q) (hd : writeDenied s (gaLocal q.addr.toNat) 4 = none)
    (hr : writeRoom s (gaLocal q.addr.toNat) = true) (hp : poisoned s (gaLocal q.addr.toNat / 128) = false) :
    execHomeSliceAtomic r {} s = .next (whenInvalidated (gaLocal q.addr.toNat) (some r) none
      (setReq r (some (atomicReturn s q)) (atomicWritten s q))) := by
  have old := leBytes_leNat (storeBytes s (gaLocal q.addr.toNat) 4)
  rw [storeBytes_length] at old
  simp only [execHomeSliceAtomic, h, hd, hr, lineTurn_held, homeAtomic_held _ _ _ _ _ _ _ hp, old, Bool.true_eq_false, if_false]
  rfl

theorem execHomeSliceAtomic_answers (h : homeReq s r .atomic = some q) (hd : writeDenied s (gaLocal q.addr.toNat) 4 = none)
    (hr : writeRoom s (gaLocal q.addr.toNat) = true) (hp : poisoned s (gaLocal q.addr.toNat / 128) = false)
    (hf : farDies s (ownGa s (gaLocal q.addr.toNat)) = []) :
    execHomeSliceAtomic r {} s = .next (answerReq r (storeBytes s (gaLocal q.addr.toNat) 4) false
      (setReq r (some (atomicReturn s q)) (atomicWritten s q))) := by
  set v := setReq r (some (atomicReturn s q)) (atomicWritten s q) with hv
  have hcopies : copiesOf v.store = copiesOf s.store := by rw [hv, setReq_store, atomicWritten_copies]
  have hcoord : v.fabric.coord = s.fabric.coord := by rw [hv, setReq_coord, atomicWritten_fabric]
  obtain ⟨-, hfar⟩ := farDies_congr (gaLocal q.addr.toNat) hcoord hcopies
  obtain ⟨answered, -⟩ := whenInvalidated_own (gaLocal q.addr.toNat)
    (reqOf_setReq_self r (atomicReturn s q) (atomicWritten s q))
  rw [execHomeSliceAtomic_held h hd hr hp, answered (hfar.trans hf)]
  rfl

end

/-! ### Acknowledgements that wait (R46) -/

theorem ackDie_head (line die : Nat) (dies : List Nat) (req : Option Nat) (ack : Option Packet) (h : die ∈ dies) :
    ackDie line die [⟨line, dies, req, ack⟩] = [⟨line, dies.filter (fun d => decide (d ≠ die)), req, ack⟩] := by
  rw [ackDie, if_pos ⟨rfl, by simpa using h⟩]

theorem storeByte_atomicWritten_outside {s : State} {q : Req} {k : Nat}
    (h : k < gaLocal q.addr.toNat ∨ gaLocal q.addr.toNat + 4 ≤ k) :
    storeByte (atomicWritten s q) k = storeByte s k := by
  rw [atomicWritten, storeByte_bump]
  exact storeByte_homeWrite_outside _ _ _ (by rwa [wholeBytes, List.length_map, leBytes_length])

theorem storeBytes_atomicWritten {s : State} {q : Req} (w : Memory.wf s = true) :
    storeBytes (atomicWritten s q) (gaLocal q.addr.toNat) 4 = leBytes 4 (newWord s q) := by
  have e := storeBytes_homeWrite_wholeBytes q.prio {} (gaLocal q.addr.toNat) (leBytes 4 (newWord s q)) w
  rw [leBytes_length] at e
  exact e

theorem cntOf_atomicWritten (s : State) (q : Req) : cntOf (atomicWritten s q) 0x500205 = cntOf s 0x500205 + 1 := by
  rw [atomicWritten, cntOf_bump_self _ (by decide), (homeWrite_counts _ _ _ s).cnt 0x500205 (by decide) (by decide)]

theorem answerReq_waits (r : Nat) (data : List Byte) (poison : Bool) (s : State) :
    (answerReq r data poison s).store.waits = s.store.waits :=
  congrArg Prod.snd (copiesOf_of_rowKeeps (answerReq_acts (Sub.refl _) (.refl s)).rowKeeps)

/-- The die's copy is gone, and these writes wait on. -/
def dieAnswered (line : BitVec 57) (die : EngineNo) (waits : List InvWait) (s : State) : State :=
  setFar (line.toNat * 128) die.val [] { s with store := { s.store with waits := waits } }

/-- The answer of one die for the only write that waits: the write waits on for the others, or is acknowledged. -/
theorem execFarInvalidateAck_only {s : State} {line : BitVec 57} {die : EngineNo} {dies : List Nat} {req : Option Nat}
    (hw : s.store.waits = [⟨line.toNat, dies, req, none⟩]) (hd : die.val ∈ dies) :
    execFarInvalidateAck line die s = .next (
      match dies.filter (fun d => decide (d ≠ die.val)) with
      | [] => acknowledge req none (dieAnswered line die [] s)
      | d :: rest => dieAnswered line die [⟨line.toNat, d :: rest, req, none⟩] s) := by
  have waiting : s.store.waits.any (fun w => decide (w.line = line.toNat) && w.dies.contains die.val) = true := by simp [hw, hd]
  rw [execFarInvalidateAck, if_pos waiting, hw, ackDie_head _ _ _ _ _ hd]
  generalize dies.filter (fun d => decide (d ≠ die.val)) = rest
  cases rest with
  | nil => rfl
  | cons d rest => rfl

/-- Settles O40: the atomic is the write of its result, whose bytes are the masked write of whole bytes; a write that waits is
acknowledged by the answer that leaves no die. -/
theorem atomicsReplaceTheWordAndReturnTheOld : Obligations.AtomicsReplaceTheWordAndReturnTheOld := by
  intro s r q
  refine ⟨fun w h hd hr hp hf => ?_, fun line die hw hq hopen => ?_, fun line die other hne hw => ?_⟩
  · obtain ⟨hreq, hopen⟩ := homeReq_spec h
    obtain ⟨q', hq', done, clean, data⟩ := answerReq_answers (reqOf_setReq_self r (atomicReturn s q) (atomicWritten s q))
      (show (atomicReturn s q).answered = false from hopen) (storeBytes s (gaLocal q.addr.toNat) 4) false
    refine ⟨_, execHomeSliceAtomic_answers h hd hr hp hf, ?_, fun k hk => ?_, ?_, q', hq', done, clean, data⟩
    · refine Eq.trans ?_ (storeBytes_atomicWritten w)
      simp only [storeBytes, storeByte_answerReq, storeByte_setReq]
    · rw [storeByte_answerReq, storeByte_setReq, storeByte_atomicWritten_outside hk]
    · have same := (answerReq_counts (codes := []) (keys := []) (r := r) (data := storeBytes s (gaLocal q.addr.toNat) 4)
        (poison := false) (.refl (setReq r (some (atomicReturn s q)) (atomicWritten s q)))).cnt 0x500205 (by decide) (by decide)
      exact same.trans (cntOf_atomicWritten s q)
  · have last : [die.val].filter (fun d => decide (d ≠ die.val)) = [] := by simp
    have hexec := execFarInvalidateAck_only hw (List.mem_singleton.mpr rfl)
    have hu : reqOf (dieAnswered line die [] s) r = some q := hq
    obtain ⟨q', hq', done, -, data⟩ := answerReq_answers hu hopen q.data q.poison
    rw [last] at hexec
    refine ⟨_, hexec, ?_⟩
    dsimp only
    rw [acknowledge_own r hu]
    exact ⟨answerReq_waits _ _ _ _, q', hq', done, data⟩
  · have rest : [die.val, other.val].filter (fun d => decide (d ≠ die.val)) = [other.val] := by
      have : other.val ≠ die.val := fun e => hne (Fin.ext e.symm)
      simp [this]
    have hexec := execFarInvalidateAck_only hw List.mem_cons_self
    rw [rest] at hexec
    exact ⟨_, hexec, rfl, rfl⟩

end Sys2Proof.Laws

/-!
PROOF. Audited writes of a Maker while the NV store is closed (R38, R155, R449, R466, R468, R500): the record that waits in the
journal, the answer, and the effect of the two entries that leave a record of their own.
-/

namespace Sys2Proof.Laws

open Machine

/-! ### A record that waits (R500) -/

/-- While the NV store is closed a record joins the journal; beside it, there is at most the log record of 0x9040. -/
theorem journalPut_closed {s : State} (r : JRec) (closed : s.pow.nvOpen = false) (room : s.pow.journal.length < 64) :
    ∃ advised, Acts (Part.set logParts) { s with pow := { s.pow with journal := s.pow.journal ++ [r], nvAdvised := advised } }
      (journalPut r s) := by
  unfold journalPut
  simp only [closed, Bool.false_and, Bool.false_eq_true, if_false, room, if_true, onlyIf, Bool.or_false, Bool.not_false,
    Bool.true_and]
  split
  · exact ⟨true, logWith_acts (Sub.refl _) (.refl _)⟩
  · exact ⟨s.pow.nvAdvised, .refl _⟩

/-- What a record that waits leaves and adds. -/
structure Journalled (r : JRec) (s t : State) : Prop where
  journal : t.pow.journal = s.pow.journal ++ [r]
  arrs : t.arrs = s.arrs
  nv : t.nv = s.nv
  od : t.out.od = s.out.od
  laneCommit : t.mgmt.laneCommit = s.mgmt.laneCommit

/-- An operation outside those parts leaves them so. -/
theorem Journalled.acts {L : Nat} {r : JRec} {s x t : State} (h : Journalled r s x) (a : Acts L x t)
    (out : ∀ p ∈ [Part.journal, .arrays, .nvStore, .answers, .mirrorArea], L.testBit (Part.index p) = false := by decide) :
    Journalled r s t := by
  have hj : journalOf t.pow = journalOf x.pow := a.part .journal (out _ (by decide))
  have hm : mirrorAreaOf t.mgmt = mirrorAreaOf x.mgmt := a.part .mirrorArea (out _ (by decide))
  simp only [journalOf, mirrorAreaOf, Prod.mk.injEq] at hj hm
  obtain ⟨hjournal, -⟩ := hj
  obtain ⟨-, -, -, -, hcommit⟩ := hm
  exact ⟨hjournal.trans h.journal, (a.part .arrays (out _ (by decide))).trans h.arrs,
    (a.part .nvStore (out _ (by decide))).trans h.nv, (a.part .answers (out _ (by decide))).trans h.od,
    hcommit.trans h.laneCommit⟩

theorem journalPut_journalled {s : State} (r : JRec) (closed : s.pow.nvOpen = false) (room : s.pow.journal.length < 64) :
    Journalled r s (journalPut r s) := by
  obtain ⟨advised, logged⟩ := journalPut_closed r closed room
  have waits : Journalled r s { s with pow := { s.pow with journal := s.pow.journal ++ [r], nvAdvised := advised } } :=
    ⟨rfl, rfl, rfl, rfl, rfl⟩
  exact waits.acts logged

/-! ### The entries as numbers (R8) -/

theorem leNat_leBytes {n v : Nat} (h : v < 256 ^ n) : leNat (leBytes n v) = v := by
  induction n generalizing v with
  | zero => rw [leBytes, leNat]; omega
  | succ n ih =>
    rw [leBytes, leNat, ih (by rw [pow_succ] at h; omega), BitVec.toNat_ofNat]
    omega

/-! ### A Maker's write (R450, R459, R466, R468) -/

section

variable {s : State} {q : OdReq} {r : OdRow} {data : List Byte}

theorem odPut_of_maker (h : MakerWrites s q) {index sub : Nat} (hr : odRow index sub = some r) (size v : Nat) :
    ∃ fp, odPut q index sub size v s = .next (writeAs q r .maker fp 0 (leBytes size v) s) := by
  obtain ⟨core, form, role, -⟩ := h
  obtain ⟨⟨role', fp⟩, hrole, rfl⟩ := Option.map_eq_some_iff.mp role
  refine ⟨fp, ?_⟩
  simp only [odPut, odWrite, serve, serverOf, core, form, hrole, hr, if_true, Bool.false_eq_true, if_false, Bool.false_and]

/-- A write of 1 to OD 0x1200.03 has a commit of lane maps on its way (R38). -/
def commitDue (r : OdRow) (data : List Byte) (s : State) : State :=
  onlyIf (decide (r.key = 0x120003) && decide (leNat data = 1)) (fun s => { s with mgmt := { s.mgmt with laneCommit := true } }) s

/-- An audited write that is accepted: its record, its effect and its answer. -/
theorem writeAs_accepted (audited : isAudited r = true) (room : s.pow.journal.length < 64) (fp : List Byte)
    (ok : writeStatus s r .maker 0 data = odOk) :
    ∃ audit, writeAs q r .maker fp 0 data s = respond q odOk [] (acceptWrite r data
      (journalPut { kind := recordKind s r data, audit := audit } (commitDue r data s))) := by
  have free : journalRoom s = true := decide_eq_true room
  have known : decide (odOk = odAccess ∨ odOk = odNoObject) = false := by decide
  refine ⟨some (auditOf (commitDue r data s) q r .maker fp odOk data), ?_⟩
  rw [writeAs]
  simp only [audited, free, ok, known, if_true, decide_true, Bool.true_and, commitDue, onlyIf, Bool.false_eq_true, if_false]

/-- An audited write that the state refuses: its audit record and its answer. -/
theorem writeAs_refused (audited : isAudited r = true) (room : s.pow.journal.length < 64) (fp : List Byte)
    (refused : writeStatus s r .maker 0 data = odState) :
    ∃ audit, writeAs q r .maker fp 0 data s = respond q odState [] (journalPut { kind := .auditOnly, audit := audit } s) := by
  have free : journalRoom s = true := decide_eq_true room
  have known : decide (odState = odAccess ∨ odState = odNoObject) = false := by decide
  have other : ¬odState = odOk := by decide
  refine ⟨some (auditOf s q r .maker fp odState data), ?_⟩
  rw [writeAs]
  simp only [audited, free, refused, known, other, if_true, decide_false, Bool.false_and, onlyIf, Bool.false_eq_true, if_false]

/-- A write whose form and range hold is accepted, or refused by the state. -/
theorem writeStatus_maker (hrd : rankAtLeast .maker r.rd = true) (hwr : r.wr = some .maker) (size : data.length = r.size)
    (range : rangeOk s r data = true) :
    writeStatus s r .maker 0 data = if stateRefuses s .maker r.key data then odState else odOk := by
  have maker : rankAtLeast .maker .maker = true := by decide
  rw [writeStatus]
  simp only [hrd, hwr, maker, size, range, Bool.not_true, Bool.false_eq_true, if_false, ne_eq, not_true_eq_false, or_self]

/-- An accepted write of a write-only entry has its event and its effect. -/
theorem acceptWrite_of_wo (wo : r.wo = true) (audited : isAudited r = true) :
    acceptWrite r data s = odEffect r.key data (odStored s r) (postEvent 3 0 0 r.index r.sub s) := by
  simp only [acceptWrite, takeValue, wo, audited, onlyIf, if_true]

theorem postEvent_journalled {j : JRec} {x : State} (h : Journalled j s x) (kind sev code index sub : Nat) :
    Journalled j s (postEvent kind sev code index sub x) := h.acts (postEvent_acts (Sub.refl _) (.refl x))

theorem respond_answers (status : Nat) (d : List Byte) {x : State} (h : x.out.od = s.out.od) :
    Answers q status d s (respond q status d x) := by
  rw [Answers, ← h]
  rfl

/-- A Maker's write of an audited write-only entry that is accepted, while the NV store is closed: the record waits, then come the
event, the effect and the answer. -/
theorem odPut_accepted (h : MakerWrites s q) (closed : s.pow.nvOpen = false) {index sub size v : Nat}
    (hr : odRow index sub = some r) (audited : isAudited r = true) (wo : r.wo = true)
    (ok : writeStatus s r .maker 0 (leBytes size v) = odOk) :
    ∃ audit old y, odPut q index sub size v s = .next (respond q odOk [] (odEffect r.key (leBytes size v) old y)) ∧
      Journalled { kind := recordKind s r (leBytes size v), audit := audit } (commitDue r (leBytes size v) s) y := by
  obtain ⟨fp, hexec⟩ := odPut_of_maker h hr size v
  obtain ⟨audit, hw⟩ := writeAs_accepted (q := q) audited h.room fp ok
  have due : (commitDue r (leBytes size v) s).pow = s.pow := by unfold commitDue onlyIf; split <;> rfl
  rw [hw, acceptWrite_of_wo wo audited] at hexec
  exact ⟨audit, _, _, hexec,
    postEvent_journalled (journalPut_journalled _ (by rw [due, closed]) (by rw [due]; exact h.room)) 3 0 0 r.index r.sub⟩

/-- One that the state refuses leaves its audit record alone. -/
theorem odPut_refused (h : MakerWrites s q) (closed : s.pow.nvOpen = false) {index sub size v : Nat}
    (hr : odRow index sub = some r) (audited : isAudited r = true)
    (refused : writeStatus s r .maker 0 (leBytes size v) = odState) :
    ∃ audit y, odPut q index sub size v s = .next (respond q odState [] y) ∧
      Journalled { kind := .auditOnly, audit := audit } s y := by
  obtain ⟨fp, hexec⟩ := odPut_of_maker h hr size v
  obtain ⟨audit, hw⟩ := writeAs_refused (q := q) audited h.room fp refused
  rw [hw] at hexec
  exact ⟨audit, _, hexec, journalPut_journalled _ closed h.room⟩

end

/-! ### RETIRE_CLEAR (R155) and LANE_MAP_COMMIT (R38) -/

/-- The entry of RETIRE_CLEAR. -/
def retireClearRow : OdRow := ⟨0x6010, 0x07, 3, 2, .operator, some .maker, true, 1, 0, 0, 1535⟩

/-- The entry of LANE_MAP_COMMIT. -/
def laneMapCommitRow : OdRow := ⟨0x1200, 0x03, 1, 1, .operator, some .maker, true, 0, 0, 0, 1⟩

theorem odRow_retireClear : odRow 0x6010 7 = some retireClearRow := by decide

theorem odRow_laneMapCommit : odRow 0x1200 3 = some laneMapCommitRow := by decide

theorem retireClearRow_key : retireClearRow.key = 0x601007 := rfl

theorem laneMapCommitRow_key : laneMapCommitRow.key = 0x120003 := rfl

theorem stateRefuses_retireClear (s : State) (role : Role) (data : List Byte) :
    stateRefuses s role 0x601007 data = mget false s.nv.factoryOff (leNat data) := rfl

theorem stateRefuses_laneMapCommit (s : State) (role : Role) (data : List Byte) :
    stateRefuses s role 0x120003 data = s.mgmt.laneCommit := rfl

theorem odEffect_retireClear (data old : List Byte) (s : State) :
    odEffect 0x601007 data old s = modArr (leNat data) (fun a => { a with clear := decide (a.state = 3) }) s := rfl

theorem odEffect_laneMapCommit (data old : List Byte) (s : State) : odEffect 0x120003 data old s = s := rfl

theorem rangeOk_retireClear (s : State) {data : List Byte} (h : leNat data ≤ 1535) : rangeOk s retireClearRow data = true := by
  have plain : isKeyEntry 0x601007 = false := by decide
  have typ : retireClearRow.typ = 3 := rfl
  have bounds : retireClearRow.lo = 0 ∧ retireClearRow.hi = 1535 := ⟨rfl, rfl⟩
  have unrelated (x : State) : constraintsOk x 0x601007 = true := rfl
  simp [rangeOk, retireClearRow_key, plain, bounds, h, unrelated]

theorem rangeOk_laneMapCommit (s : State) {data : List Byte} (h : leNat data ≤ 1) : rangeOk s laneMapCommitRow data = true := by
  have plain : isKeyEntry 0x120003 = false := by decide
  have bounds : laneMapCommitRow.lo = 0 ∧ laneMapCommitRow.hi = 1 := ⟨rfl, rfl⟩
  have unrelated (x : State) : constraintsOk x 0x120003 = true := rfl
  simp [rangeOk, laneMapCommitRow_key, plain, bounds, h, unrelated]

theorem leNat_array {a : U16} : leNat (leBytes 2 a.toNat) = a.toNat := leNat_leBytes a.isLt

theorem writeStatus_retireClear (s : State) {a : U16} (ha : a.toNat < 1536) :
    writeStatus s retireClearRow .maker 0 (leBytes 2 a.toNat) = if mget false s.nv.factoryOff a.toNat then odState else odOk := by
  rw [writeStatus_maker (by decide) rfl (leBytes_length 2 _) (rangeOk_retireClear s (by rw [leNat_array]; omega)),
    retireClearRow_key, stateRefuses_retireClear, leNat_array]

theorem writeStatus_laneMapCommit (s : State) :
    writeStatus s laneMapCommitRow .maker 0 (leBytes 1 1) = if s.mgmt.laneCommit then odState else odOk := by
  rw [writeStatus_maker (by decide) rfl (leBytes_length 1 _) (rangeOk_laneMapCommit s (by decide)), laneMapCommitRow_key,
    stateRefuses_laneMapCommit]

theorem recordKind_retireClear (s : State) (data : List Byte) : recordKind s retireClearRow data = .unretire (leNat data) := by
  rw [recordKind, retireClearRow_key, if_neg (by decide), if_pos rfl]

/-- The maps in use of the bundles whose map is not the manifest's (R38). -/
def changedLaneMaps (s : State) : List (Nat × List Byte) :=
  ((List.range 108).filter (fun b => (bundleOf s b).mapDiff)).map (fun b => (b, laneInUse s b))

theorem recordKind_laneMapCommit (s : State) : recordKind s laneMapCommitRow (leBytes 1 1) = .laneMaps (changedLaneMaps s) := by
  rw [recordKind, laneMapCommitRow_key, if_pos rfl, if_pos (by decide), changedLaneMaps]

/-- A retired array that is cleared waits for the Season (R155). -/
theorem arrOf_clear {s : State} {a : Nat} (h : (arrOf s a).state = 3) :
    arrOf (modArr a (fun x => { x with clear := decide (x.state = 3) }) s) a = { arrOf s a with clear := true } := by
  have e : ({ arrOf s a with clear := decide ((arrOf s a).state = 3) } : Arr) = { arrOf s a with clear := true } := by rw [h]; rfl
  refine (arrOf_modArr_self a _ s ?_).trans e
  rw [e]
  exact fun n => Bool.noConfusion (congrArg Arr.clear n)

/-- Settles O34: an accepted write has its record in the journal, of the kind of its entry, before its effect; a refused one has its
audit record alone. -/
theorem makersClearRetirementsAndCommitLaneMaps : Obligations.MakersClearRetirementsAndCommitLaneMaps := by
  intro s q h closed
  refine ⟨fun a ha factory retired => ?_, fun a ha factory => ?_, fun free => ?_, fun busy => ?_⟩
  · obtain ⟨audit, old, y, hexec, hy⟩ := odPut_accepted (size := 2) h closed odRow_retireClear (by decide) rfl
      (by rw [writeStatus_retireClear s ha, factory]; rfl)
    rw [retireClearRow_key, odEffect_retireClear, leNat_array] at hexec
    have hcleared := arrOf_clear (s := y) (a := a.toNat) (by rw [arrOf, hy.arrs]; exact retired)
    refine ⟨_, hexec, congrArg Arr.clear hcleared, (congrArg Arr.state hcleared).trans ?_,
      respond_answers _ _ hy.od, _, hy.journal, ?_⟩
    · rw [arrOf, hy.arrs]
      exact retired
    · rw [recordKind_retireClear, leNat_array]
  · obtain ⟨audit, y, hexec, hy⟩ := odPut_refused (size := 2) h closed odRow_retireClear (by decide)
      (by rw [writeStatus_retireClear s ha, factory]; rfl)
    exact ⟨_, hexec, hy.arrs, respond_answers _ _ hy.od⟩
  · obtain ⟨audit, old, y, hexec, hy⟩ := odPut_accepted (size := 1) (v := 1) h closed odRow_laneMapCommit (by decide) rfl
      (by rw [writeStatus_laneMapCommit s, free]; rfl)
    rw [laneMapCommitRow_key, odEffect_laneMapCommit, recordKind_laneMapCommit] at *
    exact ⟨_, hexec, hy.laneCommit, respond_answers _ _ hy.od, _, hy.journal, rfl⟩
  · obtain ⟨audit, y, hexec, hy⟩ := odPut_refused (size := 1) (v := 1) h closed odRow_laneMapCommit (by decide)
      (by rw [writeStatus_laneMapCommit s, busy]; rfl)
    exact ⟨_, hexec, respond_answers _ _ hy.od, congrArg Nv.laneMaps hy.nv⟩

end Sys2Proof.Laws

/-!
PROOF. Rows and scrubbing (R250, R253 to R257): what the copy of a row leaves, and what a word that is scrubbed counts and poisons.
-/

namespace Sys2Proof.Laws

open Machine

/-! ### The copy of a row (R256) -/

theorem Acts.copying {L : Nat} {s t : State} (h : Acts L s t) (out : L.testBit 16 = false := by decide) :
    t.store.copying = s.store.copying := by
  have e : storeRestOf t.store = storeRestOf s.store := h.part .storeRest out
  simp only [storeRestOf, Prod.mk.injEq] at e
  obtain ⟨-, -, -, -, copying, -⟩ := e
  exact copying

theorem copyWord_copying (row i : Nat) (w : WordRead) (s : State) : (copyWord row i w s).store.copying = s.store.copying := by
  unfold copyWord
  cases w with
  | clean => rfl
  | corrected k =>
    dsimp only
    split
    · rfl
    · rw [(corrected_acts (Sub.refl _) (.refl _)).copying]
      rfl
  | uncorrectable => rfl

/-- The row's copy has ended; the words are still to be judged. -/
def copyEnded (row : Nat) (s : State) : State :=
  { s with store := { s.store with copying := mset false s.store.copying row false } }

theorem execRowCopyDone_of_copying {s : State} {row : BitVec 24} (words : List (Fin 16 × WordRead))
    (h : mget false s.store.copying row.toNat = true) :
    execRowCopyDone row words s = .next (forEach words (fun x => copyWord row.toNat x.1.val x.2) (copyEnded row.toNat s)) := by
  rw [execRowCopyDone, if_pos h]
  rfl

theorem forEach_copyWord_copying (row : Nat) (words : List (Fin 16 × WordRead)) (s : State) :
    (forEach words (fun x => copyWord row x.1.val x.2) s).store.copying = s.store.copying := by
  induction words generalizing s with
  | nil => rfl
  | cons x words ih => exact (ih _).trans (copyWord_copying _ _ _ _)

/-! ### What the failure of a row counts (R255 to R257) -/

theorem markSegment_counts {codes keys : List Nat} {s x : State} {row : Nat} (hm : 0x2004 ∈ codes) (hb : 0x2015 ∈ codes)
    (h : CountsOnly codes keys s x) : CountsOnly codes keys s (markSegment row x) := by
  unfold markSegment
  dsimp only
  split
  · exact h
  · split
    · exact raise_counts (.inr hm) h
    · split
      · exact raise_counts (.inr hb) h
      · exact raise_counts (.inr hm) (h.upd rfl rfl rfl)

theorem remapRow_counts {codes keys : List Nat} {s x : State} {row : Nat} {copy : Bool} (h : CountsOnly codes keys s x) :
    CountsOnly codes keys s (remapRow row copy x) := journalPut_counts (h.upd rfl rfl rfl)

theorem rowFailure_counts (row : Nat) (copy : Bool) (s : State) :
    CountsOnly [0x2002, 0x2003, 0x2004, 0x2015] [] s (rowFailure row copy s) := by
  have mark : CountsOnly [0x2002, 0x2003, 0x2004, 0x2015] [] s (markSegment row s) :=
    markSegment_counts (by decide) (by decide) (.refl s)
  unfold rowFailure
  dsimp only
  split
  · apply remapRow_counts
    split
    · exact raise_counts (.inr (by decide)) (.refl s)
    · exact raise_counts (.inr (by decide)) (.refl s)
  · split
    · exact remapRow_counts mark
    · exact mark

/-! ### A word that is scrubbed (R250, R254) -/

theorem takeSlot_counts (ch : Nat) (critical : Bool) (s : State) : CountsOnly [] [0x500206] s (takeSlot ch critical s) :=
  modChan_counts ((CountsOnly.refl s).onlyIf (bump_counts (.inr (by decide))))

theorem takeSlot_poison (ch : Nat) (critical : Bool) (s : State) : (takeSlot ch critical s).store.poison = s.store.poison := by
  unfold takeSlot onlyIf
  dsimp only
  split <;> rfl

theorem takeSlot_segRetired (ch : Nat) (critical : Bool) (s : State) :
    (takeSlot ch critical s).store.segRetired = s.store.segRetired := by
  unfold takeSlot onlyIf
  dsimp only
  split <;> rfl

/-- A slot that is granted stands among the channel's grants (R250). -/
theorem takeSlot_chan (ch : Nat) (critical : Bool) (s : State) : chanOf (takeSlot ch critical s) ch =
    { chanOf s ch with grants := ((now s, critical) :: (chanOf s ch).grants).take 1600 } := by
  have granted (x : State) : chanOf (modChan ch (fun c => { c with grants := ((now x, critical) :: c.grants).take 1600 }) x) ch =
      { chanOf x ch with grants := ((now x, critical) :: (chanOf x ch).grants).take 1600 } :=
    chanOf_modChan_self ch _ x fun e => by simpa using congrArg Chan.grants e
  unfold takeSlot onlyIf
  dsimp only
  split
  · exact granted (bump 0x500206 1 s)
  · exact granted s

/-- The place of a line is a matter of the segments that are retired (R258). -/
theorem physChan_congr {s t : State} {a b : Nat} (h : t.store.segRetired = s.store.segRetired) (line : b / 128 = a / 128) :
    physChan t b = physChan s a := by
  have retired (l : Nat) : lineRetired t l = lineRetired s l := by rw [lineRetired, lineRetired, h]
  have cap : capacity t = capacity s := by rw [capacity, capacity, segsRetired, segsRetired, h]
  simp only [physChan, heldAt, retired, cap, line, show lineRetired t = lineRetired s from funext retired]

/-- A corrected word is counted on its channel and as 0x2001, before its row is judged (R254, R255). -/
def wordCorrected (a : Nat) (s : State) : State :=
  corrected 0x2001 none (physRow s a) (bump 0x500201 1
    (modChan (physChan s a) (fun c => { c with corr := min 0xFFFF (c.corr + 1) }) s))

/-- It is counted on its row, too (R255). -/
def rowCounted (a : Nat) (s : State) : State :=
  { wordCorrected a s with store := { (wordCorrected a s).store with
    rowCorr := mset 0 (wordCorrected a s).store.rowCorr (physRow s a) (mget 0 s.store.rowCorr (physRow s a) + 1) } }

theorem oneWord_corrected (a : Nat) {k : Fin 5} (hk : k.val ≠ 0) (s : State) :
    oneWord a (.corrected k) s = onlyIf (decide (3 ≤ k.val ∨ mget 0 s.store.rowCorr (physRow s a) + 1 = 16))
      (rowFailure (physRow s a) true) (rowCounted a s) := by
  rw [oneWord, wordFound]
  simp only [hk, if_false]
  rfl

/-- Counting it on its row leaves the other counts and the channel. -/
theorem rowCounted_counts (a : Nat) (s : State) :
    corrOf (rowCounted a s) 0x2001 = corrOf (wordCorrected a s) 0x2001 ∧
      cntOf (rowCounted a s) 0x500201 = cntOf (wordCorrected a s) 0x500201 ∧
      ∀ i, chanOf (rowCounted a s) i = chanOf (wordCorrected a s) i := ⟨rfl, rfl, fun _ => rfl⟩

theorem oneWord_uncorrectable (a : Nat) (s : State) :
    oneWord a .uncorrectable s = rowFailure (physRow s a) true (setPoison (a / 128) true s) := rfl

theorem wordCorrected_corr (a : Nat) (s : State) : corrOf (wordCorrected a s) 0x2001 = corrOf s 0x2001 + 1 :=
  (correctedWith_counts none (physRow s a) [] _).self

theorem wordCorrected_cnt (a : Nat) (s : State) : cntOf (wordCorrected a s) 0x500201 = cntOf s 0x500201 + 1 := 
  ((correctedWith_counts _ _ _ _).cnt 0x500201 (by decide)).trans (cntOf_bump_self _ (by decide))

theorem chanOf_of_rowKeeps {s t : State} (h : rowKeeps t.store = rowKeeps s.store) (i : Nat) : chanOf t i = chanOf s i := by
  simp only [rowKeeps, Prod.mk.injEq] at h
  obtain ⟨-, hchans, -⟩ := h
  rw [chanOf, chanOf, hchans]

theorem poisoned_of_rowKeeps {s t : State} (h : rowKeeps t.store = rowKeeps s.store) (line : Nat) :
    poisoned t line = poisoned s line := by
  simp only [rowKeeps, Prod.mk.injEq] at h
  obtain ⟨hpoison, -⟩ := h
  rw [poisoned, poisoned, hpoison]

theorem wordCorrected_chan (a : Nat) (s : State) :
    (chanOf (wordCorrected a s) (physChan s a)).corr = min 0xFFFF ((chanOf s (physChan s a)).corr + 1) := by
  have counted : chanOf (modChan (physChan s a) (fun c => { c with corr := min 0xFFFF (c.corr + 1) }) s) (physChan s a) =
      { chanOf s (physChan s a) with corr := min 0xFFFF ((chanOf s (physChan s a)).corr + 1) } :=
    chanOf_modChan_self _ _ s fun e => by
      have zero : min 0xFFFF ((chanOf s (physChan s a)).corr + 1) = 0 := congrArg Chan.corr e
      omega
  rw [wordCorrected, chanOf_of_rowKeeps (corrected_rowKeeps _ _ _ _), chanOf_bump, counted]

theorem execScrub_eq {s : State} {addr : BitVec 34} (w : WordRead) (hub : s.boot.hub = true)
    (tested : (chanOf s (physChan s addr.toNat)).tested = true) (free : rowBusy s addr.toNat = false)
    (turn : classTurn s (physChan s addr.toNat) false none = true) :
    execScrub addr w s = .next (oneWord (addr.toNat / 64 * 64) w (takeSlot (physChan s addr.toNat) false s)) := by
  rw [execScrub]
  simp only [hub, tested, free, turn, and_self, if_true]

/-- The row's failure, if it comes to one, changes none of the counts that a corrected word has. -/
theorem onlyIf_rowFailure (bad : Bool) (row : Nat) (s : State) :
    CountsOnly [0x2002, 0x2003, 0x2004, 0x2015] [] s (onlyIf bad (rowFailure row true) s) ∧
      rowKeeps (onlyIf bad (rowFailure row true) s).store = rowKeeps s.store := by
  unfold onlyIf
  split
  · exact ⟨rowFailure_counts row true s, rowFailure_rowKeeps row true s⟩
  · exact ⟨.refl s, rfl⟩

/-- A corrected word is counted once, as 0x2001, in OD 0x5002.01 and on its channel (R254). -/
theorem oneWord_corrected_counts (a : Nat) {k : Fin 5} (hk : k.val ≠ 0) (s : State) :
    corrOf (oneWord a (.corrected k) s) 0x2001 = corrOf s 0x2001 + 1 ∧
      cntOf (oneWord a (.corrected k) s) 0x500201 = cntOf s 0x500201 + 1 ∧
      (chanOf (oneWord a (.corrected k) s) (physChan s a)).corr = min 0xFFFF ((chanOf s (physChan s a)).corr + 1) := by
  rw [oneWord_corrected a hk]
  obtain ⟨⟨-, hcorr, hcnt⟩, hkeeps⟩ := onlyIf_rowFailure
    (decide (3 ≤ k.val ∨ mget 0 s.store.rowCorr (physRow s a) + 1 = 16)) (physRow s a) (rowCounted a s)
  obtain ⟨ccorr, ccnt, cchan⟩ := rowCounted_counts a s
  refine ⟨?_, ?_, ?_⟩
  · rw [corrOf, hcorr, ← corrOf, ccorr, wordCorrected_corr]
  · rw [hcnt _ (by decide) (by decide), ccnt, wordCorrected_cnt]
  · rw [chanOf_of_rowKeeps hkeeps, cchan, wordCorrected_chan]

theorem poisoned_setPoison (line : Nat) (s : State) : poisoned (setPoison line true s) line = true :=
  mget_mset_self (d := false) (m := s.store.poison) (v := true) (by decide)

theorem oneWord_uncorrectable_poisons (a : Nat) (s : State) : poisoned (oneWord a .uncorrectable s) (a / 128) = true := by
  rw [oneWord_uncorrectable, poisoned_of_rowKeeps (rowFailure_rowKeeps _ _ _), poisoned_setPoison]

/-- Scrubbing takes a slot first; the word's channel and what it counts are those before it. -/
theorem physChan_scrub (addr : Nat) (s : State) :
    physChan (takeSlot (physChan s addr) false s) (addr / 64 * 64) = physChan s addr :=
  physChan_congr (takeSlot_segRetired _ _ _) (by omega)

/-! ### The end of a migration (R258) -/

theorem startSeason_migrating (s : State) : (startSeason s).store.migrating = s.store.migrating := by
  have e : storeRestOf (startSeason s).store = storeRestOf s.store := (startSeason_acts (Sub.refl _) (.refl s)).part .storeRest
  simp only [storeRestOf, Prod.mk.injEq] at e
  obtain ⟨-, -, -, -, -, -, -, migrating, -⟩ := e
  exact migrating

/-! ### O41, its clauses about rows and words -/

theorem scrub_spec {s : State} {addr : BitVec 34} (hub : s.boot.hub = true)
    (tested : (chanOf s (physChan s addr.toNat)).tested = true) (free : rowBusy s addr.toNat = false)
    (turn : classTurn s (physChan s addr.toNat) false none = true) :
    Gives (.scrub addr .clean) s (fun u => u.store.cells = s.store.cells ∧ u.store.poison = s.store.poison ∧
      corrOf u 0x2001 = corrOf s 0x2001) ∧
    (∀ k : Fin 5, k.val ≠ 0 → Gives (.scrub addr (.corrected k)) s (fun u => u.store.cells = s.store.cells ∧
      corrOf u 0x2001 = corrOf s 0x2001 + 1 ∧ cntOf u 0x500201 = cntOf s 0x500201 + 1 ∧
      (chanOf u (physChan s addr.toNat)).corr = min 0xFFFF ((chanOf s (physChan s addr.toNat)).corr + 1))) ∧
    Gives (.scrub addr .uncorrectable) s (fun u => poisoned u (addr.toNat / 128) = true) := by
  have run (w : WordRead) := execScrub_eq w hub tested free turn
  have cells (w : WordRead) := (execScrub_acts (Sub.refl _) (run w)).part .storeBytes
  have slot := takeSlot_counts (physChan s addr.toNat) false s
  refine ⟨⟨_, run _, cells _, takeSlot_poison _ _ _, congrArg (fun m => mget 0 m 0x2001) slot.corr⟩, fun k hk => ?_, ?_⟩
  · obtain ⟨hcorr, hcnt, hchan⟩ :=
      oneWord_corrected_counts (addr.toNat / 64 * 64) hk (takeSlot (physChan s addr.toNat) false s)
    rw [physChan_scrub, takeSlot_chan] at hchan
    exact ⟨_, run _, cells _, hcorr.trans (by rw [corrOf, slot.corr, corrOf]),
      hcnt.trans (by rw [slot.cnt _ (by decide) (by decide)]), hchan⟩
  · have line : addr.toNat / 64 * 64 / 128 = addr.toNat / 128 := by omega
    exact ⟨_, run _, line ▸ oneWord_uncorrectable_poisons _ _⟩

end Sys2Proof.Laws

/-!
PROOF. Blocks on their way (R21, R31, R253, R273): the check of an on-chip block and of a block across a bundle, what a failure
counts, and what the sixteenth in a row brings.
-/

namespace Sys2Proof.Laws

open Machine

/-! ### The Herald whose traffic a block was (R273) -/

theorem herOf_modHer_self (t h : Nat) (f : Herald → Herald) (s : State) (hf : f (herOf s t h) ≠ {}) :
    herOf (modHer t h f s) t h = f (herOf s t h) := by
  have row : mget {} (mmod {} (tileOf s t).her h f) h = f (herOf s t h) := mget_mmod_self hf
  have tile : tileOf (modHer t h f s) t = { tileOf s t with her := mmod {} (tileOf s t).her h f } := by
    refine tileOf_modTile_self t _ s fun e => hf ?_
    have hnone : mmod {} (tileOf s t).her h f = [] := congrArg Tile.her e
    rw [← row, hnone]
    rfl
  rw [herOf, tile, row]

theorem herOf_countHerald (t : TileNo) (h : Fin 8) (s : State) :
    (herOf (countHerald (some (t, h)) s) t.val h.val).resend = min 0xFFFF ((herOf s t.val h.val).resend + 1) := by
  refine congrArg Herald.resend (herOf_modHer_self t.val h.val
    (fun y => { y with resend := min 0xFFFF (y.resend + 1) }) s fun e => ?_)
  have zero : min 0xFFFF ((herOf s t.val h.val).resend + 1) = 0 := congrArg Herald.resend e
  omega

theorem herOf_of_tiles {s t : State} (h : t.tiles = s.tiles) (i j : Nat) : herOf t i j = herOf s i j := by
  rw [herOf, herOf, tileOf, tileOf, h]

/-- Counting on a Herald changes the tiles alone. -/
theorem countHerald_acts_self (h : Option (TileNo × Fin 8)) (s : State) : Acts (Part.set [.tiles]) s (countHerald h s) :=
  countHerald_acts (Sub.refl _) (.refl s)

theorem countHerald_health (h : Option (TileNo × Fin 8)) (s : State) : (countHerald h s).health = s.health := by
  cases h <;> rfl

/-! ### On-chip blocks (R253) -/

/-- The failed sends in a row on a path. -/
def setFails (c path n : Nat) (s : State) : State := modChan c (fun x => { x with fails := mset 0 x.fails path n }) s

/-- A block that fails its check is counted on its path and its Herald and as 0x2007. -/
def blockFailed (c : TileNo) (path : Fin 8) (herald : Option (TileNo × Fin 8)) (n : Nat) (s : State) : State :=
  correctedWith 0x2007 none c.val [path.val] (countHerald herald (setFails c.val path.val n (bump 0x500203 1 s)))

theorem execOnchipBlockReceive_good {c : TileNo} {path : Fin 8} (herald : Option (TileNo × Fin 8)) {data : List Byte} {crc : U16}
    (s : State) (h : crc16 data = crc.toNat) :
    execOnchipBlockReceive c path herald data crc s = .next (setFails c.val path.val 0 s) := by
  rw [execOnchipBlockReceive]
  simp only [h, if_true]
  rfl

theorem execOnchipBlockReceive_bad (c : TileNo) (path : Fin 8) (herald : Option (TileNo × Fin 8)) {data : List Byte} {crc : U16}
    (s : State) (h : crc16 data ≠ crc.toNat) :
    execOnchipBlockReceive c path herald data crc s = .next (
      let n := mget 0 (chanOf s c.val).fails path.val + 1
      onlyIf (decide (16 ≤ n)) (raiseWith 0x2011 none c.val [path.val])
        (blockFailed c path herald (if 16 ≤ n then 0 else n) s)) := by
  rw [execOnchipBlockReceive]
  simp only [h, if_false]
  rfl

/-- What a failed block counts, whatever its Herald. -/
theorem blockFailed_counts (c : TileNo) (path : Fin 8) (herald : Option (TileNo × Fin 8)) (n : Nat) (s : State) :
    corrOf (blockFailed c path herald n s) 0x2007 = corrOf s 0x2007 + 1 ∧
      cntOf (blockFailed c path herald n s) 0x500203 = cntOf s 0x500203 + 1 ∧
      faultCount (blockFailed c path herald n s) 0x2011 = faultCount s 0x2011 := by
  set x := countHerald herald (setFails c.val path.val n (bump 0x500203 1 s)) with hx
  have health : x.health = (bump 0x500203 1 s).health := countHerald_health _ _
  obtain ⟨hself, -, hevt, hcnt⟩ := correctedWith_counts (code := 0x2007) none c.val [path.val] x
  refine ⟨hself.trans ?_, (hcnt 0x500203 (by decide)).trans ?_, (hevt 0x2011 (by decide) (by decide)).trans ?_⟩
  · rw [corrOf, health, corrOf]
    rfl
  · rw [cntOf, health]
    exact cntOf_bump_self s (by decide)
  · rw [faultCount, health, faultCount]
    rfl

theorem chanOf_setFails {c path n : Nat} {s : State} (h : n ≠ 0 ∨ (chanOf s c).tested = true) :
    chanOf (setFails c path n s) c = { chanOf s c with fails := mset 0 (chanOf s c).fails path n } := by
  refine chanOf_modChan_self c _ s fun e => ?_
  obtain hn | ht := h
  · have hnone : mset 0 (chanOf s c).fails path n = [] := congrArg Chan.fails e
    have listed : mget 0 (mset 0 (chanOf s c).fails path n) path = n := mget_mset_self hn
    rw [hnone] at listed
    exact hn listed.symm
  · have untested : (chanOf s c).tested = false := congrArg Chan.tested e
    exact Bool.noConfusion (ht.symm.trans untested)

theorem fails_blockFailed (c : TileNo) (path : Fin 8) (herald : Option (TileNo × Fin 8)) {n : Nat} (h : n ≠ 0) (s : State) :
    mget 0 (chanOf (blockFailed c path herald n s) c.val).fails path.val = n := by
  have counted (x : State) : rowKeeps (correctedWith 0x2007 none c.val [path.val] x).store = rowKeeps x.store :=
    (correctedWith_acts (Sub.refl _) (.refl x)).rowKeeps
  rw [blockFailed, chanOf_of_rowKeeps (counted _), chanOf_of_rowKeeps (countHerald_acts_self herald _).rowKeeps,
    chanOf_setFails (.inl h), mget_mset_self h]

theorem herOf_blockFailed (c : TileNo) (path : Fin 8) (t : TileNo) (h : Fin 8) (n : Nat) (s : State) :
    (herOf (blockFailed c path (some (t, h)) n s) t.val h.val).resend = min 0xFFFF ((herOf s t.val h.val).resend + 1) := by
  have tiles (x : State) : (correctedWith 0x2007 none c.val [path.val] x).tiles = x.tiles :=
    (correctedWith_acts (Sub.refl _) (.refl x)).part .tiles
  rw [blockFailed, herOf_of_tiles (tiles _), herOf_countHerald]
  rfl

/-- An on-chip block: a good one clears its path, a bad one counts, and the sixteenth in a row is Device-fatal (R253, R273). -/
theorem onchipBlock_spec (s : State) (c : TileNo) (p : Fin 8) (data : List Byte) (crc : U16) :
    (crc16 data = crc.toNat → (chanOf s c.val).tested = true → mwf 0 (chanOf s c.val).fails = true → ∀ h,
      Gives (.onchipBlockReceive c p h data crc) s (fun u => u.health = s.health ∧ mget 0 (chanOf u c.val).fails p.val = 0)) ∧
    (crc16 data ≠ crc.toNat → mget 0 (chanOf s c.val).fails p.val < 15 → ∀ h,
      Gives (.onchipBlockReceive c p h data crc) s (fun u =>
        corrOf u 0x2007 = corrOf s 0x2007 + 1 ∧ cntOf u 0x500203 = cntOf s 0x500203 + 1 ∧
        mget 0 (chanOf u c.val).fails p.val = mget 0 (chanOf s c.val).fails p.val + 1 ∧
        faultCount u 0x2011 = faultCount s 0x2011)) ∧
    (crc16 data ≠ crc.toNat → 15 ≤ mget 0 (chanOf s c.val).fails p.val → ∀ h,
      Gives (.onchipBlockReceive c p h data crc) s (fun u => corrOf u 0x2007 = corrOf s 0x2007 + 1 ∧ Raised 0x2011 s u)) ∧
    (∀ (t : TileNo) (h : Fin 8), crc16 data ≠ crc.toNat → Gives (.onchipBlockReceive c p (some (t, h)) data crc) s (fun u =>
      (herOf u t.val h.val).resend = min 0xFFFF ((herOf s t.val h.val).resend + 1))) := by
  refine ⟨fun good tested canonical h => ?_, fun bad few h => ?_, fun bad many h => ?_, fun t h bad => ?_⟩
  · refine ⟨_, execOnchipBlockReceive_good h s good, rfl, ?_⟩
    rw [chanOf_setFails (.inr tested), mget_mset_self' canonical]
  · obtain ⟨hcorr, hcnt, hevt⟩ := blockFailed_counts c p h (mget 0 (chanOf s c.val).fails p.val + 1) s
    have run := execOnchipBlockReceive_bad c p h s bad
    have below : ¬16 ≤ mget 0 (chanOf s c.val).fails p.val + 1 := by omega
    simp only [below, decide_false, if_false, onlyIf, Bool.false_eq_true] at run
    exact ⟨_, run, hcorr, hcnt, fails_blockFailed c p h (Nat.succ_ne_zero _) s, hevt⟩
  · obtain ⟨hcorr, -, hevt⟩ := blockFailed_counts c p h 0 s
    have run := execOnchipBlockReceive_bad c p h s bad
    have sixteenth : 16 ≤ mget 0 (chanOf s c.val).fails p.val + 1 := by omega
    simp only [sixteenth, decide_true, if_true, onlyIf] at run
    have raised := raiseWith_raised (code := 0x2011) none c.val [p.val] (blockFailed c p h 0 s)
    have counts : CountsOnly [0x2011] [] (blockFailed c p h 0 s) (raiseWith 0x2011 none c.val [p.val] (blockFailed c p h 0 s)) :=
      raiseWith_counts (.inr (by decide)) (.refl _)
    exact ⟨_, run, (congrArg (fun m => mget 0 m 0x2007) counts.corr).trans hcorr, raised.trans (by rw [hevt])⟩
  · refine ⟨_, execOnchipBlockReceive_bad c p (some (t, h)) s bad, ?_⟩
    have raised (x : State) : (raiseWith 0x2011 none c.val [p.val] x).tiles = x.tiles :=
      (raiseWith_acts (Sub.refl _) (.refl x)).part .tiles
    unfold onlyIf
    dsimp only
    split
    · rw [herOf_of_tiles (raised _), herOf_blockFailed]
    · exact herOf_blockFailed c p t h _ s

end Sys2Proof.Laws

/-!
PROOF. Blocks across a bundle (R21, R31, R253, R273): the retry buffer of a direction, what a failed block counts, and the statement
about rows, scrubbing and blocks.
-/

namespace Sys2Proof.Laws

open Machine

/-! ### A send across a bundle (R21) -/

/-- The block of a send arrives: it is received, and it is delivered once every block before it has been. -/
def receiveBlock (b : Nat) (reverse : Bool) (l : List Block) (p : Nat) (data : List Byte) (s : State) : State :=
  modBundle b (setRetry reverse (listMod (fun y => { y with fails := 0, got := some data }) p l)) s

/-- The block of a send fails: it stays in the buffer and is counted. -/
def failBlock (b : Nat) (reverse : Bool) (l : List Block) (p : Nat) (herald : Option (TileNo × Fin 8)) (s : State) : State :=
  countHerald herald (countResend b (modBundle b (setRetry reverse (listMod (fun y => { y with fails := y.fails + 1 }) p l)) s))

/-- The bundle is lost: it is out of service, with 0x3011. -/
def loseBundle (b : Nat) (s : State) : State := raise 0x3011 b (modBundle b (fun x => { x with width := 2 }) s)

section

variable {s : State} {b : Fin 108} {reverse : Bool} {place : Fin 64} {block : List Byte} {err : BitVec 528}
  (herald : Option (TileNo × Fin 8)) {l : List Block} {p : Nat} {sent : Block}

theorem execBundleBlockReceive_good {data : List Byte} (up : (bundleOf s b.val).width ≠ 2)
    (hp : retryPlace place.val (retryOf reverse (bundleOf s b.val)) = p)
    (hl : retrySend place.val block (retryOf reverse (bundleOf s b.val)) = l)
    (hs : l.getD p { data := block } = sent) (due : sent.got = none) (ok : blockArrives sent.data err = some data) :
    execBundleBlockReceive b reverse place block err herald s = .next (receiveBlock b.val reverse l p data s) := by
  rw [execBundleBlockReceive]
  simp only [up, hp, hl, hs, due, ok, if_false, Option.isSome_none, Bool.false_eq_true]
  rfl

theorem execBundleBlockReceive_bad (up : (bundleOf s b.val).width ≠ 2)
    (hp : retryPlace place.val (retryOf reverse (bundleOf s b.val)) = p)
    (hl : retrySend place.val block (retryOf reverse (bundleOf s b.val)) = l)
    (hs : l.getD p { data := block } = sent) (due : sent.got = none) (bad : blockArrives sent.data err = none) :
    execBundleBlockReceive b reverse place block err herald s = .next (
      onlyIf (decide (16 ≤ sent.fails + 1)) (loseBundle b.val) (failBlock b.val reverse l p herald s)) := by
  rw [execBundleBlockReceive]
  simp only [up, hp, hl, hs, due, bad, if_false, Option.isSome_none, Bool.false_eq_true]
  rfl

end

/-! ### A failed block (R31) -/

/-- A re-send is noted in the bundle's row; `busy` says that the sends have become too many. -/
def noteResend (b : Nat) (sends : List Nat) (busy : Bool) (s : State) : State :=
  modBundle b (fun x => { x with resend := min 0xFFFF (x.resend + 1), sends := sends, advised := x.advised || busy }) s

theorem countResend_eq (b : Nat) (s : State) : ∃ sends busy, countResend b s =
    onlyIf busy (raise 0x3004 b) (corrected 0x3003 none b (bump 0x120005 1 (noteResend b sends busy s))) := ⟨_, _, rfl⟩

/-- The row of the bundle after a re-send: its count rises, and its latest re-sends are noted. -/
theorem bundleOf_countResend (b : Nat) (s : State) : ∃ sends advised, bundleOf (countResend b s) b =
    { bundleOf s b with resend := min 0xFFFF ((bundleOf s b).resend + 1), sends := sends, advised := advised } := by
  obtain ⟨sends, busy, e⟩ := countResend_eq b s
  have noted : bundleOf (noteResend b sends busy s) b = { bundleOf s b with
      resend := min 0xFFFF ((bundleOf s b).resend + 1), sends := sends, advised := (bundleOf s b).advised || busy } :=
    bundleOf_modBundle_self b _ s fun e => by
      have zero : min 0xFFFF ((bundleOf s b).resend + 1) = 0 := congrArg Bundle.resend e
      omega
  have counted (x : State) : (corrected 0x3003 none b x).dies = x.dies := (corrected_acts (Sub.refl _) (.refl x)).part .dies
  have dies : (countResend b s).dies = (noteResend b sends busy s).dies := by
    rw [e]
    unfold onlyIf
    split
    · rw [raise_dies, counted]
      rfl
    · exact counted _
  exact ⟨sends, _, by rw [bundleOf, dies, ← noted, bundleOf]⟩

theorem countResend_counts (b : Nat) (s : State) : corrOf (countResend b s) 0x3003 = corrOf s 0x3003 + 1 ∧
    faultCount (countResend b s) 0x3011 = faultCount s 0x3011 := by
  obtain ⟨sends, busy, e⟩ := countResend_eq b s
  obtain ⟨hself, -, hevt, -⟩ := correctedWith_counts (code := 0x3003) none b [] (bump 0x120005 1 (noteResend b sends busy s))
  have busied : CountsOnly [0x3004] []
      (corrected 0x3003 none b (bump 0x120005 1 (noteResend b sends busy s))) (countResend b s) := by
    rw [e]
    exact CountsOnly.onlyIf (.refl _) (raise_counts (.inr (by decide)))
  exact ⟨(congrArg (fun m => mget 0 m 0x3003) busied.corr).trans hself,
    (busied.evt 0x3011 (by decide) (by decide)).trans (hevt 0x3011 (by decide) (by decide))⟩

theorem countResend_tiles (b : Nat) (s : State) : (countResend b s).tiles = s.tiles :=
  (countResend_acts (Sub.refl _) (.refl s)).part .tiles

theorem countHerald_dies (h : Option (TileNo × Fin 8)) (s : State) : (countHerald h s).dies = s.dies :=
  (countHerald_acts_self h s).part .dies

section

variable (b : Nat) (reverse : Bool) (l : List Block) (p : Nat) (herald : Option (TileNo × Fin 8)) (s : State)

/-- The bundle's row with the failed block in its buffer. -/
def failedRow : Bundle := setRetry reverse (listMod (fun y => { y with fails := y.fails + 1 }) p l) (bundleOf s b)

theorem bundleOf_failBlock (listed : failedRow b reverse l p s ≠ {}) :
    ∃ sends advised, bundleOf (failBlock b reverse l p herald s) b = { failedRow b reverse l p s with
      resend := min 0xFFFF ((failedRow b reverse l p s).resend + 1), sends := sends, advised := advised } := by
  obtain ⟨sends, advised, e⟩ := bundleOf_countResend b
    (modBundle b (setRetry reverse (listMod (fun y => { y with fails := y.fails + 1 }) p l)) s)
  rw [bundleOf_modBundle_self b _ s listed] at e
  exact ⟨sends, advised, by rw [failBlock, bundleOf, countHerald_dies, ← bundleOf, e, failedRow]⟩

theorem failBlock_counts : corrOf (failBlock b reverse l p herald s) 0x3003 = corrOf s 0x3003 + 1 ∧
    faultCount (failBlock b reverse l p herald s) 0x3011 = faultCount s 0x3011 := by
  set x := modBundle b (setRetry reverse (listMod (fun y => { y with fails := y.fails + 1 }) p l)) s
  obtain ⟨hcorr, hevt⟩ := countResend_counts b x
  have health : (failBlock b reverse l p herald s).health = (countResend b x).health := countHerald_health _ _
  exact ⟨by rw [corrOf, health, ← corrOf, hcorr]; rfl, by rw [faultCount, health, ← faultCount, hevt]; rfl⟩

theorem herOf_failBlock (t : TileNo) (h : Fin 8) :
    (herOf (failBlock b reverse l p (some (t, h)) s) t.val h.val).resend = min 0xFFFF ((herOf s t.val h.val).resend + 1) := by
  rw [failBlock, herOf_countHerald, herOf_of_tiles (countResend_tiles _ _)]
  rfl

theorem bundleOf_receiveBlock (data : List Byte)
    (listed : setRetry reverse (listMod (fun y => { y with fails := 0, got := some data }) p l) (bundleOf s b) ≠ {}) :
    bundleOf (receiveBlock b reverse l p data s) b =
      setRetry reverse (listMod (fun y => { y with fails := 0, got := some data }) p l) (bundleOf s b) :=
  bundleOf_modBundle_self b _ s listed

end

theorem loseBundle_width (b : Nat) (s : State) : (bundleOf (loseBundle b s) b).width = 2 := by
  rw [loseBundle, bundleOf, raise_dies]
  refine congrArg Bundle.width (bundleOf_modBundle_self b (fun x => { x with width := 2 }) s fun e => ?_)
  have width : (2 : Nat) = 0 := congrArg Bundle.width e
  omega

theorem loseBundle_counts (b : Nat) (s : State) :
    corrOf (loseBundle b s) 0x3003 = corrOf s 0x3003 ∧ Raised 0x3011 s (loseBundle b s) := by
  have noted : CountsOnly [] [] s (modBundle b (fun x => { x with width := 2 }) s) := modBundle_counts (.refl s)
  have counts : CountsOnly [0x3011] [] s (loseBundle b s) := raise_counts (.inr (by decide)) (modBundle_counts (.refl s))
  exact ⟨congrArg (fun m => mget 0 m 0x3003) counts.corr, noted.then_raised (raise_raised b _)⟩

/-! ### The sends of a first block (R21) -/

/-- A new block enters an empty buffer. -/
theorem newBlock_place (p : Nat) : retryPlace p [] = 0 := Nat.min_zero p

theorem newBlock_entered (p : Nat) (block : List Byte) : retrySend p block [] = [{ data := block }] :=
  if_neg (Nat.not_lt_zero p)

/-- A new block that is good is delivered at once. -/
theorem setRetry_newBlock_good (block d : List Byte) (x : Bundle) :
    setRetry false (listMod (fun y => { y with fails := 0, got := some d }) 0 [{ data := block }]) x =
      { x with retry0 := [], out0 := x.out0 ++ [d] } := rfl

/-- A new block that fails stays in the buffer. -/
theorem setRetry_newBlock_bad (block : List Byte) (x : Bundle) :
    setRetry false (listMod (fun y => { y with fails := y.fails + 1 }) 0 [{ data := block }]) x =
      { x with retry0 := [{ data := block, fails := 1 }] } := by
  rw [show ({ x with retry0 := [{ data := block, fails := 1 }] } : Bundle) =
    { x with retry0 := [{ data := block, fails := 1 }], out0 := x.out0 ++ [] } by rw [List.append_nil]]
  rfl

/-- The block before a received one passes: both are delivered. -/
theorem setRetry_oldest_good {x y : Block} {d g : List Byte} (later : y.got = some g) (z : Bundle) :
    setRetry true (listMod (fun y => { y with fails := 0, got := some d }) 0 [x, y]) z =
      { z with retry1 := [], out1 := z.out1 ++ [d, g] } := by
  simp [setRetry, retryDeliver, listMod, later]

section

variable {s : State} {b : Fin 108} {p : Fin 64} {block : List Byte} {err : BitVec 528} (up : (bundleOf s b.val).width ≠ 2)

include up

theorem newBlock_received {d : List Byte} (empty : (bundleOf s b.val).retry0 = []) (ok : blockArrives block err = some d)
    (h : Option (TileNo × Fin 8)) : Gives (.bundleBlockReceive b false p block err h) s (fun u =>
      (bundleOf u b.val).retry0 = [] ∧
      (bundleOf u b.val).out0 = (bundleOf s b.val).out0 ++ [d] ∧ (bundleOf u b.val).retry1 = (bundleOf s b.val).retry1 ∧
      u.health = s.health) := by
  have run := execBundleBlockReceive_good (place := p) (reverse := false) (block := block) (sent := { data := block })
    (l := [{ data := block }]) (p := 0) h up
    (by rw [retryOf, empty]; exact newBlock_place _) (by rw [retryOf, empty]; exact newBlock_entered _ _) rfl rfl ok
  have good := setRetry_newBlock_good block d (bundleOf s b.val)
  have row := bundleOf_receiveBlock b.val false [{ data := block }] 0 s d fun e => by
    rw [good] at e
    simpa using congrArg Bundle.out0 e
  rw [good] at row
  exact ⟨_, run, by rw [row], by rw [row], by rw [row], rfl⟩

theorem oldestBlock_received {x y : Block} {d g : List Byte} (buffer : (bundleOf s b.val).retry1 = [x, y]) (due : x.got = none)
    (later : y.got = some g) (ok : blockArrives x.data err = some d) (h : Option (TileNo × Fin 8)) :
    Gives (.bundleBlockReceive b true 0 block err h) s (fun u => (bundleOf u b.val).retry1 = [] ∧
      (bundleOf u b.val).out1 = (bundleOf s b.val).out1 ++ [d, g]) := by
  have run := execBundleBlockReceive_good (place := 0) (reverse := true) (block := block) (sent := x) (l := [x, y]) (p := 0) h up
    (by rw [retryOf, if_pos rfl, buffer]; rfl) (by rw [retryOf, if_pos rfl, buffer]; rfl) rfl due ok
  have good := setRetry_oldest_good (x := x) (d := d) later (bundleOf s b.val)
  have row := bundleOf_receiveBlock b.val true [x, y] 0 s d fun e => by
    rw [good] at e
    simpa using congrArg Bundle.out1 e
  rw [good] at row
  exact ⟨_, run, by rw [row], by rw [row]⟩

/-- The result of a new block that fails (R31). -/
theorem newBlock_failed_exec (empty : (bundleOf s b.val).retry0 = []) (bad : blockArrives block err = none)
    (h : Option (TileNo × Fin 8)) :
    execBundleBlockReceive b false p block err h s = .next (failBlock b.val false [{ data := block }] 0 h s) :=
  execBundleBlockReceive_bad (place := p) (reverse := false) (block := block) (sent := { data := block }) h up
    (by rw [retryOf, empty]; exact newBlock_place _) (by rw [retryOf, empty]; exact newBlock_entered _ _) rfl rfl bad

theorem newBlock_failed (empty : (bundleOf s b.val).retry0 = []) (bad : blockArrives block err = none)
    (h : Option (TileNo × Fin 8)) : Gives (.bundleBlockReceive b false p block err h) s (fun u =>
      (bundleOf u b.val).retry0 = [{ data := block, fails := 1 }] ∧ (bundleOf u b.val).out0 = (bundleOf s b.val).out0 ∧
      (bundleOf u b.val).resend = min 0xFFFF ((bundleOf s b.val).resend + 1) ∧
      (bundleOf u b.val).width = (bundleOf s b.val).width ∧ corrOf u 0x3003 = corrOf s 0x3003 + 1) := by
  have failed : failedRow b.val false [{ data := block }] 0 s =
      { bundleOf s b.val with retry0 := [{ data := block, fails := 1 }] } := setRetry_newBlock_bad block (bundleOf s b.val)
  obtain ⟨hcorr, -⟩ := failBlock_counts b.val false [{ data := block }] 0 h s
  obtain ⟨sends, advised, row⟩ := bundleOf_failBlock b.val false [{ data := block }] 0 h s fun e => by
    rw [failed] at e
    simpa using congrArg Bundle.retry0 e
  rw [failed] at row
  exact ⟨_, newBlock_failed_exec up empty bad h, by rw [row], by rw [row], by rw [row], by rw [row], hcorr⟩

theorem sixteenthFailure {x : Block} (buffer : (bundleOf s b.val).retry1 = [x]) (due : x.got = none) (many : 15 ≤ x.fails)
    (bad : blockArrives x.data err = none) (h : Option (TileNo × Fin 8)) :
    Gives (.bundleBlockReceive b true 0 block err h) s (fun u => (bundleOf u b.val).width = 2 ∧ Raised 0x3011 s u ∧
      corrOf u 0x3003 = corrOf s 0x3003 + 1) := by
  have run := execBundleBlockReceive_bad (place := 0) (reverse := true) (block := block) (sent := x) (l := [x]) (p := 0) h up
    (by rw [retryOf, if_pos rfl, buffer]; rfl) (by rw [retryOf, if_pos rfl, buffer]; rfl) rfl due bad
  have lost : 16 ≤ x.fails + 1 := by omega
  simp only [lost, decide_true, onlyIf, if_true] at run
  obtain ⟨hcorr, hevt⟩ := failBlock_counts b.val true [x] 0 h s
  obtain ⟨lcorr, lraised⟩ := loseBundle_counts b.val (failBlock b.val true [x] 0 h s)
  exact ⟨_, run, loseBundle_width _ _, lraised.trans (by rw [hevt]), lcorr.trans hcorr⟩

theorem newBlock_failed_herald (empty : (bundleOf s b.val).retry0 = []) (bad : blockArrives block err = none) (t : TileNo)
    (h : Fin 8) : Gives (.bundleBlockReceive b false p block err (some (t, h))) s (fun u =>
      (herOf u t.val h.val).resend = min 0xFFFF ((herOf s t.val h.val).resend + 1)) :=
  ⟨_, newBlock_failed_exec up empty bad (some (t, h)), herOf_failBlock _ _ _ _ _ _ _⟩

end

/-- Settles O41: rows, words, on-chip blocks and blocks across a bundle, each by the lemma about its command. -/
theorem scrubsAndBlockChecksCountErrors : Obligations.ScrubsAndBlockChecksCountErrors := by
  intro s
  refine ⟨fun row words h => ?_, fun row words h => ?_, fun addr hub tested free turn => scrub_spec hub tested free turn,
    onchipBlock_spec s, fun b p block err up => ⟨fun d empty ok => newBlock_received up empty ok,
      fun x y d g buffer due later ok => oldestBlock_received up buffer due later ok,
      fun empty bad => newBlock_failed up empty bad,
      fun x buffer due many bad => sixteenthFailure up buffer due many bad,
      fun t h empty bad => newBlock_failed_herald up empty bad t h⟩, fun h => ?_, fun h => ?_⟩
  · have run := execRowCopyDone_of_copying words h
    have acts := execRowCopyDone_acts (Sub.refl _) run
    exact ⟨_, run, forEach_copyWord_copying _ _ _, acts.part .storeBytes, acts.part .tiles⟩
  · exact ⟨s, congrArg Host.Outcome.next (if_neg (by rw [h]; exact Bool.false_ne_true)), rfl⟩
  · exact ⟨_, congrArg Host.Outcome.next (if_pos h), startSeason_migrating _⟩
  · exact ⟨s, congrArg Host.Outcome.next (if_neg (by rw [h]; exact Bool.false_ne_true)), rfl⟩

end Sys2Proof.Laws

/-!
PROOF. What reset leaves (R68, R162, R200, R222, R318, R348, R503, R569).
-/

namespace Sys2Proof.Laws

set_option Elab.async false

open Machine

/-- Settles O58: the reset state is read off field by field; its invariants are checked on the concrete state. -/
theorem resetLeavesTheStatedValues : Obligations.ResetLeavesTheStatedValues := by
  refine ⟨rfl, ?_, ?_, rfl, rfl, rfl, rfl, rfl, rfl, rfl, rfl, rfl, rfl, rfl, rfl, rfl, fun _ => ⟨rfl, rfl⟩,
    fun _ => ⟨rfl, rfl⟩, fun _ => ⟨rfl, rfl, rfl, rfl⟩, fun p => ?_, fun _ => rfl, fun _ => rfl⟩
  · constructor <;> decide
  · constructor <;> decide
  · unfold pageFlag
    split <;> rfl

end Sys2Proof.Laws

/-!
PROOF. What a Maker's write of any entry comes to (R449, R450, R459, R466): the value taken, the record of an audited one, and the
effect.
-/

namespace Sys2Proof.Laws

set_option Elab.async false

open Machine

/-! ### Rows read from equal tables -/

theorem tileOf_of_tiles {s t : State} (h : t.tiles = s.tiles) (i : Nat) : tileOf t i = tileOf s i := by rw [tileOf, tileOf, h]

theorem keepOf_of_tkeep {s t : State} (h : t.tkeep = s.tkeep) (i : Nat) : keepOf t i = keepOf s i := by rw [keepOf, keepOf, h]

/-! ### Checks of a Maker's write (R450, R459) -/

theorem rankAtLeast_maker (need : Role) : rankAtLeast .maker need = true := by cases need <;> decide

section

variable {s : State} {q : OdReq} {r : OdRow} {data : List Byte}

/-- A Maker's write whose size and range hold is accepted, or refused by the state. -/
theorem writeStatus_of_range (writable : r.wr.isSome = true) (size : data.length = r.size) (range : rangeOk s r data = true) :
    writeStatus s r .maker 0 data = if stateRefuses s .maker r.key data then odState else odOk := by
  obtain ⟨w, hw⟩ := Option.isSome_iff_exists.mp writable
  rw [writeStatus]
  simp only [hw, rankAtLeast_maker, size, range, Bool.not_true, Bool.false_eq_true, if_false, ne_eq, not_true_eq_false, or_self]

/-- A number in the row's range is in range where no constraint names the entry. -/
theorem rangeOk_of_bounds {k : Nat} (key : r.key = k)
    (plain : (isKeyEntry k || [0x300109, 0x400001, 0x700303].contains k) = false)
    (constraints : constraintsOk { s with mgmt := { s.mgmt with latest := mset [] s.mgmt.latest k data } } k = true)
    (lo : r.lo ≤ leNat data) (hi : leNat data ≤ r.hi) : rangeOk s r data = true := by
  subst key
  simp only [Bool.or_eq_false_iff, List.contains_cons, List.contains_nil, beq_eq_false_iff_ne, Bool.or_false] at plain
  obtain ⟨hkey, hfibre, hcoord, hfloor⟩ := plain
  rw [rangeOk]
  simp [hkey, hfibre, hcoord, hfloor, constraints, lo, hi]

/-- A Maker's write of an entry that is not audited: its value, its effect and its answer. -/
theorem odPut_plain (h : MakerWrites s q) {index sub size v : Nat} (hr : odRow index sub = some r) (plain : isAudited r = false)
    (ok : writeStatus s r .maker 0 (leBytes size v) = odOk) :
    odPut q index sub size v s = .next (respond q odOk []
      (odEffect r.key (leBytes size v) (odStored s r) (takeValue s r (leBytes size v)))) := by
  obtain ⟨fp, run⟩ := odPut_of_maker h hr size v
  rw [run, writeAs]
  simp only [plain, ok, acceptWrite, onlyIf, Bool.false_eq_true, if_false, decide_true, if_true]

/-- One that the state refuses is answered, and no more. -/
theorem odPut_plain_refused (h : MakerWrites s q) {index sub size v : Nat} (hr : odRow index sub = some r)
    (plain : isAudited r = false) (refused : writeStatus s r .maker 0 (leBytes size v) = odState) :
    odPut q index sub size v s = .next (respond q odState [] s) := by
  obtain ⟨fp, run⟩ := odPut_of_maker h hr size v
  have other : ¬odState = odOk := by decide
  rw [run, writeAs]
  simp only [plain, refused, other, onlyIf, Bool.false_eq_true, if_false, decide_false]

/-- The record of an audited write and its event leave every part alone that a log record and the journal do not touch. -/
theorem odPut_audited (h : MakerWrites s q) {index sub size v : Nat} (hr : odRow index sub = some r) (audited : isAudited r = true)
    (other : r.key ≠ 0x120003) (ok : writeStatus s r .maker 0 (leBytes size v) = odOk) :
    ∃ j, odPut q index sub size v s = .next (respond q odOk [] (odEffect r.key (leBytes size v) (odStored (journalPut j s) r)
      (postEvent 3 0 0 r.index r.sub (takeValue (journalPut j s) r (leBytes size v))))) := by
  obtain ⟨fp, run⟩ := odPut_of_maker h hr size v
  obtain ⟨audit, hw⟩ := writeAs_accepted (q := q) audited h.room fp ok
  have none_due : commitDue r (leBytes size v) s = s := by simp [commitDue, other, onlyIf]
  rw [none_due] at hw
  refine ⟨{ kind := recordKind s r (leBytes size v), audit := audit }, ?_⟩
  rw [run, hw, acceptWrite]
  simp only [audited, onlyIf, if_true]

/-- A write-only entry holds no value. -/
theorem takeValue_of_wo (s : State) (data : List Byte) (wo : r.wo = true) : takeValue s r data = s := by rw [takeValue, if_pos wo]

end

end Sys2Proof.Laws

/-!
PROOF. A Tile reset and a halted Marshal (R92, R95, R536), and the tile clock (R70).
-/

namespace Sys2Proof.Laws

set_option Elab.async false

open Machine

/-! ### A Tile reset (R95, R541) -/

theorem keepOf_tileResetNow (t : Nat) (s : State) :
    keepOf (tileResetNow t s) t = { keepOf s t with buf := [], bufGen := s.fresh + 1 } :=
  keepOf_modKeep_self t (fun k => { k with buf := [], bufGen := s.fresh + 1 }) s
    fun e => Nat.succ_ne_zero _ (congrArg TileKeep.bufGen e)

/-- In a canonical table the tile stands as after a Tile reset. -/
theorem tileOf_tileResetNow {t : Nat} {s : State} (w : mwf {} s.tiles = true) :
    tileOf (tileResetNow t s) t = { her := mmapv {} (fun h => { resend := h.resend }) (tileOf s t).her } :=
  mget_mset_self' w

/-- The entry of a Tile reset. -/
def tileResetRow : OdRow := ⟨0x8001, 0x03, 3, 2, .operator, some .operator, true, 0, 0, 0, 511⟩

theorem odRow_tileReset : odRow 0x8001 3 = some tileResetRow := by decide

theorem tileResetRow_key : tileResetRow.key = 0x800103 := rfl

theorem constraintsOk_tileReset (s : State) : constraintsOk s 0x800103 = true := rfl

theorem stateRefuses_tileReset (s : State) (role : Role) (data : List Byte) : stateRefuses s role 0x800103 data = false := rfl

theorem odEffect_tileReset (data old : List Byte) (s : State) : odEffect 0x800103 data old s = askTileReset (leNat data) s := rfl

theorem leNat_tile (t : TileNo) : leNat (leBytes 2 (BitVec.ofNat 16 t.val).toNat) = t.val := by
  have small : t.val < 65536 := by omega
  rw [BitVec.toNat_ofNat, Nat.mod_eq_of_lt small, leNat_leBytes small]

theorem writeStatus_tileReset (s : State) (t : TileNo) :
    writeStatus s tileResetRow .maker 0 (leBytes 2 (BitVec.ofNat 16 t.val).toNat) = odOk := by
  have range := rangeOk_of_bounds (s := s) tileResetRow_key (by decide) (constraintsOk_tileReset _) (Nat.zero_le _)
    ((leNat_tile t).le.trans (Nat.le_of_lt_succ t.isLt))
  rw [writeStatus_of_range rfl (leBytes_length 2 _) range, tileResetRow_key, stateRefuses_tileReset]
  rfl

/-- A Maker asks for a Tile reset (R95). -/
theorem execTileReset_eq {s : State} {q : OdReq} (h : MakerWrites s q) (t : TileNo) :
    execTileReset q (BitVec.ofNat 16 t.val) s = .next (respond q odOk [] (askTileReset t.val s)) := by
  have run := odPut_plain (size := 2) h odRow_tileReset (by decide) (writeStatus_tileReset s t)
  rwa [takeValue_of_wo _ _ rfl, tileResetRow_key, odEffect_tileReset, leNat_tile] at run

/-- The tile whose reset waits. -/
theorem tileOf_resetDue (t : Nat) (s : State) :
    tileOf (modTile t (fun x => { x with resetDue := true }) s) t = { tileOf s t with resetDue := true } :=
  tileOf_modTile_self t _ s fun e => Bool.noConfusion (congrArg Tile.resetDue e)

/-! ### A halted Marshal (R92) -/

/-- The tile stands in `STATE` 4. -/
theorem st_modTile_four (t : Nat) (s : State) : (tileOf (modTile t (fun x => { x with st := 4 }) s) t).st = 4 := by
  rw [tileOf_modTile_self t _ s fun e => Nat.succ_ne_zero 3 (congrArg Tile.st e)]

theorem endHalted_tiles (s : State) : (endHalted s).tiles = s.tiles := (endHalted_acts (Sub.refl _) (.refl s)).part .tiles

theorem endHalted_tkeep (s : State) : (endHalted s).tkeep = s.tkeep := (endHalted_acts (Sub.refl _) (.refl s)).part .buffers

/-! ### What the end of a launch leaves of the Calendars -/

theorem sendOwn_frames (n : Notice) (s : State) : ∃ seen, (sendOwn n s).frames = { s.frames with seen := seen } :=
  ⟨_, (sendNotice_acts (Sub.refl _) (.refl _)).part .frames⟩

theorem endLaunch_frames (c : Cal) (status code d0 d1 : Nat) (s : State) : (endLaunch c status code d0 d1 s).frames = s.frames :=
  (endLaunch_acts (Sub.refl _) (.refl s)).part .frames

theorem dropHeld_frames (status code d0 d1 : Nat) (s : State) :
    (dropHeld status code d0 d1 s).frames = { s.frames with held := none } := by
  unfold dropHeld
  split
  case _ h => rw [← h]
  case _ => exact endLaunch_frames _ _ _ _ _ _

/-- The launch that is held ends; beside it, only the notices sent are remembered. -/
theorem failHeld_frames (status code d0 typ : Nat) (s : State) :
    ∃ seen, (failHeld status code d0 typ s).frames = { s.frames with held := none, seen := seen } := by
  unfold failHeld
  split
  case _ h => exact ⟨s.frames.seen, by rw [← h]⟩
  case _ c _ =>
    obtain ⟨seen, e⟩ := sendOwn_frames (ownNotice s typ 0 code 0 0xFFFF c.hdr.calId) s
    exact ⟨seen, by rw [dropHeld_frames, e]⟩

theorem failStart_frames (s : State) : ∃ seen, (failStart s).frames = { s.frames with held := none, seen := seen } := by
  unfold failStart
  split
  case _ h => exact ⟨s.frames.seen, by rw [← h]⟩
  case _ c _ =>
    obtain ⟨seen, e⟩ := failHeld_frames 2 0x102B 0 2 (logFault 0x102B none 0 s)
    have logged : (logFault 0x102B none 0 s).frames = s.frames := (logFault_acts (Sub.refl _) (.refl s)).part .frames
    exact ⟨seen, by rw [e, logged]⟩

/-- With no Marshal left in `STATE` 3 the halting Calendar ends, and the package holds the halt (R92). -/
theorem endHalted_ends {s : State} {r : Run} (running : s.frames.run = some r) (halting : r.halting.isSome = true)
    (quiet : ∀ x ∈ s.tiles, x.2.st ≠ 3) : (endHalted s).frames.run = none ∧ (endHalted s).frames.haltedHeld = true := by
  obtain ⟨a, ha⟩ := Option.isSome_iff_exists.mp halting
  have all_ended : s.tiles.any (fun x => decide (x.2.st = 3)) = false := by simpa using quiet
  unfold endHalted
  simp only [running, ha, all_ended, Bool.false_eq_true, if_false]
  obtain ⟨seen, e⟩ := failStart_frames { s with frames := { s.frames with run := none, haltedHeld := true } }
  rw [endLaunch_frames, e]
  exact ⟨rfl, rfl⟩

section

variable {s : State} {t : TileNo}

theorem execMarshalHalted_quiet (st : (tileOf s t.val).st = 3) (hung : (tileOf s t.val).hung = false)
    (quiet : tileQuiet (tileOf s t.val) = true) : execMarshalHalted t s = .next (if (tileOf s t.val).resetDue
      then endHalted (tileResetNow t.val s) else endHalted (modTile t.val (fun x => { x with st := 4 }) s)) := by
  rw [execMarshalHalted]
  simp only [st, hung, quiet, if_true, Bool.false_eq_true, if_false]

theorem execMarshalHalted_busy (hung : (tileOf s t.val).hung = false) (busy : tileQuiet (tileOf s t.val) = false) :
    execMarshalHalted t s = .next s := by
  rw [execMarshalHalted]
  simp only [hung, busy, Bool.false_eq_true, if_false, ite_self]

theorem execMarshalHalted_hung (st : (tileOf s t.val).st = 3) (hung : (tileOf s t.val).hung = true)
    (ended : (tileOf s t.val).runs = []) :
    execMarshalHalted t s = .next (endHalted (modTile t.val (fun x => { x with st := 4 }) (tileResetNow t.val s))) := by
  rw [execMarshalHalted]
  simp only [st, hung, ended, if_true, List.isEmpty_nil]

/-! ### The tile clock (R70) -/

theorem issueReplays_of_idle {t : Nat} (h : (tileOf s t).runs = []) : issueReplays t s = s := by
  unfold issueReplays
  rw [h]
  exact ite_self _

theorem execTileClockChange_idle (h : (tileOf s t.val).runs = []) : execTileClockChange t s = .next (
    if clockPending s t.val then evaluate t.val (setClock t.val (clockTarget s) s) else s) := by
  have still : (tileOf (setClock t.val (clockTarget s) s) t.val).runs = [] := h
  rw [execTileClockChange, h, issueReplays_of_idle still, issueReplays_of_idle h]
  rfl

end

/-- Settles O56: a reset asked for in a run marks the tile and raises 0x1015; the halted Marshal applies it. -/
theorem tileResetsInARunWaitForStateFour : Obligations.TileResetsInARunWaitForStateFour := by
  intro s t
  refine ⟨fun q r maker running going st => ?_, fun st hung quiet due => ?_⟩
  · have asked : askTileReset t.val s = raiseTile 0x1015 t.val 0 (modTile t.val (fun x => { x with resetDue := true }) s) := by
      rw [askTileReset, running]
      simp [going, st]
    have raised := raiseTile_acts (a0 := 0x1015) (a1 := t.val) (a2 := 0) (Sub.refl _)
      (.refl (modTile t.val (fun x => { x with resetDue := true }) s))
    have tile := (tileOf_of_tiles (raised.part .tiles) t.val).trans (tileOf_resetDue t.val s)
    have counted := raiseWith_raised (code := 0x1015) (some t.val) 0 [] (modTile t.val (fun x => { x with resetDue := true }) s)
    have run := execTileReset_eq maker t
    rw [asked] at run
    exact ⟨_, run, (congrArg Tile.resetDue tile :), (congrArg Tile.st tile :), (congrArg Tile.board tile :),
      keepOf_of_tkeep (raised.part .buffers) t.val, counted, by decide, respond_answers _ _ (raised.part .answers)⟩
  · refine ⟨_, (execMarshalHalted_quiet st hung quiet).trans (by rw [if_pos due]), ?_⟩
    have keep := (keepOf_of_tkeep (endHalted_tkeep _) t.val).trans (keepOf_tileResetNow t.val s)
    exact ⟨congrArg TileKeep.buf keep, congrArg TileKeep.bufGen keep,
      fun w => (tileOf_of_tiles (endHalted_tiles _) t.val).trans (tileOf_tileResetNow w)⟩

/-- Settles O27: the halted Marshal by the state of its tile, the clock by what is pending, the reset as it is asked for. -/
theorem haltedMarshalsClocksAndTileResets : Obligations.HaltedMarshalsClocksAndTileResets := by
  refine ⟨fun s t st => ⟨fun hung quiet due => ?_, fun hung ended => ?_, fun hung busy => ?_⟩,
    fun s t => ⟨fun pending idle => ?_, fun same idle => ?_, fun q maker free => ?_⟩⟩
  · refine ⟨_, (execMarshalHalted_quiet st hung quiet).trans (by rw [if_neg (by simp [due])]), ?_, fun ⟨r, running, halting⟩ left => ?_⟩
    · rw [tileOf_of_tiles (endHalted_tiles _), st_modTile_four]
    · exact endHalted_ends running halting (by rwa [endHalted_tiles] at left)
  · refine ⟨_, execMarshalHalted_hung st hung ended, ?_⟩
    have keep := (keepOf_of_tkeep (endHalted_tkeep (modTile t.val (fun x => { x with st := 4 }) (tileResetNow t.val s))) t.val).trans
      (keepOf_tileResetNow t.val s)
    exact ⟨by rw [tileOf_of_tiles (endHalted_tiles _), st_modTile_four], congrArg TileKeep.buf keep, congrArg TileKeep.bufGen keep⟩
  · exact ⟨s, execMarshalHalted_busy hung busy, rfl⟩
  · refine ⟨_, (execTileClockChange_idle idle).trans (by rw [if_pos pending]), ?_⟩
    exact (evaluate_acts (Sub.refl _) (.refl _)).part .buffers
  · exact ⟨s, (execTileClockChange_idle idle).trans (by rw [same]; rfl), rfl⟩
  · have asked : askTileReset t.val s = tileResetNow t.val s := by rw [askTileReset, free]
    have run := execTileReset_eq maker t
    rw [asked] at run
    have keep := keepOf_tileResetNow t.val s
    exact ⟨_, run, congrArg TileKeep.buf keep, congrArg TileKeep.bufGen keep, (congrArg TileKeep.clock keep :),
      respond_answers _ _ ((tileResetNow_acts (Sub.refl _) (.refl s)).part .answers)⟩

end Sys2Proof.Laws

/-!
PROOF. Leaps and halts (R79, R81, R85, R86, R91): what a taken leap and a raised halt leave of the running Calendar and of its tiles,
and what they count.
-/

namespace Sys2Proof.Laws

set_option Elab.async false

open Machine

/-! ### Counts over a state with the same counts -/

theorem Raised.of_health {code : Nat} {s x t : State} (h : x.health = s.health) (k : Raised code x t) : Raised code s t := by
  rwa [Raised, faultCount, faultCount, ← h]

/-! ### A halt is raised (R91) -/

/-- A fault that is logged leaves the Calendars alone. -/
theorem logWith_frames (code : Nat) (tile : Option Nat) (ctx : Nat) (also : List Nat) (s : State) :
    (logWith code tile ctx also s).frames = s.frames := (logWith_acts (Sub.refl _) (.refl s)).part .frames

/-- Before its halting Calend a running Calendar takes a halt. -/
theorem raiseHalt_frames {s : State} {r : Run} (code : Nat) (tile : Option Nat) (running : s.frames.run = some r)
    (going : r.completed = none) (before : r.halting = none) : ∃ seen, (raiseHalt code tile s).frames =
      { s.frames with run := some (runHalt code false 0 (calendAt r.cal.hdr.k (now s + r.cal.hdr.lead)) r), seen := seen } := by
  unfold raiseHalt
  simp only [running, going, before, Option.isNone_none, Option.isSome_none, if_true, Bool.false_eq_true, if_false]
  obtain ⟨seen, e⟩ := sendOwn_frames _ _
  exact ⟨seen, e⟩

/-- A halt leaves everything of the Calendar but the halt. -/
theorem runHalt_halted (code : Nat) (aborted : Bool) (origin h : Nat) {r : Run} (none_yet : r.haltAt = none) :
    runHalt code aborted origin h r = { r with
      haltAt := some h, halted := true
      haltCode := BitVec.ofNat 16 code, aborted := aborted, abortFrom := BitVec.ofNat 16 origin } := by
  rw [runHalt, none_yet]

theorem runHalt_earlier (code : Nat) (aborted : Bool) (origin h : Nat) {r : Run} {h' : Nat} (known : r.haltAt = some h') :
    runHalt code aborted origin h r = { r with haltAt := some (min h h') } := by rw [runHalt, known]

/-- A Job-fatal fault is logged and halts the running Calendar. -/
theorem raiseWith_of_jobFatal {code : Nat} (tile : Option Nat) (ctx : Nat) (also : List Nat) (s : State)
    (sev : sevOf code = 2 := by decide) : raiseWith code tile ctx also s = raiseHalt code tile (logWith code tile ctx also s) := by
  simp only [raiseWith, sev]

/-- An Advisory of any part is logged, and no more (R526). -/
theorem raiseWith_of_advisory {code : Nat} (tile : Option Nat) (ctx : Nat) (also : List Nat) (s : State)
    (sev : sevOf code = 0 := by decide) : raiseWith code tile ctx also s = logWith code tile ctx also s := by
  simp only [raiseWith, sev]

/-- A Job-fatal fault that names its frame counts once (R96). -/
theorem raiseOf_raised {code : Nat} (ordinal : Nat) (tile : Option Nat) (ctx : Nat) (s : State)
    (bits : code < 65536 := by decide) (hs : code ∉ sideCodes := by decide) : Raised code s (raiseOf code ordinal tile ctx s) := by
  have e := faultRec_code false tile ctx s bits
  have k := logRec_raised (r := { faultRec code false tile ctx s with ordinal := some ordinal }) s (by rwa [e])
  rw [e] at k
  exact Raised.later (codes := []) (keys := []) k (raiseHalt_counts (.refl _)) hs (by simp)

/-! ### A leap is taken (R81) -/

/-- The frames of the last 1024 that leaped, this one among them (R86). -/
def leapOrds (r : Run) : List Nat := (r.ordinal :: r.leapOrds).filter (fun o => decide (r.ordinal < o + 1024))

/-- Leaps have become many, and that has not been said yet (R86). -/
def leapsMany (r : Run) : Bool := decide (16 ≤ (leapOrds r).length) && !r.leapAdvised

/-- The run in its leaped frame. -/
def leapRun (r : Run) : Run := { r with leaped := true, leapOrds := leapOrds r, leapAdvised := r.leapAdvised || leapsMany r }

/-- The run, the count of leaps and the tiles as the leap leaves them. -/
def leapTaken (r : Run) (s : State) : State :=
  { s with
    frames := { s.frames with run := some (leapRun r), leaps := s.frames.leaps + 1 }
    tiles := mmapv {} (fun x => if (x.st = 1 ∨ x.st = 2) ∧ x.stuck = false then { x with leaped := true } else x) s.tiles }

/-- The faults of a leap: 0x1001, and 0x1002 when leaps have become many (R86). -/
def leapLogged (origin tile ordinal : Nat) (many : Bool) (s : State) : State :=
  onlyIf many (raise 0x1002 ordinal) (raiseFault 0x1001 (if tile < 512 then some tile else none) origin s)

/-- A leap of the running Calendar: taken, logged, and, where the moved completion reaches an armed launch, that launch failed. -/
theorem takeLeap_eq {s : State} {r : Run} (origin tile : Nat) (running : s.frames.run = some r) :
    takeLeap origin tile s = leapLogged origin tile r.ordinal (leapsMany r) (leapTaken r s) ∨
    takeLeap origin tile s = failStart (leapLogged origin tile r.ordinal (leapsMany r) (leapTaken r s)) := by
  have e : takeLeap origin tile s = match (leapLogged origin tile r.ordinal (leapsMany r) (leapTaken r s)).frames.held with
      | some h => if h.armed ∧ h.start ≠ 0 ∧ h.start ≤ completingIndex (leapLogged origin tile r.ordinal (leapsMany r) (leapTaken r s))
          (leapRun r) * 2 ^ r.cal.hdr.k then failStart (leapLogged origin tile r.ordinal (leapsMany r) (leapTaken r s))
        else leapLogged origin tile r.ordinal (leapsMany r) (leapTaken r s)
      | none => leapLogged origin tile r.ordinal (leapsMany r) (leapTaken r s) := by
    rw [takeLeap, running]
    rfl
  rw [e]
  generalize leapLogged origin tile r.ordinal (leapsMany r) (leapTaken r s) = x
  cases x.frames.held with
  | none => exact .inl rfl
  | some h => exact (ite_eq_or_eq _ _ _).symm

theorem leapLogged_frames (origin tile ordinal : Nat) (many : Bool) (s : State) :
    (leapLogged origin tile ordinal many s).frames = s.frames := by
  have first (tile : Option Nat) : (raiseFault 0x1001 tile origin s).frames = s.frames := by
    rw [raiseFault, raiseWith_of_advisory, logWith_frames]
  unfold leapLogged onlyIf
  split
  · rw [raise, raiseFault, raiseWith_of_advisory, logWith_frames, first]
  · exact first _

/-- A leap is counted once as 0x1001. -/
theorem leapLogged_raised (origin tile ordinal : Nat) (many : Bool) (s : State) :
    Raised 0x1001 s (leapLogged origin tile ordinal many s) :=
  Raised.later (codes := [0x1002]) (keys := []) (raiseWith_raised _ origin [] s)
    (.onlyIf (.refl _) (raise_counts (.inr (by decide))))

theorem failStart_counts {codes keys : List Nat} {s x : State} (hc : 0x102B ∈ codes) (h : CountsOnly codes keys s x) :
    CountsOnly codes keys s (failStart x) := by
  unfold failStart
  split
  · exact h
  · exact failHeld_counts (logWith_counts (.inr hc) h)

theorem failStart_idle {s : State} (free : s.frames.held = none) : failStart s = s := by rw [failStart, free]

theorem takeLeap_raised {s : State} {r : Run} (origin tile : Nat) (running : s.frames.run = some r) :
    Raised 0x1001 s (takeLeap origin tile s) := by
  have logged : Raised 0x1001 s (leapLogged origin tile r.ordinal (leapsMany r) (leapTaken r s)) :=
    Raised.of_health (x := leapTaken r s) rfl (leapLogged_raised _ _ _ _ _)
  obtain e | e := takeLeap_eq origin tile running <;> rw [e]
  · exact logged
  · exact Raised.later (codes := [0x102B]) (keys := []) logged (failStart_counts (by decide) (.refl _))

/-- The Calendar goes on in its leaped frame. -/
theorem takeLeap_frames {s : State} {r : Run} (origin tile : Nat) (running : s.frames.run = some r) : ∃ held seen,
    (takeLeap origin tile s).frames = { s.frames with
      run := some (leapRun r), leaps := s.frames.leaps + 1, held := held, seen := seen } ∧
    (s.frames.held = none → seen = s.frames.seen) := by
  have logged : (leapLogged origin tile r.ordinal (leapsMany r) (leapTaken r s)).frames = (leapTaken r s).frames :=
    leapLogged_frames _ _ _ _ _
  obtain e | e := takeLeap_eq origin tile running <;> rw [e]
  · exact ⟨s.frames.held, s.frames.seen, logged, fun _ => rfl⟩
  · obtain ⟨seen, f⟩ := failStart_frames (leapLogged origin tile r.ordinal (leapsMany r) (leapTaken r s))
    refine ⟨none, seen, by rw [f, logged]; rfl, fun free => ?_⟩
    rw [failStart_idle (by rw [logged]; exact free), logged] at f
    exact (congrArg Frames.seen f).symm

end Sys2Proof.Laws

/-!
PROOF. Frame notices (R80, R81, R83, R85, R91): the first copy of a notice acts on the Calendar that it names.
-/

namespace Sys2Proof.Laws

set_option Elab.async false

open Machine

section

variable {s : State} {f typ : Nat} {n : Notice} {effect : State → State}

/-- The key by which a notice is known again. -/
abbrev noticeKey (typ : Nat) (n : Notice) : Nat × Nat × Nat := (typ, n.ordinal.toNat, n.origin.toNat)

/-- The first copy has been remembered and forwarded, and has yet to take effect. -/
def noticed (f typ : Nat) (n : Notice) (s : State) : State :=
  sendNotice n (some (dirOf f)) { freeSlot f 3 s with
    frames := { (freeSlot f 3 s).frames with seen := noticeKey typ n :: (freeSlot f 3 s).frames.seen } }

theorem freeSlot_frames (f v : Nat) (s : State) : (freeSlot f v s).frames = s.frames :=
  (freeSlot_acts (Sub.refl _) (.refl s)).part .frames

theorem Acts.health {L : Nat} {s t : State} (h : Acts L s t) (out : L.testBit 31 = false := by decide)
    (out' : L.testBit 30 = false := by decide) : t.health = s.health := by
  have hr : reckoningOf t.health = reckoningOf s.health := h.part .reckoning out'
  have hf : faultLogOf t.health = faultLogOf s.health := h.part .faultLog out
  generalize t.health = a at hr hf
  generalize s.health = b at hr hf
  cases a
  cases b
  simp_all [reckoningOf, faultLogOf]

theorem freeSlot_health (f v : Nat) (s : State) : (freeSlot f v s).health = s.health :=
  (freeSlot_acts (Sub.refl _) (.refl s)).health

theorem noticed_frames (f typ : Nat) (n : Notice) (s : State) :
    (noticed f typ n s).frames = { s.frames with seen := noticeKey typ n :: s.frames.seen } := by
  have sent := (sendNotice_acts (a0 := n) (a1 := some (dirOf f)) (Sub.refl _) (.refl { freeSlot f 3 s with
    frames := { (freeSlot f 3 s).frames with seen := noticeKey typ n :: (freeSlot f 3 s).frames.seen } })).part .frames
  refine sent.trans ?_
  rw [freeSlot_frames]

theorem noticed_health (f typ : Nat) (n : Notice) (s : State) : (noticed f typ n s).health = s.health :=
  ((sendNotice_acts (Sub.refl _) (.refl _)).health).trans (freeSlot_health f 3 s)

theorem noticed_now (f typ : Nat) (n : Notice) (s : State) : now (noticed f typ n s) = now s := by
  have free : (freeSlot f 3 s).time = s.time := (freeSlot_acts (Sub.refl _) (.refl s)).part .almanac
  have sent : (noticed f typ n s).time = (freeSlot f 3 s).time := (sendNotice_acts (Sub.refl _) (.refl _)).part .almanac
  rw [now, now, sent, free]

/-- The first copy of a well-formed notice takes effect. -/
theorem takeNotice_first (hub : s.boot.hub = true) (form : n.rsv = false) (of_type : n.typ.toNat = typ)
    (first : s.frames.seen.contains (noticeKey typ n) = false) : takeNotice f typ n effect s = effect (noticed f typ n s) := by
  rw [takeNotice, if_neg (by simp [hub])]
  simp only [form, of_type, freeSlot_frames, first, Bool.false_eq_true, ne_eq, not_true_eq_false, or_self, if_false]
  rw [noticed, freeSlot_frames]

/-- A later copy is dropped. -/
theorem takeNotice_later (hub : s.boot.hub = true) (form : n.rsv = false) (of_type : n.typ.toNat = typ)
    (seen : s.frames.seen.contains (noticeKey typ n) = true) : takeNotice f typ n effect s = freeSlot f 3 s := by
  rw [takeNotice, if_neg (by simp [hub])]
  simp only [form, of_type, freeSlot_frames, seen, Bool.false_eq_true, ne_eq, not_true_eq_false, or_self, if_false, if_true]

/-- A notice of another type than its row's is malformed. -/
theorem takeNotice_malformed (hub : s.boot.hub = true) (bad : n.typ.toNat ≠ typ) :
    takeNotice f typ n effect s = raise 0x6001 n.typ.toNat (freeSlot f 3 s) := by
  rw [takeNotice, if_neg (by simp [hub])]
  simp only [bad, ne_eq, not_false_eq_true, or_true, if_true]

theorem malformed_spec (f c : Nat) (s : State) :
    (raise 0x6001 c (freeSlot f 3 s)).frames = s.frames ∧ Raised 0x6001 s (raise 0x6001 c (freeSlot f 3 s)) := by
  refine ⟨?_, Raised.of_health (freeSlot_health f 3 s) (raise_raised c _)⟩
  rw [raise, raiseFault, raiseWith_of_advisory, logWith_frames, freeSlot_frames]

end

/-! ### Overrun notices (R81, R83) -/

section

variable {s : State} {n : Notice} {r : Run} (running : s.frames.run = some r)

include running

/-- An overrun notice of the current frame, in time, leaps it. -/
theorem overrunEffect_current (same : n.calId = r.cal.hdr.calId) (frame : n.ordinal.toNat = r.ordinal) (going : r.completed = none)
    (first : r.leaped = false) (before : r.halting = none) (time : now s < (r.openC + 1) * 2 ^ r.cal.hdr.k) :
    overrunEffect n s = takeLeap n.origin.toNat n.tile.toNat s := by
  have early : ¬(r.openC + 1) * 2 ^ r.cal.hdr.k ≤ now s := by omega
  rw [overrunEffect]
  simp [running, same, frame, going, first, before, early]

theorem overrunEffect_late (same : n.calId = r.cal.hdr.calId) (old : n.ordinal.toNat < r.ordinal) :
    overrunEffect n s = raiseOf 0x1010 n.ordinal.toNat (noticeTile n) n.origin.toNat s := by
  have not_new : ¬r.ordinal < n.ordinal.toNat := by omega
  rw [overrunEffect]
  simp [running, same, not_new, old]

theorem overrunEffect_other (other : n.calId ≠ r.cal.hdr.calId) :
    overrunEffect n s = raiseOf 0x1012 n.ordinal.toNat (noticeTile n) n.origin.toNat s := by
  rw [overrunEffect]
  simp [running, other]

/-! ### Halt and abort notices (R85, R91) -/

/-- A halt or abort notice of the running Calendar reaches it. -/
theorem haltEffect_running (aborted : Bool) (same : n.calId = r.cal.hdr.calId) (named : n.haltAt ≠ 0) :
    haltEffect n aborted s = haltRun n aborted r s := by
  rw [haltEffect]
  have here : n.haltAt ≠ 0#64 := named
  simp [running, same, here]

end

/-- The state with the running Calendar replaced. -/
def withRun (r : Run) (s : State) : State := { s with frames := { s.frames with run := some r } }

/-- In time it sets the halting Calend. -/
theorem haltRun_in_time {s : State} {n : Notice} {r : Run} (aborted : Bool) (going : r.completed = none) (before : r.halting = none)
    (time : now s < n.haltAt.toNat * 2 ^ r.cal.hdr.k) : haltRun n aborted r s =
      withRun (runHalt (if aborted then 0 else n.code.toNat) aborted n.origin.toNat n.haltAt.toNat r) s := by
  have early : ¬n.haltAt.toNat * 2 ^ r.cal.hdr.k ≤ now s := by omega
  rw [haltRun]
  simp [going, before, early, onlyIf, withRun]

/-- Late it halts the Calendar at the next Calend, with 0x1016. -/
theorem haltRun_late {s : State} {n : Notice} {r : Run} (aborted : Bool) (going : r.completed = none) (before : r.halting = none)
    (time : n.haltAt.toNat * 2 ^ r.cal.hdr.k ≤ now s) : haltRun n aborted r s =
      raise 0x1016 n.haltAt.toNat (withRun (runHalt (if aborted then 0 else n.code.toNat) aborted n.origin.toNat
        (now s / 2 ^ r.cal.hdr.k + 1) r) s) := by
  rw [haltRun]
  simp [going, before, time, onlyIf, withRun]

/-- With no Calendar running, a halt or abort notice ends the launch that it names or is kept for one. -/
theorem haltEffect_idle {s : State} {n : Notice} (aborted : Bool) (idle : s.frames.run = none) :
    match s.frames.held with
    | some c => if c.hdr.calId = n.calId then (haltEffect n aborted s).frames.held = none
        else (haltEffect n aborted s).frames.kept = n :: s.frames.kept
    | none => (haltEffect n aborted s).frames.kept = n :: s.frames.kept := by
  rw [haltEffect]
  simp only [idle, Bool.false_eq_true, false_and, if_false]
  cases s.frames.held with
  | none => rfl
  | some c =>
    by_cases named : c.hdr.calId = n.calId
    · simp only [named, decide_true, if_true]
      split <;> rw [dropHeld_frames]
    · simp only [named, decide_false, Bool.false_eq_true, if_false]

/-- A Job-fatal fault of a halted Calendar moves its halting Calend to no later one. -/
theorem raise_halted_run {c ctx h : Nat} {s : State} {r : Run} (running : s.frames.run = some r) (going : r.completed = none)
    (before : r.halting = none) (known : r.haltAt = some h) (sev : sevOf c = 2 := by decide) :
    (raise c ctx s).frames.run = some { r with haltAt := some (min (calendAt r.cal.hdr.k (now (logWith c none ctx [] s) +
      r.cal.hdr.lead)) h) } := by
  obtain ⟨seen, e⟩ := raiseHalt_frames (s := logWith c none ctx [] s) c none (by rw [logWith_frames, running]) going before
  rw [raise, raiseFault, raiseWith_of_jobFatal _ _ _ _ sev, e, runHalt_earlier _ _ _ _ known]

/-- A halt that comes late (R91). -/
theorem haltRun_late_spec {s : State} {n : Notice} {r : Run} (going : r.completed = none)
    (before : r.halting = none) (none_yet : r.haltAt = none) (time : n.haltAt.toNat * 2 ^ r.cal.hdr.k ≤ now s) :
    Raised 0x1016 s (haltRun n false r s) ∧ ∃ r' h, (haltRun n false r s).frames.run = some r' ∧ r'.haltAt = some h ∧
      h ≤ now s / 2 ^ r.cal.hdr.k + 1 ∧ r'.halted = true := by
  rw [haltRun_late false going before time, runHalt_halted _ _ _ _ none_yet]
  exact ⟨Raised.of_health (x := withRun _ s) rfl (raise_raised _ _), _, _, raise_halted_run rfl going before rfl, rfl,
    Nat.min_le_right _ _, rfl⟩

/-- Settles O26: the first copy of a notice by the effect of its type, in the order of the checks. -/
theorem noticesActOnTheCalendarTheyName : Obligations.NoticesActOnTheCalendarTheyName := by
  intro s f n hub form
  have typ {v : Byte} (h : n.typ = v) : n.typ.toNat = v.toNat := congrArg BitVec.toNat h
  have other {v : Byte} (h : n.typ ≠ v) : n.typ.toNat ≠ v.toNat := fun e => h (BitVec.eq_of_toNat_eq e)
  refine ⟨fun h => ?_, fun h => ?_, fun h => ?_, fun h seen => ?_, fun r running h first => ⟨?_, ?_, ?_⟩,
    fun r running same named going before none_yet => ⟨?_, ?_, ?_⟩, fun idle => ⟨fun h first => ?_, fun h first => ?_⟩⟩
  · exact ⟨_, congrArg Host.Outcome.next (takeNotice_malformed hub (other h)), malformed_spec _ _ _⟩
  · exact ⟨_, congrArg Host.Outcome.next (takeNotice_malformed hub (other h)), malformed_spec _ _ _⟩
  · exact ⟨_, congrArg Host.Outcome.next (takeNotice_malformed hub (other h)), malformed_spec _ _ _⟩
  · exact ⟨_, congrArg Host.Outcome.next (takeNotice_later hub form (typ h) seen), freeSlot_frames _ _ _, freeSlot_health _ _ _⟩
  · intro same frame going fresh before free time
    have hrun : (noticed f.val 1 n s).frames.run = some r := by rw [noticed_frames, running]
    have leap := overrunEffect_current hrun same frame going fresh before (by rwa [noticed_now])
    refine ⟨_, congrArg Host.Outcome.next ((takeNotice_first hub form (typ h) first).trans leap), ?_⟩
    obtain ⟨held, seen, e, hseen⟩ := takeLeap_frames n.origin.toNat n.tile.toNat hrun
    refine ⟨by rw [e, noticed_frames], Raised.of_health (noticed_health f.val 1 n s) (takeLeap_raised _ _ hrun), ?_, ?_⟩
    · rw [e]
      exact (hseen (by rw [noticed_frames, free])).trans (by rw [noticed_frames])
    · rw [e]
      exact ⟨_, rfl, rfl⟩
  · intro same old
    have hrun : (noticed f.val 1 n s).frames.run = some r := by rw [noticed_frames, running]
    exact ⟨_, congrArg Host.Outcome.next ((takeNotice_first hub form (typ h) first).trans (overrunEffect_late hrun same old)),
      Raised.of_health (noticed_health f.val 1 n s) (raiseOf_raised _ _ _ _)⟩
  · intro stranger
    have hrun : (noticed f.val 1 n s).frames.run = some r := by rw [noticed_frames, running]
    exact ⟨_, congrArg Host.Outcome.next ((takeNotice_first hub form (typ h) first).trans (overrunEffect_other hrun stranger)),
      Raised.of_health (noticed_health f.val 1 n s) (raiseOf_raised _ _ _ _)⟩
  · intro h first time
    have hrun : (noticed f.val 2 n s).frames.run = some r := by rw [noticed_frames, running]
    have halt := (haltEffect_running hrun false same named).trans
      (haltRun_in_time false going before (by rwa [noticed_now]))
    rw [runHalt_halted _ _ _ _ none_yet] at halt
    exact ⟨_, congrArg Host.Outcome.next ((takeNotice_first hub form (typ h) first).trans halt), noticed_health f.val 2 n s, _, rfl,
      rfl, rfl, (BitVec.ofNat_toNat _ _).trans (BitVec.setWidth_eq _), rfl⟩
  · intro h first time
    have hrun : (noticed f.val 2 n s).frames.run = some r := by rw [noticed_frames, running]
    obtain ⟨raised, halted⟩ := haltRun_late_spec (s := noticed f.val 2 n s) going before none_yet (by rwa [noticed_now])
    rw [noticed_now] at halted
    exact ⟨_, congrArg Host.Outcome.next ((takeNotice_first hub form (typ h) first).trans (haltEffect_running hrun false same named)),
      Raised.of_health (noticed_health f.val 2 n s) raised, halted⟩
  · intro h first time
    have hrun : (noticed f.val 3 n s).frames.run = some r := by rw [noticed_frames, running]
    have halt := (haltEffect_running hrun true same named).trans
      (haltRun_in_time true going before (by rwa [noticed_now]))
    rw [runHalt_halted _ _ _ _ none_yet] at halt
    refine ⟨_, congrArg Host.Outcome.next ((takeNotice_first hub form (typ h) first).trans halt), _, rfl, rfl, rfl, ?_⟩
    have small : n.origin.toNat < 65536 := by omega
    rw [BitVec.toNat_ofNat, Nat.mod_eq_of_lt small]
  · have hidle : (noticed f.val 2 n s).frames.run = none := by rw [noticed_frames, idle]
    have ended := haltEffect_idle (n := n) false hidle
    rw [noticed_frames] at ended
    exact ⟨_, congrArg Host.Outcome.next (takeNotice_first hub form (typ h) first), ended⟩
  · have hidle : (noticed f.val 3 n s).frames.run = none := by rw [noticed_frames, idle]
    have ended := haltEffect_idle (n := n) true hidle
    rw [noticed_frames] at ended
    exact ⟨_, congrArg Host.Outcome.next (takeNotice_first hub form (typ h) first), ended⟩

end Sys2Proof.Laws

/-!
PROOF. What goes to the host only grows, and a record that finds room in its ring goes out at once (R435, R438).
-/

namespace Sys2Proof.Laws

set_option Elab.async false

open Machine

/-! ### What goes to the host -/

section

variable {l : List HostOut} {s : State}

theorem hostOut_grows (o : HostOut) (h : l <+: s.out.host) : l <+: (hostOut o s).out.host := h.trans (List.prefix_append _ _)

theorem msix_grows (v : Nat) (h : l <+: s.out.host) : l <+: (msix v s).out.host := by
  unfold msix
  split
  · exact h
  · split
    · exact hostOut_grows _ h
    · exact h

theorem appendEvent_grows (kind sev code index sub : Nat) (time : U64) (h : l <+: s.out.host) :
    l <+: (appendEvent kind sev code index sub time s).out.host := by
  unfold appendEvent
  split
  · have posted := msix_grows (s := { s with mgmt := { s.mgmt with
      events := lastN 256 (s.mgmt.events ++ [⟨s.mgmt.eventSeq, time, kind, sev, code, index, sub⟩])
      eventSeq := s.mgmt.eventSeq + 1 } }) 0 h
    exact posted
  · exact h

theorem postEvent_grows (kind sev code index sub : Nat) (h : l <+: s.out.host) :
    l <+: (postEvent kind sev code index sub s).out.host := by
  unfold postEvent
  split
  · exact appendEvent_grows _ _ _ _ _ _ h
  · exact h

theorem setPower_grows (p : PState) (h : l <+: s.out.host) : l <+: (setPower p s).out.host := by
  unfold setPower
  split
  · exact h
  · exact postEvent_grows (s := { s with pow := { s.pow with state := p } }) _ _ _ _ _ h

theorem settlePower_grows (h : l <+: s.out.host) : l <+: (settlePower s).out.host := by
  unfold settlePower
  split
  · exact setPower_grows _ h
  · exact h

theorem appendFault_grows (r : FaultRec) (h : l <+: s.out.host) : l <+: (appendFault r s).out.host := by
  unfold appendFault
  extract_lets log x y
  have posted : l <+: y.out.host := appendEvent_grows (s := x) 1 r.sev r.code.toNat 0 0 s.time.alm h
  split
  · exact msix_grows (s := { y with host := { y.host with faultLast := r.code, faultSev := r.sev, faultTime := r.time } }) 1 posted
  · exact posted

theorem logRec_grows (r : FaultRec) (h : l <+: s.out.host) : l <+: (logRec r s).out.host := by
  unfold logRec
  extract_lets counted x
  split
  · exact appendFault_grows (s := x) r h
  · exact h

theorem logWith_grows (code : Nat) (tile : Option Nat) (ctx : Nat) (also : List Nat) (h : l <+: s.out.host) :
    l <+: (logWith code tile ctx also s).out.host := logRec_grows _ h

theorem ringSignal_grows (i : Nat) (h : l <+: s.out.host) : l <+: (ringSignal i s).out.host := by
  unfold ringSignal
  simp only
  split
  · exact msix_grows (s := modRing i (fun r => { r with unsignalled := 0 }) s) _ h
  · exact h

end

/-! ### Records that go out (R438) -/

section

variable {ring slot status code d0 d1 : Nat} {cid : U32} {s x t : State}

theorem Records.later (h : Records ring cid slot status code d0 d1 s x) (grows : x.out.host <+: t.out.host) :
    Records ring cid slot status code d0 d1 s t := by
  obtain ⟨l, n, r, out, mem, fields⟩ := h
  obtain ⟨l', out'⟩ := grows
  exact ⟨l ++ l', n, r, by rw [← out', out, List.append_assoc], List.mem_append_left _ mem, fields⟩

theorem Records.earlier (grows : s.out.host <+: x.out.host) (h : Records ring cid slot status code d0 d1 x t) :
    Records ring cid slot status code d0 d1 s t := by
  obtain ⟨l, n, r, out, mem, fields⟩ := h
  obtain ⟨l', out'⟩ := grows
  exact ⟨l' ++ l, n, r, by rw [out, ← out', List.append_assoc], List.mem_append_right _ mem, fields⟩

/-- A record that finds room goes out. -/
theorem pushRecord_records {r : HRec} (room : RingRoom s ring) (of_code : r.code = BitVec.ofNat 16 code) :
    Records ring r.cid r.slot r.status code r.detail0 r.detail1 s (pushRecord ring r s) := by
  obtain ⟨held, free⟩ := room
  unfold pushRecord
  simp only [held, free, List.isEmpty_nil, Bool.not_false, Bool.and_self, if_true]
  refine Records.later ?_ (ringSignal_grows ring List.prefix_rfl)
  exact ⟨_, _, _, rfl, List.mem_singleton_self _, rfl, rfl, rfl, of_code, rfl, rfl⟩

theorem answer_records (room : RingRoom s ring) :
    Records ring cid slot status code d0 d1 s (answer ring slot cid status code d0 d1 s) :=
  pushRecord_records (r := directRecord cid slot status code d0 d1)
    (s := { s with host := { s.host with done := ((cid, false) :: s.host.done).take 1024 } }) room rfl

/-- The command `d` of a launch is outstanding, no record waits for the core (R521), and its ring has room (R435). -/
structure Answerable (s : State) (cid : U32) (d : Cmd) : Prop where
  live : s.boot.activating = false
  found : s.host.cmds.find? (fun x => decide (x.cid = cid)) = some d
  room : RingRoom s d.ring

theorem ringRoom_of_acts {L : Nat} (room : RingRoom s ring) (acts : Acts L s t) (rings : L.testBit 27 = false := by decide) :
    RingRoom t ring := by
  have hrings : ringsOf t.host = ringsOf s.host := acts.part .rings rings
  simp only [ringsOf, Prod.mk.injEq] at hrings
  obtain ⟨rows, -⟩ := hrings
  rwa [RingRoom, ringOf, rows]

theorem Acts.cmds {L : Nat} (acts : Acts L s t) (rings : L.testBit 27 = false := by decide) : t.host.cmds = s.host.cmds := by
  have hrings : ringsOf t.host = ringsOf s.host := acts.part .rings rings
  simp only [ringsOf, Prod.mk.injEq] at hrings
  obtain ⟨-, cmds, -⟩ := hrings
  exact cmds

theorem Acts.activating {L : Nat} (acts : Acts L s t) (core : L.testBit 5 = false := by decide) :
    t.boot.activating = s.boot.activating := by
  have hcore : coreOf t.boot = coreOf s.boot := acts.part .core core
  simp only [coreOf, Prod.mk.injEq] at hcore
  obtain ⟨-, -, -, -, -, -, -, -, -, -, -, -, activating, -⟩ := hcore
  exact activating

theorem Answerable.of_acts {L : Nat} {d : Cmd} (h : Answerable s cid d) (acts : Acts L s t) (core : L.testBit 5 = false := by decide)
    (rings : L.testBit 27 = false := by decide) : Answerable t cid d :=
  ⟨(acts.activating core).trans h.live, by rw [acts.cmds rings, h.found], ringRoom_of_acts h.room acts rings⟩

/-- A command that is kept under a free `CID` is the one found. -/
theorem answerable_holdCmd {c : Cmd} (live : s.boot.activating = false) (fresh : cmdOutstanding s c.cid = false)
    (room : RingRoom s c.ring) : Answerable (holdCmd c s) c.cid c := by
  refine ⟨live, ?_, room⟩
  have none_before : s.host.cmds.find? (fun x => decide (x.cid = c.cid)) = none := by
    rw [List.find?_eq_none]
    rwa [cmdOutstanding, List.any_eq_false] at fresh
  change (s.host.cmds ++ [c]).find? _ = _
  rw [List.find?_append, none_before]
  simp

/-- The command of a launch that ends is answered. -/
theorem endLaunch_records {c : Cal} {d : Cmd} (h : Answerable s c.cid d) :
    Records d.ring c.cid d.slot status code d0 d1 s (endLaunch c status code d0 d1 s) := by
  obtain ⟨live, found, room⟩ := h
  have pushed : endLaunch c status code d0 d1 s = settlePower (pushRecord d.ring
      { cid := c.cid, sqHead := 0, status := status, phase := false, unstable := d.unstable
        code := BitVec.ofNat 16 code, slot := d.slot, detail0 := d0, detail1 := d1 }
      { s with host := { s.host with
        cmds := s.host.cmds.filter (fun x => decide (x.cid ≠ c.cid))
        done := ((c.cid, isAbort d.kind) :: s.host.done).take 1024 } }) := by
    rw [endLaunch, finishCmd, found, live]
    rfl
  rw [pushed]
  generalize hx : ({ s with host := { s.host with
    cmds := s.host.cmds.filter (fun x => decide (x.cid ≠ c.cid))
    done := ((c.cid, isAbort d.kind) :: s.host.done).take 1024 } } : State) = x
  have out : x.out = s.out := by rw [← hx]
  have room' : RingRoom x d.ring := by
    rw [← hx]
    exact room
  have record := pushRecord_records (code := code) (r := {
    cid := c.cid, sqHead := 0, status := status, phase := false, unstable := d.unstable
    code := BitVec.ofNat 16 code, slot := d.slot, detail0 := d0, detail1 := d1 }) room' rfl
  exact Records.earlier (by rw [out]) (Records.later record (settlePower_grows List.prefix_rfl))

/-- The command of a launch that fails before it runs is answered. -/
theorem failHeld_records {c : Cal} {d : Cmd} {typ : Nat} (held : s.frames.held = some c) (h : Answerable s c.cid d) :
    Records d.ring c.cid d.slot status code d0 0 s (failHeld status code d0 typ s) := by
  have acts := sendOwn_acts (a0 := ownNotice s typ 0 code 0 0xFFFF c.hdr.calId) (Sub.refl _) (.refl s)
  obtain ⟨seen, frames⟩ := sendOwn_frames (ownNotice s typ 0 code 0 0xFFFF c.hdr.calId) s
  have out : (sendOwn (ownNotice s typ 0 code 0 0xFFFF c.hdr.calId) s).out.host = s.out.host := acts.part .hostOut
  have still : (sendOwn (ownNotice s typ 0 code 0 0xFFFF c.hdr.calId) s).frames.held = some c := by rw [frames, held]
  have answerable := h.of_acts acts
  rw [failHeld, held]
  simp only
  generalize sendOwn (ownNotice s typ 0 code 0 0xFFFF c.hdr.calId) s = x at out still answerable ⊢
  rw [dropHeld, still]
  have ended : Answerable { x with frames := { x.frames with held := none } } c.cid d :=
    ⟨answerable.live, answerable.found, answerable.room⟩
  exact Records.earlier (by rw [out]) (endLaunch_records ended)

end

end Sys2Proof.Laws

/-!
PROOF. An entry that Thenil reads (R434, R439), and a LAUNCH (R87, R440, R587).
-/

namespace Sys2Proof.Laws

set_option Elab.async false

open Machine

/-! ### The entry is taken (R439) -/

theorem countRead_cid (i : Nat) (c : Cmd) : (countRead i c).cid = c.cid := by
  unfold countRead
  split <;> rfl

/-- The ring once the entry of `slot` is read; the doorbell comes with it where none is waiting. -/
def ringTaken (slot next : Nat) (r : Ring) : Ring :=
  { r with sqHead := next, sqTail := if r.sqTail = slot then next else r.sqTail }

/-- The state in which an entry of the ring is handled: the entry is counted and taken off its ring. -/
def entryTaken (i : Nat) (s : State) : State :=
  let slot := (ringOf s i).sqHead
  let s := bump 0x110105 1 (modRing i (ringTaken slot ((slot + 1) % 2 ^ (ringOf s i).sqLog)) s)
  { s with host := { s.host with cmds := s.host.cmds.map (countRead i) } }

theorem cmdOutstanding_entryTaken (i : Nat) (s : State) (cid : U32) :
    cmdOutstanding (entryTaken i s) cid = cmdOutstanding s cid := by
  change (s.host.cmds.map (countRead i)).any _ = s.host.cmds.any _
  simp only [List.any_map, Function.comp_def, countRead_cid]

theorem ringRoom_entryTaken {i : Nat} {s : State} (en : (ringOf s i).en = true) (room : RingRoom s i) :
    RingRoom (entryTaken i s) i := by
  have ring : ringOf (entryTaken i s) i = ringTaken (ringOf s i).sqHead
      (((ringOf s i).sqHead + 1) % 2 ^ (ringOf s i).sqLog) (ringOf s i) := by
    refine ringOf_modRing_self i _ s fun e => ?_
    have off : (ringOf s i).en = false := congrArg Ring.en e
    exact Bool.false_ne_true (off.symm.trans en)
  rw [RingRoom, ring]
  exact room

theorem ringReads_en {s : State} {i : Nat} (h : ringReads s i = true) : (ringOf s i).en = true := by
  simp only [ringReads, Bool.and_eq_true] at h
  obtain ⟨⟨⟨-, en⟩, -⟩, -⟩ := h
  exact en

section

variable {s : State} {h : SqHead} (taken : Submits s h) {early : Bool} {act : Nat → State → State}

include taken

theorem ringRoom_taken : RingRoom (entryTaken h.ring.val s) h.ring.val :=
  ringRoom_entryTaken (ringReads_en taken.reads) taken.room

/-- A good entry is handled once the package is Ready. -/
theorem submit_ready (ready : s.boot.ready = true) : submit h.ring.val h.cid (!h.reserved) early act s =
    act (ringOf s h.ring.val).sqHead (entryTaken h.ring.val s) := by
  have fresh := (cmdOutstanding_entryTaken h.ring.val s h.cid).trans taken.fresh
  have still : (entryTaken h.ring.val s).boot.ready = true := ready
  unfold submit
  rw [if_pos taken.reads]
  change (if h.cid = _ then _ else if cmdOutstanding (entryTaken h.ring.val s) h.cid then _ else _) = _
  rw [if_neg taken.cid, fresh, if_neg Bool.false_ne_true, if_neg (by simp [taken.form])]
  exact if_neg fun x => Bool.false_ne_true (x.2.symm.trans still)

/-- Before Ready it is answered NOT_READY, but for the entries that may come early. -/
theorem submit_notReady (ready : s.boot.ready = false) : submit h.ring.val h.cid (!h.reserved) false act s =
    answer h.ring.val (ringOf s h.ring.val).sqHead h.cid 11 0 0 0 (entryTaken h.ring.val s) := by
  have fresh := (cmdOutstanding_entryTaken h.ring.val s h.cid).trans taken.fresh
  have still : (entryTaken h.ring.val s).boot.ready = false := ready
  unfold submit
  rw [if_pos taken.reads]
  change (if h.cid = _ then _ else if cmdOutstanding (entryTaken h.ring.val s) h.cid then _ else _) = _
  rw [if_neg taken.cid, fresh, if_neg Bool.false_ne_true, if_neg (by simp [taken.form])]
  exact if_pos ⟨rfl, still⟩

end

/-! ### LAUNCH (R87, R440, R587) -/

section

variable {s : State} {i slot image start : Nat} {cid : U32}

/-- What begins validation. -/
def launchCal (i : Nat) (cid : U32) (image start slot : Nat) (s : State) : Cal :=
  { addr := image, start := start, cid := cid, ring := i, slot := slot, hdr := hdrAt s image, readAt := now s, armed := false
    larder := {} }

/-- Its command. -/
def launchCmd (i : Nat) (cid : U32) (slot : Nat) : Cmd :=
  { cid := cid, ring := i, slot := slot, kind := .launch, pieces := [], unstable := false, aborted := false, code := 0 }

/-- The state in which the package holds a launch. -/
def holding (c : Cal) (s : State) : State := { s with frames := { s.frames with held := some c } }

theorem ringRoom_holding {c : Cal} {s : State} {ring : Nat} (room : RingRoom s ring) : RingRoom (holding c s) ring := room

/-- The state in which validation begins. -/
def launchHeld (i : Nat) (cid : U32) (image start slot : Nat) (s : State) : State :=
  holdCmd (launchCmd i cid slot) (setPower .run (holding (launchCal i cid image start slot s) s))

theorem launchHeld_frames : (launchHeld i cid image start slot s).frames =
    { s.frames with held := some (launchCal i cid image start slot s) } :=
  (setPower_acts (Sub.refl _) (.refl (holding (launchCal i cid image start slot s) s))).part .frames

theorem state_setPower (p : PState) (s : State) : (setPower p s).pow.state = p := by
  unfold setPower
  split
  case isTrue h => exact h
  case isFalse => exact (postEvent_acts (Sub.refl _) (.refl { s with pow := { s.pow with state := p } })).part .powerState

theorem launchHeld_grows : s.out.host <+: (launchHeld i cid image start slot s).out.host :=
  setPower_grows (s := holding (launchCal i cid image start slot s) s) .run List.prefix_rfl

theorem launchRead_busy (busy : s.frames.held.isSome = true) : launchRead i cid image start slot s =
    answer i slot cid 8 0x8024 0 0 (logWith 0x8024 none i [cid.toNat] s) := if_pos busy

theorem launchRead_begins (free : s.frames.held = none) (open_ : s.frames.refuse = none) (restored : s.twin.phase ≠ 1)
    (unnamed : s.frames.kept.find? (fun n => decide (n.calId = (hdrAt s image).calId)) = none) :
    launchRead i cid image start slot s = launchHeld i cid image start slot s := by
  have frames := launchHeld_frames (s := s) (i := i) (cid := cid) (image := image) (start := start) (slot := slot)
  have twin : (launchHeld i cid image start slot s).twin = s.twin := (setPower_acts (Sub.refl _) (.refl (holding (launchCal i cid image start slot s) s))).part .twin
  unfold launchRead
  simp only [free, Option.isSome_none, Bool.false_eq_true, if_false]
  change (match (launchHeld i cid image start slot s).frames.refuse with
    | some code => _
    | none => if (launchHeld i cid image start slot s).twin.phase = 1 then _ else
      match (launchHeld i cid image start slot s).frames.kept.find? (fun (n : Notice) => decide (n.calId = (hdrAt s image).calId)) with
      | some n => _
      | none => launchHeld i cid image start slot s) = _
  rw [frames, twin]
  simp only [open_, restored, unnamed, if_false]

theorem launchRead_refused {code : U16} (free : s.frames.held = none) (refused : s.frames.refuse = some code) :
    launchRead i cid image start slot s = failHeld 2 code.toNat 0 2 (launchHeld i cid image start slot s) := by
  have frames := launchHeld_frames (s := s) (i := i) (cid := cid) (image := image) (start := start) (slot := slot)
  unfold launchRead
  simp only [free, Option.isSome_none, Bool.false_eq_true, if_false]
  change (match (launchHeld i cid image start slot s).frames.refuse with
    | some code => failHeld 2 code.toNat 0 2 (launchHeld i cid image start slot s)
    | none => _) = _
  rw [frames]
  simp only [refused]

end

section

variable {s : State} {h : SqHead} (taken : Submits s h) (image start : U64)

/-- The state in which the validation of an entry's Calendar begins. -/
def launched (h : SqHead) (image start : U64) (s : State) : State :=
  launchHeld h.ring.val h.cid image.toNat start.toNat (ringOf s h.ring.val).sqHead (entryTaken h.ring.val s)

include taken

/-- The launch that is held can be answered. -/
theorem answerable_launched (live : s.boot.activating = false) :
    Answerable (launched h image start s) h.cid (launchCmd h.ring.val h.cid (ringOf s h.ring.val).sqHead) := by
  have powered := setPower_acts (a0 := .run) (Sub.refl _) (.refl (holding (launchCal h.ring.val h.cid image.toNat start.toNat
    (ringOf s h.ring.val).sqHead (entryTaken h.ring.val s)) (entryTaken h.ring.val s)))
  refine answerable_holdCmd (c := launchCmd h.ring.val h.cid (ringOf s h.ring.val).sqHead) (powered.activating.trans live) ?_
    (ringRoom_of_acts (ringRoom_holding (ringRoom_taken taken)) powered)
  rw [cmdOutstanding, powered.cmds]
  exact (cmdOutstanding_entryTaken h.ring.val s h.cid).trans taken.fresh

theorem execLaunch_begins (ready : s.boot.ready = true) (free : s.frames.held = none) (open_ : s.frames.refuse = none)
    (restored : s.twin.phase ≠ 1)
    (unnamed : s.frames.kept.find? (fun n => decide (n.calId = (hdrAt s image.toNat).calId)) = none) :
    execLaunch h image start s = .next (launched h image start s) := by
  rw [execLaunch, submit_ready taken ready]
  exact congrArg Host.Outcome.next (launchRead_begins (s := entryTaken h.ring.val s) free open_ restored unnamed)

theorem execLaunch_busy (ready : s.boot.ready = true) (busy : s.frames.held.isSome = true) : execLaunch h image start s =
    .next (answer h.ring.val (ringOf s h.ring.val).sqHead h.cid 8 0x8024 0 0
      (logWith 0x8024 none h.ring.val [h.cid.toNat] (entryTaken h.ring.val s))) := by
  rw [execLaunch, submit_ready taken ready]
  exact congrArg Host.Outcome.next (launchRead_busy (s := entryTaken h.ring.val s) busy)

theorem execLaunch_early (early : s.boot.ready = false) : execLaunch h image start s =
    .next (answer h.ring.val (ringOf s h.ring.val).sqHead h.cid 11 0 0 0 (entryTaken h.ring.val s)) := by
  rw [execLaunch, submit_notReady taken early]

theorem execLaunch_refused {code : U16} (ready : s.boot.ready = true) (free : s.frames.held = none)
    (refused : s.frames.refuse = some code) :
    execLaunch h image start s = .next (failHeld 2 code.toNat 0 2 (launched h image start s)) := by
  rw [execLaunch, submit_ready taken ready]
  exact congrArg Host.Outcome.next (launchRead_refused (s := entryTaken h.ring.val s) free refused)

end

theorem launched_held (h : SqHead) (image start : U64) (s : State) : (launched h image start s).frames.held =
    some (launchCal h.ring.val h.cid image.toNat start.toNat (ringOf s h.ring.val).sqHead (entryTaken h.ring.val s)) :=
  congrArg Frames.held launchHeld_frames

theorem launched_grows (h : SqHead) (image start : U64) (s : State) : s.out.host <+: (launched h image start s).out.host :=
  launchHeld_grows (s := entryTaken h.ring.val s)

theorem cmdOutstanding_launched (h : SqHead) (image start : U64) (s : State) :
    cmdOutstanding (launched h image start s) h.cid = true :=
  List.any_eq_true.mpr ⟨_, List.mem_append_right _ (List.mem_singleton_self _), decide_eq_true rfl⟩

theorem answer_frames (i slot : Nat) (cid : U32) (status code d0 d1 : Nat) (s : State) :
    (answer i slot cid status code d0 d1 s).frames = s.frames := (answer_acts (Sub.refl _) (.refl s)).part .frames

theorem answer_raised {fault i slot status code d0 d1 : Nat} {cid : U32} {s x : State} (h : Raised fault s x)
    (other : fault ∉ sideCodes := by decide) : Raised fault s (answer i slot cid status code d0 d1 x) :=
  Raised.later (codes := []) (keys := []) h (pushRecord_counts (.upd (.refl _) rfl rfl rfl)) other (by simp)

theorem entryTaken_counts (i : Nat) (s : State) : CountsOnly [] [0x110105] s (entryTaken i s) :=
  .trans (bump_counts (.inr (by decide)) (.refl _)) ⟨fun _ _ _ => rfl, rfl, fun _ _ _ => rfl⟩

/-- Settles O28: the entry is taken, and LAUNCH answers by what the package holds. -/
theorem launchBeginsValidation : Obligations.LaunchBeginsValidation := by
  intro s h image start taken
  have room := ringRoom_taken taken
  refine ⟨fun ready free open_ restored unnamed => ?_, fun ready busy => ?_, fun early => ?_, fun code ready live free refused => ?_⟩
  · exact ⟨_, execLaunch_begins taken image start ready free open_ restored unnamed, state_setPower _ _,
      cmdOutstanding_launched h image start s, _, launched_held h image start s, rfl, rfl, rfl, rfl, rfl⟩
  · have logged := logWith_acts (a0 := 0x8024) (a1 := none) (a2 := h.ring.val) (a3 := [h.cid.toNat]) (Sub.refl _)
      (.refl (entryTaken h.ring.val s))
    refine ⟨_, execLaunch_busy taken image start ready busy, (answer_frames _ _ _ _ _ _ _ _).trans (logWith_frames _ _ _ _ _), ?_, ?_⟩
    · exact answer_raised ((entryTaken_counts h.ring.val s).then_raised (logWith_raised none h.ring.val [h.cid.toNat] _))
    · exact Records.earlier (logWith_grows (s := entryTaken h.ring.val s) _ _ _ _ List.prefix_rfl) (answer_records (ringRoom_of_acts room logged))
  · exact ⟨_, execLaunch_early taken image start early, answer_frames _ _ _ _ _ _ _ _, Records.earlier
      (x := entryTaken h.ring.val s) List.prefix_rfl (answer_records room)⟩
  · obtain ⟨seen, frames⟩ := failHeld_frames 2 code.toNat 0 2 (launched h image start s)
    exact ⟨_, execLaunch_refused taken image start ready free refused, by rw [frames],
      Records.earlier (launched_grows h image start s) 
        (failHeld_records (launched_held h image start s) (answerable_launched taken image start live))⟩

end Sys2Proof.Laws

/-!
PROOF. Every Marshal stops (R90, R92), and the outcome of a completed Calendar (R90, R94).
-/

namespace Sys2Proof.Laws

set_option Elab.async false

open Machine

/-! ### What the halt of one tile touches while no Calendar runs (R92) -/

/-- The tiles, their buffers, the queues of the links, the requests and the free values. -/
abbrev tileParts : Nat := 68740841472

/-- The state has moved on at one tile only, and with no more than its buffer, its packets and its requests. -/
structure OnTile (t : Nat) (s x : State) : Prop where
  acts : Acts tileParts s x
  others : ∀ i, i ≠ t → tileOf x i = tileOf s i

theorem OnTile.refl (t : Nat) (s : State) : OnTile t s s := ⟨.refl s, fun _ _ => rfl⟩

theorem OnTile.trans {t : Nat} {s x y : State} (h : OnTile t s x) (k : OnTile t x y) : OnTile t s y :=
  ⟨h.acts.trans k.acts, fun i ne => (k.others i ne).trans (h.others i ne)⟩

theorem OnTile.frames {t : Nat} {s x : State} (h : OnTile t s x) : x.frames = s.frames := h.acts.part .frames

theorem OnTile.forEach {α : Type} {t : Nat} {s : State} {f : α → State → State} (l : List α)
    (hf : ∀ a x, OnTile t s x → OnTile t s (f a x)) {x : State} (h : OnTile t s x) : OnTile t s (forEach l f x) := by
  unfold Machine.forEach
  induction l generalizing x with
  | nil => exact h
  | cons a l ih => exact ih (hf a x h)

theorem modTile_onTile (t : Nat) (g : Tile → Tile) (s : State) : OnTile t s (modTile t g s) :=
  ⟨modTile_acts ((Sub.refl _).mono (by decide)) (.refl s), fun i ne => tileOf_modTile_other t g s i ne⟩

/-- An operation that leaves the tiles alone. -/
theorem onTile_of_tiles {t : Nat} {s x : State} (acts : Acts tileParts s x) (tiles : x.tiles = s.tiles) : OnTile t s x :=
  ⟨acts, fun i _ => tileOf_of_tiles tiles i⟩

theorem bufWrite_onTile (t a : Nat) (l : List Byte) (s : State) : OnTile t s (bufWrite t a l s) :=
  onTile_of_tiles (bufWrite_acts ((Sub.refl _).mono (by decide)) (.refl s))
    ((bufWrite_acts (Sub.refl _) (.refl s)).part .tiles)

theorem stopXfer_onTile (t tag : Nat) (s : State) : OnTile t s (stopXfer t tag s) :=
  onTile_of_tiles (stopXfer_acts ((Sub.refl _).mono (by decide)) (.refl s)) rfl

theorem tileResetNow_onTile (t : Nat) (s : State) : OnTile t s (tileResetNow t s) :=
  ⟨tileResetNow_acts ((Sub.refl _).mono (by decide)) (.refl s), fun _ ne => mget_mset_other ne⟩

/-- No Calendar runs, or its halting Calend has passed. -/
def Resting (s : State) : Prop := ∀ r, s.frames.run = some r → r.halting.isSome = true

theorem resting_of_idle {s : State} (idle : s.frames.run = none) : Resting s :=
  fun r running => absurd (idle.symm.trans running) (Option.some_ne_none r).symm

theorem Resting.of_frames {s x : State} (h : Resting s) (same : x.frames = s.frames) : Resting x :=
  fun r running => h r (by rwa [same] at running)

/-- Then there is no projection to evaluate. -/
theorem evaluate_resting {s : State} (t : Nat) (resting : Resting s) : evaluate t s = s := by
  unfold evaluate
  cases running : s.frames.run with
  | none => rfl
  | some r =>
    obtain ⟨a, halting⟩ := Option.isSome_iff_exists.mp (resting r running)
    simp only [halting, Option.isNone_some, Bool.false_eq_true, and_false, if_false]

theorem complete_onTile {s : State} (t pos : Nat) (resting : Resting s) : OnTile t s (complete t pos s) := by
  rw [complete, evaluate_resting t (s := modTile _ _ s) resting]
  exact modTile_onTile _ _ _

/-- An entry completes after an operation on its tile. -/
theorem OnTile.completes {t : Nat} {s x : State} (h : OnTile t s x) (g : Tile → Tile) (pos : Nat) (resting : Resting s) :
    OnTile t s (complete t pos (modTile t g x)) := by
  have moved := h.trans (modTile_onTile t g x)
  exact moved.trans (complete_onTile t pos (resting.of_frames moved.frames))

theorem endXfer_onTile {s : State} (t : Nat) (x : Xfer) (result : Nat) (resting : Resting s) :
    OnTile t s (endXfer t x result s) := (bufWrite_onTile t x.status _ s).completes _ x.pos resting

theorem endFence_onTile {s : State} (t : Nat) (f : FenceRun) (interrupted : Bool) (resting : Resting s) :
    OnTile t s (endFence t f interrupted s) := by
  unfold endFence
  split
  · exact (OnTile.refl t s).completes _ f.pos resting
  · exact (bufWrite_onTile t f.status _ s).completes _ f.pos resting

theorem haltTile_onTile {s : State} (t : Nat) (resting : Resting s) : OnTile t s (haltTile t s) := by
  have still {x : State} (h : OnTile t s x) : Resting x := resting.of_frames h.frames
  refine OnTile.forEach _ (fun f x h => h.trans (endFence_onTile t f true (still h)))
    (OnTile.forEach _ (fun y x h => ?_) (modTile_onTile t _ s))
  have stopped := h.trans (stopXfer_onTile t y.tag x)
  exact stopped.trans (endXfer_onTile t y 3 (still stopped))

/-- The tile has stood in `STATE` 1, or not. -/
theorem haltedTile_onTile {s : State} (t : Nat) (c : Bool) (resting : Resting s) :
    OnTile t s (modTile t (fun x => { x with st := 4 }) (onlyIf c (haltTile t) s)) := by
  refine OnTile.trans ?_ (modTile_onTile t _ _)
  unfold onlyIf
  split
  · exact haltTile_onTile t resting
  · exact .refl t s

theorem stopTile_onTile {s : State} (t : Nat) (resting : Resting s) : OnTile t s (stopTile t s) := by
  have halted := haltedTile_onTile t (decide ((tileOf s t).st = 1)) resting
  unfold stopTile
  simp only
  split
  · exact (halted.trans (tileResetNow_onTile t _)).trans (modTile_onTile t _ _)
  · unfold onlyIf
    split
    · exact halted.trans (tileResetNow_onTile t _)
    · exact halted

/-- A tile with no reset to come, or one that is hung, stands in `STATE` 4. -/
theorem st_stopTile {s : State} (t : Nat) (stays : (tileOf s t).resetDue = false ∨ (tileOf s t).hung = true) :
    (tileOf (stopTile t s) t).st = 4 := by
  unfold stopTile
  simp only
  split
  case isTrue => exact st_modTile_four t _
  case isFalse awake =>
    have not_due := stays.resolve_right awake
    rw [not_due]
    exact st_modTile_four t _

/-- Tiles outside the list stay as they are. -/
theorem tileOf_stopTiles {i : Nat} (l : List Nat) (out : i ∉ l) {s : State} (resting : Resting s) :
    tileOf (forEach l stopTile s) i = tileOf s i := by
  induction l generalizing s with
  | nil => rfl
  | cons t l ih =>
    have one := stopTile_onTile t resting
    simp only [List.mem_cons, not_or] at out
    exact (ih out.2 (resting.of_frames one.frames)).trans (one.others i out.1)

/-- Every tile of the list that has no reset to come, or is hung, stands in `STATE` 4 after the list. -/
theorem st_stopTiles {i : Nat} (l : List Nat) (each : l.Nodup) {s : State} (resting : Resting s)
    (stays : (tileOf s i).resetDue = false ∨ (tileOf s i).hung = true) (listed : i ∈ l ∨ (tileOf s i).st = 4) :
    (tileOf (forEach l stopTile s) i).st = 4 := by
  induction l generalizing s with
  | nil => exact listed.resolve_left List.not_mem_nil
  | cons t l ih =>
    obtain ⟨fresh, each⟩ := List.nodup_cons.mp each
    have one := stopTile_onTile t resting
    have still : Resting (stopTile t s) := resting.of_frames one.frames
    by_cases e : i = t
    · subst e
      exact (congrArg Tile.st (tileOf_stopTiles l fresh still)).trans (st_stopTile i stays)
    · have same := one.others i e
      refine ih each still (by rwa [same]) ?_
      rw [same]
      exact listed.imp_left fun m => (List.mem_cons.mp m).resolve_left e

theorem stopTiles_acts {s : State} (resting : Resting s) : Acts tileParts s (eachTile stopTile s) := by
  suffices ∀ (l : List Nat) {x : State}, Acts tileParts s x → Acts tileParts s (forEach l stopTile x) from this _ (.refl s)
  intro l x h
  induction l generalizing x with
  | nil => exact h
  | cons t l ih =>
    have frames : x.frames = s.frames := h.part .frames
    exact ih (h.trans (stopTile_onTile t (resting.of_frames frames)).acts)

/-! ### The outcome (R90, R94) -/

/-- The state in which the outcome is fixed: no Calendar runs, and a halt holds the package. -/
def outcomeDue (halted : Bool) (at_ : Nat) (s : State) : State :=
  { timeAtLeast at_ s with frames := { (timeAtLeast at_ s).frames with
    run := none, haltedHeld := halted || (timeAtLeast at_ s).frames.haltedHeld } }

section

variable {s : State} {r : Run} {a : Nat} (running : s.frames.run = some r) (done : r.completed = some a)

include running done

theorem execOutcomeFixed_completed (good : r.halted = false) : execOutcomeFixed s =
    .next (endLaunch r.cal 0 0 r.executed a (outcomeDue false (a + r.cal.hdr.lead) s)) := by
  have frames : (timeAtLeast (a + r.cal.hdr.lead) s).frames = s.frames := (timeAtLeast_acts (Sub.refl _) (.refl s)).part .frames
  rw [execOutcomeFixed, running]
  simp only [done, fixOutcome, frames, running, good, Bool.false_eq_true, if_false]
  rw [outcomeDue, frames, Bool.false_or]

theorem execOutcomeFixed_halted (bad : r.halted = true) (own : r.aborted = false) : execOutcomeFixed s =
    .next (endLaunch r.cal 1 r.haltCode.toNat r.executed a
      (failStart (eachTile stopTile (outcomeDue true (a + r.cal.hdr.lead) s)))) := by
  have frames : (timeAtLeast (a + r.cal.hdr.lead) s).frames = s.frames := (timeAtLeast_acts (Sub.refl _) (.refl s)).part .frames
  rw [execOutcomeFixed, running]
  simp only [done, fixOutcome, frames, running, bad, own, Bool.false_eq_true, if_false, if_true, false_and]
  rw [outcomeDue, frames, Bool.true_or]

end

/-- Settles O24: the record of the launch, and every Marshal stopped where the outcome is a halt. -/
theorem outcomesAreFixedAfterTheLead : Obligations.OutcomesAreFixedAfterTheLead := by
  intro s r a running done live free ⟨c, cmds, cid, ring, slot, room⟩
  have timed := timeAtLeast_acts (a0 := a + r.cal.hdr.lead) (Sub.refl _) (.refl s)
  have answerable (h : Bool) : Answerable (outcomeDue h (a + r.cal.hdr.lead) s) r.cal.cid c := by
    have before : Answerable s r.cal.cid c := ⟨live, by rw [cmds]; simp [cid], room⟩
    obtain ⟨live, found, room⟩ := before.of_acts timed
    exact ⟨live, found, room⟩
  have out (h : Bool) : (outcomeDue h (a + r.cal.hdr.lead) s).out.host = s.out.host := timed.part .hostOut
  have tiles (h : Bool) : (outcomeDue h (a + r.cal.hdr.lead) s).tiles = s.tiles := timed.part .tiles
  have frames : (timeAtLeast (a + r.cal.hdr.lead) s).frames = s.frames := timed.part .frames
  rw [← ring, ← slot]
  refine ⟨fun good => ⟨_, execOutcomeFixed_completed running done good, ?_, ?_, ?_, ?_⟩,
    fun bad own => ⟨_, execOutcomeFixed_halted running done bad own, ?_⟩⟩
  · rw [endLaunch_frames]
    rfl
  · rw [endLaunch_frames, outcomeDue, frames]
    rfl
  · exact Records.earlier (by rw [out]) (endLaunch_records (answerable false))
  · exact ((endLaunch_acts (Sub.refl _) (.refl _)).part .tiles).trans (tiles false)
  · have idle : (outcomeDue true (a + r.cal.hdr.lead) s).frames.run = none := rfl
    have stopped := stopTiles_acts (resting_of_idle idle)
    have after := stopped.part .frames
    have none_held : (eachTile stopTile (outcomeDue true (a + r.cal.hdr.lead) s)).frames.held = none := by
      rw [after, outcomeDue, frames, free]
    have ended : (endLaunch r.cal 1 r.haltCode.toNat r.executed a
        (eachTile stopTile (outcomeDue true (a + r.cal.hdr.lead) s))).frames = (outcomeDue true (a + r.cal.hdr.lead) s).frames :=
      (endLaunch_frames _ _ _ _ _ _).trans after
    rw [failStart_idle none_held]
    refine ⟨congrArg Frames.run ended, congrArg Frames.haltedHeld ended, ?_, fun i stays => ?_⟩
    · exact Records.earlier (by rw [stopped.part .hostOut, out]) (endLaunch_records ((answerable true).of_acts stopped))
    · have same := tileOf_of_tiles (tiles true) i.val
      rw [tileOf_of_tiles ((endLaunch_acts (Sub.refl _) (.refl _)).part .tiles) i.val]
      exact st_stopTiles _ List.nodup_range (resting_of_idle idle) (by rwa [same]) (.inl (List.mem_range.mpr i.isLt))

end Sys2Proof.Laws

/-!
PROOF. The projection (R78, R79, R84): what its evaluation can do, what it leaves of its tile and what it counts.
-/

namespace Sys2Proof.Laws

set_option Elab.async false

open Machine

/-! ### Tables whose values change -/

theorem mget_mmapv {α : Type} [DecidableEq α] {d : α} {f : α → α} {m : SMap α} {a : Nat} (listed : mget d m a ≠ d)
    (kept : f (mget d m a) ≠ d) : mget d (mmapv d f m) a = f (mget d m a) := by
  induction m with
  | nil => exact absurd rfl listed
  | cons x m ih =>
    obtain ⟨k, v⟩ := x
    simp only [mmapv, List.map_cons, List.filter_cons]
    by_cases e : a = k
    · simp only [mget, e, if_true] at kept ⊢
      simp [kept, mget]
    · simp only [mget, e, if_false] at listed kept ⊢
      split
      · rw [mget, if_neg e]
        exact ih listed kept
      · exact ih listed kept

theorem mfind_mput_self {α : Type} (m : SMap α) (a : Nat) (v : α) : mfind (mput m a v) a = some v := by
  induction m with
  | nil => simp [mput, mfind]
  | cons x m ih =>
    obtain ⟨k, w⟩ := x
    unfold mput
    split
    case isTrue e => simp [mfind, e]
    case isFalse ne =>
      split
      · simp [mfind]
      · simp [mfind, ne, ih]

/-! ### One evaluation (R78) -/

/-- What an evaluation may change of its tile. -/
def Projected (x y : Tile) : Prop := ∃ d l c, y = { x with declared := d, leaped := l, second := c }

theorem Projected.refl (x : Tile) : Projected x x := ⟨x.declared, x.leaped, x.second, rfl⟩

theorem Projected.trans {x y z : Tile} (h : Projected x y) (k : Projected y z) : Projected x z := by
  obtain ⟨_, _, _, rfl⟩ := h
  obtain ⟨d, l, c, rfl⟩ := k
  exact ⟨d, l, c, rfl⟩

theorem tile_ne_default {x : Tile} (h : x.st ≠ 0) : x ≠ {} := fun e => h (congrArg Tile.st e)

/-- An evaluation does nothing, declares the overrun, or finds that a leaped frame does not suffice. -/
theorem evaluate_cases (t : Nat) (s : State) : evaluate t s = s ∨ ∃ r, s.frames.run = some r ∧ (tileOf s t).st = 1 ∧
    (evaluate t s = declareOverrun t s ∨
      evaluate t s = raiseTile 0x1011 t (tileOf s t).ordinal (modTile t (fun x => { x with second := true }) s)) := by
  unfold evaluate
  cases running : s.frames.run with
  | none => exact .inl rfl
  | some r =>
    simp only
    by_cases going : (tileOf s t).st = 1 ∧ (tileOf s t).stuck = false ∧ r.halting.isNone = true
    · rw [if_pos going]
      by_cases whole : r.leaped = false
      · rw [if_pos whole]
        obtain e | e := ite_eq_or_eq (now s ≤ (tileOf s t).opened + 2 ^ r.cal.hdr.k - r.cal.hdr.lead ∧
          ((tileOf s t).opened + 2 ^ r.cal.hdr.k) * (projection s t 0).2 < (projection s t 0).1) (declareOverrun t s) s
        · exact .inr ⟨r, rfl, going.1, .inl e⟩
        · exact .inl e
      · rw [if_neg whole]
        obtain e | e := ite_eq_or_eq (((tileOf s t).opened + 2 * 2 ^ r.cal.hdr.k) * (projection s t 0).2 < (projection s t 0).1 ∧
          (tileOf s t).second = false)
          (raiseTile 0x1011 t (tileOf s t).ordinal (modTile t (fun x => { x with second := true }) s)) s
        · exact .inr ⟨r, rfl, going.1, .inr e⟩
        · exact .inl e
    · exact .inl (if_neg going)

theorem leapLogged_tiles (origin tile ordinal : Nat) (many : Bool) (s : State) :
    (leapLogged origin tile ordinal many s).tiles = s.tiles := by
  have first := (raiseFault_acts (a0 := 0x1001) (a1 := if tile < 512 then some tile else none) (a2 := origin) (Sub.refl _)
    (.refl s)).part .tiles
  unfold leapLogged onlyIf
  split
  · exact ((raise_acts (Sub.refl _) (.refl _)).part .tiles).trans first
  · exact first

/-- A leap marks tiles as leaped and changes no more of them. -/
theorem takeLeap_projected {s : State} {r : Run} (origin tile : Nat) (running : s.frames.run = some r) {i : Nat}
    (st : (tileOf s i).st ≠ 0) : Projected (tileOf s i) (tileOf (takeLeap origin tile s) i) := by
  have marked : Projected (tileOf s i) (tileOf (leapTaken r s) i) := by
    set f : Tile → Tile := fun x => if (x.st = 1 ∨ x.st = 2) ∧ x.stuck = false then { x with leaped := true } else x with hf
    have each (x : Tile) : Projected x (f x) := by
      rw [hf]
      dsimp only
      split
      · exact ⟨x.declared, true, x.second, rfl⟩
      · exact .refl x
    have kept : f (tileOf s i) ≠ {} := by
      obtain ⟨d, l, c, e⟩ := each (tileOf s i)
      exact tile_ne_default (by rw [e]; exact st)
    have e : tileOf (leapTaken r s) i = f (tileOf s i) := mget_mmapv (tile_ne_default st) kept
    rw [e]
    exact each _
  have logged : (leapLogged origin tile r.ordinal (leapsMany r) (leapTaken r s)).tiles = (leapTaken r s).tiles :=
    leapLogged_tiles _ _ _ _ _
  obtain e | e := takeLeap_eq origin tile running <;> rw [e]
  · rwa [tileOf_of_tiles logged]
  · rwa [tileOf_of_tiles ((failStart_acts (Sub.refl _) (.refl _)).part .tiles), tileOf_of_tiles logged]

/-- The tile has declared its overrun, and its notice goes out. -/
def overrunSent (t : Nat) (r : Run) (s : State) : State :=
  sendOwn (ownNotice s 1 r.ordinal 0 0 t r.cal.hdr.calId) (modTile t (fun x => { x with declared := true }) s)

section

variable {s : State} {t : Nat} {r : Run} (running : s.frames.run = some r)

include running

theorem declareOverrun_eq : declareOverrun t s = takeLeap (ownKey s) t (overrunSent t r s) := by
  rw [declareOverrun, running]
  rfl

theorem overrunSent_run : (overrunSent t r s).frames.run = some r := by
  obtain ⟨seen, frames⟩ := sendOwn_frames (ownNotice s 1 r.ordinal 0 0 t r.cal.hdr.calId)
    (modTile t (fun x => { x with declared := true }) s)
  rw [overrunSent, frames]
  exact running

theorem declareOverrun_projected (st : (tileOf s t).st ≠ 0) : Projected (tileOf s t) (tileOf (declareOverrun t s) t) := by
  have declared := tileOf_modTile_self t (fun x => { x with declared := true }) s
    (tile_ne_default (x := { tileOf s t with declared := true }) st)
  have sent : tileOf (overrunSent t r s) t = { tileOf s t with declared := true } :=
    (tileOf_of_tiles ((sendOwn_acts (Sub.refl _) (.refl _)).part .tiles) t).trans declared
  have own : Projected (tileOf s t) (tileOf (overrunSent t r s) t) :=
    sent ▸ ⟨true, (tileOf s t).leaped, (tileOf s t).second, rfl⟩
  rw [declareOverrun_eq running]
  exact own.trans (takeLeap_projected _ _ (overrunSent_run running) (by rw [sent]; exact st))

end

/-- An evaluation leaves everything of its tile but what the projection has found. -/
theorem evaluate_projected {s : State} {t : Nat} (st : (tileOf s t).st ≠ 0) :
    Projected (tileOf s t) (tileOf (evaluate t s) t) := by
  obtain e | ⟨r, running, _, e | e⟩ := evaluate_cases t s <;> rw [e]
  · exact .refl _
  · exact declareOverrun_projected running st
  · have found := tileOf_modTile_self t (fun x => { x with second := true }) s
      (tile_ne_default (x := { tileOf s t with second := true }) st)
    rw [tileOf_of_tiles ((raiseTile_acts (Sub.refl _) (.refl _)).part .tiles), found]
    exact ⟨(tileOf s t).declared, (tileOf s t).leaped, true, rfl⟩

/-! ### What an evaluation counts -/

/-- The faults of a projection and of a leap. -/
def projectionCodes : List Nat := [0x1001, 0x1002, 0x1011, 0x102B]

theorem takeLeap_counts {s : State} {r : Run} (origin tile : Nat) (running : s.frames.run = some r) :
    CountsOnly projectionCodes [] s (takeLeap origin tile s) := by
  have logged : CountsOnly projectionCodes [] s (leapLogged origin tile r.ordinal (leapsMany r) (leapTaken r s)) :=
    .onlyIf (raiseWith_counts (.inr (by decide)) (.upd (.refl s) rfl rfl rfl)) (raise_counts (.inr (by decide)))
  obtain e | e := takeLeap_eq origin tile running <;> rw [e]
  · exact logged
  · exact failStart_counts (by decide) logged

theorem declareOverrun_counts {s : State} {t : Nat} {r : Run} (running : s.frames.run = some r) :
    CountsOnly projectionCodes [] s (declareOverrun t s) := by
  have sent : CountsOnly projectionCodes [] s (overrunSent t r s) :=
    sendOwn_counts (x := modTile t (fun x => { x with declared := true }) s) (.upd (.refl s) rfl rfl rfl)
  rw [declareOverrun_eq running]
  exact sent.trans (takeLeap_counts _ _ (overrunSent_run running))

theorem evaluate_counts (t : Nat) (s : State) : CountsOnly projectionCodes [] s (evaluate t s) := by
  obtain e | ⟨r, running, _, e | e⟩ := evaluate_cases t s <;> rw [e]
  · exact .refl s
  · exact declareOverrun_counts running
  · exact raiseWith_counts (code := 0x1011) (x := modTile t (fun x => { x with second := true }) s) (.inr (by decide))
      (.upd (.refl s) rfl rfl rfl)

end Sys2Proof.Laws

/-!
PROOF. Passes (R63, R64, R69, R128, R140, R141, R151, R237): the issue of a pass, and its commit.
-/

namespace Sys2Proof.Laws

set_option Elab.async false

open Machine

/-! ### What a pass computes (R128) -/

theorem bufByte_of_keep {s x : State} (keep : x.tkeep = s.tkeep) (store : x.store = s.store) (t : Nat) :
    bufByte x t = bufByte s t := by
  funext a
  rw [bufByte, bufByte, keepOf_of_tkeep keep, store]

/-- A pass computes from the tile's buffer and its generator. -/
theorem runPass_of_keep {s x : State} {t : Nat} (keep : x.tkeep = s.tkeep) (store : x.store = s.store)
    (gen : genOf x t = genOf s t) (d : PassD) : runPass x t d = runPass s t d := by
  have bytes := bufByte_of_keep keep store t
  have columns : passColumns x t d = passColumns s t d := by simp only [passColumns, packedAt, bufBytes, bytes]
  have vectors : passVectors x t d = passVectors s t d := by simp only [passVectors, packedAt, bufBytes, bytes]
  have scales : passScales x t = passScales s t := by
    funext a k g
    simp only [passScales, bytes]
  have init : passInit x t d = passInit s t d := by simp only [passInit, bufBytes, bytes]
  rw [runPass, runPass, columns, vectors, scales, init, gen]

/-! ### The issue of a pass (R63, R64, R140) -/

theorem st_of_issuable {s : State} {t kind : Nat} {e : Entry} (h : issuable s t kind = some e) : (tileOf s t).st = 1 := by
  rw [issuable] at h
  split at h
  · exact absurd h (Option.some_ne_none e).symm
  · split at h
    case isTrue ok => exact ok.1
    case isFalse => exact absurd h (Option.some_ne_none e).symm

/-- The entry has taken its slot. -/
theorem tileOf_issue {s : State} {t : Nat} (e : Entry) (st : (tileOf s t).st ≠ 0) : tileOf (issue t e s) t =
    { tileOf s t with
      board := (tileOf s t).board ++
        [{ pos := (tileOf s t).pos, kind := e.kind, cost := e.cost, at_ := cycleUnits s t, notBefore := e.notBefore }]
      pos := (tileOf s t).pos + 1 } :=
  tileOf_modTile_self t _ s (tile_ne_default (x := { tileOf s t with board := _, pos := _ }) st)

/-- The pass in flight that a descriptor starts, whatever it has read. -/
structure Begun (d : PassD) (pos : Nat) (replay : Bool) (r : PassRun) : Prop where
  pos : r.pos = pos
  macs : r.macs = d.rows * d.cols * d.n
  replay : r.replay = replay
  stopped : r.stopped = false

theorem tileOf_freshened (c : Bool) (s : State) (t : Nat) : tileOf (onlyIf c freshen s) t = tileOf s t := by cases c <;> rfl

theorem tileOf_setFlags {s : State} {t : Nat} (fl : Nat) (st : (tileOf s t).st ≠ 0) :
    tileOf (setFlags t fl s) t = { tileOf s t with flags := (tileOf s t).flags ||| BitVec.ofNat 8 fl } :=
  tileOf_modTile_self t _ s (tile_ne_default (x := { tileOf s t with flags := _ }) st)

/-- A pass begins: it is in flight on its array, and what it has computed is staged. -/
theorem tileOf_beginPass {s : State} {t : Nat} (pos desc : Nat) (replay bad : Bool) (st : (tileOf s t).st ≠ 0) :
    ∃ r g n fl, tileOf (beginPass t pos desc replay bad s) t = { tileOf s t with
        runs := mput (tileOf s t).runs (passOf (readStore s desc 64)).array r, gen := g, draws := n, flags := fl } ∧
      Begun (passOf (readStore s desc 64)) pos replay r ∧
      (bad = false → r.out = (runPass s t (passOf (readStore s desc 64))).cells) := by
  unfold beginPass
  extract_lets d o o'
  split
  extract_lets r
  have taken := tileOf_modTile_self t (fun x => { x with runs := mput x.runs d.array r, gen := o'.gen.1, draws := o'.gen.2 }) s
    (tile_ne_default (x := { tileOf s t with runs := mput (tileOf s t).runs d.array r, gen := o'.gen.1, draws := o'.gen.2 }) st)
  refine ⟨r, o'.gen.1, o'.gen.2, (tileOf s t).flags ||| BitVec.ofNat 8 o'.flags, ?_, ⟨rfl, rfl, rfl, rfl⟩, fun good => ?_⟩
  · rw [tileOf_freshened, tileOf_setFlags _ (by rw [taken]; exact st), taken]
  · exact congrArg PassOut.cells (if_neg (by simp [good]) : o' = o)

section

variable {s : State} {t : TileNo} {e : Entry}

/-- The pass has issued and begun; its reads and the projection are still to come. -/
def passBegun (t : Nat) (e : Entry) (bad : Bool) (s : State) : State :=
  beginPass t (tileOf s t).pos (runImg s + descAt s (runImg s) e.desc) false bad (issue t e s)

/-- The array of the next entry takes it: the conditions that come before those of R141 and R140. -/
structure PassTaken (s : State) (t : Nat) (e : Entry) (d : PassD) : Prop where
  entry : issuable s t 0 = some e
  desc : d = passOf (descBytes s e 64)
  powered : s.pow.shutdown = 0
  clock : clockPending s t = false
  takes : arrayTakes s t d.array = true
  free : mfind (tileOf s t).runs d.array = none
  first : (tileOf s t).refusedAt ≠ some ((tileOf s t).ordinal, (tileOf s t).pos)

/-- An output line of the pass is pending under another (R141). -/
def linesPending (s : State) (t : Nat) (d : PassD) : Bool :=
  (List.range' (passLines d).1 ((passLines d).2 + 1 - (passLines d).1)).any (linePending s t)

/-- An operand line of the pass is pending (R140). -/
def inputsPending (s : State) (t : Nat) (d : PassD) : Bool := (passInputs d).any (fun x => pendingIn s t x.1 x.2)

theorem execPass_issues {d : PassD} (h : PassTaken s t.val e d) (lines : linesPending s t.val d = false)
    (inputs : inputsPending s t.val d = false) (w : WordRead) : execPass t w s =
    .next (evaluate t.val (bufWord t.val w (passBegun t.val e (decide (w = .uncorrectable)) s))) := by
  obtain ⟨entry, rfl, powered, clock, takes, free, first⟩ := h
  rw [linesPending] at lines
  rw [inputsPending] at inputs
  rw [execPass, entry]
  simp only [descBytes] at takes free lines inputs
  simp [powered, clock, takes, free, first, lines, inputs, passBegun]

theorem execPass_overlaps {d : PassD} (h : PassTaken s t.val e d) (lines : linesPending s t.val d = true) (w : WordRead) :
    execPass t w s = .next (raiseWith 0x1116 (some t.val) (3 * t.val + d.array) [(tileOf s t.val).pos]
      (modTile t.val (fun x => { x with refusedAt := some (x.ordinal, x.pos) }) s)) := by
  obtain ⟨entry, rfl, powered, clock, takes, free, first⟩ := h
  rw [linesPending] at lines
  rw [execPass, entry]
  simp only [descBytes] at takes free lines
  simp [powered, clock, takes, free, first, lines, descBytes]

theorem execPass_refused (again : (tileOf s t.val).refusedAt = some ((tileOf s t.val).ordinal, (tileOf s t.val).pos))
    (w : WordRead) : execPass t w s = .next s := by
  rw [execPass]
  split
  · rfl
  · simp [again]

theorem passBegun_acts (t : Nat) (e : Entry) (bad : Bool) (s : State) : Acts 68719607808 s (passBegun t e bad s) :=
  beginPass_acts ((Sub.refl _).mono (by decide)) (issue_acts ((Sub.refl _).mono (by decide)) (.refl s))

/-- The tile once its pass has begun. -/
theorem tileOf_passBegun {d : PassD} (h : PassTaken s t.val e d) (bad : Bool) : ∃ r g n fl slot,
    tileOf (passBegun t.val e bad s) t.val = { tileOf s t.val with
      board := (tileOf s t.val).board ++ [slot], pos := (tileOf s t.val).pos + 1
      runs := mput (tileOf s t.val).runs d.array r, gen := g, draws := n, flags := fl } ∧
    slot.pos = (tileOf s t.val).pos ∧ Begun d (tileOf s t.val).pos false r ∧
    (bad = false → r.out = (runPass s t.val d).cells) := by
  have st : (tileOf s t.val).st ≠ 0 := by simp [st_of_issuable h.entry]
  have issued := tileOf_issue e st
  obtain ⟨r, g, n, fl, tile, begun, cells⟩ := tileOf_beginPass (s := issue t.val e s) (tileOf s t.val).pos
    (runImg s + descAt s (runImg s) e.desc) false bad (by rw [issued]; exact st)
  have named : passOf (readStore (issue t.val e s) (runImg s + descAt s (runImg s) e.desc) 64) = d := h.desc.symm
  rw [named] at tile begun cells
  rw [issued] at tile
  have gen : genOf (issue t.val e s) t.val = genOf s t.val := by rw [genOf, genOf, issued]
  have same := runPass_of_keep (s := s) (x := issue t.val e s) rfl rfl gen d
  exact ⟨r, g, n, fl, _, tile, rfl, begun, fun good => (cells good).trans (congrArg PassOut.cells same)⟩

/-- The tile once its pass has issued, whatever its reads have found. -/
theorem tileOf_passIssued {d : PassD} (h : PassTaken s t.val e d) (bad : Bool) (w : WordRead) :
    Projected (tileOf (passBegun t.val e bad s) t.val)
      (tileOf (evaluate t.val (bufWord t.val w (passBegun t.val e bad s))) t.val) := by
  have read := tileOf_of_tiles ((bufWord_acts (a0 := t.val) (a1 := w) (Sub.refl _)
    (.refl (passBegun t.val e bad s))).part .tiles) t.val
  obtain ⟨r, g, n, fl, slot, tile, -⟩ := tileOf_passBegun h bad
  have st : (tileOf (passBegun t.val e bad s) t.val).st ≠ 0 := by
    rw [tile]
    simp [st_of_issuable h.entry]
  rw [← read] at st ⊢
  exact evaluate_projected st

theorem pos_passIssued {d : PassD} (h : PassTaken s t.val e d) (bad : Bool) (w : WordRead) :
    (tileOf (evaluate t.val (bufWord t.val w (passBegun t.val e bad s))) t.val).pos = (tileOf s t.val).pos + 1 := by
  obtain ⟨_, _, _, issued⟩ := tileOf_passIssued h bad w
  obtain ⟨r, g, n, fl, slot, tile, -⟩ := tileOf_passBegun h bad
  rw [issued, tile]

/-- A corrected word that the pass has read is counted besides (R237). -/
theorem corrected_passIssued (t : Nat) (k : Fin 5) (hk : k.val ≠ 0) (x : State) :
    corrOf (evaluate t (bufWord t (.corrected k) x)) 0x2008 = corrOf x 0x2008 + 1 ∧
    cntOf (evaluate t (bufWord t (.corrected k) x)) 0x500204 = cntOf x 0x500204 + 1 := by
  have counted := correctedWith_counts (code := 0x2008) (some t) t [] (bump 0x500204 1 x)
  have read : bufWord t (.corrected k) x = correctedWith 0x2008 (some t) t [] (bump 0x500204 1 x) := if_neg hk
  have rest := evaluate_counts t (bufWord t (.corrected k) x)
  rw [corrOf, rest.corr, rest.cnt _ (by decide) (by simp), read]
  exact ⟨counted.self, (counted.cnt _ (by decide)).trans (cntOf_bump_self x Nat.one_ne_zero)⟩

theorem passIssued_corrected (k : Fin 5) (hk : k.val ≠ 0) :
    corrOf (evaluate t.val (bufWord t.val (.corrected k) (passBegun t.val e false s))) 0x2008 = corrOf s 0x2008 + 1 ∧
    cntOf (evaluate t.val (bufWord t.val (.corrected k) (passBegun t.val e false s))) 0x500204 = cntOf s 0x500204 + 1 := by
  have before : CountsOnly [] [] s (passBegun t.val e false s) := .acts (passBegun_acts t.val e false s) (.refl s)
  obtain ⟨corr, cnt⟩ := corrected_passIssued t.val k hk (passBegun t.val e false s)
  rw [corr, cnt, corrOf, corrOf, before.corr, before.cnt _ (by decide) (by simp)]
  exact ⟨rfl, rfl⟩

theorem passIssued_uncorrectable :
    Raised 0x2012 s (evaluate t.val (bufWord t.val .uncorrectable (passBegun t.val e true s))) := by
  have before : CountsOnly [] [] s (passBegun t.val e true s) := .acts (passBegun_acts t.val e true s) (.refl s)
  exact Raised.later (before.then_raised (raiseWith_raised (code := 0x2012) (some t.val) t.val [] _)) (evaluate_counts t.val _)

theorem onBoard_mem {x : Tile} {slot : Slot} {pos : Nat} (mem : slot ∈ x.board) (at_ : slot.pos = pos) : onBoard x pos = true :=
  List.any_eq_true.mpr ⟨slot, mem, by simp [at_]⟩

/-- What a clean pass is once it has issued. -/
theorem passIssued_spec {d : PassD} (h : PassTaken s t.val e d) :
    let u := evaluate t.val (bufWord t.val .clean (passBegun t.val e false s))
    u.tkeep = s.tkeep ∧ (tileOf u t.val).pos = (tileOf s t.val).pos + 1 ∧
      onBoard (tileOf u t.val) (tileOf s t.val).pos = true ∧
      ∃ r, mfind (tileOf u t.val).runs d.array = some r ∧ r.pos = (tileOf s t.val).pos ∧
        r.out = (runPass s t.val d).cells ∧ r.macs = d.rows * d.cols * d.n ∧ r.replay = false ∧ r.stopped = false := by
  intro u
  obtain ⟨_, _, _, issued⟩ := tileOf_passIssued h false .clean
  obtain ⟨r, g, n, fl, slot, tile, at_, begun, cells⟩ := tileOf_passBegun h false
  have keep : u.tkeep = s.tkeep := ((evaluate_acts (Sub.refl _) (.refl _)).part .buffers).trans
    ((passBegun_acts t.val e false s).part .buffers)
  refine ⟨keep, pos_passIssued h false .clean, ?_, r, ?_, begun.pos, cells rfl, begun.macs, begun.replay, begun.stopped⟩
  · rw [issued, tile]
    exact onBoard_mem (List.mem_append_right _ (List.mem_singleton_self slot)) at_
  · rw [issued, tile]
    exact mfind_mput_self _ _ _

/-- A pass whose output lies over one in flight (R141). -/
theorem passOverlaps_spec (d : PassD) (st : (tileOf s t.val).st ≠ 0) :
    let u := raiseWith 0x1116 (some t.val) (3 * t.val + d.array) [(tileOf s t.val).pos]
      (modTile t.val (fun x => { x with refusedAt := some (x.ordinal, x.pos) }) s)
    u.tkeep = s.tkeep ∧ (tileOf u t.val).pos = (tileOf s t.val).pos ∧
      (tileOf u t.val).runs = (tileOf s t.val).runs ∧ (tileOf u t.val).board = (tileOf s t.val).board ∧
      (tileOf u t.val).refusedAt = some ((tileOf s t.val).ordinal, (tileOf s t.val).pos) ∧ Raised 0x1116 s u := by
  intro u
  have raised := raiseWith_acts (a0 := 0x1116) (a1 := some t.val) (a2 := 3 * t.val + d.array) (a3 := [(tileOf s t.val).pos])
    (Sub.refl _) (.refl (modTile t.val (fun x => { x with refusedAt := some (x.ordinal, x.pos) }) s))
  have tile : tileOf u t.val = { tileOf s t.val with refusedAt := some ((tileOf s t.val).ordinal, (tileOf s t.val).pos) } :=
    (tileOf_of_tiles (raised.part .tiles) t.val).trans
      (tileOf_modTile_self t.val _ s (tile_ne_default (x := { tileOf s t.val with refusedAt := some _ }) st))
  refine ⟨raised.part .buffers, ?_, ?_, ?_, ?_, ?_⟩
  · rw [tile]
  · rw [tile]
  · rw [tile]
  · rw [tile]
  · exact Raised.of_health (x := modTile t.val (fun x => { x with refusedAt := some (x.ordinal, x.pos) }) s) rfl
      (raiseWith_raised _ _ _ _)

end

/-! ### The commit (R69, R140, R151) -/

section

variable {s : State} {t a : Nat} {r : PassRun}

theorem settleFrame_keeps (x : Tile) : ∃ st, settleFrame x = { x with st := st } ∧ (x.st ≠ 0 → st ≠ 0) := by
  unfold settleFrame
  split
  · exact ⟨2, rfl, fun _ => by decide⟩
  · exact ⟨x.st, rfl, id⟩

/-- The entry's slot is free again. -/
theorem board_complete (pos : Nat) (st : (tileOf s t).st ≠ 0) :
    (tileOf (complete t pos s) t).board = (tileOf s t).board.filter (fun b => decide (b.pos ≠ pos)) := by
  obtain ⟨st', settled, alive⟩ := settleFrame_keeps { tileOf s t with
    board := (tileOf s t).board.filter (fun b => decide (b.pos ≠ pos)) }
  have freed := tileOf_modTile_self t (fun x => settleFrame { x with board := x.board.filter (fun b => decide (b.pos ≠ pos)) }) s
    (tile_ne_default (by rw [settled]; exact alive st))
  obtain ⟨_, _, _, e⟩ := evaluate_projected (t := t) (s := modTile t _ s) (by rw [freed, settled]; exact alive st)
  rw [complete, e, freed, settled]

theorem complete_counts (t pos : Nat) (x : State) : CountsOnly projectionCodes [] x (complete t pos x) := by
  have freed : CountsOnly projectionCodes [] x (modTile t (fun y => settleFrame { y with
    board := y.board.filter (fun b => decide (b.pos ≠ pos)) }) x) := .upd (.refl x) rfl rfl rfl
  exact freed.trans (evaluate_counts t _)

/-- The pass has left its array, and the array and the tile have counted it. -/
def passCounted (t a : Nat) (r : PassRun) (s : State) : State :=
  modTile t (fun x => { x with busy := mmod 0 x.busy a (fun c => c + r.cycles + 16) })
    (bump (if r.is_ then 0x601105 else 0x601104) r.macs
      (modArr (3 * t + a) arrayCommits (dropPass t a (bufWriteCells t r.out s))))

theorem execPassCommit_eq {t : TileNo} {a : Fin 3} (flight : mfind (tileOf s t.val).runs a.val = some r)
    (going : r.stopped = false) : execPassCommit t a s = .next (complete t.val r.pos
      (onlyIf r.replay (raiseTile 0x1006 t.val (3 * t.val + a.val)) (passCounted t.val a.val r s))) := by
  rw [execPassCommit, flight]
  simp only [going, Bool.false_eq_true, if_false]
  rfl

/-- A change of a running tile that leaves its state and its slots alone. -/
theorem tileOf_modTile_slots {g : Tile → Tile} (same : ∀ x, (g x).st = x.st ∧ (g x).board = x.board) (st : (tileOf s t).st ≠ 0) :
    (tileOf (modTile t g s) t).st = (tileOf s t).st ∧ (tileOf (modTile t g s) t).board = (tileOf s t).board := by
  obtain ⟨hst, hboard⟩ := same (tileOf s t)
  rw [tileOf_modTile_self t g s (tile_ne_default (by rwa [hst]))]
  exact ⟨hst, hboard⟩

theorem slots_passCounted (st : (tileOf s t).st ≠ 0) : (tileOf (passCounted t a r s) t).st = (tileOf s t).st ∧
    (tileOf (passCounted t a r s) t).board = (tileOf s t).board := by
  obtain ⟨dst, dboard⟩ := tileOf_modTile_slots (s := bufWriteCells t r.out s) (t := t)
    (g := fun x => { x with runs := mdel x.runs a }) (fun _ => ⟨rfl, rfl⟩) st
  obtain ⟨bst, bboard⟩ := tileOf_modTile_slots (t := t)
    (s := bump (if r.is_ then 0x601105 else 0x601104) r.macs (modArr (3 * t + a) arrayCommits (dropPass t a (bufWriteCells t r.out s))))
    (g := fun x => { x with busy := mmod 0 x.busy a (fun c => c + r.cycles + 16) }) (fun _ => ⟨rfl, rfl⟩)
    (fun none_ => st (dst.symm.trans none_))
  exact ⟨bst.trans dst, bboard.trans dboard⟩

theorem arrOf_passCounted : arrOf (passCounted t a r s) (3 * t + a) = arrayCommits (arrOf s (3 * t + a)) := by
  refine arrOf_modArr_self (3 * t + a) arrayCommits (dropPass t a (bufWriteCells t r.out s)) fun e => ?_
  have counted : (arrayCommits (arrOf s (3 * t + a))).p = (arrOf s (3 * t + a)).p + 1 := by
    unfold arrayCommits
    dsimp only
    split <;> rfl
  exact Nat.succ_ne_zero _ (counted.symm.trans (congrArg Arr.p e))

/-- What follows the count of a commit counts no more than the success of a replay and the projection. -/
theorem corrOf_replayed (again : Bool) (code : Nat) (x : State) :
    corrOf (onlyIf again (raiseTile 0x1006 t code) x) 0x1006 = corrOf x 0x1006 + (if again then 1 else 0) ∧
    ∀ k, k ∉ sideKeys → cntOf (onlyIf again (raiseTile 0x1006 t code) x) k = cntOf x k := by
  cases again with
  | false => exact ⟨rfl, fun _ _ => rfl⟩
  | true =>
    have counted := correctedWith_counts (code := 0x1006) (some t) code [] x
    exact ⟨counted.self, counted.cnt⟩

/-- The commit writes the staging in one step, frees the slot and counts. -/
theorem passCommit_spec (st : (tileOf s t).st ≠ 0) (work : r.macs ≠ 0) :
    let u := complete t r.pos (onlyIf r.replay (raiseTile 0x1006 t (3 * t + a)) (passCounted t a r s))
    u.tkeep = mmod {} s.tkeep t (fun k => { k with buf := r.out.foldl (fun m x => mput m x.1 x.2) k.buf }) ∧
      (tileOf u t).board = (tileOf s t).board.filter (fun b => decide (b.pos ≠ r.pos)) ∧
      arrOf u (3 * t + a) = arrayCommits (arrOf s (3 * t + a)) ∧
      cntOf u (if r.is_ then 0x601105 else 0x601104) = cntOf s (if r.is_ then 0x601105 else 0x601104) + r.macs ∧
      corrOf u 0x1006 = corrOf s 0x1006 + (if r.replay then 1 else 0) := by
  intro u
  set y := onlyIf r.replay (raiseTile 0x1006 t (3 * t + a)) (passCounted t a r s) with hy
  have replayed := onlyIf_acts (c := r.replay) (f := raiseTile 0x1006 t (3 * t + a)) (.refl (passCounted t a r s))
    (fun _ h => raiseTile_acts (Sub.refl _) h)
  have ended := complete_acts (a0 := t) (a1 := r.pos) (Sub.refl _) (.refl y)
  have tile := tileOf_of_tiles (replayed.part .tiles) t
  obtain ⟨cst, cboard⟩ := slots_passCounted (a := a) (r := r) st
  obtain ⟨corr, cnt⟩ := corrOf_replayed (t := t) r.replay (3 * t + a) (passCounted t a r s)
  have rest : CountsOnly projectionCodes [] y u := complete_counts t r.pos y
  have key : (if r.is_ then 0x601105 else 0x601104) ∉ sideKeys := by cases r.is_ <;> decide
  refine ⟨(ended.part .buffers).trans (replayed.part .buffers), ?_, ?_, ?_, ?_⟩
  · rw [board_complete r.pos (by rw [tile, cst]; exact st), tile, cboard]
  · have arrs : u.arrs = (passCounted t a r s).arrs := (ended.part .arrays).trans (replayed.part .arrays)
    rw [arrOf, arrs]
    exact arrOf_passCounted
  · rw [rest.cnt _ key (by simp), hy, cnt _ key]
    exact cntOf_bump_self _ work
  · rw [corrOf, rest.corr]
    exact corr

end

/-- Settles O30: a pass that is taken by what its lines and its reads are, and the commit. -/
theorem passesIssueAndCommit : Obligations.PassesIssueAndCommit := by
  refine fun s t => ⟨fun e d entry desc powered clock takes free first => ⟨fun lines inputs => ⟨?_, fun k hk => ?_, ?_⟩,
    fun lines w => ?_⟩, fun again w => ⟨s, execPass_refused again w, rfl⟩, fun a r flight going work st => ?_⟩
  · exact ⟨_, execPass_issues ⟨entry, desc, powered, clock, takes, free, first⟩ lines inputs .clean,
      passIssued_spec ⟨entry, desc, powered, clock, takes, free, first⟩⟩
  · obtain ⟨corr, cnt⟩ := passIssued_corrected (s := s) (t := t) (e := e) k hk
    exact ⟨_, execPass_issues ⟨entry, desc, powered, clock, takes, free, first⟩ lines inputs (.corrected k), corr, cnt,
      pos_passIssued ⟨entry, desc, powered, clock, takes, free, first⟩ false (.corrected k)⟩
  · exact ⟨_, execPass_issues ⟨entry, desc, powered, clock, takes, free, first⟩ lines inputs .uncorrectable,
      passIssued_uncorrectable, pos_passIssued ⟨entry, desc, powered, clock, takes, free, first⟩ true .uncorrectable⟩
  · exact ⟨_, execPass_overlaps ⟨entry, desc, powered, clock, takes, free, first⟩ lines w,
      passOverlaps_spec d (by simp [st_of_issuable entry])⟩
  · exact ⟨_, execPassCommit_eq flight going, passCommit_spec st work⟩

end Sys2Proof.Laws

/-!
PROOF. The notice of an overrun and the frame it names (R79, R80): a notice has 48 bits of `ORDINAL`, and the key by which it is known
again is made of them.
-/

namespace Sys2Proof.Laws

set_option Elab.async false

open Machine

/-- A Calendar in its frame of ordinal 2^48. -/
def wrappedRun : Run :=
  { cal := { addr := 0, start := 0, cid := 0, ring := 0, slot := 0, hdr := { fclk := 1 }, readAt := 0, armed := true, larder := {} }
    ordinal := 2 ^ 48, record := 0, openC := 0, leaped := false, remaining := [], leapOrds := [], leapAdvised := false
    haltAt := none, haltCode := 0, aborted := false, abortFrom := 0, halted := false, completed := none, halting := none
    executed := 0 }

/-- A tile whose one entry in flight will take longer than its frame. -/
def overrunTile : Tile := { st := 1, board := [{ pos := 0, kind := 0, cost := 2, at_ := 0, notBefore := 0 }] }

/-- The package just before that tile evaluates its projection. -/
def wrappedState : State :=
  { State.reset with tiles := [(0, overrunTile)], frames := { State.reset.frames with run := some wrappedRun } }

theorem wrapped_projection : projection wrappedState 0 0 = (40, 32) := by decide

/-- Before the deadline a projection past the closing Calend declares the overrun (R79). -/
theorem evaluate_overruns {s : State} {t : Nat} {r : Run} (running : s.frames.run = some r) (st : (tileOf s t).st = 1)
    (stuck : (tileOf s t).stuck = false) (before : r.halting = none) (whole : r.leaped = false)
    (time : now s ≤ (tileOf s t).opened + 2 ^ r.cal.hdr.k - r.cal.hdr.lead)
    (past : ((tileOf s t).opened + 2 ^ r.cal.hdr.k) * (projection s t 0).2 < (projection s t 0).1) :
    evaluate t s = declareOverrun t s := by
  rw [evaluate, running]
  simp only [st, stuck, before, whole, Option.isNone_none, and_self, if_true]
  exact if_pos ⟨time, past⟩

theorem wrapped_seen : (declareOverrun 0 wrappedState).frames.seen = [(1, 0, 0)] := by
  have none_held : (overrunSent 0 wrappedRun wrappedState).frames.held = none := by decide
  obtain ⟨held, seen, frames, same⟩ := takeLeap_frames (s := overrunSent 0 wrappedRun wrappedState) (ownKey wrappedState) 0
    (overrunSent_run rfl)
  rw [declareOverrun_eq (r := wrappedRun) rfl, frames]
  exact (same none_held).trans (by decide)

/-- Refutes O25: the ordinal of a frame is a natural number and the key of its notice its lowest 48 bits, so that the notice of the
frame of ordinal 2^48 is remembered under 0. -/
theorem not_marshalsWaitAndProject : ¬ Obligations.MarshalsWaitAndProject := by
  unfold Obligations.MarshalsWaitAndProject
  rintro ⟨-, h⟩
  obtain ⟨late, -⟩ := h wrappedState 0 wrappedRun rfl rfl rfl rfl (fun _ h => absurd h List.not_mem_nil)
  have time : now wrappedState ≤ (tileOf wrappedState 0).opened + 2 ^ wrappedRun.cal.hdr.k - wrappedRun.cal.hdr.lead := by decide
  have past : ((tileOf wrappedState 0).opened + 2 ^ wrappedRun.cal.hdr.k) * (projection wrappedState 0 0).2 <
      (projection wrappedState 0 0).1 := by rw [wrapped_projection]; decide
  obtain ⟨u, run, -, -, -, named, -⟩ := late rfl time past
  have idle : issueReplays 0 wrappedState = wrappedState := issueReplays_of_idle rfl
  have run' : exec (.projectionEval 0) wrappedState = .next (declareOverrun 0 wrappedState) :=
    congrArg Host.Outcome.next ((congrArg (evaluate 0) idle).trans (evaluate_overruns rfl rfl rfl rfl rfl time past))
  obtain rfl : declareOverrun 0 wrappedState = u := Host.Outcome.next.inj (run'.symm.trans run)
  rw [wrapped_seen] at named
  exact absurd named (by decide)

end Sys2Proof.Laws

/-!
PROOF. A pass that stops and its tile's kept counters (R156, R159), where the table of what a Tile reset keeps lists a tile twice.
-/

namespace Sys2Proof.Laws

set_option Elab.async false

open Machine

/-- A pass in flight that holds no line of the buffer. -/
def linelessRun : PassRun :=
  { pos := 0, desc := 0, out := [], line0 := 1, line1 := 0, vchecks := [], cchecks := [], tau := 0, macs := 0, is_ := false
    cycles := 0, replay := false, code := 0, stopped := false }

/-- The table of kept counters lists tile 0 twice, first as a tile that has kept nothing: a table that no command builds. -/
def twiceKept : State :=
  { State.reset with
    tiles := [(0, { runs := [(0, linelessRun)] })]
    tkeep := [(0, {}), (0, { mismatch := 5 })]
    frames := { State.reset.frames with haltedHeld := true } }

theorem twiceKept_mismatch : (keepOf twiceKept 0).mismatch = 0 := rfl

/-- To write nothing takes the first of the two entries off the table. -/
theorem twiceKept_discarded : (keepOf (discardStaging 0 0 linelessRun twiceKept) 0).mismatch = 5 := by decide

theorem twiceKept_parity : execArrayParityError 0 0 twiceKept = .next (dropPass 0 0
    (modTile 0 (fun x => { x with board := x.board.filter (fun b => decide (b.pos ≠ 0)) })
      (passFault 0x1117 0 0 0 false (discardStaging 0 0 linelessRun twiceKept)))) := rfl

/-- Refutes O32: in a state whose table of kept counters lists a tile twice, the stopped pass brings up the second `MISMATCH`. No
command builds such a table, and the statement does not ask for a canonical one. -/
theorem not_parityErrorsReplayThePassOnce : ¬ Obligations.ParityErrorsReplayThePassOnce := by
  intro h
  obtain ⟨u, run, -, same, -⟩ := h twiceKept 0 0 linelessRun rfl rfl
  obtain rfl := Host.Outcome.next.inj (twiceKept_parity.symm.trans run)
  have kept := (passFault_acts (a0 := 0x1117) (a1 := 0) (a2 := 0) (a3 := 0) (a4 := false) (Sub.refl _)
    (.refl (discardStaging 0 0 linelessRun twiceKept))).part .buffers
  have five := (congrArg TileKeep.mismatch (keepOf_of_tkeep kept 0)).trans twiceKept_discarded
  exact absurd (five.symm.trans (same.trans twiceKept_mismatch)) (by decide)

end Sys2Proof.Laws

/-!
PROOF. The codes that a check of an image can find (R88): every one lies below those of the bookkeeping that a logged fault may
bring (R435, R500, R501).
-/

namespace Sys2Proof.Laws

set_option Elab.async false

open Machine

/-! ### Checks that name low codes only -/

/-- The fault codes of the chapters that launch validation names. -/
abbrev LowCode (c : Nat) : Prop := c < 0x8000

/-- Every check of the list names such a code. -/
def LowChecks (l : List (Bool × Nat)) : Prop := ∀ x ∈ l, LowCode x.2

@[simp] theorem lowChecks_nil : LowChecks [] := fun _ h => absurd h List.not_mem_nil

@[simp] theorem lowChecks_cons (x : Bool × Nat) (l : List (Bool × Nat)) : LowChecks (x :: l) ↔ LowCode x.2 ∧ LowChecks l :=
  List.forall_mem_cons

@[simp] theorem lowChecks_append (l m : List (Bool × Nat)) : LowChecks (l ++ m) ↔ LowChecks l ∧ LowChecks m :=
  List.forall_mem_append

theorem lowChecks_ite (c : Prop) [Decidable c] (l m : List (Bool × Nat)) (hl : LowChecks l) (hm : LowChecks m) :
    LowChecks (if c then l else m) := by split <;> assumption

theorem lowChecks_flatMap {α : Type} (l : List α) (f : α → List (Bool × Nat)) (h : ∀ a, LowChecks (f a)) :
    LowChecks (l.flatMap f) := fun x hx => by
  obtain ⟨a, -, mem⟩ := List.mem_flatMap.mp hx
  exact h a x mem

theorem firstFault_low {l : List (Bool × Nat)} (h : LowChecks l) {c : Nat} (found : firstFault l = some c) : LowCode c := by
  induction l with
  | nil => exact absurd found (by simp [firstFault])
  | cons x l ih =>
    obtain ⟨here, rest⟩ := (lowChecks_cons x l).mp h
    rw [firstFault] at found
    split at found
    · exact Option.some.inj found ▸ here
    · exact ih rest found

/-- Every part of the list names such codes. -/
def LowParts (l : List Machine.Part) : Prop := ∀ p ∈ l, LowChecks p.checks

@[simp] theorem lowParts_nil : LowParts [] := fun _ h => absurd h List.not_mem_nil

@[simp] theorem lowParts_cons (p : Machine.Part) (l : List Machine.Part) : LowParts (p :: l) ↔ LowChecks p.checks ∧ LowParts l :=
  List.forall_mem_cons

@[simp] theorem lowParts_append (l m : List Machine.Part) : LowParts (l ++ m) ↔ LowParts l ∧ LowParts m := List.forall_mem_append

theorem firstPart_low {l : List Machine.Part} (h : LowParts l) {c : Nat} {port : Option (Nat × Nat)}
    (found : firstPart l = some (c, port)) : LowCode c := by
  induction l with
  | nil => exact absurd found (by simp [firstPart])
  | cons p l ih =>
    obtain ⟨here, rest⟩ := (lowParts_cons p l).mp h
    rw [firstPart] at found
    cases e : firstFault p.checks with
    | none => exact ih rest (by rwa [e] at found)
    | some c' =>
      rw [e] at found
      obtain ⟨rfl, -⟩ := Prod.mk.inj (Option.some.inj found)
      exact firstFault_low here e

/-! ### The chapters' checks -/

@[simp] theorem cvtChecks_low (cvt : Nat) : LowChecks (cvtChecks cvt) := by
  have low {c : Nat} (h : cvtFault cvt = some c) : LowCode c := by
    rw [cvtFault] at h
    split at h
    · exact Option.some.inj h ▸ by decide
    · split at h
      · exact Option.some.inj h ▸ by decide
      · exact absurd h (by simp)
  unfold cvtChecks
  split
  case _ c e => exact (lowChecks_cons _ _).mpr ⟨low e, lowChecks_nil⟩
  case _ => exact lowChecks_nil

@[simp] theorem modChecks_low (op mod : Nat) : LowChecks (modChecks op mod) := by
  unfold modChecks
  split
  · exact cvtChecks_low mod
  · split
    · simp [LowCode]
    · exact lowChecks_nil

theorem passChecks_low (s : State) (t cost : Nat) (b : List Byte) : LowChecks (passChecks s t cost b) := by
  simp [passChecks, LowCode]

@[simp] theorem streamChecks_low (s : State) (t cost : Nat) (port : Bool) (b : List Byte) :
    LowChecks (streamChecks s t cost port b) := by
  cases port <;> simp [streamChecks, LowCode]

@[simp] theorem portCvt_low (ports : List PortD) : LowChecks (portCvt ports) := by
  refine lowChecks_flatMap _ _ fun p => ?_
  split
  · simp [LowCode]
  · split
    · simp [LowCode]
    · exact cvtChecks_low p.cvt

@[simp] theorem portParts_low (s : State) (t cost : Nat) (ports : List PortD) : LowParts (portParts s t cost ports) := by
  intro p hp
  obtain ⟨x, -, rfl⟩ := List.mem_map.mp hp
  exact streamChecks_low _ _ _ _ _

theorem processionChecks_low (s : State) (t cost : Nat) (b : List Byte) : LowParts (processionChecks s t cost b) := by
  have stages (l : List (Nat × StageF)) (bad : Nat × StageF → Bool) :
      LowChecks (l.flatMap (fun x => [(bad x, 0x1121)] ++ modChecks x.2.op x.2.mod)) :=
    lowChecks_flatMap _ _ fun x => by simp [LowCode]
  simp only [processionChecks, lowParts_append, lowParts_cons, lowParts_nil, lowChecks_append, lowChecks_cons, lowChecks_nil,
    portParts_low, portCvt_low, and_true]
  exact ⟨⟨⟨by decide, stages _ _⟩, by decide, by decide⟩, by decide⟩

theorem masqueChecks_low (s : State) (t cost : Nat) (b : List Byte) : LowParts (masqueChecks s t cost b) := by
  have code (l : List Nat) (bad : Nat → Bool) (op mod : Nat → Nat) :
      LowChecks (l.flatMap (fun i => [(bad i, 0x1121)] ++ modChecks (op i) (mod i))) :=
    lowChecks_flatMap _ _ fun i => by simp [LowCode]
  simp only [masqueChecks, lowParts_append, lowParts_cons, lowParts_nil, lowChecks_append, lowChecks_cons, lowChecks_nil,
    portParts_low, portCvt_low, and_true]
  exact ⟨⟨⟨by decide, code _ _ _ _⟩, by decide, by decide⟩, by decide⟩

theorem lanternChecks_low (s : State) (cost records : Nat) (bad : Bool) (b : List Byte) :
    LowChecks (lanternChecks s cost records bad b) := by
  unfold lanternChecks
  simp only [lowChecks_append]
  refine ⟨⟨by simp [LowCode], ?_⟩, by simp [LowCode]⟩
  refine lowChecks_ite _ _ _ (by simp [LowCode]) ((lowChecks_append _ _).mpr ⟨?_, by simp [LowCode]⟩)
  exact lowChecks_ite _ _ _ (by simp [LowCode]) lowChecks_nil

theorem transferChecks_low (s : State) (cost : Nat) (bad : Bool) (b : List Byte) : LowChecks (transferChecks s cost bad b) := by
  simp [transferChecks, LowCode]

theorem fenceChecks_low (cost : Nat) (b : List Byte) : LowChecks (fenceChecks cost b) := by
  simp [fenceChecks, LowCode]

theorem descChecks_low (s : State) (img : Nat) (h : Hdr) (p : Place) : LowParts (descChecks s img h p) := by
  unfold descChecks
  simp only
  split
  · exact (lowParts_cons _ _).mpr ⟨passChecks_low _ _ _ _, lowParts_nil⟩
  · exact (lowParts_cons _ _).mpr ⟨streamChecks_low _ _ _ _ _, lowParts_nil⟩
  · exact processionChecks_low _ _ _ _
  · exact masqueChecks_low _ _ _ _
  · exact (lowParts_cons _ _).mpr ⟨lanternChecks_low _ _ _ _ _, lowParts_nil⟩
  · exact (lowParts_cons _ _).mpr ⟨transferChecks_low _ _ _ _, lowParts_nil⟩
  · exact (lowParts_cons _ _).mpr ⟨fenceChecks_low _ _, lowParts_nil⟩
  · exact lowParts_nil

/-! ### What a check of the image finds -/

/-- What is found, if anything, has a code of a chapter. -/
def LowFound (f : Found) : Prop := ∀ x, f = some x → LowCode x.code

theorem lowFound_chk {bad : Bool} {code off : Nat} (low : LowCode code) : LowFound (chk bad code off) := by
  intro x h
  cases bad with
  | false => exact absurd h (by simp [chk])
  | true => exact Option.some.inj h ▸ low

theorem lowFound_chkAll {α : Type} {code : Nat} {off : α → Nat} {tile : α → Option Nat} {bad : α → Bool} {l : List α}
    (low : LowCode code) : LowFound (chkAll code off tile bad l) := by
  intro x h
  obtain ⟨a, -, rfl⟩ := Option.map_eq_some_iff.mp h
  exact low

theorem lowFound_first {l : List (Unit → Found)} (h : ∀ f ∈ l, LowFound (f ())) : LowFound (firstFound l) := by
  induction l with
  | nil => exact fun x e => absurd e (by simp [firstFound])
  | cons f l ih =>
    obtain ⟨here, rest⟩ := List.forall_mem_cons.mp h
    rw [firstFound]
    split
    case _ y e => exact fun x found => Option.some.inj found ▸ here y e
    case _ => exact ih rest

theorem headerChecks_low (s : State) (img : Nat) : ∀ f ∈ headerChecks s img, LowFound (f ()) := by
  simp only [headerChecks, List.forall_mem_cons]
  simp [lowFound_chk, lowFound_chkAll, LowCode]

theorem imageFound_low (s : State) (img : Nat) (h : Hdr) : LowFound (imageFound s img h) := by
  refine lowFound_first (List.forall_mem_append.mpr ⟨headerChecks_low s img, ?_⟩)
  simp only [List.forall_mem_cons]
  simp [lowFound_chk, lowFound_chkAll, LowCode]

theorem descFound_low (s : State) (img : Nat) (h : Hdr) : LowFound (descFound s img h) := by
  intro x found
  obtain ⟨p, -, e⟩ := List.exists_of_findSome?_eq_some found
  obtain ⟨⟨c, port⟩, first, rfl⟩ := Option.map_eq_some_iff.mp e
  have low : LowCode c := firstPart_low (descChecks_low s img h p) first
  exact low

theorem phaseFound_low (s : State) (img : Nat) (h : Hdr) : LowFound (phaseFound s img h) := by
  intro x found
  obtain ⟨i, -, e⟩ := List.exists_of_findSome?_eq_some found
  obtain ⟨j, -, e⟩ := List.exists_of_findSome?_eq_some e
  have light : LowCode 0x4031 := by decide
  have form : LowCode 0x4030 := by decide
  split at e
  · obtain rfl := Option.some.inj e
    exact form
  · obtain ⟨f, -, rfl⟩ := Option.map_eq_some_iff.mp e
    exact light

theorem descriptorFound_low (s : State) (c : Cal) : LowFound (descriptorFound s c) := by
  refine lowFound_first ?_
  simp only [List.forall_mem_cons, descFound_low, phaseFound_low, true_and]
  exact fun _ h => absurd h List.not_mem_nil

end Sys2Proof.Laws

/-!
PROOF. Validation ends (R88, R89, R226, R440).
-/

namespace Sys2Proof.Laws

set_option Elab.async false

open Machine

theorem LowCode.notSide {c : Nat} (h : LowCode c) : c ∉ sideCodes := by
  simp only [sideCodes, List.mem_cons, List.not_mem_nil, or_false, not_or]
  omega

/-! ### A launch fails (R89) -/

section

variable {s : State} {x : Finding} (low : LowCode x.code)

theorem failLaunch_held (x : Finding) (s : State) : (failLaunch x s).frames.held = none := by
  obtain ⟨seen, e⟩ := failHeld_frames 2 x.code x.off 2 (logWith x.code x.tile x.ctx x.also s)
  rw [failLaunch, e]

theorem failLaunch_raised {x : Finding} {s : State} {code : Nat} (named : x.code = code) (bits : code < 65536 := by decide)
    (other : code ∉ sideCodes := by decide) : Raised code s (failLaunch x s) := by
  subst named
  exact Raised.later (codes := []) (keys := []) (logWith_raised x.tile x.ctx x.also s bits other) (failHeld_counts (.refl _)) other
    (by simp)

theorem failPlain_spec (code : Nat) (s : State) (bits : code < 65536 := by decide) (other : code ∉ sideCodes := by decide) :
    (failPlain code s).frames.held = none ∧ Raised code s (failPlain code s) :=
  ⟨failLaunch_held _ s, failLaunch_raised rfl bits other⟩

include low

theorem failLaunch_spec : (failLaunch x s).frames.held = none ∧ faultCount s x.code < faultCount (failLaunch x s) x.code := by
  have raised := failLaunch_raised (x := x) (s := s) rfl (lt_trans low (by decide)) low.notSide
  exact ⟨failLaunch_held x s, by rw [Raised] at raised; omega⟩

/-- A chapter's count is not undone by another fault. -/
theorem logWith_counted {code : Nat} (bits : code < 65536) (tile : Option Nat) (ctx : Nat) (also : List Nat) (s : State) :
    faultCount s x.code ≤ faultCount (logWith code tile ctx also s) x.code := by
  by_cases e : x.code = code
  · have raised := logWith_raised (code := x.code) tile ctx also s (e ▸ bits) low.notSide
    rw [Raised, e] at raised
    rw [e]
    omega
  · have same := (logWith_counts (codes := [code]) (keys := []) (tile := tile) (ctx := ctx) (also := also)
      (.inr (List.mem_singleton_self _)) (.refl s) bits).evt x.code low.notSide (by simpa using e)
    exact same.ge

/-- A descriptor's fault is logged beside 0x102A. -/
theorem failDesc_spec : (failDesc x s).frames.held = none ∧ faultCount s x.code < faultCount (failDesc x s) x.code ∧
    faultCount s 0x102A < faultCount (failDesc x s) 0x102A := by
  set y := logWith x.code x.tile x.ctx x.also s with hy
  set z := logWith 0x102A x.tile x.off [] y with hz
  have ended : failDesc x s = failHeld 2 0x102A x.off 2 z := rfl
  have still (c : Nat) (h : LowCode c) : faultCount (failDesc x s) c = faultCount z c :=
    ended ▸ (failHeld_counts (codes := []) (keys := []) (.refl z)).evt c h.notSide (by simp)
  have first : Raised x.code s y := logWith_raised _ _ _ _ (lt_trans low (by decide)) low.notSide
  have kept : faultCount y x.code ≤ faultCount z x.code := logWith_counted low (by decide) _ _ _ _
  have second : Raised 0x102A y z := logWith_raised _ _ _ _
  have before : faultCount s 0x102A ≤ faultCount y 0x102A := by
    have own : LowCode ({ x with code := 0x102A } : Finding).code := (by decide : LowCode 0x102A)
    exact logWith_counted own (lt_trans low (by decide)) x.tile x.ctx x.also s
  rw [Raised] at first second
  refine ⟨failLaunch_held _ _, ?_, ?_⟩
  · rw [still _ low]
    omega
  · rw [still _ (by decide)]
    omega

end

/-! ### The launch is armed (R226, R440) -/

/-- What holds of the launch once its plan and its pages have been checked. -/
def ArmChecked (c : Cal) (s t : State) : Prop :=
  match larderPlan s c.addr c.hdr with
  | none => t.frames.held = none ∧ Raised 0x1136 s t
  | some l => if (imagePageBad s c).isSome then t.frames.held = none ∧ Raised 0x8023 s t
      else t.frames.held = some { c with armed := true, larder := l } ∧ t.frames.larder = l

/-- The plan that is taken, with its advisory. -/
def planTaken (l : Larder) (s : State) : State :=
  onlyIf (decide (l.plan ≠ 0)) (raise 0x1139 l.firstOver) { s with frames := { s.frames with larder := l } }

theorem planTaken_frames (l : Larder) (s : State) : (planTaken l s).frames = { s.frames with larder := l } := by
  unfold planTaken onlyIf
  split
  · rw [raise_of_advisory]
    exact logWith_frames _ _ _ _ _
  · rfl

theorem planTaken_counts (l : Larder) (s : State) : CountsOnly [0x1139] [] s (planTaken l s) :=
  .onlyIf (.upd (.refl s) rfl rfl rfl) (raise_counts (.inr (by decide)))

theorem imagePageBad_planTaken (c : Cal) (l : Larder) (s : State) : imagePageBad (planTaken l s) c = imagePageBad s c := by
  have acts := onlyIf_acts (c := decide (l.plan ≠ 0)) (f := raise 0x1139 l.firstOver)
    (.refl { s with frames := { s.frames with larder := l } }) (fun _ h => raise_acts (Sub.refl _) h)
  have pages : pagesOf (planTaken l s).host = pagesOf s.host := acts.part .pages
  have store : storeRestOf (planTaken l s).store = storeRestOf s.store := acts.part .storeRest
  simp only [pagesOf, storeRestOf, Prod.mk.injEq] at pages store
  obtain ⟨flags, -⟩ := pages
  obtain ⟨-, -, -, -, -, segs, -⟩ := store
  have gone (p : Nat) : pageGone (planTaken l s) p = pageGone s p := by
    rw [pageGone, pageGone, capacity, capacity, segsRetired, segsRetired, segs]
  have same : pageFlag (planTaken l s) = pageFlag s := by
    funext p
    rw [pageFlag, pageFlag, gone, flags]
  rw [imagePageBad, imagePageBad, same]

theorem armLaunch_spec {s : State} {c : Cal} : ArmChecked c s (armLaunch c s) := by
  unfold ArmChecked armLaunch
  cases plan : larderPlan s c.addr c.hdr with
  | none =>
    set x : State := { s with frames := { s.frames with larder := larderSize s c.addr c.hdr } }
    simp only
    exact ⟨failLaunch_held _ _, Raised.of_health (x := x) rfl (failLaunch_raised rfl)⟩
  | some l =>
    set x : State := { s with frames := { s.frames with larder := larderSize s c.addr c.hdr } } with hx
    have pages : imagePageBad (planTaken l x) c = imagePageBad s c := imagePageBad_planTaken c l x
    have taken : onlyIf (decide (l.plan ≠ 0)) (raise 0x1139 l.firstOver) { x with frames := { x.frames with larder := l } } =
      planTaken l x := rfl
    simp only
    rw [taken, pages]
    cases imagePageBad s c with
    | some p =>
      have sized : CountsOnly [0x1139] [] s x := .upd (.refl s) rfl rfl rfl
      have counted := sized.trans (planTaken_counts l x)
      exact ⟨failLaunch_held _ _, counted.then_raised (failLaunch_raised rfl)⟩
    | none =>
      simp only [Option.isSome_none, Bool.false_eq_true, if_false]
      exact ⟨trivial, by rw [planTaken_frames]⟩

/-- The launch when its validation ends: failed by the first check that it does not pass, or armed. -/
def validated (c : Cal) (s : State) : State :=
  match imageFound s c.addr c.hdr with
  | some f => failLaunch f s
  | none =>
    match descriptorFound s c with
    | some f => failDesc f s
    | none => if startBad s c then failPlain 0x102B s else armLaunch c s

section

variable {s : State} {c : Cal} (held : s.frames.held = some c)

include held

theorem execValidationComplete_waits (down : s.boot.mcRuns = false) : execValidationComplete s = .next s := by
  rw [execValidationComplete, held]
  simp [down]

theorem execValidationComplete_eq (waiting : c.armed = false) (up : s.boot.mcRuns = true) :
    execValidationComplete s = .next (validated c s) := by
  rw [execValidationComplete, held]
  exact congrArg Host.Outcome.next (if_neg (by simp [waiting, up]))

end

/-- Settles O29: the checks in their order, each with the lemma on what fails the launch. -/
theorem validationArmsTheCalendarOrFailsIt : Obligations.ValidationArmsTheCalendarOrFailsIt := by
  intro s c held waiting
  refine ⟨fun down => ⟨s, execValidationComplete_waits held down, rfl⟩,
    fun up => ⟨_, execValidationComplete_eq held waiting up, ?_⟩, fun up live ⟨d, cmds, cid, ring, slot, room⟩ x found => ?_⟩
  · unfold validated
    cases image : imageFound s c.addr c.hdr with
    | some x => exact failLaunch_spec (imageFound_low _ _ _ x image)
    | none =>
      cases desc : descriptorFound s c with
      | some x => exact failDesc_spec (descriptorFound_low s c x desc)
      | none =>
        simp only
        by_cases start : startBad s c = true
        · simp only [start, if_true]
          exact failPlain_spec 0x102B s
        · simp only [start, Bool.false_eq_true, if_false]
          exact armLaunch_spec
  · have run := execValidationComplete_eq held waiting up
    rw [validated, found] at run
    have logged := logWith_acts (a0 := x.code) (a1 := x.tile) (a2 := x.ctx) (a3 := x.also) (Sub.refl _) (.refl s)
    have answerable : Answerable s c.cid d := ⟨live, by rw [cmds]; simp [cid], room⟩
    have still : (logWith x.code x.tile x.ctx x.also s).frames.held = some c := by rw [logWith_frames, held]
    rw [← ring, ← slot]
    exact ⟨_, run, Records.earlier (logWith_grows _ _ _ _ List.prefix_rfl) (failHeld_records still (answerable.of_acts logged))⟩

end Sys2Proof.Laws

/-!
PROOF. A Calend and an armed launch (R87, R336), where the table of pairs lists a pair twice.
-/

namespace Sys2Proof.Laws

set_option Elab.async false

open Machine

/-- A launch that waits for the next Calend. -/
def armedCal : Cal :=
  { addr := 0, start := 0, cid := 0, ring := 0, slot := 0, hdr := {}, readAt := 0, armed := true, larder := {} }

/-- The table of pairs lists pair 0 twice, first as one that native sending has: a table that no command builds. The withdrawal of
the far end takes effect at the next Calend. -/
def twicePaired : State :=
  { State.reset with
    boot := { State.reset.boot with ready := true }
    optics := { State.reset.optics with fibs := [(0, { farAt := some 0 })] }
    links := { State.reset.links with pairs := [(0, { withdrawn := false }), (0, { level := 2, n := 1 })] }
    frames := { State.reset.frames with held := some armedCal } }

theorem pairOf_twicePaired (f : Nat) : pairOf twicePaired f = { withdrawn := false } ∨ pairOf twicePaired f = {} := by
  cases f with
  | zero => exact .inl rfl
  | succ f => exact .inr rfl

/-- As the table reads, the Calend has nothing to find. -/
theorem twicePaired_clean : CalendClean twicePaired := by
  refine ⟨fun f => ?_, fun f => ?_, fun f n => ?_, fun x h => absurd h List.not_mem_nil⟩
  · obtain e | e := pairOf_twicePaired f <;> rw [e] <;> decide
  · obtain e | e := pairOf_twicePaired f <;> rw [e]
  · obtain e | e := pairOf_twicePaired f <;> rw [e] <;> exact fun h => absurd h (Option.some_ne_none n).symm

/-- The withdrawn pair reads as the default, which takes the first of its entries off the table; the second breaks R336, and the launch
fails. -/
theorem twicePaired_calend : ∃ t, execCalend twicePaired = .next t ∧ t.frames.run = none := ⟨_, rfl, by decide +kernel⟩

/-- Refutes O22: in a state whose table of pairs lists a pair twice, the Calend fails the launch that it would begin. No command builds
such a table, and the statement does not ask for a canonical one. -/
theorem not_calendsOpenCloseAndHaltFrames : ¬ Obligations.CalendsOpenCloseAndHaltFrames := by
  intro h
  obtain ⟨-, begins, -⟩ := h twicePaired rfl rfl
  obtain ⟨u, run, -, -, ⟨r, running, -⟩, -⟩ := begins armedCal rfl rfl rfl twicePaired_clean rfl (Nat.zero_le _) (fun _ => rfl)
  obtain ⟨t, run', idle⟩ := twicePaired_calend
  obtain rfl := Host.Outcome.next.inj (run'.symm.trans run)
  exact absurd (idle.symm.trans running) (Option.some_ne_none r).symm

end Sys2Proof.Laws

/-!
PROOF. What goes on through a fault (R91, R531, R540): whatever its severity, a running Calendar goes on in its frame until its halting
Calend, none begins, the halt that holds the package stays, and no fault is uncounted.
-/

namespace Sys2Proof.Laws

set_option Elab.async false

open Machine

/-- A halting Calend is known of halted Calendars only. -/
def HaltKnown (r : Run) : Prop := r.haltAt.isSome = true → r.halted = true

/-- The Calendar goes on in its frame: all that may have changed of it is its halt. -/
def RunGoesOn (r r' : Run) : Prop := ∃ at_ code aborted from_ halted,
  r' = { r with haltAt := at_, haltCode := code, aborted := aborted, abortFrom := from_, halted := halted } ∧
    (r.halted = true → r'.halted = true) ∧ (HaltKnown r → HaltKnown r')

theorem RunGoesOn.refl (r : Run) : RunGoesOn r r := ⟨r.haltAt, r.haltCode, r.aborted, r.abortFrom, r.halted, rfl, id, id⟩

theorem RunGoesOn.trans {r r' r'' : Run} (h : RunGoesOn r r') (k : RunGoesOn r' r'') : RunGoesOn r r'' := by
  obtain ⟨_, _, _, _, _, rfl, stays, known⟩ := h
  obtain ⟨a, c, b, f, x, rfl, stays', known'⟩ := k
  exact ⟨a, c, b, f, x, rfl, stays' ∘ stays, known' ∘ known⟩

theorem runGoesOn_runHalt (code : Nat) (aborted : Bool) (origin h : Nat) (r : Run) :
    RunGoesOn r (runHalt code aborted origin h r) := by
  cases known : r.haltAt with
  | some h' =>
    rw [runHalt_earlier _ _ _ _ known]
    exact ⟨_, _, _, _, r.halted, rfl, id, fun k _ => k (by rw [known]; rfl)⟩
  | none =>
    rw [runHalt_halted _ _ _ _ known]
    exact ⟨_, _, _, _, true, rfl, fun _ => rfl, fun _ _ => rfl⟩

/-- The NV counts of the resets that have been (R539). -/
def resetCounts (v : Nv) : Nat × Nat := (v.resetSeason, v.resetWarm)

/-- What the operations of a Calend and of a Season start keep, faults and all. -/
structure GoesOn (s t : State) : Prop where
  idle : s.frames.run = none → t.frames.run = none
  run : ∀ r, s.frames.run = some r → ∃ r', t.frames.run = some r' ∧ RunGoesOn r r'
  held : t.frames.haltedHeld = s.frames.haltedHeld
  resets : resetCounts t.nv = resetCounts s.nv
  counts : ∀ c, c ∉ sideCodes → faultCount s c ≤ faultCount t c

section

variable {s x y : State}

namespace GoesOn

theorem refl (s : State) : GoesOn s s := ⟨id, fun r h => ⟨r, h, .refl r⟩, rfl, rfl, fun _ _ => le_rfl⟩

theorem trans (h : GoesOn s x) (k : GoesOn x y) : GoesOn s y := by
  refine ⟨fun e => k.idle (h.idle e), fun r e => ?_, k.held.trans h.held, k.resets.trans h.resets,
    fun c hc => (h.counts c hc).trans (k.counts c hc)⟩
  obtain ⟨r', e', go⟩ := h.run r e
  obtain ⟨r'', e'', go'⟩ := k.run r' e'
  exact ⟨r'', e'', go.trans go'⟩

/-- An operation that leaves the running Calendar alone. -/
theorem same (h : GoesOn s x) (run : y.frames.run = x.frames.run) (held : y.frames.haltedHeld = x.frames.haltedHeld)
    (resets : resetCounts y.nv = resetCounts x.nv) (counts : ∀ c, c ∉ sideCodes → faultCount x c ≤ faultCount y c) :
    GoesOn s y :=
  h.trans ⟨fun e => run.trans e, fun r e => ⟨r, run.trans e, .refl r⟩, held, resets, counts⟩

/-- A change outside the Calendars, the NV store and the counts, or within the part of the Calendars that a run does not show. -/
theorem upd (h : GoesOn s x) (run : y.frames.run = x.frames.run) (held : y.frames.haltedHeld = x.frames.haltedHeld)
    (resets : resetCounts y.nv = resetCounts x.nv) (evt : y.health.evt = x.health.evt) : GoesOn s y :=
  h.same run held resets fun c _ => by rw [faultCount, faultCount, evt]

/-- An operation whose set of parts leaves the Calendars, the NV store and the fault log out. -/
theorem acts {L : Nat} (a : Acts L x y) (h : GoesOn s x) (frames : L.testBit 20 = false := by decide)
    (nv : L.testBit 4 = false := by decide) (log : L.testBit 31 = false := by decide) : GoesOn s y := by
  have f : y.frames = x.frames := a.part .frames frames
  have n : y.nv = x.nv := a.part .nvStore nv
  have counted : CountsOnly [] [] x y := .acts a (.refl x) log
  exact h.same (by rw [f]) (by rw [f]) (by rw [n]) fun c hc => (counted.evt c hc (by simp)).ge

/-- An operation that leaves the Calendars and the NV store alone and counts faults of its bookkeeping only. -/
theorem counted {L : Nat} (a : Acts L x y) (k : CountsOnly [] [] x y) (h : GoesOn s x)
    (frames : L.testBit 20 = false := by decide) (nv : L.testBit 4 = false := by decide) : GoesOn s y := by
  have f : y.frames = x.frames := a.part .frames frames
  have n : y.nv = x.nv := a.part .nvStore nv
  exact h.same (by rw [f]) (by rw [f]) (by rw [n]) fun c hc => (k.evt c hc (by simp)).ge

theorem forEach {α : Type} {l : List α} {f : α → State → State} (h : GoesOn s x)
    (hf : ∀ a y, GoesOn s y → GoesOn s (f a y)) : GoesOn s (forEach l f x) := by
  induction l generalizing x with
  | nil => exact h
  | cons a l ih => exact ih (hf a x h)

theorem onlyIf {c : Bool} {f : State → State} (h : GoesOn s x) (hf : ∀ y, GoesOn s y → GoesOn s (f y)) :
    GoesOn s (onlyIf c f x) := by
  unfold Machine.onlyIf
  split
  · exact hf x h
  · exact h

end GoesOn

/-! ### Faults (R525 to R533) -/

theorem bump_goesOn {key n : Nat} (h : GoesOn s x) : GoesOn s (bump key n x) := h.upd rfl rfl rfl rfl

/-- The state with one more count of a fault. -/
def faultCounted (code : Nat) (x : State) : State :=
  { x with health := { x.health with evt := mmod 0 x.health.evt code (fun c => c + 1) } }

theorem faultCount_faultCounted (code c : Nat) (x : State) : faultCount x c ≤ faultCount (faultCounted code x) c := by
  by_cases e : c = code
  · subst e
    exact (Nat.le_succ _).trans
      (mget_mmod_self (d := 0) (m := x.health.evt) (a := c) (f := fun c => c + 1) (Nat.succ_ne_zero _)).ge
  · exact (mget_mmod_other (d := 0) (m := x.health.evt) (f := fun c => c + 1) e).ge

theorem logRec_goesOn {r : FaultRec} (h : GoesOn s x) : GoesOn s (logRec r x) := by
  have counted : GoesOn s (faultCounted r.code.toNat x) := h.same rfl rfl rfl fun c _ => faultCount_faultCounted _ c x
  unfold logRec
  dsimp only
  split
  · exact .counted (appendFault_acts (Sub.refl _) (.refl _)) (appendFault_counts (.refl _)) counted
  · exact .acts (holdRec_acts (Sub.refl _) (.refl _)) counted

theorem logWith_goesOn {code : Nat} {tile : Option Nat} {ctx : Nat} {also : List Nat} (h : GoesOn s x) :
    GoesOn s (logWith code tile ctx also x) := logRec_goesOn h

theorem resetCounts_of_audit (v : Nv) (seq : Nat) (log : List AuditEntry) (chain anchor : List Byte) :
    resetCounts { v with auditSeq := seq, auditChain := chain, audit := log, auditAnchor := anchor } = resetCounts v := rfl

theorem resetCounts_auditWrite (a : Audit) (x : State) : resetCounts (auditWrite a x).nv = resetCounts x.nv := by
  unfold auditWrite
  exact resetCounts_of_audit _ _ _ _ _

theorem writeAudit_goesOn {a : Option Audit} (h : GoesOn s x) : GoesOn s (writeAudit a x) := by
  have acts := writeAudit_acts (a0 := a) (Sub.refl _) (.refl x)
  have frames : (writeAudit a x).frames = x.frames := acts.part .frames
  have counts := writeAudit_counts (codes := []) (keys := []) (a := a) (.refl x)
  refine h.same (by rw [frames]) (by rw [frames]) ?_ fun c hc => (counts.evt c hc (by simp)).ge
  cases a with
  | none => rfl
  | some a => exact resetCounts_auditWrite a x

theorem nvApply_goesOn {k : JKind} (h : GoesOn s x) : GoesOn s (nvApply k x) := by
  cases k with
  | activate c slot floor =>
    unfold nvApply
    simp only
    split
    · exact h.upd rfl rfl rfl rfl
    · exact h.upd rfl rfl rfl rfl
  | _ => exact h.upd rfl rfl rfl rfl

theorem journalPut_goesOn {r : JRec} (h : GoesOn s x) : GoesOn s (journalPut r x) := by
  unfold journalPut
  dsimp only
  split
  · exact nvApply_goesOn (writeAudit_goesOn h)
  · split
    · have audited := h.onlyIf (c := x.pow.nvOpen && x.pow.journal.isEmpty) (fun _ k => writeAudit_goesOn (a := r.audit) k)
      split
      · exact logWith_goesOn (audited.upd rfl rfl rfl rfl)
      · exact audited.upd rfl rfl rfl rfl
    · exact bump_goesOn (logWith_goesOn h)

theorem endLaunch_goesOn {c : Cal} {status code d0 d1 : Nat} (h : GoesOn s x) :
    GoesOn s (endLaunch c status code d0 d1 x) :=
  .counted (endLaunch_acts (Sub.refl _) (.refl x)) (endLaunch_counts (.refl x)) h

theorem sendOwn_goesOn {n : Notice} (h : GoesOn s x) : GoesOn s (sendOwn n x) := by
  unfold sendOwn
  dsimp only
  exact .acts (sendNotice_acts (Sub.refl _) (.refl _)) (h.upd rfl rfl rfl rfl)

theorem dropHeld_goesOn {status code d0 d1 : Nat} (h : GoesOn s x) : GoesOn s (dropHeld status code d0 d1 x) := by
  unfold dropHeld
  split
  · exact h
  · exact endLaunch_goesOn (h.upd rfl rfl rfl rfl)

theorem failHeld_goesOn {status code d0 typ : Nat} (h : GoesOn s x) : GoesOn s (failHeld status code d0 typ x) := by
  unfold failHeld
  split
  · exact h
  · exact dropHeld_goesOn (sendOwn_goesOn h)

theorem failStart_goesOn (h : GoesOn s x) : GoesOn s (failStart x) := by
  unfold failStart
  split
  · exact h
  · exact failHeld_goesOn (logWith_goesOn h)

theorem raiseHalt_goesOn {code : Nat} {tile : Option Nat} (h : GoesOn s x) : GoesOn s (raiseHalt code tile x) := by
  unfold raiseHalt
  split
  case _ r running =>
    split
    · dsimp only
      apply sendOwn_goesOn
      split
      · exact h
      · exact h.trans ⟨fun e => absurd (e.symm.trans running) (Option.some_ne_none r).symm, fun r' e =>
          ⟨_, rfl, Option.some.inj (running.symm.trans e) ▸ runGoesOn_runHalt _ _ _ _ r⟩, rfl, rfl, fun _ _ => le_rfl⟩
    · exact failHeld_goesOn h
  case _ => exact failHeld_goesOn h

theorem refuseLaunches_goesOn {code : Nat} (h : GoesOn s x) : GoesOn s (refuseLaunches code x) := by
  unfold refuseLaunches
  split
  · exact h
  · exact h.upd rfl rfl rfl rfl

theorem leaveService_goesOn {code : Nat} (h : GoesOn s x) : GoesOn s (leaveService code x) := by
  unfold leaveService
  split
  · exact h
  · exact .acts (departTwin_acts (Sub.refl _) (.refl _)) (h.upd rfl rfl rfl rfl)

theorem deviceFatal_goesOn {code : Nat} {tile : Option Nat} {ctx : Nat} {also : List Nat} (h : GoesOn s x) :
    GoesOn s (deviceFatal code tile ctx also x) := by
  unfold deviceFatal
  dsimp only
  split
  · exact leaveService_goesOn (raiseHalt_goesOn (journalPut_goesOn h))
  · exact .acts (blockStart_acts (Sub.refl _) (.refl _)) (raiseHalt_goesOn (journalPut_goesOn h))

theorem correctedWith_goesOn {code : Nat} {tile : Option Nat} {ctx : Nat} {also : List Nat} (h : GoesOn s x) :
    GoesOn s (correctedWith code tile ctx also x) := by
  unfold correctedWith
  dsimp only
  exact .onlyIf (h.upd rfl rfl rfl rfl) fun _ k => logWith_goesOn (code := code) (tile := tile) (ctx := ctx) (also := also) k

/-- A fault of any severity. -/
theorem raiseWith_goesOn {code : Nat} {tile : Option Nat} {ctx : Nat} {also : List Nat} (h : GoesOn s x) :
    GoesOn s (raiseWith code tile ctx also x) := by
  have logged : GoesOn s (logWith code tile ctx also x) := logWith_goesOn h
  unfold raiseWith
  split
  · exact logged
  · exact correctedWith_goesOn h
  · exact raiseHalt_goesOn logged
  · exact deviceFatal_goesOn logged
  · exact (deviceFatal_goesOn logged).upd rfl rfl rfl rfl

theorem raise_goesOn {code ctx : Nat} (h : GoesOn s x) : GoesOn s (raise code ctx x) := raiseWith_goesOn h

theorem raiseTile_goesOn {code t ctx : Nat} (h : GoesOn s x) : GoesOn s (raiseTile code t ctx x) := raiseWith_goesOn h

theorem optFault_goesOn {code n : Nat} {also : List Nat} (h : GoesOn s x) : GoesOn s (optFault code n also x) := raiseWith_goesOn h

theorem twinFault_goesOn {code ctx : Nat} {also : List Nat} (h : GoesOn s x) : GoesOn s (twinFault code ctx also x) :=
  raiseWith_goesOn h

end

end Sys2Proof.Laws

/-!
PROOF. A Calend's work outside the frames (R331, R336, R384, R301, R304, R312 to R315, R404): the running Calendar goes on through all
of it, faults and all.
-/

namespace Sys2Proof.Laws

set_option Elab.async false

open Machine

section

variable {s x : State}

theorem modPair_goesOn {f : Nat} {g : Pair → Pair} (h : GoesOn s x) : GoesOn s (modPair f g x) := h.upd rfl rfl rfl rfl

theorem modFib_goesOn {f : Nat} {g : Fib → Fib} (h : GoesOn s x) : GoesOn s (modFib f g x) := h.upd rfl rfl rfl rfl

theorem modEng_goesOn {n : Nat} {g : Eng → Eng} (h : GoesOn s x) : GoesOn s (modEng n g x) := h.upd rfl rfl rfl rfl

theorem pauseEngine_goesOn {n : Nat} (h : GoesOn s x) : GoesOn s (pauseEngine n x) := modEng_goesOn h

theorem endSplits_goesOn {n : Nat} (h : GoesOn s x) : GoesOn s (endSplits n x) := h.upd rfl rfl rfl rfl

/-! ### The links (R77, R291, R331, R332, R336) -/

theorem updateBound_goesOn (h : GoesOn s x) : GoesOn s (updateBound x) :=
  .onlyIf (c := (leadsHeld (computeBound x)).any (fun l => decide (l < (computeBound x).frames.bound)))
    (h.upd (y := computeBound x) rfl rfl rfl rfl) fun _ k => raise_goesOn k

theorem splitDrop_goesOn {f : Nat} (h : GoesOn s x) : GoesOn s (splitDrop f x) := by
  unfold splitDrop
  split
  · exact optFault_goesOn (h.upd rfl rfl rfl rfl)
  · exact h

theorem withdrawQuiet_goesOn {f : Nat} (h : GoesOn s x) : GoesOn s (withdrawQuiet f x) := by
  unfold withdrawQuiet
  split
  · exact h
  · apply updateBound_goesOn
    apply bump_goesOn
    apply splitDrop_goesOn
    split
    · exact .forEach (modPair_goesOn h) fun _ _ k => modPair_goesOn k
    · exact modPair_goesOn h

theorem returnPair_goesOn {f : Nat} (h : GoesOn s x) : GoesOn s (returnPair f x) := by
  unfold returnPair
  split
  · apply updateBound_goesOn
    exact modPair_goesOn (.acts (sendLinkNotice_acts (Sub.refl _) (.refl x)) h)
  · exact h

theorem calendNotices_goesOn {c : Nat} (h : GoesOn s x) : GoesOn s (calendNotices c x) := by
  refine h.forEach fun g y k => ?_
  split
  · split
    · exact withdrawQuiet_goesOn (k.upd rfl rfl rfl rfl)
    · exact k
  · exact k

theorem conservation_goesOn {g v : Nat} {values : List Nat} (h : GoesOn s x) : GoesOn s (conservation g v values x) := by
  unfold conservation
  split
  · exact h
  · exact raiseWith_goesOn (h.upd rfl rfl rfl rfl)

theorem calendLinks_goesOn {c : Nat} (h : GoesOn s x) : GoesOn s (calendLinks c x) := by
  unfold calendLinks
  dsimp only
  refine .upd (.forEach h fun f y k => ?_) rfl rfl rfl rfl
  refine .upd (.onlyIf (.onlyIf k ?_) ?_) rfl rfl rfl rfl
  · exact fun _ k => conservation_goesOn k
  · exact fun _ k => raise_goesOn k

theorem calendTokens_goesOn (h : GoesOn s x) : GoesOn s (calendTokens x) := by
  refine h.forEach fun a y k => k.forEach fun b z m => ?_
  dsimp only
  split
  · exact m
  · exact raiseTile_goesOn m

/-! ### The optics (R301, R304, R305, R308, R312 to R315) -/

theorem missingPhase_goesOn {n : Nat} (h : GoesOn s x) : GoesOn s (missingPhase n x) :=
  h.forEach fun _ _ k => optFault_goesOn k

theorem openSplit_goesOn {n : Nat} {y : Setting} {g : Nat} (h : GoesOn s x) : GoesOn s (openSplit n y g x) := by
  unfold openSplit
  dsimp only
  split
  · exact h
  · exact .forEach (h.upd rfl rfl rfl rfl) fun _ _ k => optFault_goesOn k

theorem applySetting_goesOn {n : Nat} {y : Setting} (h : GoesOn s x) : GoesOn s (applySetting n y x) := by
  unfold applySetting
  dsimp only
  split
  · exact h
  · apply pauseEngine_goesOn
    refine .forEach (.forEach (modEng_goesOn (endSplits_goesOn (missingPhase_goesOn h))) ?_) ?_
    · exact fun _ _ k => modFib_goesOn k
    · exact fun _ _ k => openSplit_goesOn k

theorem applyPhase_goesOn {a : Nat} (h : GoesOn s x) : GoesOn s (applyPhase a x) := by
  unfold applyPhase
  extract_lets
  split
  · exact h.upd rfl rfl rfl rfl
  · exact applySetting_goesOn h

theorem closeWindow_goesOn {n : Nat} (h : GoesOn s x) : GoesOn s (closeWindow n x) := by
  have ended : GoesOn s (if (engOf x n).icSubEnd then
      pauseEngine n (modEng n (fun e => { e with icSubEnd := false, spareFor := 15 }) x) else x) := by
    split
    · exact pauseEngine_goesOn (modEng_goesOn h)
    · exact h
  unfold closeWindow
  dsimp only
  split
  · exact returnPair_goesOn (modEng_goesOn ended)
  · exact ended

theorem skipItem_goesOn {n : Nat} (h : GoesOn s x) : GoesOn s (skipItem n x) := optFault_goesOn h

theorem openWindow_goesOn {n : Nat} (h : GoesOn s x) : GoesOn s (openWindow n x) := by
  unfold openWindow
  extract_lets e item start
  have started {y : State} (k : GoesOn s y) : GoesOn s (start y) := modEng_goesOn k
  split
  · exact h
  split
  · exact modEng_goesOn (started h)
  split
  · split
    · exact started h
    split
    · exact started h
    split
    · exact skipItem_goesOn h
    · exact pauseEngine_goesOn (started (modEng_goesOn h))
  · split
    · exact skipItem_goesOn h
    · exact withdrawQuiet_goesOn (started h)

theorem announceWindow_goesOn {c n : Nat} (h : GoesOn s x) : GoesOn s (announceWindow c n x) :=
  .acts (announceWindow_acts (Sub.refl _) (.refl _)) h

theorem calendOptics_goesOn {c : Nat} (h : GoesOn s x) : GoesOn s (calendOptics c x) := by
  have closed : GoesOn s (forEach (List.range 8) (fun n s => applySpare n (closeWindow n s)) x) :=
    h.forEach fun n y k => .acts (applySpare_acts (Sub.refl _) (.refl _)) (closeWindow_goesOn k)
  unfold calendOptics
  dsimp only
  generalize forEach (List.range 8) _ x = y at closed ⊢
  cases windowOf y c with
  | none =>
    dsimp only
    split
    · exact announceWindow_goesOn closed
    · exact closed
  | some n =>
    have opened : GoesOn s (openWindow n y) := openWindow_goesOn closed
    dsimp only
    split
    · exact announceWindow_goesOn opened
    · exact opened

/-! ### The twin (R404, R406, R418) -/

theorem calendTwin_goesOn {c : Nat} {continuation : Bool} (h : GoesOn s x) : GoesOn s (calendTwin c continuation x) := by
  unfold calendTwin
  dsimp only
  split
  · exact h
  have sealed : GoesOn s (if x.twin.mirrored = true then
      forEach (List.range 8) (fun k s => enqueueTwin (twinPair s k) (.sealMarker (BitVec.ofNat 64 c)) s) x else x) := by
    split
    · exact h.forEach fun _ _ k => .acts (enqueueTwin_acts (Sub.refl _) (.refl _)) k
    · exact h
  have advised {y : State} (k : GoesOn s y) : GoesOn s (if y.twin.mirrored = true ∧ y.twin.keepSealed ≠ 0 ∧
      y.twin.keepSealed + 16 < c then onlyIf (!y.twin.lagAdvised) (twinFault 0x7010 y.twin.keepSealed [])
        { y with twin := { y.twin with lag := true, lagAdvised := true } } else y) := by
    split
    · exact .onlyIf (k.upd rfl rfl rfl rfl) fun _ k => twinFault_goesOn k
    · exact k
  split
  · exact .acts (finishDetach_acts (Sub.refl _) (.refl _)) (advised sealed)
  · exact advised sealed

end

end Sys2Proof.Laws

/-!
PROOF. The frame closes on an incomplete tile (R84, R586): its fault halts the Calendar, and the mark that keeps it out of the later
frames stays through the rest of the Calend.
-/

namespace Sys2Proof.Laws

set_option Elab.async false

open Machine

theorem forEach_keeps {α : Type} {P : State → Prop} {l : List α} {f : α → State → State} {x : State} (h : P x)
    (hf : ∀ a y, P y → P (f a y)) : P (forEach l f x) := by
  induction l generalizing x with
  | nil => exact h
  | cons a l ih => exact ih (hf a x h)

/-! ### The mark of a tile that is stuck (R586) -/

section

variable {t i : Nat} {x y : State}

theorem tile_ne_default_of_stuck {z : Tile} (h : z.stuck = true) : z ≠ {} :=
  fun e => Bool.false_ne_true (Eq.trans (congrArg Tile.stuck e).symm h)

theorem stuck_of_tiles (h : (tileOf x t).stuck = true) (same : y.tiles = x.tiles) : (tileOf y t).stuck = true := by
  rwa [tileOf_of_tiles same]

theorem stuck_modTile {g : Tile → Tile} (keeps : ∀ z, z.stuck = true → (g z).stuck = true) (h : (tileOf x t).stuck = true) :
    (tileOf (modTile i g x) t).stuck = true := by
  by_cases e : t = i
  · subst e
    rw [tileOf_modTile_self t g x (tile_ne_default_of_stuck (keeps _ h))]
    exact keeps _ h
  · rwa [tileOf_modTile_other i g x t e]

theorem settleFrame_stuck (z : Tile) : (settleFrame z).stuck = z.stuck := by
  unfold settleFrame
  split <;> rfl

/-- The tile is stuck in a Calendar that runs no further. -/
structure StuckAtRest (t : Nat) (x : State) : Prop where
  rests : Resting x
  stuck : (tileOf x t).stuck = true

namespace StuckAtRest

theorem onTile (h : StuckAtRest t x) (k : OnTile i x y) (stuck : (tileOf y t).stuck = true) : StuckAtRest t y :=
  ⟨h.rests.of_frames k.frames, stuck⟩

theorem modTile {g : Tile → Tile} (h : StuckAtRest t x) (keeps : ∀ z, z.stuck = true → (g z).stuck = true) :
    StuckAtRest t (modTile i g x) :=
  h.onTile (modTile_onTile i g x) (stuck_modTile keeps h.stuck)

theorem bufWrite {a : Nat} {l : List Byte} (h : StuckAtRest t x) : StuckAtRest t (bufWrite i a l x) :=
  h.onTile (bufWrite_onTile i a l x) (stuck_of_tiles h.stuck ((bufWrite_acts (Sub.refl _) (.refl x)).part .tiles))

theorem stopXfer {tag : Nat} (h : StuckAtRest t x) : StuckAtRest t (stopXfer i tag x) :=
  h.onTile (stopXfer_onTile i tag x) h.stuck

theorem complete {pos : Nat} (h : StuckAtRest t x) : StuckAtRest t (complete i pos x) := by
  have settled : StuckAtRest t (Machine.modTile i
      (fun z => settleFrame { z with board := z.board.filter (fun b => decide (b.pos ≠ pos)) }) x) :=
    h.modTile fun z stuck => (settleFrame_stuck _).trans stuck
  rwa [Machine.complete, evaluate_resting i settled.rests]

theorem endXfer {z : Xfer} {result : Nat} (h : StuckAtRest t x) : StuckAtRest t (endXfer i z result x) :=
  complete (h.bufWrite.modTile fun _ stuck => stuck)

theorem endFence {f : FenceRun} {interrupted : Bool} (h : StuckAtRest t x) : StuckAtRest t (endFence i f interrupted x) := by
  unfold Machine.endFence
  split
  · exact complete (h.modTile fun _ stuck => stuck)
  · exact complete (h.bufWrite.modTile fun _ stuck => stuck)

theorem haltTile (h : StuckAtRest t x) : StuckAtRest t (haltTile i x) :=
  forEach_keeps (forEach_keeps (h.modTile fun _ stuck => stuck) fun _ _ k => k.stopXfer.endXfer) fun _ _ k => k.endFence

end StuckAtRest

/-! ### The tile's fault (R84) -/

/-- The tile is stuck, with its fault counted, and the Calendar is to halt. -/
structure FrameFailed (t n : Nat) (x : State) : Prop where
  stuck : (tileOf x t).stuck = true
  counted : n < faultCount x 0x1013
  halts : ∃ r, x.frames.run = some r ∧ r.halted = true

theorem FrameFailed.goesOn {n : Nat} (h : FrameFailed t n x) (k : GoesOn x y) (stuck : (tileOf y t).stuck = true) :
    FrameFailed t n y := by
  obtain ⟨r, running, halted⟩ := h.halts
  obtain ⟨r', running', _, _, _, _, _, _, stays, _⟩ := k.run r running
  exact ⟨stuck, h.counted.trans_le (k.counts _ (by decide)), r', running', stays halted⟩

/-- The tile works on a frame of a Calendar whose halting Calend has not passed. -/
structure FrameUnfinished (t n : Nat) (x : State) : Prop where
  works : (tileOf x t).st = 1
  unmarked : (tileOf x t).stuck = false
  counted : n ≤ faultCount x 0x1013
  runs : ∃ r, x.frames.run = some r ∧ r.completed = none ∧ r.halting = none ∧ HaltKnown r

theorem FrameUnfinished.goesOn {n : Nat} (h : FrameUnfinished t n x) (k : GoesOn x y) (same : tileOf y t = tileOf x t) :
    FrameUnfinished t n y := by
  obtain ⟨r, running, going, before, known⟩ := h.runs
  obtain ⟨r', running', _, _, _, _, _, rfl, _, known'⟩ := k.run r running
  exact ⟨by rw [same, h.works], by rw [same, h.unmarked], h.counted.trans (k.counts _ (by decide)), _, running', going, before,
    known' known⟩

/-- A halt that is taken, or one already known, halts the Calendar. -/
theorem halted_runHalt {code origin h : Nat} {aborted : Bool} {r : Run} (known : HaltKnown r) :
    (runHalt code aborted origin h r).halted = true := by
  cases at_ : r.haltAt with
  | none => rw [runHalt_halted _ _ _ _ at_]
  | some h' =>
    rw [runHalt_earlier _ _ _ _ at_]
    exact known (by rw [at_]; rfl)

theorem raiseTile_tiles (code i ctx : Nat) (x : State) : (raiseTile code i ctx x).tiles = x.tiles :=
  (raiseTile_acts (Sub.refl _) (.refl x)).part .tiles

theorem incompleteTile_goesOn {leaped : Bool} : GoesOn x (incompleteTile leaped i x) := by
  unfold incompleteTile
  dsimp only
  split
  · exact raiseTile_goesOn (.upd (.refl x) rfl rfl rfl rfl)
  · exact .refl x

theorem tileOf_incompleteTile_other {leaped : Bool} (ne : t ≠ i) : tileOf (incompleteTile leaped i x) t = tileOf x t := by
  unfold incompleteTile
  dsimp only
  split
  · rw [tileOf_of_tiles (raiseTile_tiles _ _ _ _), tileOf_modTile_other i _ x t ne]
  · rfl

theorem incompleteTile_stuck {leaped : Bool} (h : (tileOf x t).stuck = true) :
    (tileOf (incompleteTile leaped i x) t).stuck = true := by
  unfold incompleteTile
  dsimp only
  split
  · exact stuck_of_tiles (stuck_modTile (fun _ _ => rfl) h) (raiseTile_tiles _ _ _ _)
  · exact h

/-- A Job-fatal fault of a tile halts the running Calendar (R91). -/
theorem raiseTile_halts {code ctx : Nat} {r : Run} (running : x.frames.run = some r) (going : r.completed = none)
    (before : r.halting = none) (known : HaltKnown r) (sev : sevOf code = 2 := by decide) :
    ∃ r', (raiseTile code i ctx x).frames.run = some r' ∧ r'.halted = true := by
  have running' : (logWith code (some i) ctx [] x).frames.run = some r := by rw [logWith_frames, running]
  obtain ⟨seen, frames⟩ := raiseHalt_frames code (some i) running' going before
  rw [raiseTile, raiseFault, raiseWith_of_jobFatal _ _ _ _ sev, frames]
  exact ⟨_, rfl, halted_runHalt known⟩

theorem incompleteTile_fails {n : Nat} (h : FrameUnfinished t n x) : FrameFailed t n (incompleteTile false t x) := by
  obtain ⟨r, running, going, before, known⟩ := h.runs
  have e : incompleteTile false t x =
      raiseTile 0x1013 t (tileOf x t).ordinal (modTile t (fun z => { z with stuck := true }) x) := by
    simp only [incompleteTile, h.works, h.unmarked, and_self, if_true, Bool.false_eq_true, if_false]
  generalize marked : modTile t (fun z => { z with stuck := true }) x = y at e
  have counts : Raised 0x1013 y (raiseTile 0x1013 t (tileOf x t).ordinal y) := raiseWith_raised _ _ _ _
  have counted : faultCount y 0x1013 = faultCount x 0x1013 := by rw [← marked]; rfl
  rw [e]
  refine ⟨?_, ?_, ?_⟩
  · rw [tileOf_of_tiles (raiseTile_tiles _ _ _ _), ← marked,
      tileOf_modTile_self t _ x (tile_ne_default_of_stuck rfl)]
  · have less := h.counted
    rw [Raised] at counts
    omega
  · exact raiseTile_halts (by rw [← marked]; exact running) going before known

/-- The frame closes on all the tiles, this one among them. -/
theorem incompleteTiles_fail {n : Nat} {l : List Nat} (listed : t ∈ l) (h : FrameUnfinished t n x) :
    FrameFailed t n (forEach l (incompleteTile false) x) := by
  induction l generalizing x with
  | nil => exact absurd listed List.not_mem_nil
  | cons i l ih =>
    by_cases e : t = i
    · subst e
      exact forEach_keeps (P := FrameFailed t n) (l := l) (x := incompleteTile false t x) (incompleteTile_fails h)
        fun i y k => k.goesOn incompleteTile_goesOn (incompleteTile_stuck k.stuck)
    · exact ih ((List.mem_cons.mp listed).resolve_left e)
        (h.goesOn incompleteTile_goesOn (tileOf_incompleteTile_other e))

theorem closeFrame_fails {n : Nat} (ht : t < 512) (h : FrameUnfinished t n x) : FrameFailed t n (closeFrame false x) := by
  have failed : FrameFailed t n (eachTile (incompleteTile false) x) := incompleteTiles_fail (List.mem_range.mpr ht) h
  obtain ⟨r, running, halted⟩ := failed.halts
  unfold closeFrame
  generalize eachTile (incompleteTile false) x = y at failed running ⊢
  simp only [bump, running]
  exact ⟨failed.stuck, failed.counted, _, rfl, halted⟩

/-! ### The rest of the Calend (R57, R58, R92) -/

variable {c n : Nat}

/-- The run is replaced by one as halted as it was. -/
theorem FrameFailed.withRun {r : Run} (h : FrameFailed t n x) (run : y.frames.run = some r) (halted : r.halted = true)
    (evt : y.health.evt = x.health.evt) (stuck : (tileOf y t).stuck = true) : FrameFailed t n y :=
  ⟨stuck, by rw [faultCount, evt]; exact h.counted, r, run, halted⟩

theorem haltTiles_fail {r : Run} (running : x.frames.run = some r) (halting : r.halting.isSome = true) (h : FrameFailed t n x) :
    FrameFailed t n (eachTile haltTile x) := by
  have rests : Resting x := fun r' running' => Option.some.inj (running.symm.trans running') ▸ halting
  suffices FrameFailed t n (eachTile haltTile x) ∧ StuckAtRest t (eachTile haltTile x) from this.1
  refine forEach_keeps (P := fun y => FrameFailed t n y ∧ StuckAtRest t y) ⟨h, rests, h.stuck⟩ fun i y ⟨failed, stuck⟩ => ?_
  exact ⟨failed.goesOn (.acts (haltTile_onTile i stuck.rests).acts (.refl y)) stuck.haltTile.stuck, stuck.haltTile⟩

theorem passHalt_fails (h : FrameFailed t n x) : FrameFailed t n (passHalt c x) := by
  obtain ⟨r, running, halted⟩ := h.halts
  unfold passHalt
  simp only [running]
  generalize entered : { x with frames := { x.frames with run := some { r with halting := some (c * 2 ^ r.cal.hdr.k) } } } = y
  have failed : FrameFailed t n y := by subst entered; exact h.withRun rfl halted rfl h.stuck
  have windows : Acts 2097152 y (forEach (List.range 8) endWindow y) :=
    forEach_acts (.refl y) fun _ _ k => endWindow_acts (Sub.refl _) k
  have frames : (forEach (List.range 8) endWindow y).frames = y.frames := windows.part .frames
  have ended := failed.goesOn (.acts windows (.refl y)) (stuck_of_tiles failed.stuck (windows.part .tiles))
  have tiles := haltTiles_fail (by rw [frames, ← entered]) rfl ended
  exact tiles.goesOn (failStart_goesOn (.refl _))
    (stuck_of_tiles tiles.stuck ((failStart_acts (Sub.refl _) (.refl _)).part .tiles))

theorem openTile_fails {cal : Cal} {at_ ordinal record set : Nat} {first : Bool} (h : FrameFailed t n x) :
    FrameFailed t n (openTile cal at_ ordinal record set first i x) := by
  unfold openTile
  split
  case isTrue => exact h
  case isFalse opens =>
    have ne : t ≠ i := fun e => opens (e ▸ h.stuck)
    exact h.goesOn (.upd (.refl x) rfl rfl rfl rfl) (by rw [tileOf_modTile_other i _ x t ne]; exact h.stuck)

theorem openFrame_fails {r : Run} (halted : r.halted = true) (h : FrameFailed t n x) : FrameFailed t n (openFrame c r x) := by
  unfold openFrame
  dsimp only
  refine forEach_keeps (P := FrameFailed t n) (forEach_keeps (P := FrameFailed t n) ?_ fun _ _ k => openTile_fails k)
    fun j y k => ?_
  · exact h.withRun rfl halted rfl h.stuck
  · exact k.goesOn (applyPhase_goesOn (.refl y)) (stuck_of_tiles k.stuck ((applyPhase_acts (Sub.refl _) (.refl y)).part .tiles))

theorem advanceFrame_fails (h : FrameFailed t n x) : FrameFailed t n (advanceFrame c x) := by
  obtain ⟨r, running, halted⟩ := h.halts
  unfold advanceFrame
  simp only [running]
  split
  · refine h.withRun rfl halted rfl ?_
    have kept : (if (tileOf x t).stuck then tileOf x t else { tileOf x t with st := 0, list := none }) = tileOf x t :=
      if_pos h.stuck
    have marked := tile_ne_default_of_stuck h.stuck
    rw [tileOf, mget_mmapv (f := fun z : Tile => if z.stuck then z else { z with st := 0, list := none }) marked
      (kept ▸ marked)]
    exact kept ▸ h.stuck
  · exact openFrame_fails halted h

end

/-! ### The Calend -/

/-- The links' and the tokens' part of a Calend, before the frames. -/
def calendBefore (c : Nat) (s : State) : State :=
  calendTokens (calendLinks c (calendNotices c (timeAtLeast (c * 2 ^ s.frames.k)
    { s with frames := { s.frames with calDue := c + 1 } })))

theorem calendBefore_goesOn (c : Nat) (s : State) : GoesOn s (calendBefore c s) :=
  calendTokens_goesOn (calendLinks_goesOn (calendNotices_goesOn
    (.acts (timeAtLeast_acts (Sub.refl _) (.refl _)) (.upd (.refl s) rfl rfl rfl rfl))))

theorem calendBefore_tiles (c : Nat) (s : State) : (calendBefore c s).tiles = s.tiles :=
  Eq.trans (b := (timeAtLeast (c * 2 ^ s.frames.k) { s with frames := { s.frames with calDue := c + 1 } }).tiles)
    (Acts.part (L := 11415859413) (calendTokens_acts ((Sub.refl _).mono (by decide)) (calendLinks_acts ((Sub.refl _).mono (by decide))
      (calendNotices_acts (Sub.refl _) (.refl _)))) .tiles)
    ((timeAtLeast_acts (Sub.refl _) (.refl _)).part .tiles)

theorem fixOutcome_going {s : State} {r : Run} (running : s.frames.run = some r) (going : r.completed = none) :
    fixOutcome s = s := by
  simp only [fixOutcome, running, going]

theorem execCalend_going {s : State} {r : Run} (ready : s.boot.ready = true) (stays : s.store.migrating = false)
    (running : s.frames.run = some r) (going : r.completed = none) : ∃ cont, execCalend s = .next (calendTwin (nextCalend s) cont
      (calendOptics (nextCalend s) (calendFrames (nextCalend s) (calendBefore (nextCalend s) s)))) := by
  refine ⟨isContinuation (timeAtLeast (nextCalend s * 2 ^ s.frames.k)
    { s with frames := { s.frames with calDue := nextCalend s + 1 } }) (nextCalend s), ?_⟩
  simp only [execCalend, ready, stays, and_self, if_true, fixOutcome_going running going]
  rfl

theorem calendFrames_fails {x : State} {r : Run} {t n c : Nat} (ht : t < 512) (running : x.frames.run = some r)
    (before : r.halting = none) (whole : r.leaped = false) (closes : closingIndex r ≤ c) (h : FrameUnfinished t n x) :
    FrameFailed t n (calendFrames c x) := by
  have failed := closeFrame_fails ht h
  unfold calendFrames
  simp only [running, before, whole, closes, onlyIf, decide_true, if_true, Option.isSome_none, Bool.false_eq_true, if_false]
  split
  · split
    · exact passHalt_fails failed
    · exact advanceFrame_fails failed
  · exact advanceFrame_fails failed

/-- Settles O23: the fault of the tile halts the Calendar, and every later step of the Calend passes a tile that is stuck by. -/
theorem incompleteTilesFailAtTheClosingCalend : Obligations.IncompleteTilesFailAtTheClosingCalend := by
  intro s r t ready stays running going before none_known closes whole works unmarked
  obtain ⟨cont, step⟩ := execCalend_going ready stays running going
  have same := tileOf_of_tiles (calendBefore_tiles (nextCalend s) s) t.val
  have unfinished : FrameUnfinished t.val (faultCount s 0x1013) s :=
    ⟨works, unmarked, le_rfl, r, running, going, before, fun k => by rw [none_known] at k; exact absurd k Bool.false_ne_true⟩
  have goes := calendBefore_goesOn (nextCalend s) s
  obtain ⟨_, running', _, _, _, _, _, rfl, _⟩ := goes.run r running
  have failed := calendFrames_fails t.isLt running' before whole closes (unfinished.goesOn goes same)
  have optics := failed.goesOn (calendOptics_goesOn (c := nextCalend s) (.refl _))
    (stuck_of_tiles failed.stuck ((calendOptics_acts (Sub.refl _) (.refl _)).part .tiles))
  have twin := optics.goesOn (calendTwin_goesOn (c := nextCalend s) (continuation := cont) (.refl _))
    (stuck_of_tiles optics.stuck ((calendTwin_acts (Sub.refl _) (.refl _)).part .tiles))
  exact ⟨_, step, twin.stuck, twin.counted, twin.halts⟩

end Sys2Proof.Laws

/-!
PROOF. A Season reset (R540): what its steps keep of the Calendars, the NV counts and the held halt, and what they leave.
-/

namespace Sys2Proof.Laws

set_option Elab.async false

open Machine

section

variable {s x : State}

/-! ### Before the Season's clearing: steps 1 and 2 -/

theorem modImage_goesOn {c : Nat} {slotB : Bool} {f : Image → Image} (h : GoesOn s x) : GoesOn s (modImage c slotB f x) := by
  unfold modImage
  split
  · split
    · exact h.upd rfl rfl rfl rfl
    · exact h.upd rfl rfl rfl rfl
  · split
    · exact h.upd rfl rfl rfl rfl
    · exact h.upd rfl rfl rfl rfl

theorem loadMicrocode_goesOn (h : GoesOn s x) : GoesOn s (loadMicrocode x) := by
  have tried : GoesOn s { x with boot := { x.boot with mshPending := false } } := h.upd rfl rfl rfl rfl
  unfold loadMicrocode
  split
  · dsimp only
    split
    · refine journalPut_goesOn (modImage_goesOn ?_)
      exact tried.upd rfl rfl rfl rfl
    · exact logWith_goesOn (modImage_goesOn tried)
  · exact h

theorem seasonTiles_goesOn (h : GoesOn s x) : GoesOn s (seasonTiles x) := h.upd rfl rfl rfl rfl

theorem tearOpen_goesOn (h : GoesOn s x) : GoesOn s (tearOpen x) := h.upd rfl rfl rfl rfl

/-! ### The values of the Season (R449) -/

theorem takeSlice_goesOn (h : GoesOn s x) : GoesOn s (takeSlice x) := h.upd rfl rfl rfl rfl

theorem takeWindows_goesOn (h : GoesOn s x) : GoesOn s (takeWindows x) := by
  unfold takeWindows
  dsimp only
  split
  · exact h.upd rfl rfl rfl rfl
  · exact raise_goesOn (h.upd rfl rfl rfl rfl)

/-- Every deferred value has come into force, those of the link level excepted, and the slice is the Season's. -/
def valuesTaken (s : State) : State :=
  let s := { s with mgmt := { s.mgmt with inForce := s.mgmt.inForce.filter (fun x => decide (x.1 = 0x410101)) } }
  takeSlice { s with frames := { s.frames with k := odNum s 0x600101 13 } }

theorem takeValues_eq (s : State) : ∃ moved,
    takeValues s = trimFar (clearRetired (takeTwin moved (takeWindows (resumeCalends (valuesTaken s))))) := ⟨_, rfl⟩

theorem takeValues_goesOn (h : GoesOn s x) : GoesOn s (takeValues x) := by
  have taken : GoesOn s (valuesTaken x) := h.upd rfl rfl rfl rfl
  have windows {y : State} (k : GoesOn s y) : GoesOn s (takeWindows (resumeCalends y)) :=
    takeWindows_goesOn (k.upd rfl rfl rfl rfl)
  have rest {moved : Bool} {y : State} (k : GoesOn s y) : GoesOn s (trimFar (clearRetired (takeTwin moved y))) :=
    .acts (trimFar_acts (Sub.refl _) (.refl _)) (k.upd rfl rfl rfl rfl)
  obtain ⟨moved, e⟩ := takeValues_eq x
  rw [e]
  exact rest (windows taken)

/-- The other steps of the taking leave the dictionary's values. -/
theorem takeValues_values (s : State) : valuesOf (takeValues s).mgmt = valuesOf (valuesTaken s).mgmt := by
  obtain ⟨moved, e⟩ := takeValues_eq s
  have windows : valuesOf (takeWindows (resumeCalends (valuesTaken s))).mgmt = valuesOf (resumeCalends (valuesTaken s)).mgmt :=
    (takeWindows_acts (Sub.refl _) (.refl _)).part .values
  have trimmed (y : State) : valuesOf (trimFar y).mgmt = valuesOf y.mgmt := (trimFar_acts (Sub.refl _) (.refl y)).part .values
  rw [e, trimmed]
  exact windows

/-! ### The Season's start: steps 4 and 5 -/

theorem baseFabric_goesOn (h : GoesOn s x) : GoesOn s (baseFabric x) := by
  have ended : GoesOn s (forEach (List.range 8) endWindow { x with links := { x.links with
      pairs := mmapv {} dropQueues x.links.pairs, splits := x.links.splits.map (fun y => { y with queue := [] }) } }) :=
    .forEach (h.upd rfl rfl rfl rfl) fun _ _ k => modEng_goesOn k
  exact ended.forEach fun _ _ k => applySetting_goesOn (modEng_goesOn k)

theorem takeSkips_goesOn (h : GoesOn s x) : GoesOn s (takeSkips x) := by
  unfold takeSkips
  dsimp only
  exact .onlyIf (.onlyIf (h.upd rfl rfl rfl rfl) fun _ k => raise_goesOn k) fun _ k => raise_goesOn k

theorem takeEgress_goesOn (h : GoesOn s x) : GoesOn s (takeEgress x) := h.upd rfl rfl rfl rfl

theorem exchangeSlice_goesOn (h : GoesOn s x) : GoesOn s (exchangeSlice x) := by
  have sent (l : List Nat) : GoesOn s (forEach l (fun d y => sendDir d 5 (.slice (ownSlice y)) y) x) :=
    h.forEach fun _ _ k => .acts (sendDir_acts (Sub.refl _) (.refl _)) k
  unfold exchangeSlice
  dsimp only
  split
  · exact raise_goesOn (refuseLaunches_goesOn (sent _))
  · exact sent _

theorem judgeSolo_goesOn (h : GoesOn s x) : GoesOn s (judgeSolo x) := by
  unfold judgeSolo
  split
  · split
    · exact twinFault_goesOn h
    · exact twinFault_goesOn (refuseLaunches_goesOn h)
  · exact h

theorem claimRoot_goesOn (h : GoesOn s x) : GoesOn s (claimRoot x) := by
  unfold claimRoot
  dsimp only
  refine .forEach (.onlyIf (h.upd rfl rfl rfl rfl) fun _ k => raiseWith_goesOn k) fun _ _ k => ?_
  exact .acts (sendTime_acts (Sub.refl _) (.refl _)) k

theorem claimDesignated_goesOn (h : GoesOn s x) : GoesOn s (claimDesignated x) := by
  unfold claimDesignated
  dsimp only
  split
  · split
    · exact claimRoot_goesOn (h.upd rfl rfl rfl rfl)
    · exact h.upd rfl rfl rfl rfl
  · exact h

theorem startSeason_goesOn (h : GoesOn s x) : GoesOn s (startSeason x) := by
  have linked : GoesOn s (takeEgress (takeSkips (baseFabric x))) := takeEgress_goesOn (takeSkips_goesOn (baseFabric_goesOn h))
  have judged {y : State} (k : GoesOn s y) : GoesOn s (computeBound (judgeSolo (exchangeSlice y))) :=
    (judgeSolo_goesOn (exchangeSlice_goesOn k)).upd rfl rfl rfl rfl
  exact claimDesignated_goesOn (.onlyIf (judged linked) fun _ k => .acts (sendPairing_acts (Sub.refl _) (.refl _)) k)

end

/-! ### A Season reset with no segment marked (R540) -/

/-- The tiles are reset and the torn pages marked. -/
def seasonTorn (s : State) : State := tearOpen (seasonTiles (loadMicrocode s))

/-- The reset is counted. -/
def seasonCounted (s : State) : State :=
  { s with boot := { s.boot with lastReset := 6 }, nv := { s.nv with resetSeason := s.nv.resetSeason + 1 } }

theorem retireMarked_unmarked {s : State} (h : s.store.segMarked = []) : retireMarked s = s := if_pos h

theorem seasonTorn_segMarked (s : State) : (seasonTorn s).store.segMarked = s.store.segMarked := by
  have same : storeRestOf (loadMicrocode s).store = storeRestOf s.store :=
    (loadMicrocode_acts (Sub.refl _) (.refl s)).part .storeRest
  simp only [storeRestOf, Prod.mk.injEq] at same
  obtain ⟨-, -, -, -, -, -, marked, -⟩ := same
  exact marked

theorem seasonReset_unmarked {s : State} (h : s.store.segMarked = []) :
    seasonReset s = seasonCounted (takeValues (clearSeason (seasonTorn s))) ∨
    seasonReset s = startSeason (seasonCounted (takeValues (clearSeason (seasonTorn s)))) := by
  have unmarked : retireMarked (tearOpen (seasonTiles (loadMicrocode s))) = seasonTorn s :=
    retireMarked_unmarked ((seasonTorn_segMarked s).trans h)
  rw [seasonReset, unmarked]
  exact ite_eq_or_eq _ _ _

theorem mget_filter_other {m : List (Nat × List Byte)} {a b : Nat} (ne : a ≠ b) :
    mget [] (m.filter (fun x => decide (x.1 = b))) a = [] := by
  induction m with
  | nil => rfl
  | cons x m ih =>
    obtain ⟨k, v⟩ := x
    by_cases e : k = b
    · have other : a ≠ k := fun h => ne (h.trans e)
      simp only [List.filter_cons, e, decide_true, if_true]
      rw [mget, if_neg (e ▸ other)]
      exact ih
    · simp only [List.filter_cons, e, decide_false, Bool.false_eq_true, if_false]
      exact ih

theorem takeValues_notDeferred {s : State} {k : Nat} (ne : k ≠ 0x410101) : NotDeferred (takeValues s) k := by
  have same : (takeValues s).mgmt.inForce = (valuesTaken s).mgmt.inForce := congrArg Prod.snd (takeValues_values s)
  rw [NotDeferred, same]
  exact mget_filter_other ne

/-- What a Season reset leaves (R540). -/
structure SeasonBegun (s t : State) : Prop where
  tiles : t.tiles = []
  cells : t.store.cells = s.store.cells
  last : t.boot.lastReset = 6
  count : t.nv.resetSeason = s.nv.resetSeason + 1
  forced : ∀ k, k ≠ 0x410101 → NotDeferred t k
  held : t.frames.haltedHeld = false

theorem seasonTorn_cells (s : State) : (seasonTorn s).store.cells = s.store.cells :=
  Eq.trans (b := (loadMicrocode s).store.cells) rfl ((loadMicrocode_acts (Sub.refl _) (.refl s)).part .storeBytes)

theorem seasonTorn_resetSeason (s : State) : (seasonTorn s).nv.resetSeason = s.nv.resetSeason := by
  have torn : GoesOn s (seasonTorn s) := tearOpen_goesOn (seasonTiles_goesOn (loadMicrocode_goesOn (.refl s)))
  have counts := torn.resets
  simp only [resetCounts, Prod.mk.injEq] at counts
  obtain ⟨season, -⟩ := counts
  exact season

section

variable (s : State)

@[simp] theorem seasonCounted_tiles : (seasonCounted s).tiles = s.tiles := rfl
@[simp] theorem seasonCounted_store : (seasonCounted s).store = s.store := rfl
@[simp] theorem seasonCounted_mgmt : (seasonCounted s).mgmt = s.mgmt := rfl
@[simp] theorem seasonCounted_frames : (seasonCounted s).frames = s.frames := rfl
@[simp] theorem seasonCounted_resetSeason : (seasonCounted s).nv.resetSeason = s.nv.resetSeason + 1 := rfl

end

theorem seasonCounted_begun (s : State) : SeasonBegun s (seasonCounted (takeValues (clearSeason (seasonTorn s)))) := by
  have cells : (clearSeason (seasonTorn s)).store.cells = s.store.cells := seasonTorn_cells s
  have season : (clearSeason (seasonTorn s)).nv.resetSeason = s.nv.resetSeason := seasonTorn_resetSeason s
  have tiles : (clearSeason (seasonTorn s)).tiles = [] := rfl
  have held : (clearSeason (seasonTorn s)).frames.haltedHeld = false := rfl
  generalize clearSeason (seasonTorn s) = x at cells season tiles held ⊢
  have taken : GoesOn x (takeValues x) := takeValues_goesOn (.refl x)
  have counts := taken.resets
  simp only [resetCounts, Prod.mk.injEq] at counts
  obtain ⟨same, -⟩ := counts
  have acts := takeValues_acts (Sub.refl _) (.refl x)
  exact {
    tiles := by rw [seasonCounted_tiles, acts.part .tiles, tiles]
    cells := by rw [seasonCounted_store, acts.part .storeBytes, cells]
    last := rfl
    count := by rw [seasonCounted_resetSeason, same, season]
    forced := fun k ne => by rw [NotDeferred, seasonCounted_mgmt]; exact takeValues_notDeferred ne
    held := by rw [seasonCounted_frames, taken.held, held] }

theorem startSeason_begun {s x : State} (h : SeasonBegun s x) : SeasonBegun s (startSeason x) := by
  have goes : GoesOn x (startSeason x) := startSeason_goesOn (.refl x)
  have counts := goes.resets
  simp only [resetCounts, Prod.mk.injEq] at counts
  obtain ⟨season, -⟩ := counts
  have acts := startSeason_acts (Sub.refl _) (.refl x)
  have core : coreOf (startSeason x).boot = coreOf x.boot := acts.part .core
  have values : valuesOf (startSeason x).mgmt = valuesOf x.mgmt := acts.part .values
  simp only [coreOf, Prod.mk.injEq] at core
  simp only [valuesOf, Prod.mk.injEq] at values
  obtain ⟨-, forced⟩ := values
  obtain ⟨-, -, -, -, -, -, -, -, -, -, -, -, -, -, -, -, -, -, -, last⟩ := core
  refine ⟨(acts.part .tiles).trans h.tiles, Eq.trans (acts.part .storeBytes) h.cells, last.trans h.last,
    season.trans h.count, fun k ne => ?_, goes.held.trans h.held⟩
  rw [NotDeferred, forced]
  exact h.forced k ne

theorem seasonReset_begun {s : State} (unmarked : s.store.segMarked = []) : SeasonBegun s (seasonReset s) := by
  obtain e | e := seasonReset_unmarked unmarked
  · exact e ▸ seasonCounted_begun s
  · exact e ▸ startSeason_begun (seasonCounted_begun s)

end Sys2Proof.Laws

/-!
PROOF. The writes of resets, of the power target, of the current limit and of the tile clock (R70, R480, R481, R483, R539 to R541).
-/

namespace Sys2Proof.Laws

set_option Elab.async false

open Machine

/-! ### The rows, and what their checks say -/

/-- `SEASON_RESET`, OD 0x8001.01. -/
def seasonRow : OdRow := ⟨0x8001, 0x01, 1, 1, .operator, some .operator, true, 0, 0, 0, 1⟩

/-- `WARM_RESET`, OD 0x8001.02. -/
def warmRow : OdRow := ⟨0x8001, 0x02, 1, 1, .operator, some .installer, true, 0, 0, 0, 1⟩

/-- `POWER_TARGET`, OD 0x2000.02. -/
def targetRow : OdRow := ⟨0x2000, 0x02, 2, 1, .operator, some .operator, false, 0, 2, 1, 2⟩

/-- `CURRENT_LIMIT`, OD 0x2001.01. -/
def limitRow : OdRow := ⟨0x2001, 0x01, 2, 1, .operator, some .installer, false, 0, 60, 20, 70⟩

/-- The tile clock, OD 0x6001.04. -/
def clockRow : OdRow := ⟨0x6001, 0x04, 2, 1, .operator, some .operator, false, 0, 16, 4, 16⟩

theorem odRow_season : odRow 0x8001 1 = some seasonRow := by decide
theorem odRow_warm : odRow 0x8001 2 = some warmRow := by decide
theorem odRow_target : odRow 0x2000 2 = some targetRow := by decide
theorem odRow_limit : odRow 0x2001 1 = some limitRow := by decide
theorem odRow_clock : odRow 0x6001 4 = some clockRow := by decide

theorem leNat_byte {v : Nat} (h : v < 256) : leNat (leBytes 1 v) = v := leNat_leBytes h

section

variable {s : State} {v : Nat}

theorem writeStatus_season (idle : calBusy s = false) : writeStatus s seasonRow .maker 0 (leBytes 1 1) = odOk := by
  have range : rangeOk s seasonRow (leBytes 1 1) = true := rangeOk_of_bounds (k := 0x800101) rfl (by decide) rfl (by decide) (by decide)
  have free : stateRefuses s .maker 0x800101 (leBytes 1 1) = false := by
    simp only [stateRefuses, idle, Bool.and_false]
  rw [writeStatus_of_range rfl rfl range, show seasonRow.key = 0x800101 from rfl, free]
  rfl

theorem writeStatus_warm : writeStatus s warmRow .maker 0 (leBytes 1 1) = odOk := by
  have range : rangeOk s warmRow (leBytes 1 1) = true := rangeOk_of_bounds (k := 0x800102) rfl (by decide) rfl (by decide) (by decide)
  have free : stateRefuses s .maker 0x800102 (leBytes 1 1) = false := rfl
  rw [writeStatus_of_range rfl rfl range, show warmRow.key = 0x800102 from rfl, free]
  rfl

theorem writeStatus_target (lo : 1 ≤ v) (hi : v ≤ 2) : writeStatus s targetRow .maker 0 (leBytes 1 v) =
    if stateRefuses s .maker 0x200002 (leBytes 1 v) then odState else odOk := by
  have value : leNat (leBytes 1 v) = v := leNat_byte (by omega)
  have range : rangeOk s targetRow (leBytes 1 v) = true :=
    rangeOk_of_bounds (k := 0x200002) rfl (by decide) rfl (by rw [value]; exact lo) (by rw [value]; exact hi)
  exact writeStatus_of_range rfl (leBytes_length 1 v) range

/-- The value of an entry just after its write. -/
theorem odLatest_mset {k d : Nat} (small : v < 256) :
    odLatest { s with mgmt := { s.mgmt with latest := mset [] s.mgmt.latest k (leBytes 1 v) } } k d = v := by
  have held : mget [] (mset [] s.mgmt.latest k (leBytes 1 v)) k = leBytes 1 v := mget_mset_self (List.cons_ne_nil _ _)
  rw [odLatest, held]
  exact leNat_byte small

theorem odLatest_mset_other {k k' d : Nat} (ne : k' ≠ k) :
    odLatest { s with mgmt := { s.mgmt with latest := mset [] s.mgmt.latest k (leBytes 1 v) } } k' d = odLatest s k' d := by
  rw [odLatest, odLatest, mget_mset_other ne]

theorem writeStatus_limit (lo : 20 ≤ v) (hi : v ≤ 70) (below : v ≤ odLatest s 0x200102 70) :
    writeStatus s limitRow .maker 0 (leBytes 1 v) = odOk := by
  have value : leNat (leBytes 1 v) = v := leNat_byte (by omega)
  have constraints : constraintsOk { s with mgmt := { s.mgmt with latest := mset [] s.mgmt.latest 0x200101 (leBytes 1 v) } }
      0x200101 = true := by
    simp only [constraintsOk, odLatest_mset (show v < 256 by omega), odLatest_mset_other (show 0x200102 ≠ 0x200101 by decide),
      below, decide_true]
  have range := rangeOk_of_bounds (k := 0x200101) (r := limitRow) rfl (by decide) constraints (by rw [value]; exact lo)
    (by rw [value]; exact hi)
  have free : stateRefuses s .maker 0x200101 (leBytes 1 v) = false := rfl
  rw [writeStatus_of_range rfl (leBytes_length 1 v) range, show limitRow.key = 0x200101 from rfl, free]
  rfl

theorem writeStatus_clock (lo : 4 ≤ v) (hi : v ≤ 16) (above : odLatest s 0x600105 4 ≤ v) :
    writeStatus s clockRow .maker 0 (leBytes 1 v) = odOk := by
  have value : leNat (leBytes 1 v) = v := leNat_byte (by omega)
  have constraints : constraintsOk { s with mgmt := { s.mgmt with latest := mset [] s.mgmt.latest 0x600104 (leBytes 1 v) } }
      0x600104 = true := by
    simp only [constraintsOk, odLatest_mset (show v < 256 by omega), odLatest_mset_other (show 0x600105 ≠ 0x600104 by decide),
      above, decide_true]
  have range := rangeOk_of_bounds (k := 0x600104) (r := clockRow) rfl (by decide) constraints (by rw [value]; exact lo)
    (by rw [value]; exact hi)
  have free : stateRefuses s .maker 0x600104 (leBytes 1 v) = false := rfl
  rw [writeStatus_of_range rfl (leBytes_length 1 v) range, show clockRow.key = 0x600104 from rfl, free]
  rfl

end

/-! ### The Season reset (R540) -/

theorem execSeasonReset_eq {s : State} {q : OdReq} (h : MakerWrites s q) (ready : s.boot.ready = true)
    (stays : s.store.migrating = false) (idle : calBusy s = false) :
    execSeasonReset q 1 s = .next (respond q odOk [] (seasonReset s)) := by
  have run := odPut_plain (size := 1) h odRow_season (by decide) (writeStatus_season idle)
  have asked (old : List Byte) : odEffect 0x800101 (leBytes 1 1) old s = askSeason s := rfl
  rw [takeValue_of_wo _ _ rfl, show seasonRow.key = 0x800101 from rfl, asked, askSeason, if_pos ⟨ready, stays⟩] at run
  exact run

/-! ### Entering Standby (R480, R481) -/

theorem setPower_state (p : PState) (s : State) : (setPower p s).pow.state = p := by
  unfold setPower
  split
  case isTrue same => exact same
  case isFalse =>
    dsimp only
    exact (postEvent_acts (Sub.refl _) (.refl _)).part .powerState

section

variable {s : State}

theorem savePenalty_goesOn : GoesOn s (savePenalty s) := .onlyIf (.refl s) fun _ k => journalPut_goesOn k

theorem tearCommit_goesOn : GoesOn s (tearCommit s) := by
  unfold tearCommit
  split
  · split
    · exact .upd (.refl s) rfl rfl rfl rfl
    · exact .upd (.refl s) rfl rfl rfl rfl
  · exact .refl s

theorem tearUpdate_goesOn {x : State} (h : GoesOn s x) : GoesOn s (tearUpdate x) := by
  unfold tearUpdate
  dsimp only
  split
  · exact modImage_goesOn h
  · exact h

theorem clearVolatile_resets (s : State) : resetCounts (clearVolatile s).nv = resetCounts s.nv :=
  Eq.trans (b := resetCounts (tearUpdate (tearCommit s)).nv) rfl (tearUpdate_goesOn tearCommit_goesOn).resets

theorem clearVolatile_evt (s : State) : (clearVolatile s).health.evt = s.health.evt := by
  have torn : faultLogOf (tearUpdate (tearCommit s)).health = faultLogOf s.health :=
    (tearUpdate_acts (Sub.refl _) (tearCommit_acts (Sub.refl _) (.refl s))).part .faultLog
  simp only [faultLogOf, Prod.mk.injEq] at torn
  obtain ⟨-, -, -, -, -, evt⟩ := torn
  exact evt

/-! ### The Warm reset (R539, R541) -/

/-- Standby is entered, and the start may follow at once. -/
def standbyThen (starts : Bool) (s : State) : State := onlyIf starts beginStart (setPower .standby s)

theorem standbyThen_acts (starts : Bool) (s : State) : Acts 9126809793 s (standbyThen starts s) :=
  onlyIf_acts (setPower_acts ((Sub.refl _).mono (by decide)) (.refl s))
    fun _ k => k.trans (beginStart_acts ((Sub.refl _).mono (by decide)) (.refl _))

theorem standbyThen_state (starts : Bool) (s : State) : (standbyThen starts s).pow.state = .standby := by
  have entered := setPower_state .standby s
  unfold standbyThen onlyIf
  split
  · exact entered
  · exact entered

/-- What a Warm reset leaves (R541). -/
structure WarmStarted (cause : Nat) (s t : State) : Prop where
  last : t.boot.lastReset = cause
  hub : t.boot.hub = false
  state : t.pow.state = .standby
  count : t.nv.resetWarm = s.nv.resetWarm + 1
  faults : ∀ c, c ∉ sideCodes → faultCount t c = faultCount s c

/-- The reset is counted, and the measures of power and temperature begin afresh. -/
def warmCounted (cause : Nat) (s : State) : State :=
  { s with
    nv := { s.nv with resetWarm := s.nv.resetWarm + 1 }
    boot := { s.boot with lastReset := cause }
    pow := { s.pow with steps := 0, cap := 16, stretch := false, stretchAt := 0, stretched := 0, hotEpisode := false
                        current := {}, lowRun := 0, overRun := 0, shutdown := 0
                        diodes := mmapv {} (fun d => { d with bad := 0, failed := false }) s.pow.diodes } }

/-- The state in which everything outside the Vigil island has lost its state. -/
def warmCleared (s : State) : State := resetValues (clearVolatile (savePenalty s))

theorem warmReset_eq (cause : Nat) (s : State) :
    ∃ starts, warmReset cause s = standbyThen starts (warmCounted cause (warmCleared s)) := ⟨_, rfl⟩

theorem warmCleared_hub (s : State) : (warmCleared s).boot.hub = false := rfl

theorem warmCleared_resetWarm (s : State) : (warmCleared s).nv.resetWarm = s.nv.resetWarm := by
  have counts : resetCounts (warmCleared s).nv = resetCounts s.nv :=
    Eq.trans (clearVolatile_resets (savePenalty s)) savePenalty_goesOn.resets
  simp only [resetCounts, Prod.mk.injEq] at counts
  obtain ⟨-, warm⟩ := counts
  exact warm

theorem warmCleared_faultCount {c : Nat} (hc : c ∉ sideCodes) (s : State) : faultCount (warmCleared s) c = faultCount s c := by
  have saved : CountsOnly [] [] s (savePenalty s) := .onlyIf (.refl s) journalPut_counts
  have cleared : (warmCleared s).health.evt = (savePenalty s).health.evt := clearVolatile_evt (savePenalty s)
  rw [faultCount, cleared]
  exact saved.evt c hc (by simp)

theorem warmReset_started (cause : Nat) (s : State) : WarmStarted cause s (warmReset cause s) := by
  obtain ⟨starts, e⟩ := warmReset_eq cause s
  have hub := warmCleared_hub s
  have warm := warmCleared_resetWarm s
  have faults (c : Nat) (hc : c ∉ sideCodes) := warmCleared_faultCount hc s
  rw [e]
  generalize warmCleared s = x at hub warm faults ⊢
  have acts := standbyThen_acts starts (warmCounted cause x)
  have core : coreOf (standbyThen starts (warmCounted cause x)).boot = coreOf (warmCounted cause x).boot := acts.part .core
  have nv : (standbyThen starts (warmCounted cause x)).nv = (warmCounted cause x).nv := acts.part .nvStore
  have log : faultLogOf (standbyThen starts (warmCounted cause x)).health = faultLogOf x.health := acts.part .faultLog
  simp only [coreOf, Prod.mk.injEq] at core
  simp only [faultLogOf, Prod.mk.injEq] at log
  obtain ⟨-, -, -, -, -, -, -, -, -, -, -, -, -, -, -, hub', -, -, -, last⟩ := core
  obtain ⟨-, -, -, -, -, evt⟩ := log
  refine ⟨last, hub'.trans hub, standbyThen_state _ _, ?_, fun c hc => ?_⟩
  · rw [nv]
    exact congrArg (· + 1) warm
  · rw [← faults c hc, faultCount, evt, faultCount]

theorem execWarmReset_eq {q : OdReq} (h : MakerWrites s q) : ∃ j, execWarmReset q 1 s =
    .next (respond q odOk [] (warmReset 4 (raise 0xD020 0 (postEvent 3 0 0 warmRow.index warmRow.sub (journalPut j s))))) := by
  obtain ⟨j, run⟩ := odPut_audited (size := 1) h odRow_warm (by decide) (by decide) writeStatus_warm
  have effect (old : List Byte) (x : State) : odEffect 0x800102 (leBytes 1 1) old x = warmReset 4 (raise 0xD020 0 x) := rfl
  rw [takeValue_of_wo _ _ rfl, show warmRow.key = 0x800102 from rfl, effect] at run
  exact ⟨j, run⟩

/-! ### The power target (R480, R481) -/

/-- What entering Standby leaves (R481). -/
structure StandbyEntered (t : State) : Prop where
  state : t.pow.state = .standby
  hub : t.boot.hub = false
  link : t.host.linkUp = false
  rings : t.host.rings = []

theorem setPower_standby_cleared (s : State) : StandbyEntered (setPower .standby (clearVolatile s)) := by
  have hub : (clearVolatile s).boot.hub = false := rfl
  have link : (clearVolatile s).host.linkUp = false := rfl
  have rings : (clearVolatile s).host.rings = [] := rfl
  generalize clearVolatile s = x at hub link rings ⊢
  have acts := setPower_acts (a0 := .standby) (Sub.refl _) (.refl x)
  have core : coreOf (setPower .standby x).boot = coreOf x.boot := acts.part .core
  have port : hostLinkOf (setPower .standby x).host = hostLinkOf x.host := acts.part .hostLink
  have queues : ringsOf (setPower .standby x).host = ringsOf x.host := acts.part .rings
  simp only [coreOf, Prod.mk.injEq] at core
  simp only [hostLinkOf, Prod.mk.injEq] at port
  simp only [ringsOf, Prod.mk.injEq] at queues
  obtain ⟨-, -, -, -, -, -, -, -, -, -, -, -, -, -, -, hub', -⟩ := core
  obtain ⟨link', -⟩ := port
  obtain ⟨rings', -⟩ := queues
  exact ⟨setPower_state _ _, hub'.trans hub, link'.trans link, rings'.trans rings⟩

theorem enterStandby_entered (s : State) : StandbyEntered (enterStandby s) := by
  unfold enterStandby
  exact setPower_standby_cleared _

theorem powerTarget_standby (powered : s.pow.state = .ready ∨ s.pow.state = .run) : powerTarget 1 s = enterStandby s := by
  rw [powerTarget, if_pos rfl, if_pos (powered.imp_right .inl)]

theorem execPowerTargetStandby_eq {q : OdReq} (h : MakerWrites s q) (powered : s.pow.state = .ready ∨ s.pow.state = .run)
    (idle : calBusy s = false) (alone : s.twin.phase = 0) : ∃ x, x.out.od = s.out.od ∧
      execPowerTargetStandby q s = .next (respond q odOk [] (enterStandby x)) := by
  have served : s.pow.state ≠ .latched := by
    obtain on | on := powered
    · rw [on]; decide
    · rw [on]; decide
  have free : stateRefuses s .maker 0x200002 (leBytes 1 1) = false := by
    simp only [stateRefuses, served, idle, alone, ne_eq, not_true_eq_false, decide_false, Bool.or_self, Bool.and_false]
  have ok := writeStatus_target (s := s) (v := 1) le_rfl (by decide)
  rw [free] at ok
  have run := odPut_plain (size := 1) h odRow_target (by decide) ok
  have effect (old : List Byte) (x : State) : odEffect 0x200002 (leBytes 1 1) old x = powerTarget 1 x := rfl
  have stored := takeValue_acts (a0 := targetRow) (a1 := leBytes 1 1) (Sub.refl _) (.refl s)
  generalize takeValue s targetRow (leBytes 1 1) = x at run stored
  have same : x.pow.state = s.pow.state := stored.part .powerState
  rw [show targetRow.key = 0x200002 from rfl, effect, powerTarget_standby (by rwa [same])] at run
  exact ⟨x, stored.part .answers, run⟩

theorem execPowerTargetStandby_busy {q : OdReq} (h : MakerWrites s q) (powered : s.pow.state = .ready ∨ s.pow.state = .run)
    (busy : calBusy s = true) : execPowerTargetStandby q s = .next (respond q odState [] s) := by
  have value : leNat (leBytes 1 1) = 1 := rfl
  have refuses : stateRefuses s .maker 0x200002 (leBytes 1 1) = true := by
    simp only [stateRefuses, value, powered, busy, decide_true, Bool.true_or, Bool.and_self, Bool.or_true]
  have refused := writeStatus_target (s := s) (v := 1) le_rfl (by decide)
  rw [refuses] at refused
  exact odPut_plain_refused (size := 1) h odRow_target (by decide) refused

/-- Vigil serves the write, in a session of the Maker role (R456, R482). -/
structure VigilWrites (s : State) (q : OdReq) : Prop where
  vigil : serverOf s q.via = some true
  form : q.bad = false
  whole : identityOnly s = false
  role : (roleOf s q true).map Prod.fst = some .maker

theorem powerTarget_ready (off : s.pow.state = .standby) (rails : s.pow.railsOk = true) (idle : s.boot.starting = false)
    (free : s.boot.blocked = false) (image : s.boot.bootBlocked = false) : powerTarget 2 s = beginStart s := by
  rw [powerTarget, if_neg (by decide), if_pos ⟨off, rails, idle, free, image⟩]

theorem execPowerTargetReady_eq {q : OdReq} (h : VigilWrites s q) (off : s.pow.state = .standby) :
    execPowerTargetReady q s = .next (respond q odOk [] (powerTarget 2 (takeValue s targetRow (leBytes 1 2)))) := by
  obtain ⟨⟨role, fp⟩, hrole, rfl⟩ := Option.map_eq_some_iff.mp h.role
  have served : s.pow.state ≠ .latched := by rw [off]; decide
  have value : leNat (leBytes 1 2) = 2 := rfl
  have free : stateRefuses s .maker 0x200002 (leBytes 1 2) = false := by
    simp [stateRefuses, served, value]
  have ok := writeStatus_target (s := s) (v := 2) (by decide) le_rfl
  rw [free] at ok
  have plain : isAudited targetRow = false := by decide
  have writes : vigilWrites (odKey 0x2000 2) s = true := by
    rw [vigilWrites, h.whole]
    decide
  have run : execPowerTargetReady q s = .next (writeAs q targetRow .maker fp 0 (leBytes 1 2) s) := by
    simp only [execPowerTargetReady, odPut, odWrite, serve, h.vigil, h.form, writes, hrole, odRow_target, Bool.not_true,
      Bool.and_false, Bool.false_eq_true, if_false]
  have effect (old : List Byte) (x : State) : odEffect 0x200002 (leBytes 1 2) old x = powerTarget 2 x := rfl
  have key : targetRow.key = 0x200002 := rfl
  rw [run, writeAs]
  simp only [plain, ok, acceptWrite, key, effect, onlyIf, Bool.false_eq_true, if_false, decide_true, if_true]

/-! ### Values that come into force at once (R70, R483) -/

theorem takeValue_atOnce {r : OdRow} {data : List Byte} (reads : r.wo = false) (atOnce : r.apply = 0) (ne : r.key ≠ 0x400001) :
    valuesOf (takeValue s r data).mgmt = (mset [] s.mgmt.latest r.key data, s.mgmt.inForce) := by
  simp only [takeValue, reads, atOnce, ne, ne_eq, not_true_eq_false, decide_false, Bool.false_and, Bool.or_self, Bool.false_eq_true,
    if_false]

/-- The value in force of an entry whose latest value has just been written. -/
theorem odNum_written {t : State} {k d v : Nat} (small : v < 256) (free : NotDeferred s k)
    (values : valuesOf t.mgmt = (mset [] s.mgmt.latest k (leBytes 1 v), s.mgmt.inForce)) : odNum t k d = v := by
  simp only [valuesOf, Prod.mk.injEq] at values
  obtain ⟨latest, forced⟩ := values
  have none_waits : mget [] t.mgmt.inForce k = [] := by rw [forced]; exact free
  have held : mget [] t.mgmt.latest k = leBytes 1 v := by rw [latest]; exact mget_mset_self (List.cons_ne_nil _ _)
  rw [odNum, none_waits, odLatest, held]
  exact leNat_byte small

/-- After the write of the current limit: its value is the latest one, and the measures of power are as they were. -/
theorem execCurrentLimit_eq {q : OdReq} {v : Byte} (h : MakerWrites s q) (lo : 20 ≤ v.toNat) (hi : v.toNat ≤ 70)
    (below : v.toNat ≤ odLatest s 0x200102 70) : ∃ x, execCurrentLimit q v s = .next (respond q odOk [] x) ∧
      x.out.od = s.out.od ∧ valuesOf x.mgmt = (mset [] s.mgmt.latest 0x200101 (leBytes 1 v.toNat), s.mgmt.inForce) ∧
      sensorsOf x.pow = sensorsOf s.pow ∧ clocksOf x.pow = clocksOf s.pow := by
  obtain ⟨j, run⟩ := odPut_audited (size := 1) h odRow_limit (by decide) (by decide) (writeStatus_limit lo hi below)
  have effect (d old : List Byte) (x : State) : odEffect 0x200101 d old x = x := rfl
  rw [show limitRow.key = 0x200101 from rfl, effect] at run
  have recorded := journalPut_acts (a0 := j) (Sub.refl _) (.refl s)
  have stored := takeValue_acts (a0 := limitRow) (a1 := leBytes 1 v.toNat) (Sub.refl _) (.refl (journalPut j s))
  have told := postEvent_acts (a0 := 3) (a1 := 0) (a2 := 0) (a3 := limitRow.index) (a4 := limitRow.sub) (Sub.refl _)
    (.refl (takeValue (journalPut j s) limitRow (leBytes 1 v.toNat)))
  have written := takeValue_atOnce (s := journalPut j s) (r := limitRow) (data := leBytes 1 v.toNat) rfl rfl (by decide)
  generalize takeValue (journalPut j s) limitRow (leBytes 1 v.toNat) = y at run stored told written
  generalize journalPut j s = w at recorded stored written
  have before : valuesOf w.mgmt = valuesOf s.mgmt := recorded.part .values
  have after : valuesOf (postEvent 3 0 0 limitRow.index limitRow.sub y).mgmt = valuesOf y.mgmt := told.part .values
  simp only [valuesOf, Prod.mk.injEq] at before
  obtain ⟨latest, forced⟩ := before
  refine ⟨_, run, ?_, ?_, ?_, ?_⟩
  · exact ((told.part .answers).trans (stored.part .answers)).trans (recorded.part .answers)
  · rw [after, written, latest, forced]
    rfl
  · exact ((told.part .sensors).trans (stored.part .sensors)).trans (recorded.part .sensors)
  · exact ((told.part .clocks).trans (stored.part .clocks)).trans (recorded.part .clocks)

theorem execTileClock_eq {q : OdReq} {v : Byte} (h : MakerWrites s q) (lo : 4 ≤ v.toNat) (hi : v.toNat ≤ 16)
    (above : odLatest s 0x600105 4 ≤ v.toNat) : ∃ x, execTileClock q v s = .next (respond q odOk [] x) ∧
      x.out.od = s.out.od ∧ valuesOf x.mgmt = (mset [] s.mgmt.latest 0x600104 (leBytes 1 v.toNat), s.mgmt.inForce) ∧
      clocksOf x.pow = clocksOf s.pow := by
  have run := odPut_plain (size := 1) h odRow_clock (by decide) (writeStatus_clock lo hi above)
  have effect (d old : List Byte) (x : State) : odEffect 0x600104 d old x = x := rfl
  rw [show clockRow.key = 0x600104 from rfl, effect] at run
  have stored := takeValue_acts (a0 := clockRow) (a1 := leBytes 1 v.toNat) (Sub.refl _) (.refl s)
  have written := takeValue_atOnce (s := s) (r := clockRow) (data := leBytes 1 v.toNat) rfl rfl (by decide)
  exact ⟨_, run, stored.part .answers, written, stored.part .clocks⟩

end

/-! ### The obligation, clause by clause -/

section

variable {s : State} {q : OdReq}

theorem seasonReset_takesEffect (h : MakerWrites s q) (ready : s.boot.ready = true) (stays : s.store.migrating = false)
    (idle : calBusy s = false) (unmarked : s.store.segMarked = []) : Gives (.seasonReset q 1) s (fun t =>
      t.tiles = [] ∧ t.store.cells = s.store.cells ∧ t.boot.lastReset = 6 ∧ t.nv.resetSeason = s.nv.resetSeason + 1 ∧
        (∀ k, k ≠ 0x410101 → NotDeferred t k) ∧ t.frames.haltedHeld = false ∧ Answers q odOk [] s t) := by
  have begun := seasonReset_begun unmarked
  have unanswered : (seasonReset s).out.od = s.out.od := (seasonReset_acts (Sub.refl _) (.refl s)).part .answers
  have step := execSeasonReset_eq h ready stays idle
  generalize seasonReset s = x at begun unanswered step
  exact ⟨_, step, begun.tiles, begun.cells, begun.last, begun.count, begun.forced, begun.held, respond_answers _ _ unanswered⟩

theorem warmReset_takesEffect (h : MakerWrites s q) : Gives (.warmReset q 1) s (fun t => t.boot.lastReset = 4 ∧
    t.nv.resetWarm = s.nv.resetWarm + 1 ∧ t.pow.state = .standby ∧ t.boot.hub = false ∧ Raised 0xD020 s t ∧
      Answers q odOk [] s t) := by
  obtain ⟨j, step⟩ := execWarmReset_eq h
  have recorded : CountsOnly [] [] s (postEvent 3 0 0 warmRow.index warmRow.sub (journalPut j s)) :=
    .acts (postEvent_acts (Sub.refl _) (.refl _)) (journalPut_counts (.refl s))
  have goes : GoesOn s (postEvent 3 0 0 warmRow.index warmRow.sub (journalPut j s)) :=
    .acts (postEvent_acts (Sub.refl _) (.refl _)) (journalPut_goesOn (.refl s))
  have unanswered : (postEvent 3 0 0 warmRow.index warmRow.sub (journalPut j s)).out.od = s.out.od :=
    Eq.trans ((postEvent_acts (Sub.refl _) (.refl _)).part .answers) ((journalPut_acts (Sub.refl _) (.refl s)).part .answers)
  generalize postEvent 3 0 0 warmRow.index warmRow.sub (journalPut j s) = y at step recorded goes unanswered
  have raised : Raised 0xD020 s (raise 0xD020 0 y) := recorded.then_raised (raise_raised 0 y)
  have counts := (raise_goesOn (code := 0xD020) (ctx := 0) goes).resets
  have silent : (raise 0xD020 0 y).out.od = s.out.od :=
    Eq.trans ((raise_acts (Sub.refl _) (.refl y)).part .answers) unanswered
  generalize raise 0xD020 0 y = z at step raised counts silent
  have started := warmReset_started 4 z
  have quiet : (warmReset 4 z).out.od = s.out.od := Eq.trans ((warmReset_acts (Sub.refl _) (.refl z)).part .answers) silent
  simp only [resetCounts, Prod.mk.injEq] at counts
  obtain ⟨-, warm⟩ := counts
  have same := started.faults 0xD020 (by decide)
  generalize warmReset 4 z = t at step started quiet same
  exact ⟨_, step, started.last, started.count.trans (congrArg (· + 1) warm), started.state, started.hub, same.trans raised,
    respond_answers _ _ quiet⟩

theorem standby_takesEffect (h : MakerWrites s q) (powered : s.pow.state = .ready ∨ s.pow.state = .run)
    (idle : calBusy s = false) (alone : s.twin.phase = 0) : Gives (.powerTargetStandby q) s (fun t =>
      t.pow.state = .standby ∧ t.boot.hub = false ∧ t.host.linkUp = false ∧ t.host.rings = [] ∧ Answers q odOk [] s t) := by
  obtain ⟨x, same, step⟩ := execPowerTargetStandby_eq h powered idle alone
  have entered := enterStandby_entered x
  have unanswered : (enterStandby x).out.od = s.out.od := Eq.trans ((enterStandby_acts (Sub.refl _) (.refl x)).part .answers) same
  generalize enterStandby x = y at step entered unanswered
  exact ⟨_, step, entered.state, entered.hub, entered.link, entered.rings, respond_answers _ _ unanswered⟩

theorem readyTarget_takesEffect (h : VigilWrites s q) (off : s.pow.state = .standby) (rails : s.pow.railsOk = true)
    (idle : s.boot.starting = false) (free : s.boot.blocked = false) (image : s.boot.bootBlocked = false) :
    Gives (.powerTargetReady q) s (fun t => t.boot.starting = true ∧ t.pow.state = .standby ∧ Answers q odOk [] s t) := by
  have step := execPowerTargetReady_eq h off
  have stored : (takeValue s targetRow (leBytes 1 2)).pow = s.pow ∧ (takeValue s targetRow (leBytes 1 2)).boot = s.boot ∧
    (takeValue s targetRow (leBytes 1 2)).out = s.out := ⟨rfl, rfl, rfl⟩
  obtain ⟨pow, boot, out⟩ := stored
  generalize takeValue s targetRow (leBytes 1 2) = x at step pow boot out
  rw [powerTarget_ready (by rw [pow, off]) (by rw [pow, rails]) (by rw [boot, idle]) (by rw [boot, free]) (by rw [boot, image])]
    at step
  exact ⟨_, step, rfl, (congrArg Power.state pow).trans off, respond_answers _ _ (congrArg (·.od) out)⟩

theorem currentLimit_takesEffect {v : Byte} (h : MakerWrites s q) (free : NotDeferred s 0x200101) (lo : 20 ≤ v.toNat)
    (hi : v.toNat ≤ 70) (below : v.toNat ≤ odLatest s 0x200102 70) : Gives (.currentLimit q v) s (fun t => Answers q odOk [] s t ∧
      limitAmps t = max 6 (min v.toNat (875 * fscCount s / 100) - 2 * s.pow.steps)) := by
  obtain ⟨x, step, unanswered, values, sensors, clocks⟩ := execCurrentLimit_eq h lo hi below
  simp only [sensorsOf, Prod.mk.injEq] at sensors
  simp only [clocksOf, Prod.mk.injEq] at clocks
  obtain ⟨-, -, converters, -⟩ := sensors
  obtain ⟨-, steps, -⟩ := clocks
  have limit : limitAmps x = max 6 (min v.toNat (875 * fscCount s / 100) - 2 * s.pow.steps) := by
    rw [limitAmps, odNum_written v.isLt free values, fscCount, converters, steps, fscCount]
  exact ⟨_, step, respond_answers _ _ unanswered, limit⟩

theorem tileClock_takesEffect {v : Byte} (h : MakerWrites s q) (free : NotDeferred s 0x600104) (hi : v.toNat ≤ 16)
    (lo : 4 ≤ v.toNat) (above : odLatest s 0x600105 4 ≤ v.toNat) : Gives (.tileClock q v) s (fun t => Answers q odOk [] s t ∧
      clockTarget t = min v.toNat s.pow.cap) := by
  obtain ⟨x, step, unanswered, values, clocks⟩ := execTileClock_eq h lo hi above
  simp only [clocksOf, Prod.mk.injEq] at clocks
  obtain ⟨cap, -⟩ := clocks
  have target : clockTarget x = min v.toNat s.pow.cap := by rw [clockTarget, odNum_written v.isLt free values, cap]
  exact ⟨_, step, respond_answers _ _ unanswered, target⟩

end

/-- Settles O18, clause by clause: each write passes its checks, its effect leaves what the chapter says, and one answer goes out. -/
theorem resetAndPowerWritesTakeEffect : Obligations.ResetAndPowerWritesTakeEffect := by
  intro s q form
  refine ⟨seasonReset_takesEffect, warmReset_takesEffect, standby_takesEffect, fun h powered busy => ?_,
    fun vigil whole role off rails idle free image => readyTarget_takesEffect ⟨vigil, form, whole, role⟩ off rails idle free image,
    fun v => currentLimit_takesEffect, fun v => tileClock_takesEffect⟩
  exact ⟨_, execPowerTargetStandby_busy h powered busy, rfl, respond_answers _ _ rfl⟩

end Sys2Proof.Laws

/-!
PROOF. Integer sums and elements at their near place (R103, R116, R266, R267).
-/

namespace Sys2Proof.Laws

open Machine

/-! ### INT32 encodings (R116, item 5) -/

theorem intEnc_lt (x : Int) : intEnc 10 x < 2 ^ 32 := by
  simp only [intEnc, fmtWidth]
  omega

theorem intEnc_signed {v : Nat} (h : v < 2 ^ 32) : intEnc 10 (signed 32 v) = v := by
  simp only [intEnc, signed, fmtWidth]
  split <;> omega

/-- Adding to a wrapped accumulator and wrapping again is wrapping the exact sum. -/
theorem intEnc_signed_add (x y : Int) : intEnc 10 (signed 32 (intEnc 10 x) + y) = intEnc 10 (x + y) := by
  simp only [intEnc, signed, fmtWidth]
  split <;> omega

/-! ### Groups (R116, item 1) -/

theorem flatten_chunks {α : Type} (k n : Nat) (l : List α) :
    ((List.range n).map (fun i => (l.drop (i * k)).take k)).flatten = l.take (n * k) := by
  induction n with
  | zero => simp
  | succ n ih => rw [List.range_succ, List.map_append, List.flatten_append, ih, Nat.succ_mul, List.take_add]; simp

theorem flatten_inGroups {α : Type} {k : Nat} (h : 0 < k) (l : List α) : (inGroups k l).flatten = l := by
  have all : l.length ≤ ceilDiv l.length k * k := by
    have := Nat.lt_div_mul_add (a := l.length + k - 1) h
    rw [ceilDiv]
    omega
  rw [inGroups, flatten_chunks, List.take_of_length_le all]

/-! ### The accumulator of an unscaled integer pass (R116, item 5) -/

/-- One group of products added to the accumulator: its encoding, and the flags so far. -/
def addIntGroup (acc : Nat × Nat) (g : List Int) : Nat × Nat :=
  let x := signed 32 acc.1 + g.foldl (· + ·) 0
  (intEnc 10 x, acc.2 ||| (if x < -2 ^ 31 ∨ 2 ^ 31 ≤ x then fIntWrap else 0))

theorem accumulateInt_eq (init : Nat) (v col : List Val) : accumulateInt init v col =
    (inGroups 32 (List.zipWith (fun a b => valIntOf a * valIntOf b) v col)).foldl addIntGroup (init, 0) := rfl

theorem addIntGroup_fst (acc : Nat × Nat) (g : List Int) : (addIntGroup acc g).1 = intEnc 10 (signed 32 acc.1 + g.sum) := by
  rw [addIntGroup, List.sum_eq_foldl]

/-- However the products are grouped, the accumulator wraps their sum once. -/
theorem foldl_addIntGroup_fst (gs : List (List Int)) {acc : Nat × Nat} (h : acc.1 < 2 ^ 32) :
    (gs.foldl addIntGroup acc).1 = intEnc 10 (signed 32 acc.1 + gs.flatten.sum) := by
  induction gs generalizing acc with
  | nil => simpa using (intEnc_signed h).symm
  | cons g gs ih =>
    rw [List.foldl_cons, ih (intEnc_lt _), addIntGroup_fst, intEnc_signed_add, List.flatten_cons, List.sum_append, add_assoc]

theorem accumulateInt_fst {init : Nat} (h : init < 2 ^ 32) (v col : List Val) : (accumulateInt init v col).1 =
    intEnc 10 (signed 32 init + (List.zipWith (fun a b => valIntOf a * valIntOf b) v col).foldl (· + ·) 0) := by
  rw [accumulateInt_eq, foldl_addIntGroup_fst _ h, flatten_inGroups (by decide), List.sum_eq_foldl]

/-! ### Bytes written to a tile buffer -/

theorem mput_ne_nil {α : Type} (m : SMap α) (a : Nat) (v : α) : mput m a v ≠ [] := by
  intro e
  have found := mfind_mput_self m a v
  rw [e] at found
  cases found

theorem mfind_mput_other {α : Type} (m : SMap α) {a b : Nat} (v : α) (h : b ≠ a) : mfind (mput m a v) b = mfind m b := by
  induction m with
  | nil => simp [mput, mfind, h]
  | cons x m ih =>
    obtain ⟨k, w⟩ := x
    unfold mput
    split
    case isTrue e => simp [mfind, ← e, h]
    case isFalse =>
      split
      · simp [mfind, h]
      · simp [mfind, ih]

/-- A buffer's table with bytes listed from an address up. -/
def putBytesAt (m : SMap Byte) : Nat → List Byte → SMap Byte
  | _, [] => m
  | a, b :: l => putBytesAt (mput m a b) (a + 1) l

theorem foldl_zipIdx_mput (l : List Byte) (a k : Nat) (m : SMap Byte) :
    (l.zipIdx k).foldl (fun m x => mput m (a + x.2) x.1) m = putBytesAt m (a + k) l := by
  induction l generalizing k m with
  | nil => rfl
  | cons b l ih => rw [List.zipIdx_cons, List.foldl_cons, ih, putBytesAt, Nat.add_assoc]

theorem bufWrite_eq (t a : Nat) (l : List Byte) (s : State) :
    bufWrite t a l s = modKeep t (fun k => { k with buf := putBytesAt k.buf a l }) s := by
  simp only [bufWrite, foldl_zipIdx_mput, Nat.add_zero]

theorem putBytesAt_ne_nil {m : SMap Byte} {a : Nat} {l : List Byte} (h : l ≠ []) : putBytesAt m a l ≠ [] := by
  induction l generalizing m a with
  | nil => exact absurd rfl h
  | cons b l ih =>
    cases l with
    | nil => exact mput_ne_nil m a b
    | cons c l => exact ih (List.cons_ne_nil c l)

theorem mfind_putBytesAt_below {m : SMap Byte} {a b : Nat} (l : List Byte) (h : b < a) :
    mfind (putBytesAt m a l) b = mfind m b := by
  induction l generalizing m a with
  | nil => rfl
  | cons c l ih => rw [putBytesAt, ih (by omega), mfind_mput_other m c (by omega)]

theorem mfind_putBytesAt {m : SMap Byte} {a i : Nat} {l : List Byte} (h : i < l.length) :
    mfind (putBytesAt m a l) (a + i) = some l[i] := by
  induction l generalizing m a i with
  | nil => cases h
  | cons b l ih =>
    rw [putBytesAt]
    cases i with
    | zero => rw [mfind_putBytesAt_below l (by omega)]; exact mfind_mput_self m a b
    | succ i =>
      rw [show a + (i + 1) = a + 1 + i by omega]
      exact ih (Nat.lt_of_succ_lt_succ h)

theorem keepOf_bufWrite (t a : Nat) {l : List Byte} (s : State) (h : l ≠ []) :
    keepOf (bufWrite t a l s) t = { keepOf s t with buf := putBytesAt (keepOf s t).buf a l } := by
  rw [bufWrite_eq]
  exact keepOf_modKeep_self t _ s fun e => putBytesAt_ne_nil h (congrArg TileKeep.buf e)

/-- A byte that was written reads back. -/
theorem bufByte_bufWrite (t a : Nat) {i : Nat} {l : List Byte} (s : State) (h : i < l.length) :
    bufByte (bufWrite t a l s) t (a + i) = l[i] := by
  rw [bufByte, keepOf_bufWrite t a s (List.ne_nil_of_length_pos (by omega)), mfind_putBytesAt h]

/-- A masked write replaces the bits under the mask and keeps the others. -/
theorem bufByte_bufWriteMasked (t a : Nat) {i : Nat} {cells : List (Byte × Byte)} (s : State) (h : i < cells.length) :
    bufByte (bufWriteMasked t a cells s) t (a + i) =
      (bufByte s t (a + i) &&& ~~~cells[i].2) ||| (cells[i].1 &&& cells[i].2) := by
  rw [bufWriteMasked, bufByte_bufWrite t a s (by simpa using h)]
  simp

/-! ### Bits of bytes (R8, R103) -/

theorem getLsbD_leBytes {n v i j : Nat} (hi : i < (leBytes n v).length) (hj : j < 8) :
    (leBytes n v)[i].getLsbD j = v.testBit (8 * i + j) := by
  induction n generalizing v i with
  | zero => cases hi
  | succ n ih =>
    cases i with
    | zero => simp [leBytes, BitVec.getLsbD_ofNat, hj, -BitVec.getLsbD_eq_getElem]
    | succ i =>
      have rest := ih (v := v / 2 ^ 8) (Nat.lt_of_succ_lt_succ hi)
      rw [Nat.testBit_div_two_pow, show 8 * i + j + 8 = 8 * (i + 1) + j by omega] at rest
      exact rest

theorem testBit_leNat (l : List Byte) (k : Nat) : (leNat l).testBit k = (l.getD (k / 8) 0).getLsbD (k % 8) := by
  induction l generalizing k with
  | nil => simp [leNat]
  | cons b l ih =>
    rw [leNat, Nat.add_comm, show 256 = 2 ^ 8 from rfl, Nat.testBit_two_pow_mul_add _ b.isLt]
    split
    case isTrue low => rw [Nat.div_eq_of_lt low, Nat.mod_eq_of_lt low]; rfl
    case isFalse high =>
      rw [ih, show k / 8 = (k - 8) / 8 + 1 by omega, show k % 8 = (k - 8) % 8 by omega]
      rfl

theorem testBit_leNat_bufBytes (s : State) (t a : Nat) {n k : Nat} (h : k < 8 * n) :
    (leNat (bufBytes s t a n)).testBit k = (bufByte s t (a + k / 8)).getLsbD (k % 8) := by
  rw [testBit_leNat, bufBytes, List.getD_eq_getElem _ _ (by simp; omega)]
  simp

/-- An element that starts in the first byte of a string and ends in its last is the number of its bits. -/
theorem testBit_bitsAt {l : List Byte} {o w : Nat} (ho : o < 8) (h : l.length = (o + w + 7) / 8) (j : Nat) :
    (bitsAt l o w).testBit j = (decide (j < w) && (leNat l).testBit (o + j)) := by
  have whole : slice l (o / 8) ((o % 8 + w + 7) / 8) = l := by
    rw [slice, Nat.div_eq_of_lt ho, Nat.mod_eq_of_lt ho, List.drop_zero, List.take_of_length_le h.le]
  rw [bitsAt, whole, Nat.mod_eq_of_lt ho, Nat.testBit_mod_two_pow, Nat.testBit_div_two_pow, Nat.add_comm j]

theorem bitCells_length (o w v : Nat) : (bitCells o w v).length = (o + w + 7) / 8 := by
  simp [bitCells, leBytes_length]

/-- The masks of an element's cells select its bits, and the bytes hold them. -/
theorem getLsbD_bitCells {o w v i j b : Nat} (hi : i < (bitCells o w v).length) (hj : j < 8) (hb : 8 * i + j = o + b) (h : b < w) :
    (bitCells o w v)[i].2.getLsbD j = true ∧ (bitCells o w v)[i].1.getLsbD j = v.testBit b := by
  have n := bitCells_length o w v
  simp only [bitCells, List.getElem_zip]
  rw [getLsbD_leBytes (by rw [leBytes_length]; omega) hj, getLsbD_leBytes (by rw [leBytes_length]; omega) hj, hb]
  simp [Nat.testBit_mul_two_pow, Nat.testBit_two_pow_sub_one, Nat.testBit_mod_two_pow, h]

/-! ### Elements at their near place (R103, R266) -/

/-- A bit of an element that was written, in the byte where it stands. -/
theorem getLsbD_bufByte_bitCells (t a : Nat) {o w b : Nat} (v : Nat) (s : State) (h : b < w) :
    (bufByte (bufWriteMasked t a (bitCells o w v) s) t (a + (o + b) / 8)).getLsbD ((o + b) % 8) = v.testBit b := by
  have inside : (o + b) / 8 < (bitCells o w v).length := by rw [bitCells_length]; omega
  obtain ⟨mask, value⟩ := getLsbD_bitCells inside (Nat.mod_lt _ (by decide)) (Nat.div_add_mod (o + b) 8) h
  rw [bufByte_bufWriteMasked t a s inside, BitVec.getLsbD_or, BitVec.getLsbD_and, BitVec.getLsbD_and, BitVec.getLsbD_not, mask, value]
  simp

/-- The low bits of what was written at a bit offset read back, over whatever the buffer held. -/
theorem bitsAt_bufWriteMasked (t a : Nat) {o w n : Nat} (v : Nat) (s : State) (ho : o < 8) (h : n ≤ w) :
    bitsAt (bufBytes (bufWriteMasked t a (bitCells o w v) s) t a ((o + n + 7) / 8)) o n = v % 2 ^ n := by
  refine Nat.eq_of_testBit_eq fun j => ?_
  rw [testBit_bitsAt ho (by simp [bufBytes]), Nat.testBit_mod_two_pow]
  by_cases hj : j < n
  · rw [testBit_leNat_bufBytes _ t a (by omega), getLsbD_bufByte_bitCells t a v s (by omega)]
  · simp [hj]

theorem nearBit_lt (d : StreamD) (n : Nat) : (nearBit d n).2 < 8 := Nat.mod_lt _ (by decide)

theorem nearRead_nearWrite (s : State) (t : Nat) (d : StreamD) (n enc : Nat) :
    nearRead (nearWrite t d n enc s) t d n = enc % 2 ^ fmtWidth (nearFmt d) :=
  (bitsAt_bufWriteMasked t _ _ s (nearBit_lt d n) (Nat.le_add_right _ _)).trans (Nat.mod_mod _ _)

/-- Settles O33: the sum by induction on the groups, whose concatenation is the list of products; the element bit by bit. -/
theorem sumsWrapOnceAndNearElementsReadBack : Obligations.SumsWrapOnceAndNearElementsReadBack :=
  ⟨fun _ v col h => accumulateInt_fst h v col, nearRead_nearWrite⟩

end Sys2Proof.Laws

/-!
PROOF. Tally checks (R146 to R149, R151 to R153, R157): what a stopped pass counts, whether it is replayed, fails or retires its
array, and what a mismatch charges to the array.
-/

namespace Sys2Proof.Laws

set_option Elab.async false

open Machine

/-! ### What a stopped pass counts -/

/-- The tile's `MISMATCH`, once it has counted, stays: the entry of a tile that has counted is never the unlisted one. -/
def KeepsMismatch (t : Nat) (s u : State) : Prop :=
  (keepOf s t).mismatch ≠ 0 → (keepOf u t).mismatch = (keepOf s t).mismatch

/-- The pass stops with one Corrected fault; no other fault but those of `codes` is detected. -/
structure StopsPass (code t : Nat) (codes : List Nat) (s u : State) : Prop where
  mismatch : KeepsMismatch t s u
  corr : corrOf u code = corrOf s code + 1
  evt : ∀ c, c ∉ sideCodes → c ≠ code → c ∉ codes → faultCount u c = faultCount s c
  cnt : ∀ k, k ∉ sideKeys → cntOf u k = cntOf s k

section

variable {code t a : Nat} {codes : List Nat} {r : PassRun} {s x u : State}

theorem KeepsMismatch.of_tkeep (h : u.tkeep = s.tkeep) : KeepsMismatch t s u := fun _ => by rw [keepOf_of_tkeep h]

theorem KeepsMismatch.trans (h : KeepsMismatch t s x) (k : KeepsMismatch t x u) : KeepsMismatch t s u := fun counted =>
  (k (by rwa [h counted])).trans (h counted)

theorem CountsOnly.mono {codes' keys : List Nat} (h : CountsOnly codes keys s u) (sub : codes ⊆ codes') :
    CountsOnly codes' keys s u := ⟨fun c hs hc => h.evt c hs fun mem => hc (sub mem), h.corr, h.cnt⟩

namespace StopsPass

theorem mono {codes' : List Nat} (h : StopsPass code t codes s u) (sub : codes ⊆ codes') : StopsPass code t codes' s u :=
  { h with evt := fun c hs hc hn => h.evt c hs hc fun mem => hn (sub mem) }

/-- What came before the fault counted no more than `codes`. -/
theorem after (h : StopsPass code t codes x u) (k : CountsOnly codes [] s x) (keep : KeepsMismatch t s x) :
    StopsPass code t codes s u where
  mismatch := keep.trans h.mismatch
  corr := by rw [h.corr, corrOf, corrOf, k.corr]
  evt c hs hc hn := (h.evt c hs hc hn).trans (k.evt c hs hn)
  cnt key hk := (h.cnt key hk).trans (k.cnt key hk List.not_mem_nil)

/-- What comes after the fault counts no more than `codes`. -/
theorem later (h : StopsPass code t codes s x) (k : CountsOnly codes [] x u) (keep : KeepsMismatch t x u) :
    StopsPass code t codes s u where
  mismatch := h.mismatch.trans keep
  corr := by rw [corrOf, k.corr]; exact h.corr
  evt c hs hc hn := (k.evt c hs hn).trans (h.evt c hs hc hn)
  cnt key hk := (k.cnt key hk List.not_mem_nil).trans (h.cnt key hk)

/-- An operation outside the fault log and the tile's buffers may follow. -/
theorem acts {L : Nat} (h : StopsPass code t codes s x) (k : Acts L x u) (log : L.testBit 31 = false := by decide)
    (buffers : L.testBit (Part.index .buffers) = false := by decide) : StopsPass code t codes s u :=
  h.later (.acts k (.refl x) log) (.of_tkeep (k.part .buffers buffers))

end StopsPass

/-- Writing the buffer leaves a `MISMATCH` that has counted. -/
theorem discardStaging_keepsMismatch (t a : Nat) (r : PassRun) (s : State) : KeepsMismatch t s (discardStaging t a r s) :=
  fun counted => by
    rw [discardStaging, bufOpen, keepOf_freshen, bufWrite, keepOf_modKeep_self]
    · rfl
    · exact fun none_ => counted (congrArg TileKeep.mismatch none_)

theorem discardStaging_counts : CountsOnly codes [] s (discardStaging t a r s) :=
  .acts (discardStaging_acts (Sub.refl _) (.refl s)) (.refl s)

/-- The fault of a pass is counted once, logged again or not (R72, R532). -/
theorem passFault_stops (i pos : Nat) (always : Bool) (s : State) (bits : code < 65536) :
    StopsPass code t codes s (passFault code t i pos always s) := by
  have counted := correctedWith_counts (some t) i [pos] s bits
  have again : CountsOnly [code] [] (correctedWith code (some t) i [pos] s) (passFault code t i pos always s) :=
    .onlyIf (.refl _) fun h => logWith_counts (.inr (List.mem_singleton_self code)) h bits
  exact {
    mismatch := .of_tkeep ((passFault_acts (Sub.refl _) (.refl s)).part .buffers)
    corr := by rw [corrOf, again.corr]; exact counted.self
    evt := fun c hs hc _ => (again.evt c hs (by simpa using hc)).trans (counted.evt c hs hc)
    cnt := fun k hk => (again.cnt k hk List.not_mem_nil).trans (counted.cnt k hk) }

/-- The staging is discarded and the fault is counted. -/
theorem passFault_discardStaging_stops (i pos : Nat) (always : Bool) (bits : code < 65536) :
    StopsPass code t codes s (passFault code t i pos always (discardStaging t a r s)) :=
  (passFault_stops i pos always _ bits).after discardStaging_counts (discardStaging_keepsMismatch t a r s)

/-! ### A pass that may be replayed (R72, R156, R157) -/

/-- The faults of a pass that fails and of a frame that a replay overruns. -/
def replayCodes : List Nat := 0x1003 :: 0x1004 :: projectionCodes

/-- The slot of a dropped pass is free (R157). -/
def slotDropped (pos : Nat) (x : Tile) : Tile := { x with board := x.board.filter (fun b => decide (b.pos ≠ pos)) }

/-- A stopped pass is dropped after the halting Calend, fails with 0x1003 or 0x1004, or waits for its replay. -/
theorem replayOrFail_cases (code t a : Nat) (r : PassRun) (s : State) :
    (replayOrFail code t a r s = dropPass t a (modTile t (slotDropped r.pos)
      (passFault code t (3 * t + a) r.pos false (discardStaging t a r s)))) ∨
    (∃ failure, (failure = 0x1003 ∨ failure = 0x1004) ∧ replayOrFail code t a r s = dropPass t a
      (raiseTile failure t (3 * t + a) (passFault code t (3 * t + a) r.pos true (discardStaging t a r s)))) ∨
    ∃ leap, replayOrFail code t a r s = issueReplays t (onlyIf leap (declareOverrun t)
      (passFault code t (3 * t + a) r.pos false (discardStaging t a r s))) := by
  unfold replayOrFail
  dsimp only
  split
  · exact .inl rfl
  · split
    · exact .inr (.inl ⟨0x1004, .inr rfl, rfl⟩)
    · split
      · exact .inr (.inr ⟨_, rfl⟩)
      · exact .inr (.inl ⟨0x1003, .inl rfl, rfl⟩)

/-- A pass that fails counts its failure alone. -/
theorem raiseTile_failure_counts {failure : Nat} (h : failure = 0x1003 ∨ failure = 0x1004) (i : Nat) (s : State) :
    CountsOnly replayCodes [] s (raiseTile failure t i s) := by
  obtain rfl | rfl := h
  · exact raiseWith_counts (code := 0x1003) (.inr (by decide)) (.refl s)
  · exact raiseWith_counts (code := 0x1004) (.inr (by decide)) (.refl s)

theorem onlyIf_declareOverrun_counts (leap : Bool) (s : State) :
    CountsOnly replayCodes [] s (onlyIf leap (declareOverrun t) s) := by
  refine .onlyIf (.refl s) fun _ => ?_
  cases running : s.frames.run with
  | none => rw [declareOverrun, running]; exact .refl s
  | some run => exact (declareOverrun_counts running).mono (by decide)

theorem replayOrFail_stops (a : Nat) (r : PassRun) (s : State) (bits : code < 65536) :
    StopsPass code t replayCodes s (replayOrFail code t a r s) := by
  have stopped (always : Bool) := passFault_discardStaging_stops (codes := replayCodes) (t := t) (a := a) (r := r) (s := s)
    (3 * t + a) r.pos always bits
  obtain e | ⟨failure, known, e⟩ | ⟨leap, e⟩ := replayOrFail_cases code t a r s <;> rw [e]
  · exact ((stopped false).acts (modTile_acts (Sub.refl _) (.refl _))).acts (dropPass_acts (Sub.refl _) (.refl _))
  · have failed := (stopped true).later (raiseTile_failure_counts (t := t) known (3 * t + a) _)
      (.of_tkeep <| (raiseTile_acts (Sub.refl _) (.refl _)).part .buffers)
    exact failed.acts (dropPass_acts (Sub.refl _) (.refl _))
  · have declared := (stopped false).later (onlyIf_declareOverrun_counts (t := t) leap _)
      (.of_tkeep <| (onlyIf_acts (.refl _) fun _ h => declareOverrun_acts (Sub.refl _) h).part .buffers)
    exact declared.acts (issueReplays_acts (Sub.refl _) (.refl _))

theorem replayOrFail_arrs (code t a : Nat) (r : PassRun) (s : State) : (replayOrFail code t a r s).arrs = s.arrs :=
  (replayOrFail_acts (Sub.refl _) (.refl s)).part .arrays

/-! ### The history of an array (R151) -/

/-- A mismatch of this array is the first of its history: there is none yet, or a million passes have committed since. -/
abbrev StartsHistory (x : Arr) : Prop := x.prior = false ∨ 1000000 ≤ x.p

theorem not_startsHistory {x : Arr} (prior : x.prior = true) (p : x.p < 1000000) : ¬StartsHistory x := by
  simp [StartsHistory, prior, p]

/-- The array with a history that starts. -/
def withHistory (x : Arr) : Arr := { x with prior := true, p := 0 }

/-- The array under suspicion. -/
def suspected (x : Arr) : Arr := { x with state := 1, p := 0 }

/-- The array out of service. -/
def retiredArr (x : Arr) : Arr := { x with state := 3, prior := false, p := 0 }

theorem arrOf_withHistory (i : Nat) (s : State) : arrOf (modArr i withHistory s) i = withHistory (arrOf s i) :=
  arrOf_modArr_self i withHistory s fun none_ => Bool.noConfusion (congrArg Arr.prior none_)

theorem arrOf_suspected (i : Nat) (s : State) : arrOf (modArr i suspected s) i = suspected (arrOf s i) :=
  arrOf_modArr_self i suspected s fun none_ => Nat.one_ne_zero (congrArg Arr.state none_)

theorem arrOf_retiredArr (i : Nat) (s : State) : arrOf (modArr i retiredArr s) i = retiredArr (arrOf s i) :=
  arrOf_modArr_self i retiredArr s fun none_ => absurd (congrArg Arr.state none_) (Nat.succ_ne_zero 2)

theorem arrOf_of_arrs (h : u.arrs = s.arrs) (i : Nat) : arrOf u i = arrOf s i := by rw [arrOf, arrOf, h]

/-! ### A retirement (R152, R153, R157) -/

/-- The pass has stopped, and its array is retired with a record for the NV manifest. -/
def arrayRetired (t a : Nat) (r : PassRun) (s : State) : State :=
  journalPut { kind := .retire (3 * t + a) }
    (modArr (3 * t + a) retiredArr
      (discardStaging t a r (passFault 0x1110 t (3 * t + a) r.pos (r.replay && !haltPassed s) s)))

theorem haltPassed_of_frames (h : u.frames = s.frames) : haltPassed u = haltPassed s := by rw [haltPassed, haltPassed, h]

theorem haltPassed_arrayRetired (t a : Nat) (r : PassRun) (s : State) : haltPassed (arrayRetired t a r s) = haltPassed s :=
  haltPassed_of_frames <| calc (arrayRetired t a r s).frames
    _ = _ := (journalPut_acts (Sub.refl _) (.refl _)).part .frames
    _ = _ := (passFault_acts (Sub.refl _) (.refl s)).part .frames

theorem arrayRetired_stops (a : Nat) (r : PassRun) (s : State) : StopsPass 0x1110 t codes s (arrayRetired t a r s) := by
  have stopped : StopsPass 0x1110 t codes s _ :=
    (passFault_stops (3 * t + a) r.pos (r.replay && !haltPassed s) s (by decide)).later discardStaging_counts
      (discardStaging_keepsMismatch t a r _)
  exact (stopped.acts (modArr_acts (Sub.refl _) (.refl _))).later (journalPut_counts (.refl _))
    (.of_tkeep ((journalPut_acts (Sub.refl _) (.refl _)).part .buffers))

theorem arrOf_arrayRetired (t a : Nat) (r : PassRun) (s : State) : (arrOf (arrayRetired t a r s) (3 * t + a)).state = 3 :=
  congrArg Arr.state <| calc arrOf (arrayRetired t a r s) (3 * t + a)
    _ = _ := arrOf_of_arrs ((journalPut_acts (Sub.refl _) (.refl _)).part .arrays) _
    _ = _ := arrOf_retiredArr (3 * t + a) _

/-- After the halting Calend the retirement raises nothing (R157). -/
theorem retireArray_afterHalt (past : haltPassed s = true) : retireArray t a r s =
    dropPass t a (modTile t (slotDropped r.pos) (arrayRetired t a r s)) :=
  if_pos ((haltPassed_arrayRetired t a r s).trans past)

/-- The retirement is raised, and the failure of a replay that ends with it. -/
def retirementRaised (t a : Nat) (r : PassRun) (s : State) : State :=
  onlyIf r.replay (raiseTile 0x1004 t (3 * t + a))
    (raiseWith 0x1112 (some t) (3 * t + a) [r.pos] (arrayRetired t a r s))

/-- Before the halting Calend the retirement is Job-fatal, and so is the replay that ends with it (R151, R152). -/
theorem retireArray_beforeHalt (going : haltPassed s = false) : retireArray t a r s =
    dropPass t a (retirementRaised t a r s) :=
  if_neg (ne_true_of_eq_false ((haltPassed_arrayRetired t a r s).trans going))

/-- What follows the retirement counts its Job-fatal faults alone, and leaves the buffers and the arrays as they are. -/
theorem retireArray_ends (t a : Nat) (r : PassRun) (s : State) :
    CountsOnly [0x1112, 0x1004] [] (arrayRetired t a r s) (retireArray t a r s) ∧
      (retireArray t a r s).tkeep = (arrayRetired t a r s).tkeep ∧
      (retireArray t a r s).arrs = (arrayRetired t a r s).arrs := by
  cases halt : haltPassed s with
  | true =>
    have ended := dropPass_acts (a0 := t) (a1 := a) (Sub.refl _)
      (modTile_acts (a0 := t) (a1 := slotDropped r.pos) (Sub.refl _) (.refl (arrayRetired t a r s)))
    rw [retireArray_afterHalt halt]
    exact ⟨.acts ended (.refl _), ended.part .buffers, ended.part .arrays⟩
  | false =>
    have raised : CountsOnly [0x1112, 0x1004] [] (arrayRetired t a r s) (retirementRaised t a r s) :=
      .onlyIf (raiseWith_counts (.inr (by decide)) (.refl _)) (raiseWith_counts (code := 0x1004) (.inr (by decide)))
    have acts : Acts _ (arrayRetired t a r s) (retirementRaised t a r s) :=
      onlyIf_acts (raiseWith_acts (Sub.refl _) (.refl _)) fun _ h => raiseTile_acts (Sub.refl _) h
    have ended := dropPass_acts (a0 := t) (a1 := a) (Sub.refl _) (.refl (retirementRaised t a r s))
    rw [retireArray_beforeHalt halt]
    exact ⟨.acts ended raised, (ended.part .buffers).trans (acts.part .buffers),
      (ended.part .arrays).trans (acts.part .arrays)⟩

theorem retireArray_stops (a : Nat) (r : PassRun) (s : State) :
    StopsPass 0x1110 t [0x1112, 0x1004] s (retireArray t a r s) :=
  have ⟨counts, keep, _⟩ := retireArray_ends t a r s
  (arrayRetired_stops a r s).later counts (.of_tkeep keep)

theorem arrOf_retireArray (t a : Nat) (r : PassRun) (s : State) : (arrOf (retireArray t a r s) (3 * t + a)).state = 3 := by
  obtain ⟨-, -, arrs⟩ := retireArray_ends t a r s
  rw [arrOf_of_arrs arrs, arrOf_arrayRetired]

theorem faultCount_arrayRetired (t a : Nat) (r : PassRun) (s : State) :
    faultCount (arrayRetired t a r s) 0x1112 = faultCount s 0x1112 :=
  (arrayRetired_stops (codes := []) (t := t) a r s).evt 0x1112 (by decide) (by decide) List.not_mem_nil

theorem retireArray_raised (going : haltPassed s = false) : Raised 0x1112 s (retireArray t a r s) := by
  have retired := raiseWith_raised (code := 0x1112) (some t) (3 * t + a) [r.pos] (arrayRetired t a r s)
  have failed : CountsOnly [0x1004] [] _ (retirementRaised t a r s) :=
    .onlyIf (.refl _) (raiseWith_counts (code := 0x1004) (.inr (by decide)))
  rw [retireArray_beforeHalt going, Raised, ← faultCount_arrayRetired t a r s]
  exact Raised.later (codes := []) (keys := []) (Raised.later retired failed)
    (.acts (dropPass_acts (Sub.refl _) (.refl _)) (.refl _))

theorem retireArray_notRaised (past : haltPassed s = true) : faultCount (retireArray t a r s) 0x1112 = faultCount s 0x1112 := by
  have ended : CountsOnly [] [] (arrayRetired t a r s) (retireArray t a r s) := by
    rw [retireArray_afterHalt past]
    exact .acts (dropPass_acts (Sub.refl _) (modTile_acts (Sub.refl _) (.refl _))) (.refl _)
  exact (ended.evt 0x1112 (by decide) List.not_mem_nil).trans (faultCount_arrayRetired t a r s)

/-! ### What a mismatch charges (R149, R151) -/

/-- The mismatch is counted on the tile and for the package. -/
def mismatchCounted (t : Nat) (s : State) : State :=
  bump 0x601101 1 (modKeep t (fun k => { k with mismatch := k.mismatch + 1 }) s)

/-- The mismatch is counted, and its array is suspect with 0x1111. -/
def raisedSuspect (t a : Nat) (r : PassRun) (s : State) : State :=
  raiseWith 0x1111 (some t) (3 * t + a) [r.pos]
    (modArr (3 * t + a) suspected (mismatchCounted t s))

theorem mismatch_mismatchCounted (t : Nat) (s : State) :
    (keepOf (mismatchCounted t s) t).mismatch = (keepOf s t).mismatch + 1 :=
  congrArg TileKeep.mismatch (keepOf_modKeep_self t (fun k => { k with mismatch := k.mismatch + 1 }) s
    fun none_ => Nat.succ_ne_zero _ (congrArg TileKeep.mismatch none_))

/-- A first mismatch, or one a million passes after the latest, starts the history. -/
theorem tallyMismatch_first (h : StartsHistory (arrOf s (3 * t + a))) :
    tallyMismatch t a r s = replayOrFail 0x1110 t a r
      (modArr (3 * t + a) withHistory (mismatchCounted t s)) := if_pos h

/-- A second one makes the array suspect. -/
theorem tallyMismatch_second (again : ¬StartsHistory (arrOf s (3 * t + a)))
    (inService : (arrOf s (3 * t + a)).state = 0) :
    tallyMismatch t a r s = replayOrFail 0x1110 t a r (raisedSuspect t a r s) :=
  (if_neg again).trans (if_pos inService)

/-- One of a suspect array retires it. -/
theorem tallyMismatch_third (again : ¬StartsHistory (arrOf s (3 * t + a)))
    (suspect : (arrOf s (3 * t + a)).state ≠ 0) : tallyMismatch t a r s = retireArray t a r (mismatchCounted t s) :=
  (if_neg again).trans (if_neg suspect)

/-- The faults that a mismatch can bring besides its own. -/
def tallyCodes : List Nat := 0x1111 :: 0x1112 :: replayCodes

/-- A mismatch stops its pass with 0x1110, whatever it charges to the array. -/
theorem tallyMismatch_stops (t a : Nat) (r : PassRun) (s : State) :
    StopsPass 0x1110 t tallyCodes (mismatchCounted t s) (tallyMismatch t a r s) := by
  by_cases first : StartsHistory (arrOf s (3 * t + a))
  · rw [tallyMismatch_first first]
    exact ((replayOrFail_stops a r _ (by decide)).mono (by decide)).after (.upd (.refl _) rfl rfl rfl) (.of_tkeep rfl)
  · by_cases inService : (arrOf s (3 * t + a)).state = 0
    · rw [tallyMismatch_second first inService]
      exact ((replayOrFail_stops a r _ (by decide)).mono (by decide)).after
        (raiseWith_counts (.inr (by decide)) (.upd (.refl _) rfl rfl rfl))
        (.of_tkeep ((raiseWith_acts (Sub.refl _) (.refl _)).part .buffers))
    · rw [tallyMismatch_third first inService]
      exact (retireArray_stops a r _).mono (by decide)

/-- Every mismatch counts once on its tile, in the package's count and as 0x1110. -/
theorem tallyMismatch_counts (t a : Nat) (r : PassRun) (s : State) :
    (keepOf (tallyMismatch t a r s) t).mismatch = (keepOf s t).mismatch + 1 ∧
      cntOf (tallyMismatch t a r s) 0x601101 = cntOf s 0x601101 + 1 ∧
      corrOf (tallyMismatch t a r s) 0x1110 = corrOf s 0x1110 + 1 := by
  obtain ⟨mismatch, corr, -, cnt⟩ := tallyMismatch_stops t a r s
  have counted := mismatch_mismatchCounted t s
  exact ⟨(mismatch (by rw [counted]; exact Nat.succ_ne_zero _)).trans counted,
    (cnt 0x601101 (by decide)).trans (cntOf_bump_self _ Nat.one_ne_zero), corr⟩

theorem arrOf_tallyMismatch_first (h : StartsHistory (arrOf s (3 * t + a))) :
    arrOf (tallyMismatch t a r s) (3 * t + a) = withHistory (arrOf s (3 * t + a)) := by
  rw [tallyMismatch_first h, arrOf_of_arrs (replayOrFail_arrs _ _ _ _ _)]
  exact arrOf_withHistory (3 * t + a) (mismatchCounted t s)

theorem arrOf_raisedSuspect (t a : Nat) (r : PassRun) (s : State) : (arrOf (raisedSuspect t a r s) (3 * t + a)).state = 1 :=
  congrArg Arr.state <| calc arrOf (raisedSuspect t a r s) (3 * t + a)
    _ = _ := arrOf_of_arrs ((raiseWith_acts (Sub.refl _) (.refl _)).part .arrays) _
    _ = _ := arrOf_suspected (3 * t + a) (mismatchCounted t s)

theorem raisedSuspect_raised (t a : Nat) (r : PassRun) (s : State) : Raised 0x1111 s (raisedSuspect t a r s) :=
  raiseWith_raised (code := 0x1111) (some t) (3 * t + a) [r.pos]
    (modArr (3 * t + a) suspected (mismatchCounted t s))

theorem tallyMismatch_second_spec (again : ¬StartsHistory (arrOf s (3 * t + a)))
    (inService : (arrOf s (3 * t + a)).state = 0) :
    (arrOf (tallyMismatch t a r s) (3 * t + a)).state = 1 ∧ Raised 0x1111 s (tallyMismatch t a r s) := by
  rw [tallyMismatch_second again inService]
  have rest := replayOrFail_stops (code := 0x1110) (t := t) a r (raisedSuspect t a r s) (by decide)
  exact ⟨(congrArg Arr.state (arrOf_of_arrs (replayOrFail_arrs _ _ _ _ _) _)).trans (arrOf_raisedSuspect t a r s),
    (rest.evt 0x1111 (by decide) (by decide) (by decide)).trans (raisedSuspect_raised t a r s)⟩

theorem tallyMismatch_third_spec (again : ¬StartsHistory (arrOf s (3 * t + a)))
    (suspect : (arrOf s (3 * t + a)).state ≠ 0) :
    (arrOf (tallyMismatch t a r s) (3 * t + a)).state = 3 ∧
      (haltPassed s = false → Raised 0x1112 s (tallyMismatch t a r s)) ∧
      (haltPassed s = true → faultCount (tallyMismatch t a r s) 0x1112 = faultCount s 0x1112) := by
  rw [tallyMismatch_third again suspect]
  exact ⟨arrOf_retireArray t a r _, fun going => retireArray_raised (s := mismatchCounted t s) going,
    fun past => retireArray_notRaised (s := mismatchCounted t s) past⟩

end

/-! ### The check -/

/-- A check of a pass in flight completes (R146 to R149). -/
theorem execTallyCheck_eq {s : State} {t : TileNo} {a : Fin 3} {col : Bool} {i : BitVec 12} {r : PassRun} {c : Tally}
    (flight : mfind (tileOf s t.val).runs a.val = some r) (going : r.stopped = false)
    (check : (if col then r.cchecks else r.vchecks)[i.toNat]? = some c) (err : Dy) :
    execTallyCheck t a col i err s = .next (if c = .skip then bump 0x601102 1 s
      else if tallyFails c r.tau err then tallyMismatch t.val a.val r s else s) := by
  rw [execTallyCheck, flight]
  simp only [check, going, Bool.false_eq_true, if_false]

/-- Settles O31: the check by what it finds, and a mismatch by the history of its array. -/
theorem tallyMismatchesAreChargedToTheArray : Obligations.TallyMismatchesAreChargedToTheArray := by
  intro s t a col i err r c flight going check
  have run := execTallyCheck_eq flight going check err
  refine ⟨fun skip => ?_, fun judged holds => ?_, fun judged fails => ?_⟩
  · exact ⟨_, run.trans (congrArg _ (if_pos skip)), rfl, rfl, cntOf_bump_self s Nat.one_ne_zero⟩
  · exact ⟨s, run.trans (by rw [if_neg judged, holds]; rfl), rfl⟩
  · obtain ⟨mismatch, cnt, corr⟩ := tallyMismatch_counts t.val a.val r s
    refine ⟨_, run.trans (by rw [if_neg judged, if_pos fails]), mismatch, cnt, corr, fun first => ?_,
      fun prior p => tallyMismatch_second_spec (not_startsHistory prior p),
      fun prior p => tallyMismatch_third_spec (not_startsHistory prior p)⟩
    rw [arrOf_tallyMismatch_first first]
    exact ⟨rfl, rfl, rfl⟩

end Sys2Proof.Laws

/-!
PROOF. A vector run without an empty reduction and the counter of empty reductions (R185), where the table of counters lists that
counter twice.
-/

namespace Sys2Proof.Laws

set_option Elab.async false

open Machine

/-- The vector unit is idle again: no counter moves but that of its busy cycles (R199). -/
theorem vectorIdle_counts {codes keys : List Nat} {s x : State} {t : Nat} {v : VecRun} (busy : 0x602003 ∈ keys)
    (h : CountsOnly codes keys s x) : CountsOnly codes keys s (vectorIdle t v x) :=
  bump_counts (.inr busy) (.acts (freeHeralds_acts (Sub.refl _) (.refl _)) (.upd h rfl rfl rfl))

/-- A run that has computed, holds no Herald, and found no reduction empty. -/
def computedRun : VecRun := { masque := false, pos := 0, desc := 0, ports := [], computed := true }

/-- The table of counters lists that of empty reductions twice, first as one that has counted nothing: a table that no command
builds. -/
def twiceCounted : State :=
  { State.reset with
    tiles := [(0, { st := 2, vec := some computedRun })]
    health := { State.reset.health with cnt := [(0x602005, 0), (0x602005, 5)] } }

theorem twiceCounted_empties : cntOf twiceCounted 0x602005 = 0 := rfl

/-- To count none takes the first of the two entries off the table. -/
theorem twiceCounted_effects : cntOf (runEffects 0 0 0 twiceCounted) 0x602005 = 5 := by decide

theorem twiceCounted_completes : execVectorRunComplete 0 twiceCounted = .next (complete 0 0
    (bump 0x602001 1 (vectorIdle 0 computedRun (runEffects 0 0 0 twiceCounted)))) := rfl

/-- Refutes O35: in a state whose table of counters lists that of empty reductions twice, the end of a run without one brings up the
second entry. No command builds such a table, and the statement does not ask for a canonical one. -/
theorem not_vectorRunsIssueComputeAndEnd : ¬ Obligations.VectorRunsIssueComputeAndEnd := by
  intro h
  obtain ⟨-, -, -, completes, -⟩ := h twiceCounted 0
  obtain ⟨u, run, -, -, -, same, -⟩ := completes computedRun rfl (by decide) rfl (fun _ port => absurd port List.not_mem_nil)
  obtain rfl := Host.Outcome.next.inj (twiceCounted_completes.symm.trans run)
  have ended : CountsOnly projectionCodes [0x602001, 0x602003] (runEffects 0 0 0 twiceCounted)
      (bump 0x602001 1 (vectorIdle 0 computedRun (runEffects 0 0 0 twiceCounted))) :=
    bump_counts (.inr (by decide)) (vectorIdle_counts (by decide) (.refl _))
  have five : cntOf (complete 0 0 (bump 0x602001 1 (vectorIdle 0 computedRun (runEffects 0 0 0 twiceCounted)))) 0x602005 = 5 :=
    calc
      _ = cntOf (bump 0x602001 1 (vectorIdle 0 computedRun (runEffects 0 0 0 twiceCounted))) 0x602005 :=
        (complete_counts 0 0 _).cnt _ (by decide) List.not_mem_nil
      _ = cntOf (runEffects 0 0 0 twiceCounted) 0x602005 := ended.cnt _ (by decide) (by decide)
      _ = 5 := twiceCounted_effects
  exact absurd (five.symm.trans (same.trans (congrArg (· + 0) twiceCounted_empties))) (by decide)

end Sys2Proof.Laws

/-!
PROOF. What a read at its home finds (R243, R246, R252): the poison that the access leaves and the bytes that it answers are a
matter of the Store alone.
-/

namespace Sys2Proof.Laws

set_option Elab.async false

open Machine

/-! ### Poison that an access leaves (R252) -/

/-- An uncorrectable word poisons its line. -/
def wordPoison (line : Nat) (w : WordRead) (p : SMap Bool) : SMap Bool := if w = .uncorrectable then mset false p line true else p

/-- What the channel's read of a line leaves of the poison. -/
def linePoison (line : Nat) (x : LineRead) (p : SMap Bool) : SMap Bool := wordPoison line x.w1 (wordPoison line x.w0 p)

/-- What an access to a line at its home leaves of the poison (R248). -/
def foundPoison (line : Nat) (x : LineRead) (m : Store) : SMap Bool :=
  match x.cache with
  | .held | .corrected => m.poison
  | .missed => linePoison line x m.poison
  | .uncorrectable => if mget false m.dirty line then mset false m.poison line true else linePoison line x m.poison

theorem poison_of_rowKeeps {x y : Store} (h : rowKeeps y = rowKeeps x) : y.poison = x.poison := (Prod.mk.inj h).1

theorem wordFound_poison {a line : Nat} (at_ : a / 128 = line) (w : WordRead) (s : State) :
    (wordFound a w s).2.store.poison = wordPoison line w s.store.poison := by
  unfold wordFound
  cases w with
  | clean => rfl
  | corrected k =>
    dsimp only
    split
    · rfl
    · exact (poison_of_rowKeeps (corrected_rowKeeps _ _ _ _) :)
  | uncorrectable => rw [at_]; rfl

theorem lineWords_poison (line : Nat) (x : LineRead) (s : State) :
    (lineWords line x s).store.poison = linePoison line x s.store.poison := by
  have found : (wordFound (line * 128 + 64) x.w1 (wordFound (line * 128) x.w0 s).2).2.store.poison =
      linePoison line x s.store.poison := by
    rw [wordFound_poison (line := line) (by omega), wordFound_poison (line := line) (by omega), linePoison]
  unfold lineWords
  dsimp only
  rw [poison_of_rowKeeps (onlyIf_rowFailure _ _ _).2, found]

theorem setDirty_poison (line : Nat) (d : Bool) (s : State) : (setDirty line d s).store.poison = s.store.poison := rfl

theorem writeBack_poison (line : Nat) (s : State) : (writeBack line s).store.poison = s.store.poison := by
  unfold writeBack
  split
  · dsimp only
    rw [setDirty_poison, takeSlot_poison, takeSlot_poison]
  · rfl

theorem channelRead_poison (critical : Bool) (line : Nat) (x : LineRead) (s : State) :
    (channelRead critical line x s).store.poison = linePoison line x s.store.poison := by
  rw [channelRead, lineWords_poison, takeSlot_poison, takeSlot_poison, writeBack_poison]

theorem cacheCorrected_poison (slice : Nat) (s : State) : (cacheCorrected slice s).store.poison = s.store.poison :=
  poison_of_rowKeeps (cacheCorrected_acts (Sub.refl _) (.refl s)).rowKeeps

theorem lineFound_poison (critical : Bool) (line : Nat) (x : LineRead) (s : State) :
    (lineFound critical line x s).store.poison = foundPoison line x s.store := by
  unfold lineFound foundPoison dirtyLine
  cases x.cache with
  | held => rfl
  | corrected => exact cacheCorrected_poison _ _
  | missed => exact channelRead_poison _ _ _ _
  | uncorrectable =>
    dsimp only
    split
    · exact (poison_of_rowKeeps (raise_rowKeeps _ _ _) :)
    · rw [channelRead_poison, cacheCorrected_poison]

/-! ### The bytes of a read -/

/-- A read answers 0xFF beyond the capacity and of a poisoned line, and else the bytes of the Store (R243, R252). -/
theorem homeRead_data (a n : Nat) (critical : Bool) (x : LineRead) (tile : Option Nat) (by_ : List Nat) (s : State) :
    (homeRead a n critical x tile by_ s).1 =
      if capacity s ≤ a ∨ mget false (foundPoison (a / 128) x s.store) (a / 128) = true then List.replicate n 0xFF
      else storeBytes s a n := by
  have bytes : storeBytes (lineFound critical (a / 128) x s) a n = storeBytes s a n := by
    simp only [storeBytes, storeByte, lineFound_cells]
  have poison : poisoned (lineFound critical (a / 128) x s) (a / 128) =
      mget false (foundPoison (a / 128) x s.store) (a / 128) := by rw [poisoned, lineFound_poison]
  unfold homeRead
  dsimp only
  rw [poison, bytes]
  by_cases beyond : capacity s ≤ a
  · rw [if_pos beyond, if_pos (.inl beyond)]
  · rw [if_neg beyond]
    simp only [beyond, false_or]
    split <;> rfl

theorem homeRead_data_of_store {s u : State} (h : u.store = s.store) (a n : Nat) (critical : Bool) (x : LineRead)
    (tile : Option Nat) (by_ : List Nat) :
    (homeRead a n critical x tile by_ u).1 = (homeRead a n critical x tile by_ s).1 := by
  have cap : capacity u = capacity s := by rw [capacity, capacity, segsRetired, segsRetired, h]
  have bytes : storeBytes u a n = storeBytes s a n := by simp only [storeBytes, storeByte, h]
  rw [homeRead_data, homeRead_data, cap, bytes, h]

end Sys2Proof.Laws

/-!
PROOF. The rows of a Lantern op (R207, R210, R211, R214, R218): a running tile stays in its state through them, and no counter
moves but those of their own.
-/

namespace Sys2Proof.Laws

set_option Elab.async false

open Machine

/-- The counters that the rows of an op and the reads and writes of the Store under them may advance. -/
def lanternKeys : List Nat :=
  [0x500201, 0x500202, 0x500204, 0x500206, 0x603002, 0x603003, 0x603005, 0x900401, 0x900404]

/-- A running tile has not been reset, and no counter has moved but those of rows and of the Store. -/
structure RunsRows (t : Nat) (s x : State) : Prop where
  alive : (tileOf s t).st ≠ 0 → (tileOf x t).st ≠ 0
  cnt : ∀ k, k ∉ sideKeys → k ∉ lanternKeys → cntOf x k = cntOf s k

section

variable {t : Nat} {s x y : State}

namespace RunsRows

theorem refl (s : State) : RunsRows t s s := ⟨id, fun _ _ _ => rfl⟩

theorem trans (h : RunsRows t s x) (k : RunsRows t x y) : RunsRows t s y :=
  ⟨k.alive ∘ h.alive, fun n hs hn => (k.cnt n hs hn).trans (h.cnt n hs hn)⟩

/-- A change outside the tiles and the counts. -/
theorem upd (h : RunsRows t s x) (tiles : y.tiles = x.tiles) (cnt : y.health.cnt = x.health.cnt) : RunsRows t s y :=
  h.trans ⟨fun st => by rwa [tileOf_of_tiles tiles], fun k _ _ => by rw [cntOf, cntOf, cnt]⟩

theorem counts {codes keys : List Nat} (h : RunsRows t s x) (k : CountsOnly codes keys x y) (tiles : y.tiles = x.tiles)
    (sub : keys ⊆ lanternKeys := by decide) : RunsRows t s y :=
  h.trans ⟨fun st => by rwa [tileOf_of_tiles tiles], fun n hs hn => k.cnt n hs fun mem => hn (sub mem)⟩

/-- An operation whose set of parts leaves out the tiles and the fault log. -/
theorem acts {L : Nat} (h : RunsRows t s x) (k : Acts L x y) (log : L.testBit 31 = false := by decide)
    (tiles : L.testBit (Part.index .tiles) = false := by decide) : RunsRows t s y :=
  h.counts (codes := []) (.acts k (.refl x) log) (k.part .tiles tiles) (List.nil_subset _)

theorem modTile {g : Tile → Tile} (h : RunsRows t s x) (same : ∀ z, (g z).st = z.st := by exact fun _ => rfl) :
    RunsRows t s (modTile t g x) := by
  refine h.trans ⟨fun st => ?_, fun _ _ _ => rfl⟩
  have kept : (g (tileOf x t)).st ≠ 0 := by rwa [same]
  rwa [tileOf_modTile_self t g x (tile_ne_default kept)]

theorem bump {key n : Nat} (h : RunsRows t s x) (mem : key ∈ lanternKeys := by decide) : RunsRows t s (bump key n x) :=
  h.trans ⟨id, fun _ _ hk => cntOf_bump_other x fun e => hk (e ▸ mem)⟩

theorem freshen (h : RunsRows t s x) : RunsRows t s (freshen x) := h.upd rfl rfl

theorem onlyIf {c : Bool} {f : State → State} (h : RunsRows t s x) (hf : ∀ y, RunsRows t s y → RunsRows t s (f y)) :
    RunsRows t s (onlyIf c f x) := by
  unfold Machine.onlyIf
  split
  · exact hf x h
  · exact h

theorem forEach {α : Type} {l : List α} {f : α → State → State} (h : RunsRows t s x)
    (hf : ∀ a y, RunsRows t s y → RunsRows t s (f a y)) : RunsRows t s (forEach l f x) := by
  induction l generalizing x with
  | nil => exact h
  | cons a l ih => exact ih (hf a x h)

/-- A fault of any severity leaves the tiles and brings no count but its bookkeeping's. -/
theorem raiseWith {code ctx : Nat} {tile : Option Nat} {also : List Nat} (h : RunsRows t s x)
    (bits : code < 65536 := by decide) : RunsRows t s (raiseWith code tile ctx also x) := by
  have tiles : (Machine.raiseWith code tile ctx also x).tiles = x.tiles := (raiseWith_acts (Sub.refl _) (.refl x)).part .tiles
  by_cases corrected : sevOf code = 1
  · have e : Machine.raiseWith code tile ctx also x = correctedWith code tile ctx also x := by
      simp only [Machine.raiseWith, corrected]
    have counted := correctedWith_counts tile ctx also x bits
    rw [e] at tiles ⊢
    exact h.trans ⟨fun st => by rwa [tileOf_of_tiles tiles], fun n hs _ => counted.cnt n hs⟩
  · exact h.counts (raiseWith_counts (codes := [code]) (keys := []) (.inr (by simp)) (.refl x) corrected bits) tiles

theorem raise {code ctx : Nat} (h : RunsRows t s x) (bits : code < 65536 := by decide) : RunsRows t s (raise code ctx x) :=
  h.raiseWith bits

theorem raiseTile {code i ctx : Nat} (h : RunsRows t s x) (bits : code < 65536 := by decide) :
    RunsRows t s (raiseTile code i ctx x) := h.raiseWith bits

/-! ### Reads of the Store (R246 to R256) -/

theorem rowFailure {row : Nat} {copy : Bool} (h : RunsRows t s x) : RunsRows t s (rowFailure row copy x) :=
  h.counts (rowFailure_counts row copy x) ((rowFailure_acts (Sub.refl _) (.refl x)).part .tiles)

theorem takeSlot {ch : Nat} {critical : Bool} (h : RunsRows t s x) : RunsRows t s (takeSlot ch critical x) :=
  h.counts (takeSlot_counts ch critical x) ((takeSlot_acts (Sub.refl _) (.refl x)).part .tiles)

theorem wordCorrected {a : Nat} (h : RunsRows t s x) : RunsRows t s (wordCorrected a x) := by
  have counted : RunsRows t s (Machine.bump 0x500201 1
      (modChan (physChan x a) (fun c => { c with corr := min 0xFFFF (c.corr + 1) }) x)) := .bump (h.upd rfl rfl)
  exact counted.raiseWith (code := 0x2001)

theorem wordFound {a : Nat} {w : WordRead} (h : RunsRows t s x) : RunsRows t s (wordFound a w x).2 := by
  unfold Machine.wordFound
  cases w with
  | clean => exact h
  | corrected k =>
    dsimp only
    split
    · exact h
    · exact (h.wordCorrected (a := a)).upd rfl rfl
  | uncorrectable => exact h.upd rfl rfl

theorem lineWords {line : Nat} {r : LineRead} (h : RunsRows t s x) : RunsRows t s (lineWords line r x) :=
  .onlyIf (.wordFound (.wordFound h)) fun _ k => .rowFailure k

theorem writeBack {line : Nat} (h : RunsRows t s x) : RunsRows t s (writeBack line x) := by
  unfold Machine.writeBack
  split
  · exact .acts (.takeSlot (.takeSlot h)) (setDirty_acts (Sub.refl _) (.refl _))
  · exact h

theorem channelRead {critical : Bool} {line : Nat} {r : LineRead} (h : RunsRows t s x) :
    RunsRows t s (channelRead critical line r x) := .lineWords (.takeSlot (.takeSlot (.writeBack h)))

theorem cacheCorrected {slice : Nat} (h : RunsRows t s x) : RunsRows t s (cacheCorrected slice x) := .raise (.bump h)

theorem lineFound {critical : Bool} {line : Nat} {r : LineRead} (h : RunsRows t s x) :
    RunsRows t s (lineFound critical line r x) := by
  unfold Machine.lineFound
  cases r.cache with
  | held => exact h
  | corrected => exact .cacheCorrected h
  | missed => exact .channelRead h
  | uncorrectable =>
    dsimp only
    split
    · exact .raise (.acts h (setPoison_acts (Sub.refl _) (.refl x)))
    · exact .channelRead (.cacheCorrected h)

theorem homeRead {a n : Nat} {critical : Bool} {r : LineRead} {tile : Option Nat} {by_ : List Nat} (h : RunsRows t s x) :
    RunsRows t s (homeRead a n critical r tile by_ x).2.2 := by
  unfold Machine.homeRead
  dsimp only
  split
  · dsimp only
    exact .raiseWith h
  · split
    · dsimp only
      exact .raiseWith (.bump (.lineFound h))
    · exact .lineFound h

/-! ### A ledger line that makes room (R211) -/

theorem homeFill_held {a : Nat} {l : List Byte} (h : RunsRows t s x) : RunsRows t s (homeFill false [] a l x) := by
  have written (k a : Nat) (cells : List (Byte × Byte)) {x : State} (h : RunsRows t s x) :
      RunsRows t s (homeWriteLines false [] k a cells x) := by
    induction k generalizing a cells x with
    | zero => exact h
    | succ k ih =>
      unfold homeWriteLines
      split
      · exact h
      · exact ih _ _ (h.counts (homeWrite_counts false a _ x) ((homeWrite_acts (Sub.refl _) (.refl x)).part .tiles))
  exact .forEach (written _ _ _ h) fun _ _ k => .acts k (farDrop_acts (Sub.refl _) (.refl _))

theorem ledgerEnter {l : Nat} (h : RunsRows t s x) : RunsRows t s (ledgerEnter t l x) := by
  unfold Machine.ledgerEnter
  dsimp only
  split
  · exact h.modTile
  · split
    · exact h.modTile
    · split
      · exact h
      · exact .bump (.modTile (.freshen (.homeFill_held h)))

theorem ledgerWrite {i m l : Nat} (h : RunsRows t s x) : RunsRows t s (ledgerWrite t i m l x) := .modTile (.ledgerEnter h)

theorem ledgerRead {d : LanD} {r : Nat} (h : RunsRows t s x) : RunsRows t s (ledgerRead t d r x).2 := by
  unfold Machine.ledgerRead
  dsimp only
  split
  · exact .onlyIf (.onlyIf (.ledgerEnter h) fun _ k => k.modTile) fun _ k => k.freshen
  · exact .freshen (.raiseWith h)

theorem ledgerWord {d : LanD} {w : WordRead} (h : RunsRows t s x) : RunsRows t s (ledgerWord t d w x) := by
  unfold Machine.ledgerWord
  cases w with
  | clean => exact h
  | corrected k =>
    dsimp only
    split
    · exact h
    · exact .raiseWith (.bump h)
  | uncorrectable => exact .raiseWith h

/-! ### The tile buffer, flags and draws -/

theorem bufWord {w : WordRead} (h : RunsRows t s x) : RunsRows t s (bufWord t w x) := by
  unfold Machine.bufWord
  cases w with
  | clean => exact h
  | corrected k =>
    dsimp only
    split
    · exact h
    · exact .raiseTile (.bump h)
  | uncorrectable => exact .raiseTile h

theorem bufWrite {a : Nat} {l : List Byte} (h : RunsRows t s x) : RunsRows t s (bufWrite t a l x) := h.upd rfl rfl

theorem bufOpen {a n : Nat} (h : RunsRows t s x) : RunsRows t s (bufOpen t a n x) := h.upd rfl rfl

theorem setFlags {fl : Nat} (h : RunsRows t s x) : RunsRows t s (setFlags t fl x) := h.modTile

theorem writeRow {d : LanD} {r : Nat} {ys : List Nat} (h : RunsRows t s x) : RunsRows t s (writeRow t d r ys x) :=
  .bufWrite (.setFlags (.modTile h))

/-! ### Rows (R204 to R208) -/

theorem forwardSoft {d : LanD} {r : Nat} {merged : Option PartRec} (h : RunsRows t s x) :
    RunsRows t s (forwardSoft t d r merged x) := .writeRow (.onlyIf (.ledgerWrite h) fun _ k => k.bump)

theorem forwardNorm {d : LanD} {r : Nat} {merged : Option PartRec} (h : RunsRows t s x) :
    RunsRows t s (forwardNorm t d r merged x) := by
  unfold Machine.forwardNorm
  extract_lets
  split
  extract_lets
  split
  · exact .writeRow (.ledgerWrite (.onlyIf h fun _ k => k.setFlags))
  · exact .writeRow (.ledgerWrite h)

theorem accumulateGrads {d : LanD} {r m l : Nat} (h : RunsRows t s x) : RunsRows t s (accumulateGrads t d r m l x) := by
  unfold Machine.accumulateGrads
  split
  · exact .onlyIf (.bufWrite h) fun _ k => k.bufWrite
  · exact h

theorem mergeRow {d : LanD} {r : Nat} (h : RunsRows t s x) : RunsRows t s (mergeRow t d r x) := by
  unfold Machine.mergeRow
  extract_lets recs
  clear_value recs
  cases recs with
  | nil => exact h
  | cons p rest =>
    dsimp only
    split
    · exact .bufOpen (.raiseWith h)
    · exact .bufWrite (.onlyIf h fun _ k => k.bump)

theorem partialRow {d : LanD} {r : Nat} (h : RunsRows t s x) : RunsRows t s (partialRow t d r x) := by
  unfold Machine.partialRow
  extract_lets
  split
  · exact .bufWrite (.accumulateGrads (.ledgerRead h))
  · split
    · exact h.bufWrite
    · exact h.bufWrite

theorem backwardRow {d : LanD} {r : Nat} {merged : Option PartRec} (h : RunsRows t s x) :
    RunsRows t s (backwardRow t d r merged x) :=
  .writeRow (.onlyIf (.accumulateGrads (.ledgerRead h)) fun _ k => k.setFlags)

theorem lanRow {d : LanD} {r : Nat} (h : RunsRows t s x) : RunsRows t s (lanRow t d r x) := by
  unfold Machine.lanRow
  refine .freshen ?_
  split
  · exact .partialRow h
  · exact .mergeRow h
  · extract_lets
    split
    · exact .backwardRow h
    · split
      · exact .forwardSoft h
      · exact .forwardNorm h

/-! ### All rows of an op, and those that a halt cuts short (R211, R221) -/

theorem lanRows {d : LanD} {k r : Nat} (h : RunsRows t s x) : RunsRows t s (lanRows t d k r x).2.2 := by
  induction k generalizing r x with
  | zero => exact h
  | succ k ih =>
    unfold Machine.lanRows
    split
    · exact h
    · exact ih (.lanRow h)

theorem openRows {d : LanD} {r : Nat} (h : RunsRows t s x) : RunsRows t s (openRows t d r x) := by
  have outputs {a n : Nat → Nat} {l : List Nat} {x : State} (h : RunsRows t s x) :
      RunsRows t s (Machine.forEach l (fun i => Machine.bufOpen t (a i) (n i)) x) := .forEach h fun _ _ k => .bufOpen k
  unfold Machine.openRows
  extract_lets rows written n opened
  split
  · exact outputs h
  · exact outputs h
  · have hopened : RunsRows t s opened := .onlyIf (outputs h) fun _ k => .onlyIf (.bufOpen k) fun _ k => .bufOpen k
    split
    · exact hopened
    · exact .forEach hopened fun _ _ k => .freshen (.modTile (.ledgerEnter k))

theorem lanRun {d : LanD} {k r : Nat} {w lw : WordRead} (h : RunsRows t s x) : RunsRows t s (lanRun t d k r w lw x).2.2 :=
  .bufWord (.onlyIf (.onlyIf (.lanRows h) fun _ k => .openRows k) fun _ k => .ledgerWord k)

end RunsRows

end

end Sys2Proof.Laws

/-!
PROOF. The Lantern's ops (R203, R211, R221): their issue, their end, a wait for a ledger line, and the line that is fetched back.
-/

namespace Sys2Proof.Laws

set_option Elab.async false

open Machine

/-! ### The op in the unit -/

/-- The Lantern's op, or none, is put in the unit. -/
def setLan (t : Nat) (l : Option LanRun) (s : State) : State := modTile t (fun x => { x with lan := l }) s

theorem tileOf_setLan {s : State} {t : Nat} (l : Option LanRun) (st : (tileOf s t).st ≠ 0) :
    tileOf (setLan t l s) t = { tileOf s t with lan := l } :=
  tileOf_modTile_self t _ s (tile_ne_default (x := { tileOf s t with lan := l }) st)

/-! ### An op issues (R203, R221) -/

section

variable {s : State} {t : TileNo} {e : Entry}

/-- The op that an entry starts. -/
def opOf (s : State) (t : Nat) (e : Entry) : LanRun :=
  { pos := (tileOf s t).pos, desc := runImg s + descAt s (runImg s) e.desc, row := 0, waitLine := none }

theorem execLanternOp_eq (entry : issuable s t.val 4 = some e) (free : (tileOf s t.val).lan = none) :
    execLanternOp t s = .next (issued t.val e (setLan t.val (some (opOf s t.val e)) s)) := by
  simp only [execLanternOp, entry, free, Option.isSome_none, Bool.false_eq_true, if_false]
  rfl

/-- The op is in the unit and on the board. -/
theorem lanternOp_issues (entry : issuable s t.val 4 = some e) (free : (tileOf s t.val).lan = none) :
    Gives (.lanternOp t) s (fun u => (tileOf u t.val).lan = some (opOf s t.val e) ∧
      onBoard (tileOf u t.val) (tileOf s t.val).pos = true) := by
  have st : (tileOf s t.val).st ≠ 0 := by rw [st_of_issuable entry]; decide
  have taken := tileOf_setLan (some (opOf s t.val e)) st
  have slot := tileOf_issue e (s := setLan t.val (some (opOf s t.val e)) s) (t := t.val) (by rw [taken]; exact st)
  obtain ⟨_, _, _, evaluated⟩ := evaluate_projected (s := issue t.val e (setLan t.val (some (opOf s t.val e)) s)) (t := t.val)
    (by rw [slot, taken]; exact st)
  refine ⟨_, execLanternOp_eq entry free, ?_, ?_⟩ <;> rw [issued, evaluated, slot, taken]
  exact onBoard_mem (List.mem_append_right _ (List.mem_singleton_self _)) rfl

end

/-! ### An op ends (R203, R221) -/

/-- The op has run all its rows, and is counted. -/
def opCompleted (t pos : Nat) (s : State) : State := complete t pos (bump 0x603001 1 (setLan t none s))

/-- The halting Calend has ended the op. -/
def opHalted (t pos : Nat) (s : State) : State :=
  modTile t (fun x => { x with board := x.board.filter (fun b => decide (b.pos ≠ pos)) }) (setLan t none s)

section

variable {s : State} {t : Nat}

theorem onBoard_filter {x : Tile} {l : List Slot} {pos : Nat} (board : x.board = l.filter (fun b => decide (b.pos ≠ pos))) :
    onBoard x pos = false := by
  rw [onBoard, board, List.any_eq_false]
  intro b mem
  simpa using (List.mem_filter.mp mem).2

/-- Beside its slot and its state, the completion of an entry changes of its tile only what the projection finds. -/
theorem tileOf_complete (pos : Nat) (st : (tileOf s t).st ≠ 0) : ∃ n, Projected
    { tileOf s t with st := n, board := (tileOf s t).board.filter (fun b => decide (b.pos ≠ pos)) }
    (tileOf (complete t pos s) t) := by
  obtain ⟨n, settled, alive⟩ := settleFrame_keeps { tileOf s t with
    board := (tileOf s t).board.filter (fun b => decide (b.pos ≠ pos)) }
  have freed := tileOf_modTile_self t
    (fun x => settleFrame { x with board := x.board.filter (fun b => decide (b.pos ≠ pos)) }) s
    (tile_ne_default (by rw [settled]; exact alive st))
  have projected := evaluate_projected (t := t) (s := modTile t _ s) (by rw [freed, settled]; exact alive st)
  rw [freed, settled] at projected
  exact ⟨n, projected⟩

theorem opCompleted_spec (pos : Nat) (st : (tileOf s t).st ≠ 0) :
    (tileOf (opCompleted t pos s) t).lan = none ∧
    cntOf (opCompleted t pos s) 0x603001 = cntOf s 0x603001 + 1 ∧
    (opCompleted t pos s).tkeep = s.tkeep ∧
    (tileOf (opCompleted t pos s) t).board = (tileOf s t).board.filter (fun b => decide (b.pos ≠ pos)) := by
  have idle : tileOf (bump 0x603001 1 (setLan t none s)) t = { tileOf s t with lan := none } := tileOf_setLan none st
  obtain ⟨_, _, _, _, e⟩ := tileOf_complete pos (s := bump 0x603001 1 (setLan t none s)) (by rw [idle]; exact st)
  have counted := (complete_counts t pos (bump 0x603001 1 (setLan t none s))).cnt 0x603001 (by decide) List.not_mem_nil
  have keep : (opCompleted t pos s).tkeep = s.tkeep := (complete_acts (Sub.refl _) (.refl _)).part .buffers
  rw [idle] at e
  refine ⟨?_, counted.trans (cntOf_bump_self (setLan t none s) Nat.one_ne_zero), keep, ?_⟩ <;> rw [opCompleted, e]

theorem opHalted_spec (pos : Nat) (st : (tileOf s t).st ≠ 0) :
    (tileOf (opHalted t pos s) t).lan = none ∧ onBoard (tileOf (opHalted t pos s) t) pos = false := by
  have idle := tileOf_setLan none st
  have freed : tileOf (opHalted t pos s) t = { tileOf (setLan t none s) t with
      board := (tileOf (setLan t none s) t).board.filter (fun b => decide (b.pos ≠ pos)) } :=
    tileOf_modTile_self t _ (setLan t none s) (tile_ne_default (x := { tileOf (setLan t none s) t with board := _ })
      (by rw [idle]; exact st))
  exact ⟨by rw [freed, idle], onBoard_filter (congrArg Tile.board freed)⟩

end

/-! ### The rows of an op (R211, R221) -/

/-- The descriptor of the op in the unit, with its place in the image and of its entry (R231). -/
def opDesc (s : State) (l : LanRun) : LanD := { lanternAt s l.desc with off := l.desc - runImg s, pos := l.pos }

/-- A pass in flight keeps the op from its bytes (R140). -/
def bytesPending (s : State) (t : Nat) (d : LanD) : Bool := (gaccExtent d :: lanReads d).any (fun x => pendingIn s t x.1 x.2)

/-- The op waits for a ledger line, or has pending bytes before it. -/
def opStalled (s : State) (t : Nat) (l : LanRun) : Bool := l.waitLine.isSome || bytesPending s t (opDesc s l)

/-- All the rows that the op has left to run. -/
def opRun (t : Nat) (l : LanRun) (w lw : WordRead) (s : State) : Nat × Option Nat × State :=
  lanRun t (opDesc s l) ((opDesc s l).nrows - l.row) l.row w lw s

/-- The op waits for the line that a read lacks, or is complete. -/
def opLeft (t : Nat) (l : LanRun) (run : Nat × Option Nat × State) : State :=
  match run.2.1 with
  | some line => setLan t (some { l with row := run.1, waitLine := some line }) run.2.2
  | none => opCompleted t l.pos run.2.2

/-- The rows that a halting Calend lets the op run; the others are undefined (R221). -/
def rowsHalted (t : Nat) (l : LanRun) (rows : Nat) (w lw : WordRead) (s : State) : State :=
  if (opDesc s l).op = 15 then s
  else
    let run := lanRun t (opDesc s l) (if opStalled s t l then 0 else min rows ((opDesc s l).nrows - l.row)) l.row w lw s
    openRows t (opDesc s l) run.1 run.2.2

theorem rowsHalted_runs (t : Nat) (l : LanRun) (rows : Nat) (w lw : WordRead) (s : State) :
    RunsRows t s (rowsHalted t l rows w lw s) := by
  unfold rowsHalted
  split
  · exact .refl s
  · exact .openRows (.lanRun (.refl s))

theorem opRun_runs (t : Nat) (l : LanRun) (w lw : WordRead) (s : State) : RunsRows t s (opRun t l w lw s).2.2 :=
  .lanRun (.refl s)

theorem execLanternOpComplete_eq {s : State} {t : TileNo} {l : LanRun} (op : (tileOf s t.val).lan = some l) (rows : BitVec 12)
    (w lw : WordRead) : execLanternOpComplete t rows w lw s = .next (
      if haltPassed s then opHalted t.val l.pos (rowsHalted t.val l rows.toNat w lw s)
      else if (opDesc s l).op = 15 then opCompleted t.val l.pos s
      else if opStalled s t.val l then s
      else opLeft t.val l (opRun t.val l w lw s)) := by
  rw [execLanternOpComplete, op]
  rfl

section

variable {s : State} {t : TileNo} {l : LanRun} (op : (tileOf s t.val).lan = some l) (st : (tileOf s t.val).st ≠ 0)
  (rows : BitVec 12) (w lw : WordRead)

include op st

theorem declaration_completes (going : haltPassed s = false) (declares : (opDesc s l).op = 15) :
    Gives (.lanternOpComplete t rows w lw) s (fun u => (tileOf u t.val).lan = none ∧ cntOf u 0x603001 = cntOf s 0x603001 + 1 ∧
      u.tkeep = s.tkeep ∧ (tileOf u t.val).board = (tileOf s t.val).board.filter (fun b => decide (b.pos ≠ l.pos))) := by
  refine ⟨opCompleted t.val l.pos s, ?_, opCompleted_spec l.pos st⟩
  exact (execLanternOpComplete_eq op rows w lw).trans (by rw [going, if_neg Bool.false_ne_true, if_pos declares])

/-- What the op has written stays, and it waits for the line that a read lacks or has ended. -/
theorem rows_run (going : haltPassed s = false) (computes : (opDesc s l).op ≠ 15) (held : l.waitLine = none)
    (settled : bytesPending s t.val (opDesc s l) = false) :
    Gives (.lanternOpComplete t rows w lw) s (fun u => u.tkeep = (opRun t.val l w lw s).2.2.tkeep ∧
      match (opRun t.val l w lw s).2.1 with
      | some line => (tileOf u t.val).lan = some { l with row := (opRun t.val l w lw s).1, waitLine := some line }
      | none => (tileOf u t.val).lan = none ∧ cntOf u 0x603001 = cntOf s 0x603001 + 1 ∧
          onBoard (tileOf u t.val) l.pos = false) := by
  have runs := opRun_runs t.val l w lw s
  have moves : opStalled s t.val l = false := by rw [opStalled, held, settled]; rfl
  refine ⟨opLeft t.val l (opRun t.val l w lw s), ?_, ?_⟩
  · exact (execLanternOpComplete_eq op rows w lw).trans
      (by rw [going, if_neg Bool.false_ne_true, if_neg computes, moves, if_neg Bool.false_ne_true])
  · unfold opLeft
    cases (opRun t.val l w lw s).2.1 with
    | some line => exact ⟨rfl, congrArg Tile.lan (tileOf_setLan _ (runs.alive st))⟩
    | none =>
      obtain ⟨idle, counted, keep, board⟩ := opCompleted_spec l.pos (runs.alive st)
      exact ⟨keep, idle, counted.trans (congrArg (· + 1) (runs.cnt 0x603001 (by decide) (by decide))), onBoard_filter board⟩

theorem halt_ends (past : haltPassed s = true) : Gives (.lanternOpComplete t rows w lw) s (fun u =>
    (tileOf u t.val).lan = none ∧ onBoard (tileOf u t.val) l.pos = false) :=
  ⟨opHalted t.val l.pos (rowsHalted t.val l rows.toNat w lw s),
    (execLanternOpComplete_eq op rows w lw).trans (by rw [if_pos past]),
    opHalted_spec l.pos ((rowsHalted_runs t.val l rows.toNat w lw s).alive st)⟩

end

/-! ### A ledger line is fetched back (R211, R246) -/

/-- The record that stands at place `i` of a fetched line. -/
def fetchedRecord (data : List Byte) (i : Nat) : U64 := BitVec.ofNat 64 (fieldAt data (8 * i) 8)

/-- The valid records among the first `n` of a line take the values fetched. -/
def fetchedLedger (line : Nat) (data : List Byte) (m : SMap U64) (n : Nat) : SMap U64 :=
  (List.range n).foldl (fun m i =>
    if (mfind m (8 * line + i)).isSome then mput m (8 * line + i) (fetchedRecord data i) else m) m

theorem mfind_fetchedLedger (line : Nat) (data : List Byte) (m : SMap U64) (n i : Nat) :
    mfind (fetchedLedger line data m n) (8 * line + i) =
      if i < n ∧ (mfind m (8 * line + i)).isSome = true then some (fetchedRecord data i) else mfind m (8 * line + i) := by
  induction n generalizing i with
  | zero => simp [fetchedLedger]
  | succ n ih =>
    have last : fetchedLedger line data m (n + 1) = if (mfind m (8 * line + n)).isSome = true then
        mput (fetchedLedger line data m n) (8 * line + n) (fetchedRecord data n) else fetchedLedger line data m n := by
      have same : mfind (fetchedLedger line data m n) (8 * line + n) = mfind m (8 * line + n) := by simp [ih]
      rw [← same, fetchedLedger, List.range_succ, List.foldl_append]
      rfl
    rw [last]
    obtain rfl | ne := eq_or_ne i n
    · split
      case isTrue valid => rw [mfind_mput_self, if_pos ⟨Nat.lt_succ_self i, valid⟩]
      case isFalse none_ => rw [ih, if_neg (fun h => none_ h.2), if_neg (fun h => none_ h.2)]
    · have bound : i < n + 1 ↔ i < n := by omega
      split
      · rw [mfind_mput_other _ _ (by omega), ih]
        simp only [bound]
      · rw [ih]
        simp only [bound]

/-- The line stands first among those present. -/
def lineEntered (t line : Nat) (s : State) : State :=
  modTile t (fun x => { x with lines := line :: (tileOf s t).lines.filter (fun k => decide (k ≠ line)) }) s

theorem ledgerEnter_of_room {s : State} {t : Nat} (line : Nat) (room : (tileOf s t).lines.length < 4096) :
    ledgerEnter t line s = lineEntered t line s := if_pos (.inr room)

theorem tileOf_lineEntered (t line : Nat) (s : State) : tileOf (lineEntered t line s) t =
    { tileOf s t with lines := line :: (tileOf s t).lines.filter (fun k => decide (k ≠ line)) } :=
  tileOf_modTile_self t _ s fun e => List.cons_ne_nil _ _ (congrArg Tile.lines e)

/-- The read of a line in the spill area, with what it has found. -/
def spillRead (t line : Nat) (x : LineRead) (s : State) : List Byte × Bool × State :=
  homeRead (spillPlace s t line) 64 false x (some t) [] s

/-- The line's records are back, the miss is counted, and the op goes on. -/
def lineBack (line : Nat) (l : LanRun) (data : List Byte) (y : Tile) : Tile :=
  { y with ledger := fetchedLedger line data y.ledger 8, misses := y.misses + 1, lan := some { l with waitLine := none } }

theorem ledger_lineBack (line : Nat) (l : LanRun) (data : List Byte) (y : Tile) :
    (lineBack line l data y).ledger = fetchedLedger line data y.ledger 8 := by rw [lineBack]

/-- The fetch has found its line, and is counted (OD 0x6030.04). -/
def lineFetched (t line : Nat) (l : LanRun) (read : List Byte × Bool × State) : State :=
  bump 0x603004 1 (modTile t (lineBack line l read.1) read.2.2)

section

variable {s : State} {t line : Nat} {l : LanRun} {x : LineRead}

theorem execLedgerFetch_eq {t : TileNo} (op : (tileOf s t.val).lan = some l) (waits : l.waitLine = some line)
    (room : (tileOf s t.val).lines.length < 4096) :
    execLedgerFetch t x s = .next (lineFetched t.val line l (spillRead t.val line x (lineEntered t.val line s))) := by
  simp only [execLedgerFetch, op, waits, ledgerEnter_of_room line room]
  rfl

theorem lineEntered_store : (lineEntered t line s).store = s.store := rfl

theorem spillPlace_lineEntered : spillPlace (lineEntered t line s) t line = spillPlace s t line := rfl

theorem spillRead_lineEntered : (spillRead t line x (lineEntered t line s)).1 = (spillRead t line x s).1 := by
  rw [spillRead, spillRead, spillPlace_lineEntered, homeRead_data_of_store lineEntered_store]

theorem tileOf_spillRead : tileOf (spillRead t line x s).2.2 t = tileOf s t :=
  tileOf_of_tiles ((homeRead_acts (Sub.refl _) (.refl s)).part .tiles) t

theorem tileOf_lineFetched : tileOf (lineFetched t line l (spillRead t line x (lineEntered t line s))) t =
    lineBack line l (spillRead t line x s).1
      { tileOf s t with lines := line :: (tileOf s t).lines.filter (fun k => decide (k ≠ line)) } := by
  have fetched := tileOf_modTile_self t (lineBack line l (spillRead t line x (lineEntered t line s)).1)
    (spillRead t line x (lineEntered t line s)).2.2 fun e => Nat.succ_ne_zero _ (congrArg Tile.misses e)
  rw [tileOf_spillRead, tileOf_lineEntered, spillRead_lineEntered] at fetched
  rw [lineFetched, tileOf_bump, spillRead_lineEntered, fetched]

theorem cntOf_lineFetched :
    cntOf (lineFetched t line l (spillRead t line x (lineEntered t line s))) 0x603004 = cntOf s 0x603004 + 1 := by
  have read : RunsRows t (lineEntered t line s) (spillRead t line x (lineEntered t line s)).2.2 := .homeRead (.refl _)
  exact (cntOf_bump_self _ Nat.one_ne_zero).trans (congrArg (· + 1) (read.cnt 0x603004 (by decide) (by decide)))

theorem ledgerFetch_brings {t : TileNo} (op : (tileOf s t.val).lan = some l) (waits : l.waitLine = some line)
    (room : (tileOf s t.val).lines.length < 4096) : Gives (.ledgerFetch t x) s (fun u =>
      (tileOf u t.val).lan = some { l with waitLine := none } ∧ (tileOf u t.val).misses = (tileOf s t.val).misses + 1 ∧
      (tileOf u t.val).lines.head? = some line ∧ cntOf u 0x603004 = cntOf s 0x603004 + 1 ∧
      ∀ i, i < 8 → (mfind (tileOf s t.val).ledger (8 * line + i)).isSome = true →
        mfind (tileOf u t.val).ledger (8 * line + i) = some (fetchedRecord (spillRead t.val line x s).1 i)) := by
  have back := tileOf_lineFetched (s := s) (t := t.val) (line := line) (l := l) (x := x)
  refine ⟨_, execLedgerFetch_eq op waits room, ?_⟩
  beta_reduce
  rw [back]
  refine ⟨rfl, rfl, rfl, cntOf_lineFetched, fun i small valid => ?_⟩
  rw [ledger_lineBack, mfind_fetchedLedger, if_pos ⟨small, valid⟩]

end

/-- Settles O36: the issue by the entry and the free unit; the end of an op by what its rows have left of its tile and of the
counters; the fetch by the read of the spill area, which the line's entry does not disturb. -/
theorem lanternOpsRunTheirRows : Obligations.LanternOpsRunTheirRows := by
  intro s t
  refine ⟨fun e entry free => lanternOp_issues entry free, ?_, fun l line x op waits room => ledgerFetch_brings op waits room⟩
  rintro l d op rfl st
  exact ⟨fun going declares rows w lw => declaration_completes op st rows w lw going declares,
    fun going computes held settled rows w lw => rows_run op st rows w lw going computes held settled,
    fun past rows w lw => halt_ends op st rows w lw past⟩

end Sys2Proof.Laws

/-!
PROOF. The invariants of a step: every command keeps them, and so does the step with an empty queue.
-/

namespace Sys2Proof.Laws

open Machine

/-- A step that answers keeps what every operation keeps, but for the queue. -/
theorem step_keeps_invariants {s t : State} (e : step s = .next t) :
    (Memory.wf s = true → Memory.wf t = true) ∧ (RecordsBounded s → RecordsBounded t) ∧
      (PowerInRange s → PowerInRange t) := by
  cases queue : s.pending with
  | nil =>
    obtain rfl : idleStep s = t := Host.Outcome.next.inj ((by rw [step, queue] : step s = _).symm.trans e)
    obtain ⟨_, keeps⟩ := idleStep_acts (Sub.refl _) (Acts.refl s)
    exact ⟨keeps.store, keeps.records, keeps.power⟩
  | cons c rest =>
    obtain ⟨u, answers, _, keeps⟩ := exec_completesInFrame c { s with pending := rest }
    obtain rfl : u = t := Host.Outcome.next.inj (answers.symm.trans ((by rw [step, queue] : step s = _).symm.trans e))
    exact ⟨keeps.store, fun b => keeps.records ⟨b.1, b.2, b.3, b.4, b.5, b.6, b.7⟩, fun b => keeps.power ⟨b.1, b.2, b.3⟩⟩

/-- Settles O60: the command at the front keeps the invariants by `exec_completesInFrame`, the idle step by `idleStep_acts`. -/
theorem stepsKeepTheStoreCanonical : Obligations.StepsKeepTheStoreCanonical :=
  fun _ _ => step_keeps_invariants

end Sys2Proof.Laws

/-!
PROOF. The self-test of a channel (R260), and the report of Ready (R558): a package in service stays so under every fault and
through its first Season.
-/

namespace Sys2Proof.Laws

set_option Elab.async false

open Machine

/-! ### The bytes of a channel (R240, R260) -/

theorem mget_filter_key {α : Type} (d : α) (keep : Nat → Bool) (m : SMap α) (a : Nat) :
    mget d (m.filter (fun c => keep c.1)) a = if keep a then mget d m a else d := by
  induction m with
  | nil => simp
  | cons x m ih =>
    obtain ⟨k, v⟩ := x
    rw [List.filter_cons]
    obtain rfl | ne := eq_or_ne a k
    · cases kept : keep a with
      | true => simp [mget]
      | false => simpa [kept] using ih
    · have other (l : SMap α) : mget d ((k, v) :: l) a = mget d l a := by rw [mget, if_neg ne]
      split
      · rw [other, other, ih]
      · rw [other, ih]

theorem storeByte_zeroChannel (i : Nat) (s : State) (a : Nat) :
    storeByte (zeroChannel i s) a = if storeChan a = i then 0 else storeByte s a := by
  refine (mget_filter_key 0 (fun a => decide (storeChan a ≠ i)) s.store.cells a).trans ?_
  split
  case isTrue kept => rw [if_neg (of_decide_eq_true kept), storeByte]
  case isFalse dropped => rw [if_pos (by simpa using dropped)]

/-! ### The end of step 4 (R258, R553) -/

theorem retireSegments_rowKeeps (s : State) : rowKeeps (retireSegments s).store = rowKeeps s.store := by
  unfold retireSegments
  dsimp only
  split
  · rfl
  · exact (raise_rowKeeps _ _ _).trans (journalPut_acts (Sub.refl _) (.refl _)).rowKeeps

theorem leaveStep4_rowKeeps (s : State) : rowKeeps (leaveStep4 s).store = rowKeeps s.store := by
  have loaded : rowKeeps (loadArrays (retireSegments s)).store = rowKeeps s.store :=
    (loadArrays_acts (Sub.refl _) (.refl _)).rowKeeps.trans (retireSegments_rowKeeps s)
  unfold leaveStep4
  dsimp only
  split
  · split <;> exact loaded
  · rfl

/-! ### The self-test -/

/-- The channel of this self-test may be tested now: its die has answered, and it has not been tested yet (R260, R553). -/
structure TestDue (s : State) (i : Nat) : Prop where
  starting : s.boot.starting = true
  hub : s.boot.hub = true
  step : s.boot.step = 3 ∨ s.boot.step = 4
  untested : (chanOf s i).tested = false
  answered : (mget {} s.dies.map (1 + i / 64)).answered = true

/-- The channel reads zero, and its banks have as many spares in use as the records count. -/
def sparesCounted (i : Nat) (s : State) : State :=
  let s := zeroChannel i s
  { s with store := { s.store with
    segRetired := recordedSegments s
    spares := (List.range 16).foldl (fun m b => mset 0 m (i * 16 + b) (sparesRecorded s (i * 16 + b))) s.store.spares } }

/-- A channel without a bad row or spare has passed. -/
def channelPassed (i : Nat) (s : State) : State := modChan i (fun c => { c with tested := true }) (sparesCounted i s)

/-- A channel has failed. -/
def channelFailed (i : Nat) (s : State) : State :=
  modChan i (fun c => { c with failed := true }) (raise 0x2014 i (zeroChannel i s))

section

variable {s : State} {i : TileNo}

theorem execStoreSelfTest_good (due : TestDue s i.val) :
    execStoreSelfTest i true [] [] s = .next (leaveStep4 (channelPassed i.val s)) := by
  rw [execStoreSelfTest, if_pos ⟨due.starting, due.hub, due.step, due.untested, due.answered⟩]
  rfl

theorem execStoreSelfTest_bad (due : TestDue s i.val) : execStoreSelfTest i false [] [] s = .next (channelFailed i.val s) := by
  rw [execStoreSelfTest, if_pos ⟨due.starting, due.hub, due.step, due.untested, due.answered⟩]
  rfl

theorem storeByte_leaveStep4 (x : State) (a : Nat) : storeByte (leaveStep4 x) a = storeByte x a :=
  congrArg (mget 0 · a) ((leaveStep4_acts (Sub.refl _) (.refl x)).part .storeBytes : _ = _)

theorem goodChannel_spec (due : TestDue s i.val) : Gives (.storeSelfTest i true [] []) s (fun t =>
    (chanOf t i.val).tested = true ∧ (∀ a, storeChan a = i.val → storeByte t a = 0) ∧
      (∀ a, storeChan a ≠ i.val → storeByte t a = storeByte s a)) := by
  have byte (a : Nat) : storeByte (leaveStep4 (channelPassed i.val s)) a = if storeChan a = i.val then 0 else storeByte s a :=
    (storeByte_leaveStep4 _ a).trans (storeByte_zeroChannel i.val s a)
  refine ⟨_, execStoreSelfTest_good due, ?_, fun a h => (byte a).trans (if_pos h), fun a h => (byte a).trans (if_neg h)⟩
  rw [chanOf_of_rowKeeps (leaveStep4_rowKeeps _), channelPassed, chanOf_modChan_self]
  exact fun e => Bool.noConfusion (congrArg Chan.tested e)

theorem badChannel_spec (due : TestDue s i.val) : Gives (.storeSelfTest i false [] []) s (fun t =>
    (chanOf t i.val).failed = true ∧ Raised 0x2014 s t) := by
  have zeroed : CountsOnly [] [] s (zeroChannel i.val s) := .upd (.refl s) rfl rfl rfl
  refine ⟨_, execStoreSelfTest_bad due, ?_, ?_⟩
  · rw [channelFailed, chanOf_modChan_self]
    exact fun e => Bool.noConfusion (congrArg Chan.failed e)
  · have raised : Raised 0x2014 s (raise 0x2014 i.val (zeroChannel i.val s)) := zeroed.then_raised (raise_raised _ _)
    exact Raised.later (codes := []) (keys := []) raised (modChan_counts (.refl _))

end

/-! ### A package in service (R480, R558) -/

/-- The package has reported Ready, and no Calendar is in Run. -/
structure InService (x : State) : Prop where
  ready : x.boot.ready = true
  live : x.boot.odLive = true
  started : x.boot.starting = false
  power : x.pow.state = .ready

section

variable {x y : State}

namespace InService

theorem upd (h : InService x) (ready : y.boot.ready = x.boot.ready) (live : y.boot.odLive = x.boot.odLive)
    (started : y.boot.starting = x.boot.starting) (power : y.pow.state = x.pow.state) : InService y :=
  ⟨ready.trans h.ready, live.trans h.live, started.trans h.started, power.trans h.power⟩

theorem acts {L : Nat} (a : Acts L x y) (h : InService x) (power : L.testBit 0 = false := by decide)
    (startUp : L.testBit 6 = false := by decide) : InService y := by
  have same : startUpOf y.boot = startUpOf x.boot := a.part .startUp startUp
  simp only [startUpOf, Prod.mk.injEq] at same
  obtain ⟨-, -, -, -, started, ready, live, -⟩ := same
  exact h.upd ready live started (a.part .powerState power)

theorem forEach {α : Type} {l : List α} {f : α → State → State} (h : InService x)
    (hf : ∀ a y, InService y → InService (f a y)) : InService (forEach l f x) := by
  induction l generalizing x with
  | nil => exact h
  | cons a l ih => exact ih (hf a x h)

theorem onlyIf {c : Bool} {f : State → State} (h : InService x) (hf : InService x → InService (f x)) :
    InService (onlyIf c f x) := by
  unfold Machine.onlyIf
  split
  · exact hf h
  · exact h

/-! ### Under a fault (R525 to R528) -/

theorem settlePower (h : InService x) : InService (settlePower x) := by
  have stays : ¬(x.pow.state = .run ∧ (!calBusy x) = true) := by
    rw [h.power]
    exact fun e => PState.noConfusion e.1
  rwa [Machine.settlePower, if_neg stays]

theorem endLaunch {c : Cal} {status code d0 d1 : Nat} (h : InService x) : InService (endLaunch c status code d0 d1 x) := by
  unfold Machine.endLaunch
  dsimp only
  refine settlePower ?_
  split
  · exact h.upd rfl rfl rfl rfl
  · exact .acts (finishCmd_acts (Sub.refl _) (.refl _)) h

theorem sendOwn {n : Notice} (h : InService x) : InService (sendOwn n x) := .acts (sendOwn_acts (Sub.refl _) (.refl _)) h

theorem failHeld {status code d0 typ : Nat} (h : InService x) : InService (failHeld status code d0 typ x) := by
  unfold Machine.failHeld
  split
  · exact h
  · unfold dropHeld
    split
    · exact h.sendOwn
    · exact endLaunch (h.sendOwn.upd rfl rfl rfl rfl)

theorem raiseHalt {code : Nat} {tile : Option Nat} (h : InService x) : InService (raiseHalt code tile x) := by
  unfold Machine.raiseHalt
  split
  · split
    · dsimp only
      refine sendOwn ?_
      split
      · exact h
      · exact h.upd rfl rfl rfl rfl
    · exact h.failHeld
  · exact h.failHeld

theorem leaveService {code : Nat} (h : InService x) : InService (leaveService code x) := by
  unfold Machine.leaveService
  split
  · exact h
  · exact .acts (departTwin_acts (Sub.refl _) (.refl _)) (h.upd rfl rfl rfl rfl)

/-- A package that has reported Ready leaves service; it does not start again. -/
theorem deviceFatal {code : Nat} {tile : Option Nat} {ctx : Nat} {also : List Nat} (h : InService x) :
    InService (deviceFatal code tile ctx also x) := by
  have halted := (InService.acts (journalPut_acts (a0 := { kind := .fault { faultRec code false tile ctx x with
    also := also, seq := latestSeq x } }) (Sub.refl _) (.refl x)) h).raiseHalt (code := code) (tile := tile)
  unfold Machine.deviceFatal
  dsimp only
  rw [if_pos halted.ready]
  exact halted.leaveService

theorem raiseWith {code : Nat} {tile : Option Nat} {ctx : Nat} {also : List Nat} (h : InService x) :
    InService (raiseWith code tile ctx also x) := by
  have logged : InService (logWith code tile ctx also x) := .acts (logWith_acts (Sub.refl _) (.refl _)) h
  unfold Machine.raiseWith
  split
  · exact logged
  · exact .acts (correctedWith_acts (Sub.refl _) (.refl _)) h
  · exact logged.raiseHalt
  · exact logged.deviceFatal
  · exact logged.deviceFatal.upd rfl rfl rfl rfl

theorem raise {code ctx : Nat} (h : InService x) : InService (raise code ctx x) := h.raiseWith

/-! ### Through the first Season (R540, R558) -/

theorem openSplit {n : Nat} {z : Setting} {g : Nat} (h : InService x) : InService (openSplit n z g x) := by
  unfold Machine.openSplit
  dsimp only
  split
  · exact h
  · exact .forEach (h.upd rfl rfl rfl rfl) fun _ _ k => k.raiseWith

theorem applySetting {n : Nat} {z : Setting} (h : InService x) : InService (applySetting n z x) := by
  have missing : InService (missingPhase n x) := h.forEach fun _ _ k => k.raiseWith
  have ended : InService (endSplits n (missingPhase n x)) := .acts (endSplits_acts (Sub.refl _) (.refl _)) missing
  unfold Machine.applySetting
  dsimp only
  split
  · exact h
  · refine .acts (pauseEngine_acts (Sub.refl _) (.refl _))
      (.forEach (.forEach ?_ fun _ _ k => k.upd rfl rfl rfl rfl) fun _ _ k => k.openSplit)
    exact ended.upd rfl rfl rfl rfl

theorem baseFabric (h : InService x) : InService (baseFabric x) := by
  have ended : InService (Machine.forEach (List.range 8) endWindow { x with links := { x.links with
      pairs := mmapv {} dropQueues x.links.pairs, splits := x.links.splits.map (fun y => { y with queue := [] }) } }) :=
    .forEach (h.upd rfl rfl rfl rfl) fun _ _ k => k.upd rfl rfl rfl rfl
  exact ended.forEach fun n y k => (k.upd rfl rfl rfl rfl :
    InService (modEng n (fun e => { e with heldPhase := none }) y)).applySetting

theorem takeSkips (h : InService x) : InService (takeSkips x) := by
  unfold Machine.takeSkips
  dsimp only
  exact .onlyIf (.onlyIf (h.upd rfl rfl rfl rfl) raise) raise

theorem refuseLaunches {code : Nat} (h : InService x) : InService (refuseLaunches code x) :=
  .acts (refuseLaunches_acts (Sub.refl _) (.refl _)) h

theorem exchangeSlice (h : InService x) : InService (exchangeSlice x) := by
  have sent (l : List Nat) : InService (Machine.forEach l (fun d y => sendDir d 5 (.slice (ownSlice y)) y) x) :=
    h.forEach fun _ _ k => .acts (sendDir_acts (Sub.refl _) (.refl _)) k
  unfold Machine.exchangeSlice
  dsimp only
  split
  · exact (sent _).refuseLaunches.raise
  · exact sent _

theorem judgeSolo (h : InService x) : InService (judgeSolo x) := by
  unfold Machine.judgeSolo
  split
  · split
    · exact h.raiseWith
    · exact h.refuseLaunches.raiseWith
  · exact h

theorem claimRoot (h : InService x) : InService (claimRoot x) := by
  unfold Machine.claimRoot
  dsimp only
  refine .forEach (.onlyIf (h.upd rfl rfl rfl rfl) raiseWith) fun _ _ k => ?_
  exact .acts (sendTime_acts (Sub.refl _) (.refl _)) k

theorem claimDesignated (h : InService x) : InService (claimDesignated x) := by
  have asked : InService { x with time := { x.time with claimDue := false } } := h.upd rfl rfl rfl rfl
  unfold Machine.claimDesignated
  dsimp only
  split
  · split
    · exact asked.claimRoot
    · exact asked
  · exact h

theorem takeEgress (h : InService x) : InService (takeEgress x) := h.upd rfl rfl rfl rfl

theorem computeBound (h : InService x) : InService (computeBound x) := h.upd rfl rfl rfl rfl

theorem startSeason (h : InService x) : InService (startSeason x) :=
  (h.baseFabric.takeSkips.takeEgress.exchangeSlice.judgeSolo.computeBound.onlyIf fun k =>
    .acts (sendPairing_acts (Sub.refl _) (.refl _)) k).claimDesignated

theorem takeWindows (h : InService x) : InService (takeWindows x) := by
  unfold Machine.takeWindows
  dsimp only
  split
  · exact h.upd rfl rfl rfl rfl
  · refine raise ?_
    exact h.upd rfl rfl rfl rfl

theorem takeValues (h : InService x) : InService (takeValues x) := by
  have taken : InService (resumeCalends (valuesTaken x)) := h.upd rfl rfl rfl rfl
  have rest {moved : Bool} {y : State} (k : InService y) : InService (trimFar (clearRetired (takeTwin moved y))) :=
    .acts (trimFar_acts (Sub.refl _) (.refl _)) (k.upd rfl rfl rfl rfl)
  obtain ⟨moved, e⟩ := takeValues_eq x
  rw [e]
  exact rest taken.takeWindows

theorem firstSeason (h : InService x) : InService (firstSeason x) := by
  have cleared : InService (clearSeason x) := h.upd rfl rfl rfl rfl
  exact cleared.takeValues.startSeason

theorem autoCommission {n : Nat} {sp : Bool} (h : InService x) : InService (autoCommission n sp x) := by
  have recorded : InService (recordBaseline n sp none x) := .acts (recordBaseline_acts (Sub.refl _) (.refl _)) h
  unfold Machine.autoCommission
  split
  · exact recorded.raiseWith
  · exact h

end InService

end

/-! ### Ready is reported (R558) -/

/-- The start has ended, and the dictionary answers. -/
def readyReported (s : State) : State :=
  setPower .ready { s with boot := { s.boot with step := 9, starting := false, waiting := false, ready := true, odLive := true } }

theorem readyReported_inService (s : State) : InService (readyReported s) := by
  have start : startUpOf (readyReported s).boot = startUpOf { s.boot with
      step := 9, starting := false, waiting := false, ready := true, odLive := true } :=
    (setPower_acts (Sub.refl _) (.refl _)).part .startUp
  simp only [startUpOf, Prod.mk.injEq] at start
  obtain ⟨-, -, -, -, started, ready, live, -⟩ := start
  exact ⟨ready, live, started, setPower_state .ready _⟩

/-- Each input that is lit and has no baseline is commissioned (R288). -/
def allCommissioned (s : State) : State :=
  forEach (List.range 8) (fun n s => autoCommission n true (autoCommission n false s)) s

theorem execReadyReport_now {s : State} (now : readyNow s = true) :
    execReadyReport s = .next (allCommissioned (firstSeason (readyReported s))) := by
  rw [execReadyReport, if_pos now]
  rfl

theorem allCommissioned_inService {s : State} (h : InService s) : InService (allCommissioned s) :=
  h.forEach fun _ _ k => k.autoCommission.autoCommission

/-- Settles O21: the bytes that the self-test keeps are those of the other channels; the first Season and its commissioning keep
the package in service. -/
theorem selfTestZeroesItsChannelAndReadyIsReported : Obligations.SelfTestZeroesItsChannelAndReadyIsReported := by
  intro s
  refine ⟨fun i starting hub step untested answered => ?_, fun now => ?_⟩
  · have due : TestDue s i.val := ⟨starting, hub, step, untested, answered⟩
    exact ⟨goodChannel_spec due, badChannel_spec due⟩
  · obtain ⟨ready, live, started, power⟩ := allCommissioned_inService (readyReported_inService s).firstSeason
    exact ⟨_, execReadyReport_now now, ready, live, started, power⟩

end Sys2Proof.Laws

/-!
PROOF. Loads at their home (R243, R246, R248, R250, R252, R254): what a read answers by the line's poison, what its corrections
count, and the request that it answers.
-/

namespace Sys2Proof.Laws

set_option Elab.async false

open Machine

/-! ### What a read answers (R243, R252) -/

section

variable (n : Nat) (critical : Bool) (x : LineRead) (tile : Option Nat) (by_ : List Nat) {s : State} {a : Nat}

theorem homeRead_clean (within : a < capacity s) (clean : poisoned (lineFound critical (a / 128) x s) (a / 128) = false) :
    homeRead a n critical x tile by_ s = (storeBytes s a n, false, lineFound critical (a / 128) x s) := by
  have bytes : storeBytes (lineFound critical (a / 128) x s) a n = storeBytes s a n := by
    simp only [storeBytes, storeByte, lineFound_cells]
  rw [homeRead, if_neg (Nat.not_le.mpr within)]
  simp only [clean, bytes, Bool.false_eq_true, if_false]

theorem homeRead_poisoned (within : a < capacity s) (bad : poisoned (lineFound critical (a / 128) x s) (a / 128) = true) :
    homeRead a n critical x tile by_ s = (List.replicate n 0xFF, true,
      raiseWith 0x2010 tile (physRow (lineFound critical (a / 128) x s) a) (a / 128 * 128 :: by_)
        (bump 0x500202 1 (lineFound critical (a / 128) x s))) := by
  rw [homeRead, if_neg (Nat.not_le.mpr within)]
  simp only [bad, if_true]

theorem homeRead_beyond (beyond : capacity s ≤ a) : homeRead a n critical x tile by_ s =
    (List.replicate n 0xFF, true, raiseWith 0x2013 tile (addrContext 0 a) (a :: by_) s) := by
  rw [homeRead, if_pos beyond]

end

/-! ### What corrections count (R248, R254) -/

theorem cacheCorrected_eq (slice : Nat) (s : State) :
    cacheCorrected slice s = corrected 0x2008 none slice (bump 0x500204 1 s) := by
  have sev : sevOf 0x2008 = 1 := by decide
  simp only [cacheCorrected, raise, raiseFault, raiseWith, sev, corrected]

theorem cacheCorrected_counts (slice : Nat) (s : State) : corrOf (cacheCorrected slice s) 0x2008 = corrOf s 0x2008 + 1 ∧
    cntOf (cacheCorrected slice s) 0x500204 = cntOf s 0x500204 + 1 := by
  obtain ⟨self, -, -, cnt⟩ := correctedWith_counts (code := 0x2008) none slice [] (bump 0x500204 1 s)
  rw [cacheCorrected_eq]
  exact ⟨self, (cnt 0x500204 (by decide)).trans (cntOf_bump_self s (by decide))⟩

/-- The slots that a read of the channel takes, after the write-back of a dirty line (R250, R251). -/
def slotsTaken (critical : Bool) (line : Nat) (s : State) : State :=
  takeSlot (physChan s (line * 128)) critical (takeSlot (physChan s (line * 128)) critical (writeBack line s))

theorem channelRead_eq (critical : Bool) (line : Nat) (x : LineRead) (s : State) :
    channelRead critical line x s = lineWords line x (slotsTaken critical line s) := rfl

theorem CountsOnly.takeSlot {codes keys : List Nat} {s x : State} {ch : Nat} {critical : Bool} (h : CountsOnly codes keys s x)
    (mem : 0x500206 ∈ keys) : CountsOnly codes keys s (takeSlot ch critical x) :=
  modChan_counts (h.onlyIf (bump_counts (.inr mem)))

theorem slotsTaken_counts (critical : Bool) (line : Nat) (s : State) :
    CountsOnly [0x2002, 0x2003, 0x2004, 0x2015] [0x500206] s (slotsTaken critical line s) := by
  have back : CountsOnly [0x2002, 0x2003, 0x2004, 0x2015] [0x500206] s (writeBack line s) := by
    have slots (ch : Nat) : CountsOnly [0x2002, 0x2003, 0x2004, 0x2015] [0x500206] s (takeSlot ch false (takeSlot ch false s)) :=
      ((CountsOnly.refl s).takeSlot (by decide)).takeSlot (by decide)
    unfold writeBack
    dsimp only
    split
    · exact .acts (setDirty_acts (Sub.refl _) (.refl _)) (slots _)
    · exact .refl s
  exact (back.takeSlot (by decide)).takeSlot (by decide)

/-- A line whose second word is clean is its first word alone. -/
theorem lineWords_first (line : Nat) (c : CacheRead) (w : WordRead) (s : State) :
    lineWords line { cache := c, w0 := w, w1 := .clean } s = oneWord (line * 128) w s := by
  simp only [lineWords, oneWord, wordFound, Bool.or_false]

theorem lineWords_second_uncorrectable (line : Nat) (c : CacheRead) (s : State) :
    lineWords line { cache := c, w0 := .clean, w1 := .uncorrectable } s =
      onlyIf true (rowFailure (physRow s (line * 128)) true) (setPoison ((line * 128 + 64) / 128) true s) := rfl

/-- A corrected word of the channel is counted once (R254). -/
theorem lineFound_firstCorrected_counts (critical : Bool) (line : Nat) {k : Fin 5} (hk : k.val ≠ 0) (s : State) :
    corrOf (lineFound critical line { cache := .missed, w0 := .corrected k } s) 0x2001 = corrOf s 0x2001 + 1 ∧
      cntOf (lineFound critical line { cache := .missed, w0 := .corrected k } s) 0x500201 = cntOf s 0x500201 + 1 := by
  have slots := slotsTaken_counts critical line s
  obtain ⟨corr, cnt, -⟩ := oneWord_corrected_counts (line * 128) hk (slotsTaken critical line s)
  have words : lineFound critical line { cache := .missed, w0 := .corrected k } s =
      oneWord (line * 128) (.corrected k) (slotsTaken critical line s) := lineWords_first line .missed (.corrected k) _
  rw [words]
  exact ⟨corr.trans (by rw [corrOf, slots.corr, corrOf]), cnt.trans (by rw [slots.cnt _ (by decide) (by decide)])⟩

theorem lineFound_secondUncorrectable_counts (critical : Bool) (line : Nat) (s : State) :
    CountsOnly [0x2002, 0x2003, 0x2004, 0x2015] [0x500206] s
      (lineFound critical line { cache := .missed, w1 := .uncorrectable } s) := by
  obtain ⟨failed, -⟩ := onlyIf_rowFailure true (physRow (slotsTaken critical line s) (line * 128))
    (setPoison ((line * 128 + 64) / 128) true (slotsTaken critical line s))
  have slots := slotsTaken_counts critical line s
  have poisoned := slots.upd (y := setPoison ((line * 128 + 64) / 128) true (slotsTaken critical line s)) rfl rfl rfl
  exact poisoned.trans ⟨failed.evt, failed.corr, fun k hs _ => failed.cnt k hs (by simp)⟩

/-! ### The request is answered (R368) -/

/-- The die of the tile that loads may take a copy, and the request is answered (R45, R245). -/
def loadAnswered (r : Nat) (q : Req) (read : List Byte × Bool × State) : State :=
  answerReq r read.1 read.2.1
    (onlyIf (!read.2.1 && !q.nofar && decide (storeDie (gaLocal q.addr.toNat) ≠ tileDie q.tile))
      (placeFar q.addr.toNat (tileDie q.tile) read.1) read.2.2)

theorem copyPlaced_acts (c : Bool) (ga die : Nat) (l : List Byte) (s : State) :
    Acts (Part.set [.storeRest, .freeCount]) s (onlyIf c (placeFar ga die l) s) :=
  onlyIf_acts (.refl s) fun _ h => placeFar_acts (Sub.refl _) h

theorem loadAnswered_acts (r : Nat) (q : Req) (read : List Byte × Bool × State) :
    Acts (Part.set [.storeRest, .freeCount, .tiles, .fabric]) read.2.2 (loadAnswered r q read) :=
  answerReq_acts ((Sub.refl _).mono (by decide)) (onlyIf_acts (.refl _) fun _ h => placeFar_acts ((Sub.refl _).mono (by decide)) h)

section

variable {s : State} {r : Nat} {q : Req} {a : Nat} {x : LineRead}

theorem loadAnswered_answers (h : homeReq s r .load = some q) {data : List Byte} {poison : Bool} {u : State}
    (same : u.fabric = s.fabric) : ∃ q', reqOf (loadAnswered r q (data, poison, u)) r = some q' ∧ q'.answered = true ∧
      q'.poison = poison ∧ q'.data = data := by
  obtain ⟨req, unanswered⟩ := homeReq_spec h
  refine answerReq_answers (q := q) ?_ unanswered data poison
  have kept : ∀ c l, (onlyIf c (placeFar q.addr.toNat (tileDie q.tile) l) u).fabric = s.fabric := fun c l =>
    (Acts.part (copyPlaced_acts c _ _ l u) .fabric : _ = _).trans same
  rw [reqOf, kept]
  exact req

theorem execHomeSliceLoad_served (h : homeReq s r .load = some q) (idle : rowBusy s (gaLocal q.addr.toNat) = false)
    (turn : lineTurn s q.prio (gaLocal q.addr.toNat / 128) x (some r) = true) :
    execHomeSliceLoad r x s =
      .next (loadAnswered r q (homeRead (gaLocal q.addr.toNat) q.len q.prio x (some q.tile) [] s)) := by
  simp only [execHomeSliceLoad, h, idle, turn, Bool.false_eq_true, Bool.true_eq_false, or_self, if_false]
  rfl

/-- A read of a line that stays clean (R246): the bytes, and no count beside those of what the read found. -/
theorem cleanLoad_spec (h : homeReq s r .load = some q) (at_ : a = gaLocal q.addr.toNat) (idle : rowBusy s a = false)
    (turn : lineTurn s q.prio (a / 128) x (some r) = true) (within : a < capacity s)
    (clean : poisoned (lineFound q.prio (a / 128) x s) (a / 128) = false) :
    Gives (.homeSliceLoad r x) s (fun u => u.store.cells = s.store.cells ∧
      u.health = (lineFound q.prio (a / 128) x s).health ∧
      ∃ q', reqOf u r = some q' ∧ q'.answered = true ∧ q'.poison = false ∧ q'.data = storeBytes s a q.len) := by
  subst at_
  have run := execHomeSliceLoad_served h idle turn
  rw [homeRead_clean _ _ _ _ _ within clean] at run
  have acts := loadAnswered_acts r q (storeBytes s (gaLocal q.addr.toNat) q.len, false,
    lineFound q.prio (gaLocal q.addr.toNat / 128) x s)
  have fabric : (lineFound q.prio (gaLocal q.addr.toNat / 128) x s).fabric = s.fabric :=
    (lineFound_acts (Sub.refl _) (.refl s)).part .fabric
  exact ⟨_, run, (acts.part .storeBytes : _ = _).trans (lineFound_cells _ _ _ _), acts.health, loadAnswered_answers h fabric⟩

/-- A read of a line that is, or becomes, poisoned (R252): 0xFF, with 0x2010. -/
theorem poisonedLoad_spec (h : homeReq s r .load = some q) (at_ : a = gaLocal q.addr.toNat) (idle : rowBusy s a = false)
    (turn : lineTurn s q.prio (a / 128) x (some r) = true) (within : a < capacity s)
    (bad : poisoned (lineFound q.prio (a / 128) x s) (a / 128) = true) :
    Gives (.homeSliceLoad r x) s (fun u => CountsOnly [0x2010] [0x500202] (lineFound q.prio (a / 128) x s) u ∧
      Raised 0x2010 (lineFound q.prio (a / 128) x s) u ∧ poisoned u (a / 128) = true ∧
      ∃ q', reqOf u r = some q' ∧ q'.answered = true ∧ q'.poison = true ∧ q'.data = List.replicate q.len 0xFF) := by
  subst at_
  have run := execHomeSliceLoad_served h idle turn
  rw [homeRead_poisoned _ _ _ _ _ within bad] at run
  set found := lineFound q.prio (gaLocal q.addr.toNat / 128) x s with hfound
  have found_acts := lineFound_acts (a0 := q.prio) (a1 := gaLocal q.addr.toNat / 128) (a2 := x) (Sub.refl _) (Acts.refl s)
  rw [← hfound] at found_acts
  set fault := raiseWith 0x2010 (some q.tile) (physRow found (gaLocal q.addr.toNat))
    [gaLocal q.addr.toNat / 128 * 128] (bump 0x500202 1 found) with hfault
  have fault_acts : Acts (Part.set faultParts) found fault := raiseWith_acts ((Sub.refl _).mono (by decide))
    (bump_acts ((Sub.refl _).mono (by decide)) (.refl found))
  have acts := loadAnswered_acts r q (List.replicate q.len 0xFF, true, fault)
  have counted : CountsOnly [0x2010] [0x500202] found (bump 0x500202 1 found) := bump_counts (.inr (by decide)) (.refl found)
  have unanswered : loadAnswered r q (List.replicate q.len 0xFF, true, fault) = answerReq r (List.replicate q.len 0xFF) true fault := rfl
  refine ⟨_, run, .acts acts (raiseWith_counts (code := 0x2010) (.inr (by decide)) counted), ?_, ?_, loadAnswered_answers h ?_⟩
  · have none_ : CountsOnly [] [0x500202] found (bump 0x500202 1 found) := bump_counts (.inr (by decide)) (.refl found)
    exact Raised.later (codes := []) (keys := []) (none_.then_raised (raiseWith_raised _ _ _ _)) (.acts acts (.refl _))
  · rw [unanswered, poisoned_of_rowKeeps (answerReq_acts (Sub.refl _) (.refl _)).rowKeeps,
      poisoned_of_rowKeeps fault_acts.rowKeeps]
    exact bad
  · exact (fault_acts.part .fabric : _ = _).trans (found_acts.part .fabric)

/-- A read beyond the capacity (R243). -/
theorem beyondLoad_spec (h : homeReq s r .load = some q) (at_ : a = gaLocal q.addr.toNat) (idle : rowBusy s a = false)
    (turn : lineTurn s q.prio (a / 128) x (some r) = true) (beyond : capacity s ≤ a) :
    Gives (.homeSliceLoad r x) s (fun u => Raised 0x2013 s u ∧
      ∃ q', reqOf u r = some q' ∧ q'.answered = true ∧ q'.poison = true) := by
  subst at_
  have run := execHomeSliceLoad_served h idle turn
  rw [homeRead_beyond _ _ _ _ _ beyond] at run
  set fault := raiseWith 0x2013 (some q.tile) (addrContext 0 (gaLocal q.addr.toNat)) [gaLocal q.addr.toNat] s
  have acts := loadAnswered_acts r q (List.replicate q.len 0xFF, true, fault)
  obtain ⟨q', req, answered, poison, -⟩ := loadAnswered_answers h (data := List.replicate q.len 0xFF) (poison := true)
    (u := fault) ((raiseWith_acts (Sub.refl _) (.refl s)).part .fabric)
  exact ⟨_, run, Raised.later (codes := []) (keys := []) (raiseWith_raised _ _ _ _) (.acts acts (.refl _)),
    q', req, answered, poison⟩

end

/-! ### The clauses -/

section

variable {s : State} {line : Nat} {critical : Bool} {me : Option Nat}

theorem lineTurn_of_classTurn (x : LineRead)
    (turn : classTurn s (physChan s (line * 128)) critical me = true) : lineTurn s critical line x me = true := by
  rw [lineTurn, turn, Bool.or_true]

theorem lineTurn_corrected : lineTurn s critical line { cache := .corrected } me = true := rfl

theorem lineTurn_dirty (dirty : dirtyLine s line = true) : lineTurn s critical line { cache := .uncorrectable } me = true := by
  simp [lineTurn, readsChannel, dirty]

theorem lineFound_dirtyLost (dirty : dirtyLine s line = true) : lineFound critical line { cache := .uncorrectable } s =
    raise 0x2012 (homeSlice line) (setPoison line true s) := by
  simp only [lineFound, dirty, if_true]

theorem poisoned_lineFound (x : LineRead) :
    poisoned (lineFound critical line x s) line = mget false (foundPoison line x s.store) line := by
  rw [poisoned, lineFound_poison]

end

/-- Settles O38: the read answers by the poison that the line has after what was found; what is counted is what the corrections and
the fault of the read count. -/
theorem homeSlicesAnswerLoads : Obligations.HomeSlicesAnswerLoads := by
  rintro s r q a line h at_ rfl idle
  refine ⟨fun within clean => ⟨?_, ?_, fun k hk turn => ?_, fun turn => ?_, fun dirty => ?_⟩, fun within bad => ?_,
    fun beyond x turn => beyondLoad_spec h at_ idle turn beyond, fun x wait => ?_⟩
  · exact cleanLoad_spec h at_ idle (lineTurn_held ..) within clean
  · obtain ⟨corr, cnt⟩ := cacheCorrected_counts (homeSlice (a / 128)) s
    obtain ⟨u, run, -, health, answered⟩ := cleanLoad_spec h at_ idle lineTurn_corrected within
      ((poisoned_lineFound _).trans clean)
    refine ⟨u, run, ?_, ?_, answered⟩
    · rw [corrOf, health]
      exact corr
    · rw [cntOf, health]
      exact cnt
  · obtain ⟨corr, cnt⟩ := lineFound_firstCorrected_counts q.prio (a / 128) hk s
    obtain ⟨u, run, -, health, answered⟩ := cleanLoad_spec h at_ idle (lineTurn_of_classTurn _ turn) within
      ((poisoned_lineFound { cache := .missed, w0 := .corrected k }).trans clean)
    refine ⟨u, run, ?_, ?_, answered⟩
    · rw [corrOf, health]
      exact corr
    · rw [cntOf, health]
      exact cnt
  · obtain ⟨u, run, -, raised, poison, answered⟩ := poisonedLoad_spec (x := { cache := .missed, w1 := .uncorrectable }) h at_ idle
      (lineTurn_of_classTurn _ turn) within ((poisoned_lineFound _).trans (mget_mset_self (d := false) (v := true) (by decide)))
    exact ⟨u, run, (lineFound_secondUncorrectable_counts _ _ _).then_raised raised, poison, answered⟩
  · have lost := lineFound_dirtyLost (critical := q.prio) dirty
    have bad : poisoned (lineFound q.prio (a / 128) { cache := .uncorrectable } s) (a / 128) = true := by
      rw [lost, poisoned_of_rowKeeps (raise_rowKeeps _ _ _), poisoned_setPoison]
    have raised : Raised 0x2012 s (lineFound q.prio (a / 128) { cache := .uncorrectable } s) := by
      rw [lost]
      have marked : CountsOnly [] [] s (setPoison (a / 128) true s) := .upd (.refl s) rfl rfl rfl
      exact marked.then_raised (raise_raised _ _)
    obtain ⟨u, run, counts, -, poison, answered⟩ := poisonedLoad_spec h at_ idle (lineTurn_dirty dirty) within bad
    exact ⟨u, run, Raised.later raised counts, poison, answered⟩
  · obtain ⟨u, run, -, raised, -, answered⟩ := poisonedLoad_spec h at_ idle (lineTurn_held ..) within bad
    exact ⟨u, run, raised, answered⟩
  · subst at_
    refine ⟨s, ?_, rfl⟩
    show execHomeSliceLoad r x s = .next s
    simp only [execHomeSliceLoad, h, wait, or_true, if_true]

end Sys2Proof.Laws

/-!
PROOF. Streams (R264, R266, R268, R270, R362): the entry that takes its Herald, the Herald's line requests, their returns, and
the end of the stream.
-/

namespace Sys2Proof.Laws

set_option Elab.async false

open Machine

/-! ### A Herald of a tile -/

theorem tileOf_modHer {s : State} {t h : Nat} {f : Herald → Herald} (st : (tileOf s t).st ≠ 0) :
    tileOf (modHer t h f s) t = { tileOf s t with her := mmod {} (tileOf s t).her h f } :=
  tileOf_modTile_self t _ s (tile_ne_default (x := { tileOf s t with her := mmod {} (tileOf s t).her h f }) st)

/-- A change of a tile that leaves its Heralds leaves one that is in use. -/
theorem herOf_modTile_of_busy {s : State} {t h : Nat} (g : Tile → Tile) (busy : (herOf s t h).busy = true)
    (same : ∀ x, (g x).her = x.her := by exact fun _ => rfl) : herOf (modTile t g s) t h = herOf s t h := by
  have listed : g (tileOf s t) ≠ {} := fun e => by
    have none_ : (tileOf s t).her = [] := (same _).symm.trans (congrArg Tile.her e)
    rw [herOf, none_] at busy
    exact Bool.noConfusion busy
  rw [herOf, tileOf_modTile_self t g s listed, same, ← herOf]

/-! ### The entry takes its Herald (R264, R266) -/

/-- The Herald that a Stream entry takes. -/
def streamHerald (d : StreamD) (pos : Nat) (y : Herald) : Herald :=
  { resend := y.resend, busy := true, dir := d.dir, pos := pos, d := d, total := streamTotal d }

theorem streamHerald_ne_default (d : StreamD) (pos : Nat) (y : Herald) : streamHerald d pos y ≠ {} :=
  fun e => Bool.noConfusion (congrArg Herald.busy e)

section

variable {s : State} {t : TileNo} {e : Entry} {d : StreamD}

/-- The Herald is taken and the entry issues. -/
def streamBegun (t : Nat) (e : Entry) (d : StreamD) (s : State) : State :=
  issued t e (modHer t d.herald (streamHerald d (tileOf s t).pos) s)

theorem execStream_begins (entry : issuable s t.val 1 = some e) (desc : d = streamOf (descBytes s e 64))
    (free : (herOf s t.val d.herald).busy = false) : execStream t s = .next (streamBegun t.val e d s) := by
  subst desc
  simp only [execStream, entry, free, Bool.false_eq_true, if_false]
  rfl

theorem stream_begins (entry : issuable s t.val 1 = some e) (desc : d = streamOf (descBytes s e 64))
    (free : (herOf s t.val d.herald).busy = false) : Gives (.stream t) s (fun u =>
      herOf u t.val d.herald = streamHerald d (tileOf s t.val).pos (herOf s t.val d.herald) ∧
      onBoard (tileOf u t.val) (tileOf s t.val).pos = true) := by
  have st : (tileOf s t.val).st ≠ 0 := by rw [st_of_issuable entry]; decide
  set x := modHer t.val d.herald (streamHerald d (tileOf s t.val).pos) s with hx
  have taken : tileOf x t.val = _ := tileOf_modHer st
  have slot := tileOf_issue e (s := x) (t := t.val) (by rw [taken]; exact st)
  obtain ⟨_, _, _, evaluated⟩ := evaluate_projected (s := issue t.val e x) (t := t.val) (by rw [slot, taken]; exact st)
  have tile : tileOf (streamBegun t.val e d s) t.val = _ := evaluated
  rw [slot, taken] at tile
  refine ⟨_, execStream_begins entry desc free, ?_, ?_⟩
  · rw [herOf, tile]
    exact mget_mmod_self (streamHerald_ne_default d _ _)
  · rw [tile]
    exact onBoard_mem (List.mem_append_right _ (List.mem_singleton_self _)) rfl

end

/-! ### A request is added (R268) -/

section

variable {s : State} {t h : Nat} {q : Req}

theorem launchReq_local (sent : (q.remote && !q.answered) = false) :
    launchReq t h q s = (addReq q (modHer t h (fun y => { y with inflight := y.inflight + 1 }) s)).2 := by
  simp only [launchReq, sent, Bool.false_eq_true, if_false]

/-- A request that sends no packet waits under the next number, and is in flight. -/
theorem launchReq_local_spec (sent : (q.remote && !q.answered) = false) :
    reqOf (launchReq t h q s) s.fabric.nextReq = some q ∧
    (herOf (launchReq t h q s) t h).inflight = (herOf s t h).inflight + 1 ∧ (launchReq t h q s).health = s.health := by
  rw [launchReq_local sent]
  exact ⟨mget_mset_self (Option.some_ne_none q), congrArg Herald.inflight (herOf_modHer_self t h
    (fun y => { y with inflight := y.inflight + 1 }) s fun e => Nat.succ_ne_zero _ (congrArg Herald.inflight e)), rfl⟩

end

/-! ### The next request of a Herald (R268) -/

/-- The stream's Herald has a request to make, and nothing but the limit on writes can hold it. -/
structure RequestDue (s : State) (t : TileNo) (h : Fin 8) (hd : Herald) (x cnt : Nat) (half : Option Nat) : Prop where
  her : hd = herOf s t.val h.val
  run : nextRun hd = (x, cnt, half)
  noRun : (tileOf s t.val).vec = none
  busy : hd.busy = true
  user : hd.user = false
  left : hd.next < hd.total
  room : hd.inflight < hd.d.depth
  going : haltPassed s = false
  near : nearFree s t.val hd hd.next cnt = true
  far : farFree s x = true

/-- The Herald goes on behind its request. -/
def herAdvanced (hd : Herald) (cnt : Nat) (half : Option Nat) (y : Herald) : Herald :=
  { y with
    next := if half.isSome then hd.next + cnt - 1 else hd.next + cnt
    half := half
    elems := if hd.d.dir = 1 then (List.range cnt).foldl (fun m i =>
        if half.isSome ∧ hd.next + i = hd.next + cnt - 1 then m else mdel m (hd.next + i)) y.elems else y.elems }

/-- A store's elements are read and converted before its request (R267). -/
def elemsRead (t h : Nat) (hd : Herald) (cnt : Nat) (s : State) : State :=
  if hd.d.dir = 1 ∧ hd.user = false then storeElems t h hd ((List.range cnt).map (fun i => hd.next + i)) s else s

/-- The state in which the request is launched. -/
def advanced (t h : Nat) (hd : Herald) (cnt : Nat) (half : Option Nat) (s : State) : State :=
  modHer t h (herAdvanced hd cnt half) (elemsRead t h hd cnt s)

/-- The request of a store, with the cells of the elements read in `u` (R268). -/
def storeReq (s u : State) (t h : Nat) (hd : Herald) (x cnt : Nat) : Req :=
  { heraldReq s t h hd x cnt with wr := lineCells hd.d x hd.next cnt (fun n => mget 0 (herOf u t h).elems n) }

/-- The request of an atomic, with its operands (R262). -/
def atomicReq (s u : State) (t h : Nat) (hd : Herald) (x cnt : Nat) : Req :=
  { heraldReq s t h hd x cnt with
    addr := BitVec.ofNat 64 (hd.d.addr + farBit hd.d hd.next / 8), len := 4
    word0 := BitVec.ofNat 32 (leNat (bufBytes u t (hd.d.nearAddr + operandBytes hd.d * hd.next) 4))
    word1 := if operandBytes hd.d = 8 then BitVec.ofNat 32 (leNat (bufBytes u t (hd.d.nearAddr + 8 * hd.next + 4) 4)) else 0 }

/-- The request that a Herald makes, by its direction. -/
def madeReq (s u : State) (t h : Nat) (hd : Herald) (x cnt : Nat) : Req :=
  match hd.d.dir with
  | 0 => heraldReq s t h hd x cnt
  | 1 => storeReq s u t h hd x cnt
  | _ => atomicReq s u t h hd x cnt

/-- The sender's rights cover a request, or it stays in its package (R362). -/
def mayLaunch (u : State) (hd : Herald) (x : Nat) (q : Req) : Bool :=
  decide (gaKey (x * 128) = ownKey u) || rightsOk u (gaKey (x * 128)) (gaSpace (x * 128)) (gaLocal q.addr.toNat)
    (gaLocal q.addr.toNat + q.len) (if hd.d.dir = 2 then 2 else hd.d.dir)

/-- A request is launched: refused at the sender, read, stored in a tile buffer, or sent. -/
def launchMade (t h : Nat) (hd : Herald) (x : Nat) (q : Req) (u : State) : State :=
  if mayLaunch u hd x q = false then
    launchReq t h { q with answered := true, poison := true } (refuseRequest t q.addr.toNat u)
  else
    match hd.d.dir with
    | 0 => requestLoad t h q .held .clean u
    | 1 => if gaSpace (x * 128) = 1 ∧ q.remote = false then storeBuffer t h q u else launchReq t h q u
    | _ => launchReq t h q u

section

variable {s : State} {t : TileNo} {h : Fin 8} {hd : Herald} {x cnt : Nat} {half : Option Nat}

theorem vectorReady_of_idle {t : Nat} (idle : (tileOf s t).vec = none) : vectorReady t s = s := by rw [vectorReady, idle]

theorem onlyIf_bufWord_clean (c : Bool) (t : Nat) (s : State) : onlyIf c (bufWord t .clean) s = s := by cases c <;> rfl

/-- Writes go out while fewer than four are outstanding to the die (R371). -/
def withinWrites (s : State) (t x : Nat) : Prop := outstanding s t (gaKey (x * 128)) (farDie (gaSpace (x * 128)) (gaLocal (x * 128))) < 4

theorem not_held (due : RequestDue s t h hd x cnt half) (writes : hd.d.dir = 0 ∨ withinWrites s t.val x) :
    ¬(hd.busy = false ∨ hd.total ≤ hd.next ∨ hd.d.depth ≤ hd.inflight ∨ haltPassed s = true ∨
      (hd.user = true ∧ hd.d.dir = 1 ∧ hd.loaded = false) ∨
      (decide (hd.d.dir ≠ 0) = true ∧ 4 ≤ outstanding s t.val (gaKey (x * 128)) (farDie (gaSpace (x * 128)) (gaLocal (x * 128)))) ∨
      nearFree s t.val hd hd.next cnt = false ∨ farFree s x = false) := by
  obtain ⟨-, -, -, busy, user, left, room, going, near, far⟩ := due
  unfold withinWrites at writes
  simp only [busy, user, going, near, far, Bool.true_eq_false, Bool.false_eq_true, false_and, or_false, false_or, not_or,
    decide_eq_true_eq]
  refine ⟨by omega, by omega, fun e => ?_⟩
  obtain ⟨write, many⟩ := e
  exact writes.elim write (by omega)

/-- Where nothing holds the request back, it is made and launched. -/
theorem execHeraldRequest_due (due : RequestDue s t h hd x cnt half) (writes : hd.d.dir = 0 ∨ withinWrites s t.val x) :
    execHeraldRequest t h .held .clean s = .next (launchMade t.val h.val hd x
      (madeReq s (elemsRead t.val h.val hd cnt s) t.val h.val hd x cnt) (advanced t.val h.val hd cnt half s)) := by
  have may (u : State) (q : Req) : (mayLaunch u hd x q = false) = (gaKey (x * 128) ≠ ownKey u ∧ rightsOk u (gaKey (x * 128))
      (gaSpace (x * 128)) (gaLocal q.addr.toNat) (gaLocal q.addr.toNat + q.len) (if hd.d.dir = 2 then 2 else hd.d.dir) = false) := by
    simp only [mayLaunch, Bool.or_eq_false_iff, decide_eq_false_iff_not, ne_eq]
  rw [execHeraldRequest]
  dsimp only
  rw [vectorReady_of_idle due.noRun, ← due.her, due.run]
  dsimp only
  rw [if_neg (not_held due writes), onlyIf_bufWord_clean]
  simp only [launchMade, may]
  rfl

theorem execHeraldRequest_held (due : RequestDue s t h hd x cnt half) (write : hd.d.dir ≠ 0) (full : ¬withinWrites s t.val x) :
    execHeraldRequest t h .held .clean s = .next s := by
  rw [execHeraldRequest]
  dsimp only
  rw [vectorReady_of_idle due.noRun, ← due.her, due.run]
  dsimp only
  rw [if_pos (.inr (.inr (.inr (.inr (.inr (.inl ⟨decide_eq_true write, Nat.not_lt.mp full⟩))))))]

end

/-! ### What the making of a request leaves -/

section

variable {s x₀ : State} {t h : Nat} {hd : Herald} {x cnt : Nat} {half : Option Nat}

theorem herald_ne_default {y : Herald} (busy : y.busy = true) : y ≠ {} := by
  rintro rfl
  exact Bool.noConfusion busy

/-- The Herald is in use in `x`, with as many requests in flight as in `s`. -/
structure HeraldKept (t h : Nat) (s x : State) : Prop where
  busy : (herOf x t h).busy = true
  inflight : (herOf x t h).inflight = (herOf s t h).inflight

theorem HeraldKept.modHer {f : Herald → Herald} (k : HeraldKept t h s x₀) (busy : ∀ y, (f y).busy = y.busy := by exact fun _ => rfl)
    (inflight : ∀ y, (f y).inflight = y.inflight := by exact fun _ => rfl) : HeraldKept t h s (modHer t h f x₀) := by
  have still : (f (herOf x₀ t h)).busy = true := (busy _).trans k.busy
  have row := herOf_modHer_self t h f x₀ (herald_ne_default still)
  exact ⟨row ▸ still, by rw [row, inflight, k.inflight]⟩

theorem HeraldKept.modTile {g : Tile → Tile} (k : HeraldKept t h s x₀) (same : ∀ x, (g x).her = x.her := by exact fun _ => rfl) :
    HeraldKept t h s (modTile t g x₀) := by
  have row := herOf_modTile_of_busy g k.busy same
  exact ⟨row ▸ k.busy, row ▸ k.inflight⟩

theorem HeraldKept.storeElems (l : List Nat) (k : HeraldKept t h s x₀) : HeraldKept t h s (storeElems t h hd l x₀) := by
  induction l generalizing x₀ with
  | nil => exact k
  | cons n l ih =>
    rw [Machine.storeElems]
    dsimp only
    split
    · exact ih k
    split
    · exact ih k.modHer.modTile.modTile
    · exact ih k.modHer

theorem HeraldKept.elemsRead (k : HeraldKept t h s x₀) : HeraldKept t h s (elemsRead t h hd cnt x₀) := by
  unfold Laws.elemsRead
  split
  · exact k.storeElems _
  · exact k

theorem elemsRead_load (dir : hd.d.dir = 0) : elemsRead t h hd cnt s = s := by
  rw [elemsRead, if_neg fun e => Nat.zero_ne_one (dir.symm.trans e.1)]

theorem HeraldKept.advanced (busy : (herOf s t h).busy = true) : HeraldKept t h s (advanced t h hd cnt half s) :=
  HeraldKept.modHer (f := herAdvanced hd cnt half) (HeraldKept.elemsRead ⟨busy, rfl⟩)

theorem advanced_fabric : (advanced t h hd cnt half s).fabric = s.fabric := by
  have read : (elemsRead t h hd cnt s).fabric = s.fabric := by
    unfold elemsRead
    split
    · exact (storeElems_acts (Sub.refl _) (.refl s)).part .fabric
    · rfl
  exact read

theorem mayLaunch_own {u : State} {q : Req} (own : gaKey (x * 128) = ownKey s) (same : u.fabric = s.fabric) :
    mayLaunch u hd x q = true := by
  rw [mayLaunch, own, ownKey, ownKey, same, decide_eq_true rfl, Bool.true_or]

/-- A request of the own package that waits for its home is in flight under the next number. -/
theorem launched_advanced {q : Req} (busy : (herOf s t h).busy = true) (sent : (q.remote && !q.answered) = false) :
    reqOf (launchReq t h q (advanced t h hd cnt half s)) s.fabric.nextReq = some q ∧
    (herOf (launchReq t h q (advanced t h hd cnt half s)) t h).inflight = (herOf s t h).inflight + 1 := by
  obtain ⟨req, flight, -⟩ := launchReq_local_spec (s := advanced t h hd cnt half s) (t := t) (h := h) sent
  rw [advanced_fabric] at req
  exact ⟨req, flight.trans (by rw [(HeraldKept.advanced busy).inflight])⟩

end

/-! ### The clauses about requests -/

section

variable {s : State} {t : TileNo} {h : Fin 8} {hd : Herald} {x cnt : Nat} {half : Option Nat}

theorem heraldReq_home (own : gaKey (x * 128) = ownKey s) : (heraldReq s t.val h.val hd x cnt).remote = false :=
  decide_eq_false fun ne => ne own

theorem heraldReq_addr (small : x < 2 ^ 57) : (heraldReq s t.val h.val hd x cnt).addr.toNat = x * 128 := by
  rw [heraldReq, BitVec.toNat_ofNat, Nat.mod_eq_of_lt (by omega)]

theorem RequestDue.her_busy (due : RequestDue s t h hd x cnt half) : (herOf s t.val h.val).busy = true := due.her ▸ due.busy

/-- A load of the own package's Store is answered by the far copy of its die, or waits for its home (R45, R47). -/
theorem launchMade_load {u : State} {q : Req} (own : gaKey (x * 128) = ownKey s) (same : u.fabric = s.fabric)
    (space : gaSpace q.addr.toNat = 0) (dir : hd.d.dir = 0) : launchMade t.val h.val hd x q u =
      match farCopy u q.addr.toNat (tileDie t.val) with
      | some l => launchReq t.val h.val { q with answered := true, data := l } u
      | none => launchReq t.val h.val q u := by
  have held : farFound q.addr.toNat (tileDie t.val) .held u = u := by
    unfold farFound
    cases farCopy u q.addr.toNat (tileDie t.val) <;> rfl
  rw [launchMade, if_neg (by rw [mayLaunch_own own same]; decide), dir]
  simp only [requestLoad, space, held]
  rfl

theorem load_requested (due : RequestDue s t h hd x cnt half) (small : x < 2 ^ 57) (own : gaKey (x * 128) = ownKey s)
    (space : gaSpace (x * 128) = 0) (dir : hd.d.dir = 0) : execHeraldRequest t h .held .clean s = .next (
      match farCopy s (x * 128) (tileDie t.val) with
      | some l => launchReq t.val h.val { heraldReq s t.val h.val hd x cnt with answered := true, data := l }
          (advanced t.val h.val hd cnt half s)
      | none => launchReq t.val h.val (heraldReq s t.val h.val hd x cnt) (advanced t.val h.val hd cnt half s)) := by
  have made : madeReq s (elemsRead t.val h.val hd cnt s) t.val h.val hd x cnt = heraldReq s t.val h.val hd x cnt := by
    simp only [madeReq, dir]
  have addr := heraldReq_addr (s := s) (t := t) (h := h) (hd := hd) (cnt := cnt) small
  have copies : farCopy (advanced t.val h.val hd cnt half s) (x * 128) (tileDie t.val) = farCopy s (x * 128) (tileDie t.val) := by
    rw [advanced, elemsRead_load dir]
    rfl
  rw [execHeraldRequest_due due (.inl dir), made, launchMade_load own advanced_fabric (by rw [addr]; exact space) dir, addr, copies]

theorem write_requested (due : RequestDue s t h hd x cnt half) (own : gaKey (x * 128) = ownKey s)
    (space : gaSpace (x * 128) = 0) (dir : hd.d.dir = 1 ∨ hd.d.dir = 2) (writes : withinWrites s t.val x) :
    ∃ q, execHeraldRequest t h .held .clean s = .next (launchReq t.val h.val q (advanced t.val h.val hd cnt half s)) ∧
      q.remote = false ∧ q.kind = (if hd.d.dir = 1 then .store else .atomic) ∧ q.answered = false ∧ q.n0 = hd.next ∧ q.cnt = cnt := by
  set q := madeReq s (elemsRead t.val h.val hd cnt s) t.val h.val hd x cnt with hq
  have run := execHeraldRequest_due due (.inr writes)
  rw [← hq, launchMade, if_neg (by rw [mayLaunch_own own advanced_fabric]; decide)] at run
  have remote := heraldReq_home (t := t) (h := h) (hd := hd) (cnt := cnt) own
  refine ⟨q, ?_⟩
  obtain dir | dir := dir
  · have store : q = storeReq s (elemsRead t.val h.val hd cnt s) t.val h.val hd x cnt := by simp only [hq, madeReq, dir]
    simp only [dir, space, Nat.zero_ne_one, false_and, if_false] at run
    exact ⟨run, store ▸ remote, by simp [store, storeReq, heraldReq, dir]⟩
  · have atomic : q = atomicReq s (elemsRead t.val h.val hd cnt s) t.val h.val hd x cnt := by simp only [hq, madeReq, dir]
    simp only [dir] at run
    exact ⟨run, atomic ▸ remote, by simp [atomic, atomicReq, heraldReq, dir]⟩

theorem load_refused (due : RequestDue s t h hd x cnt half) (small : x < 2 ^ 57) (other : gaKey (x * 128) ≠ ownKey s)
    (dir : hd.d.dir = 0)
    (barred : rightsOk s (gaKey (x * 128)) (gaSpace (x * 128)) (gaLocal (x * 128)) (gaLocal (x * 128) + 128) 0 = false) :
    Gives (.heraldRequest t h .held .clean) s (fun u => Raised 0x6010 s u ∧ cntOf u 0x400407 = cntOf s 0x400407 + 1 ∧
      ∃ q, reqOf u s.fabric.nextReq = some q ∧ q.answered = true ∧ q.poison = true) := by
  set q := heraldReq s t.val h.val hd x cnt with hq
  have addr : q.addr.toNat = x * 128 := heraldReq_addr small
  set u := advanced t.val h.val hd cnt half s with hu
  have refused : mayLaunch u hd x q = false := by
    rw [mayLaunch, addr, dir, hu, advanced, elemsRead_load dir, decide_eq_false (by exact other)]
    exact barred
  have run : execHeraldRequest t h .held .clean s =
      .next (launchReq t.val h.val { q with answered := true, poison := true } (refuseRequest t.val q.addr.toNat u)) := by
    have made : madeReq s (elemsRead t.val h.val hd cnt s) t.val h.val hd x cnt = q := by simp only [hq, madeReq, dir]
    rw [execHeraldRequest_due due (.inl dir), made]
    exact congrArg Host.Outcome.next (if_pos refused)
  have start {codes : List Nat} : CountsOnly codes [] s u := by
    rw [hu, advanced, elemsRead_load dir]
    exact .upd (.refl s) rfl rfl rfl
  set f := raiseWith 0x6010 (some t.val) q.addr.toNat [gaKey q.addr.toNat] u with hf
  have raised : Raised 0x6010 s f := CountsOnly.then_raised (start (codes := [])) (raiseWith_raised _ _ _ _)
  have quiet : CountsOnly [0x6010] [] s f := raiseWith_counts (code := 0x6010) (.inr (by decide)) start
  obtain ⟨req, -, health⟩ := launchReq_local_spec (s := refuseRequest t.val q.addr.toNat u) (t := t.val) (h := h.val)
    (q := { q with answered := true, poison := true }) (Bool.and_false _)
  have fabric : (refuseRequest t.val q.addr.toNat u).fabric = s.fabric :=
    ((refuseRequest_acts (Sub.refl _) (.refl u)).part .fabric : _ = _).trans advanced_fabric
  rw [fabric] at req
  have counted : CountsOnly [] [0x400407] f (launchReq t.val h.val { q with answered := true, poison := true }
      (refuseRequest t.val q.addr.toNat u)) :=
    (bump_counts (.inr (by decide)) (.refl f)).upd (congrArg Health.evt health) (congrArg Health.corr health) (congrArg Health.cnt health)
  refine ⟨_, run, Raised.later raised counted, ?_, _, req, rfl, rfl⟩
  rw [cntOf, health]
  exact (cntOf_bump_self f (by decide)).trans (by rw [quiet.cnt _ (by decide) (by decide)])

end

/-! ### The returns (R268) -/

theorem bufBytes_bufWrite (t a : Nat) (l : List Byte) (s : State) : bufBytes (bufWrite t a l s) t a l.length = l :=
  List.ext_getElem (by simp [bufBytes]) fun i _ h => by simpa [bufBytes] using bufByte_bufWrite t a s h

theorem linePart_mod (d : StreamD) (x n : Nat) (line : List Byte) :
    linePart d x n line % 2 ^ fmtWidth d.fmt = linePart d x n line := Nat.mod_mod _ _

/-- A request has returned to its Herald. -/
def herFreed (q : Req) (s : State) : State :=
  modHer q.tile q.unit (fun y => { y with inflight := y.inflight - 1, done := y.done + q.cnt }) s

theorem herOf_herFreed {q : Req} (some_ : 0 < q.cnt) (s : State) : herOf (herFreed q s) q.tile q.unit =
    { herOf s q.tile q.unit with
      inflight := (herOf s q.tile q.unit).inflight - 1, done := (herOf s q.tile q.unit).done + q.cnt } :=
  herOf_modHer_self _ _ _ _ fun e =>
    Nat.ne_of_gt (Nat.lt_of_lt_of_le some_ (Nat.le_add_left _ _)) (congrArg Herald.done e : (_ : Nat) + q.cnt = 0)

theorem setReq_none (r : Nat) (s : State) : (setReq r none s).fabric.reqs = mdel s.fabric.reqs r := by
  rw [setReq, mset, if_pos rfl]

/-- The request has been answered and belongs to a Herald. -/
structure Returning (s : State) (r : Nat) (q : Req) : Prop where
  req : reqOf s r = some q
  answered : q.answered = true
  unit : q.unit < 8
  some_ : 0 < q.cnt

section

variable {s : State} {r : Nat} {q : Req} {hd : Herald}

theorem return_store (h : Returning s r q) (kind : q.kind = .store) :
    execHeraldLineReturn r s = .next (herFreed q (setReq r none s)) := by
  simp only [execHeraldLineReturn, h.req, h.answered, Nat.not_le.mpr h.unit, kind, Bool.true_eq_false, if_false]
  rfl

theorem return_fetched (h : Returning s r q) (kind : q.kind = .atomic) (fine : q.poison = false)
    (fetch : (herOf s q.tile q.unit).d.fetch = true)
    (free : pendingIn s q.tile ((herOf s q.tile q.unit).d.fetchAddr + 4 * q.n0) 4 = false) :
    execHeraldLineReturn r s = .next (herFreed q
      (bufWrite q.tile ((herOf s q.tile q.unit).d.fetchAddr + 4 * q.n0) q.data (setReq r none s))) := by
  simp only [execHeraldLineReturn, h.req, h.answered, Nat.not_le.mpr h.unit, kind, fine, fetch, free, Bool.true_eq_false,
    Bool.false_eq_true, and_false, if_false, onlyIf, if_true]
  rfl

/-- One element that lies in one line returns as it is. -/
theorem return_element (h : Returning s r q) (kind : q.kind = .load) (one : q.cnt = 1) (fine : q.poison = false)
    (her : hd = herOf s q.tile q.unit) (plain : hd.d.cvtEn = false) (whole : (farLines hd.d q.n0).1 = (farLines hd.d q.n0).2)
    (free : hd.user = true ∨ pendingIn s q.tile (nearSpan hd.d q.n0).1 (nearSpan hd.d q.n0).2 = false) :
    execHeraldLineReturn r s = .next (herFreed q
      (loadElem q.tile q.unit q.n0 (linePart hd.d (q.addr.toNat / 128) q.n0 q.data) (setReq r none s))) := by
  subst her
  have order : inOrder s r q = true := by rw [inOrder, plain]; rfl
  have go : ¬(inOrder s r q = false ∨ ((herOf s q.tile q.unit).user = false ∧
      [q.n0].any (fun n => pendingIn s q.tile (nearSpan (herOf s q.tile q.unit).d n).1 (nearSpan (herOf s q.tile q.unit).d n).2) =
        true)) := by
    rw [order, List.any_cons, List.any_nil, Bool.or_false]
    obtain user | free := free
    · simp [user]
    · simp [free]
  have part (line : List Byte) : loadPart q.tile q.unit (q.addr.toNat / 128) q.n0 line (setReq r none s) =
      loadElem q.tile q.unit q.n0 (linePart (herOf s q.tile q.unit).d (q.addr.toNat / 128) q.n0 line) (setReq r none s) :=
    if_pos whole
  simp only [execHeraldLineReturn, h.req, h.answered, Nat.not_le.mpr h.unit, kind, one, fine, Bool.true_eq_false,
    Bool.false_eq_true, if_false, List.range_one, List.map_cons, List.map_nil, Nat.add_zero]
  rw [if_neg go, ← part, herFreed, one]
  rfl

theorem element_written (h : Returning s r q) (kind : q.kind = .load) (one : q.cnt = 1) (fine : q.poison = false)
    (her : hd = herOf s q.tile q.unit) (near : hd.user = false) (plain : hd.d.cvtEn = false)
    (whole : (farLines hd.d q.n0).1 = (farLines hd.d q.n0).2)
    (free : pendingIn s q.tile (nearSpan hd.d q.n0).1 (nearSpan hd.d q.n0).2 = false) :
    Gives (.heraldLineReturn r) s (fun u => u.fabric.reqs = mdel s.fabric.reqs r ∧
      (herOf u q.tile q.unit).done = hd.done + 1 ∧
      nearRead u q.tile hd.d q.n0 = linePart hd.d (q.addr.toNat / 128) q.n0 q.data) := by
  have run := return_element h kind one fine her plain whole (.inr free)
  have written (enc : Nat) : loadElem q.tile q.unit q.n0 enc (setReq r none s) =
      nearWrite q.tile hd.d q.n0 enc (setReq r none s) := by
    subst her
    refine (if_neg ?_).trans (if_neg ?_)
    · exact ne_true_of_eq_false near
    · exact ne_true_of_eq_false plain
  have fmt : nearFmt hd.d = hd.d.fmt := by rw [nearFmt, plain]; rfl
  have read := nearRead_nearWrite (setReq r none s) q.tile hd.d q.n0 (linePart hd.d (q.addr.toNat / 128) q.n0 q.data)
  rw [fmt, linePart_mod] at read
  rw [written] at run
  refine ⟨_, run, setReq_none r s, ?_, read⟩
  rw [herOf_herFreed h.some_, her, one]
  rfl

theorem element_ported (h : Returning s r q) (kind : q.kind = .load) (one : q.cnt = 1) (fine : q.poison = false)
    (her : hd = herOf s q.tile q.unit) (port : hd.user = true) (plain : hd.d.cvtEn = false)
    (whole : (farLines hd.d q.n0).1 = (farLines hd.d q.n0).2) :
    Gives (.heraldLineReturn r) s (fun u => u.tkeep = s.tkeep ∧
      mfind (herOf u q.tile q.unit).elems q.n0 = some (linePart hd.d (q.addr.toNat / 128) q.n0 q.data)) := by
  have run := return_element h kind one fine her plain whole (.inl port)
  have kept (enc : Nat) : loadElem q.tile q.unit q.n0 enc (setReq r none s) =
      modHer q.tile q.unit (fun y => { y with elems := mput y.elems q.n0 enc }) (setReq r none s) := by
    subst her
    exact if_pos port
  have row (enc : Nat) := herOf_modHer_self q.tile q.unit (fun y => { y with elems := mput y.elems q.n0 enc }) (setReq r none s)
    fun e => by
      have found := mfind_mput_self (herOf (setReq r none s) q.tile q.unit).elems q.n0 enc
      exact Option.some_ne_none _ (found.symm.trans (congrArg (mfind · q.n0) (congrArg Herald.elems e)))
  rw [kept] at run
  refine ⟨_, run, rfl, ?_⟩
  rw [herOf_herFreed h.some_, row]
  exact mfind_mput_self _ _ _

end

/-! ### The end of a stream (R264, R270) -/

section

variable {s : State} {t : TileNo} {h : Fin 8}

/-- The Herald is free, and the entry completes. -/
def streamEnded (t h pos : Nat) (s : State) : State :=
  complete t pos (modHer t h (fun y => { y with
    busy := false, d := {}, next := 0, half := none, total := 0, elems := [] }) s)

theorem board_streamEnded {t : Nat} (h pos : Nat) {s : State} (st : (tileOf s t).st ≠ 0) :
    (tileOf (streamEnded t h pos s) t).board = (tileOf s t).board.filter (fun b => decide (b.pos ≠ pos)) := by
  have tile := tileOf_modHer (h := h) (f := fun y => { y with
    busy := false, d := {}, next := 0, half := none, total := 0, elems := [] }) st
  rw [streamEnded, board_complete pos (by rw [tile]; exact st), tile]

theorem execStreamComplete_done (busy : (herOf s t.val h.val).busy = true) (user : (herOf s t.val h.val).user = false)
    (done : herDone (herOf s t.val h.val) = true) :
    execStreamComplete t h s = .next (streamEnded t.val h.val (herOf s t.val h.val).pos s) := by
  simp only [execStreamComplete, busy, user, done, true_or, and_self, if_true, Bool.not_true]
  rfl

theorem execStreamComplete_waits (going : haltPassed s = false) (undone : herDone (herOf s t.val h.val) = false) :
    execStreamComplete t h s = .next s := by
  simp only [execStreamComplete, going, undone, Bool.false_eq_true, false_and, or_self, and_false, if_false]

theorem execStreamComplete_halted (busy : (herOf s t.val h.val).busy = true) (user : (herOf s t.val h.val).user = false)
    (halted : haltPassed s = true) (none_ : (herOf s t.val h.val).inflight = 0) :
    execStreamComplete t h s = .next (streamEnded t.val h.val (herOf s t.val h.val).pos
      (onlyIf (!herDone (herOf s t.val h.val)) (openRest t.val (herOf s t.val h.val)) s)) := by
  simp only [execStreamComplete, busy, user, halted, none_, and_self, or_true, if_true]
  rfl

end

/-- Settles O37: what nothing holds back is made and launched; what has been answered returns. -/
theorem streamsRequestReturnAndComplete : Obligations.StreamsRequestReturnAndComplete := by
  intro s t
  refine ⟨fun e d entry desc free => ?_, ?_, ?_, fun h busy user st => ⟨fun done => ?_, fun undone going => ?_, fun halted none_ => ?_⟩⟩
  · obtain ⟨u, run, her, board⟩ := stream_begins entry desc free
    refine ⟨u, run, ?_⟩
    dsimp only
    rw [her]
    exact ⟨rfl, rfl, rfl, rfl, rfl, rfl, board⟩
  · intro h hd x cnt half her run noRun busy user left room going near small
    have due (far : farFree s x = true) : RequestDue s t h hd x cnt half :=
      ⟨her, run, noRun, busy, user, left, room, going, near, far⟩
    refine ⟨fun own space => ?_, fun other dir barred => ?_⟩
    · have due := due (if_neg fun e => Nat.zero_ne_one (space.symm.trans e.2))
      have sent : ((heraldReq s t.val h.val hd x cnt).remote && !(heraldReq s t.val h.val hd x cnt).answered) = false := by
        rw [heraldReq_home own, Bool.false_and]
      have within : withinWrites s t.val x ↔ outstanding s t.val (gaKey (x * 128)) (farDie 0 (gaLocal (x * 128))) < 4 := by
        rw [withinWrites, space]
      refine ⟨fun dir none_ => ?_, fun l dir copy => ?_, fun dir writes => ?_, fun dir full => ?_⟩
      · have made := load_requested due small own space dir
        rw [none_] at made
        obtain ⟨req, flight⟩ := launched_advanced (hd := hd) (cnt := cnt) (half := half) due.her_busy sent
        exact ⟨_, made, req, flight.trans (by rw [her])⟩
      · have made := load_requested due small own space dir
        rw [copy] at made
        exact ⟨_, made, (launched_advanced due.her_busy (Bool.and_false _)).1⟩
      · obtain ⟨q, made, home, kind, answered, place, many⟩ := write_requested due own space dir (within.mpr writes)
        obtain ⟨req, flight⟩ := launched_advanced (hd := hd) (cnt := cnt) (half := half) (q := q) due.her_busy
          (by rw [home, Bool.false_and])
        exact ⟨_, made, flight.trans (by rw [her]), q, req, kind, answered, place, many⟩
      · exact ⟨s, execHeraldRequest_held due (by omega) (fun writes => Nat.not_lt.mpr full (within.mp writes)), rfl⟩
    · exact load_refused (due (if_neg fun e => other e.1)) small other dir barred
  · intro r q hd req answered unit some_ her
    have h : Returning s r q := ⟨req, answered, unit, some_⟩
    refine ⟨fun kind => ?_, fun kind one fine near plain whole free => element_written h kind one fine her near plain whole free,
      fun kind one fine port plain whole => element_ported h kind one fine her port plain whole,
      fun kind fine four fetch free => ?_⟩
    · refine ⟨_, return_store h kind, setReq_none r s, ?_⟩
      rw [herOf_herFreed some_, her]
      exact ⟨rfl, rfl, rfl⟩
    · subst her
      refine ⟨_, return_fetched h kind fine fetch free, ?_⟩
      have bytes := bufBytes_bufWrite q.tile ((herOf s q.tile q.unit).d.fetchAddr + 4 * q.n0) q.data (setReq r none s)
      rw [four] at bytes
      exact bytes
  · exact ⟨_, execStreamComplete_done busy user done, (complete_acts (Sub.refl _) (.refl _)).part .buffers,
      board_streamEnded h.val _ st⟩
  · exact ⟨s, execStreamComplete_waits going undone, rfl⟩
  · have same : tileOf (onlyIf (!herDone (herOf s t.val h.val)) (openRest t.val (herOf s t.val h.val)) s) t.val = tileOf s t.val :=
      tileOf_of_tiles ((onlyIf_acts (.refl s) fun _ a => openRest_acts (Sub.refl _) a).part .tiles) t.val
    exact ⟨_, execStreamComplete_halted busy user halted none_, onBoard_filter (board_streamEnded h.val _ (by rw [same]; exact st))⟩

end Sys2Proof.Laws

/-!
PROOF. Packets at the package they reach (R246, R252, R261, R262, R364, R368, R372, R376, R377): what is sent waits in a pair's
queue, and each kind is served by the operation that its home has for it.
-/

namespace Sys2Proof.Laws

set_option Elab.async false

open Machine

/-- An operation whose set of parts leaves the Store out. -/
theorem Acts.store {L : Nat} {s t : State} (h : Acts L s t) (bytes : L.testBit 15 = false := by decide)
    (rest : L.testBit 16 = false := by decide) : t.store = s.store := by
  have cells : t.store.cells = s.store.cells := h.part .storeBytes bytes
  have others : storeRestOf t.store = storeRestOf s.store := h.part .storeRest rest
  generalize t.store = a at cells others
  generalize s.store = b at cells others
  cases a
  cases b
  simp_all [storeRestOf]

/-! ### A packet that is sent waits in a queue (R364, R365) -/

theorem nextDir_of_fabric {s u : State} (same : u.fabric = s.fabric) (dest : Nat) : nextDir u dest = nextDir s dest := by
  simp only [nextDir, ownKey, offX, offY, offZ, ringX, ringY, ringZ, sliceX, sliceY, sliceZ, same]
  rfl

theorem Routed.of_fabric {s u : State} {p : Packet} (h : Routed s p) (same : u.fabric = s.fabric) : Routed u p := by
  obtain ⟨d, vc, channel, way, inside⟩ := h
  exact ⟨d, vc, channel, (nextDir_of_fabric same _).trans way, by rw [dirInside, same]; exact inside⟩

theorem packetDest_response {y : Packet} (response : isRequest y.kind.toNat = false) : packetDest y = y.src.toNat := by
  simp only [isRequest, List.contains_cons, List.contains_nil, Bool.or_false, Bool.or_eq_false_iff, beq_eq_false_iff_ne] at response
  exact if_neg (by omega)

/-- A response goes where its kind and its requester say, whatever else it carries (R364, R368). -/
theorem Routed.response {s : State} {x y : Packet} (h : Routed s x) (kind : y.kind = x.kind) (src : y.src = x.src)
    (response : isRequest x.kind.toNat = false) : Routed s y := by
  obtain ⟨d, vc, channel, way, inside⟩ := h
  rw [packetDest_response response] at way
  exact ⟨d, vc, by rw [kind]; exact channel, by rw [packetDest_response (by rwa [kind]), src]; exact way, inside⟩

/-- The packet waits behind the others of its virtual channel. -/
def packetBehind (vc : Nat) (enters : Bool) (p : Packet) (x : Pair) : Pair :=
  { x with q := mmod [] x.q vc (fun l => l ++ [(enters, .packet p)]) }

theorem queue_packetBehind (vc : Nat) (enters : Bool) (p : Packet) (x : Pair) :
    mget [] (packetBehind vc enters p x).q vc = mget [] x.q vc ++ [(enters, .packet p)] :=
  mget_mmod_self (d := []) (f := fun l => l ++ [(enters, Payload.packet p)]) (by simp)

theorem packetBehind_ne_default (vc : Nat) (enters : Bool) (p : Packet) (x : Pair) : packetBehind vc enters p x ≠ {} := fun e => by
  have queue := queue_packetBehind vc enters p x
  rw [e] at queue
  exact List.append_ne_nil_of_right_ne_nil _ (List.cons_ne_nil _ _) queue.symm

theorem queuePacket_queued (d vc : Nat) (enters : Bool) (p : Packet) (s : State) : Queued p (queuePacket d vc enters p s) := by
  set f := (slotPair s d (slotHash (gaLocal p.addr.toNat) % dirSlots d)).getD (leadPair s d)
  have pair : pairOf (queuePacket d vc enters p s) f = packetBehind vc (enters && dirRing s d) p (pairOf s f) :=
    pairOf_modPair_self f (packetBehind vc (enters && dirRing s d) p) s (packetBehind_ne_default _ _ _ _)
  refine ⟨f, vc, enters && dirRing s d, ?_⟩
  rw [pair, queue_packetBehind]
  exact List.mem_append_right _ (List.mem_singleton_self _)

theorem Queued.modPair {p : Packet} {s : State} (h : Queued p s) (f : Nat) {g : Pair → Pair} (same : ∀ x, (g x).q = x.q) :
    Queued p (modPair f g s) := by
  obtain ⟨i, vc, b, waits⟩ := h
  refine ⟨i, vc, b, ?_⟩
  obtain rfl | other := eq_or_ne i f
  · have used : g (pairOf s i) ≠ {} := fun e => by
      rw [← same, e] at waits
      exact List.not_mem_nil waits
    rw [pairOf_modPair_self i g s used, same]
    exact waits
  · rwa [pairOf_modPair_other f g s i other]

theorem Queued.freeSlot {p : Packet} {s : State} (h : Queued p s) (f v : Nat) : Queued p (freeSlot f v s) := by
  unfold Machine.freeSlot
  split
  · exact h
  · exact Queued.modPair h f fun _ => rfl

theorem sendPacketGo_routed {s : State} {p : Packet} (fuel : Nat) (from_ : Option Nat) (h : Routed s p) :
    Queued p (sendPacketGo (fuel + 1) from_ p s) ∧ Acts (Part.set [.links]) s (sendPacketGo (fuel + 1) from_ p s) := by
  obtain ⟨d, vc, channel, way, inside⟩ := h
  have sent : sendPacketGo (fuel + 1) from_ p s = queuePacket d vc (decide (from_ ≠ some d)) p s := by
    simp only [sendPacketGo, channel, way, inside, if_true]
  rw [sent]
  exact ⟨queuePacket_queued .., queuePacket_acts (Sub.refl _) (.refl s)⟩

/-! ### Arrival (R358, R368) -/

section

variable {s u : State} {f k : Nat} {p y : Packet} {serve : State → Bool × State}

theorem arrive_served (h : Arrives s k p) (served : serve s = (true, u)) :
    arrive f k p serve s = freeSlot f ((kindVc k).getD 0) u := by
  obtain ⟨hub, kind, form, here, service⟩ := h
  simp only [arrive, hub, kind, form, here, service, served, Bool.true_eq_false, Bool.false_eq_true, ne_eq, not_true_eq_false,
    or_self, Option.isSome_none, false_and, if_false, if_true]

/-- A packet that is answered: the answer waits in a queue, and beside the links nothing changes any more. -/
theorem arrive_replied (h : Arrives s k p) (served : serve s = (true, sendPacket y u)) (route : Routed u y) :
    ∃ t, arrive f k p serve s = t ∧ Queued y t ∧ Acts (Part.set [.links]) u t := by
  obtain ⟨queued, sent⟩ := sendPacketGo_routed 1 none route
  exact ⟨_, arrive_served h served, Queued.freeSlot queued _ _, freeSlot_acts (Sub.refl _) sent⟩

theorem arrive_forwards (hub : s.boot.hub = true) (kind : p.kind.toNat = k) (form : p.rsv = false)
    (other : packetDest p ≠ ownKey s) (route : Routed s p) :
    Queued p (arrive f k p serve s) ∧ Acts (Part.set [.links]) s (arrive f k p serve s) := by
  have run : arrive f k p serve s = freeSlot f ((kindVc k).getD 0) (forwardPacket (oppDir (dirOf f)) p s) := by
    simp only [arrive, hub, kind, form, other, Bool.true_eq_false, Bool.false_eq_true, ne_eq, not_true_eq_false, not_false_eq_true,
      or_self, if_false, if_true]
  obtain ⟨queued, sent⟩ := sendPacketGo_routed 1 (some (oppDir (dirOf f))) route
  rw [run]
  exact ⟨Queued.freeSlot queued _ _, freeSlot_acts (Sub.refl _) sent⟩

theorem arrive_malformed (hub : s.boot.hub = true) (form : p.rsv = true) :
    arrive f k p serve s = packetFault 0x6001 p (freeSlot f ((kindVc k).getD 0) s) := by
  simp only [arrive, hub, form, Bool.true_eq_false, or_true, if_false, if_true]

end

/-! ### Transfer bytes (R246, R377) -/

theorem mem_linesOf {a n i : Nat} (h : i < n) : (a + i) / 128 ∈ linesOf a n := by
  rw [linesOf, if_neg (by omega), List.mem_range']
  exact ⟨(a + i) / 128 - a / 128, by omega, by omega⟩

section

variable {critical : Bool} {reads : LineReads}

theorem homeWrite_wf (critical : Bool) (x : LineRead) (a : Nat) (cells : List (Byte × Byte)) {s : State} (w : Memory.wf s = true) :
    Memory.wf (homeWrite critical x a cells s) = true := by
  obtain ⟨-, keeps⟩ := homeWrite_acts (a0 := critical) (a1 := x) (a2 := a) (a3 := cells) (Sub.refl _) (Acts.refl s)
  exact keeps.store w

theorem storeByte_homeWriteLines_outside {k a i : Nat} {l : List (Byte × Byte)} (s : State) (h : i < a ∨ a + l.length ≤ i) :
    storeByte (homeWriteLines critical reads k a l s) i = storeByte s i := by
  induction k generalizing a l s with
  | zero => rfl
  | succ k ih =>
    rw [homeWriteLines]
    split
    · rfl
    · dsimp only
      rw [ih _ (by rw [List.length_drop]; omega), storeByte_homeWrite_outside _ _ _ (by rw [List.length_take]; omega)]

theorem storeByte_homeWriteLines_inside {k a i : Nat} {l : List (Byte × Byte)} {s : State} (w : Memory.wf s = true)
    (enough : l.length < k) (h : i < l.length) : storeByte (homeWriteLines critical reads k a l s) (a + i) =
      (storeByte s (a + i) &&& ~~~l[i].2) ||| (l[i].1 &&& l[i].2) := by
  induction k generalizing a l s i with
  | zero => exact absurd enough (Nat.not_lt_zero _)
  | succ k ih =>
    have some_ : l ≠ [] := List.ne_nil_of_length_pos (by omega)
    rw [homeWriteLines, if_neg some_]
    dsimp only
    set n := 128 - a % 128 with hn
    have here : 0 < n := by omega
    by_cases first : i < n
    · rw [storeByte_homeWriteLines_outside _ (.inl (by omega)), storeByte_homeWrite_inside _ _ w (by rw [List.length_take]; omega),
        List.getElem_take]
    · obtain ⟨j, rfl⟩ := Nat.exists_eq_add_of_le (Nat.not_lt.mp first)
      have rest := ih (a := a + n) (l := l.drop n) (i := j) (homeWrite_wf critical (readAt reads (a / 128)) a (l.take n) w)
        (by rw [List.length_drop]; omega) (by rw [List.length_drop]; omega)
      rw [List.getElem_drop, Nat.add_assoc, storeByte_homeWrite_outside _ _ _ (.inr (by rw [List.length_take]; omega))] at rest
      exact rest

theorem storeByte_homeFill (a : Nat) (l : List Byte) (s : State) (i : Nat) : storeByte (homeFill critical reads a l s) i =
    storeByte (homeWriteLines critical reads (l.length + 1) a (wholeBytes l) s) i := by
  have dropped (y : State) : Acts (Part.set [.storeRest]) y (forEach (linesOf a l.length) (fun line => farDrop line) y) :=
    forEach_acts (.refl y) fun _ _ h => farDrop_acts (Sub.refl _) h
  exact congrArg (mget 0 · i) ((dropped _).part .storeBytes : _ = _)

theorem storeByte_homeFill_outside {a i : Nat} {l : List Byte} (s : State) (h : i < a ∨ a + l.length ≤ i) :
    storeByte (homeFill critical reads a l s) i = storeByte s i := by
  rw [storeByte_homeFill, storeByte_homeWriteLines_outside _ (by rwa [wholeBytes, List.length_map])]

/-- Bytes written at their home slices are there (R246). -/
theorem storeBytes_homeFill (a : Nat) (l : List Byte) {s : State} (w : Memory.wf s = true) :
    storeBytes (homeFill critical reads a l s) a l.length = l := by
  refine List.ext_getElem (storeBytes_length _ _ _) fun i _ h => ?_
  have inside : i < (wholeBytes l).length := by rwa [wholeBytes, List.length_map]
  have byte := storeByte_homeWriteLines_inside (critical := critical) (reads := reads) (a := a) w (Nat.lt_succ_self _) inside
  have cell : (wholeBytes l)[i] = (l[i], BitVec.allOnes 8) := by simp [wholeBytes]
  rw [cell, BitVec.not_allOnes, BitVec.and_zero, BitVec.zero_or, BitVec.and_allOnes] at byte
  rw [show (wholeBytes l).length = l.length by rw [wholeBytes, List.length_map], ← storeByte_homeFill] at byte
  simpa [storeBytes] using byte

end

theorem storeBytes_append (s : State) (a m n : Nat) : storeBytes s a m ++ storeBytes s (a + m) n = storeBytes s a (m + n) := by
  simp [storeBytes, List.range_add, Nat.add_assoc]

/-- Lines that are held and not poisoned are read as they are (R252). -/
theorem homeReadLines_clean {s : State} {critical : Bool} {tile : Option Nat} {by_ : List Nat} {k a n : Nat} (enough : n < k)
    (within : a + n ≤ capacity s) (clean : ∀ i < n, poisoned s ((a + i) / 128) = false) :
    homeReadLines critical [] tile by_ k a n s = (storeBytes s a n, false, s) := by
  induction k generalizing a n with
  | zero => exact absurd enough (Nat.not_lt_zero _)
  | succ k ih =>
    rw [homeReadLines]
    split
    · subst n
      rfl
    · rename_i some_
      set m := min n (128 - a % 128) with hm
      obtain ⟨r, hr⟩ : ∃ r, n = m + r := Nat.exists_eq_add_of_le (Nat.min_le_left _ _)
      have line : homeRead a m critical (readAt [] (a / 128)) tile by_ s = (storeBytes s a m, false, s) :=
        homeRead_clean _ _ _ _ _ (by omega) (clean 0 (by omega))
      have rest := ih (a := a + m) (n := r) (by omega) (by omega) fun i h => by
        rw [Nat.add_assoc]
        exact clean (m + i) (by omega)
      have left : n - m = r := by omega
      dsimp only
      rw [line]
      dsimp only
      rw [left, rest, hr, ← storeBytes_append]
      rfl

theorem readStore_clean {s : State} {a n : Nat} (clean : ∀ i < n, poisoned s ((a + i) / 128) = false) :
    readStore s a n = storeBytes s a n := by
  refine List.map_congr_left fun i h => ?_
  rw [clean i (List.mem_range.mp h)]
  rfl

/-! ### Packets for another package, and malformed ones (R364, R368) -/

section

variable {s : State} {f : PairNo} {p : Packet}

theorem loadPacket_forwarded (hub : s.boot.hub = true) (kind : p.kind = 1) (form : p.rsv = false) (other : packetDest p ≠ ownKey s)
    (way : ∃ d, nextDir s (packetDest p) = some d ∧ dirInside s d = true) (x : LineRead) :
    Gives (.loadPacket f p x) s (fun t => Queued p t ∧ t.store = s.store) := by
  obtain ⟨d, next, inside⟩ := way
  have route : Routed s p := ⟨d, 0, by rw [kind]; rfl, next, inside⟩
  obtain ⟨queued, acts⟩ := arrive_forwards (f := f.val) (k := 1) (serve := serveLoad p x) hub (by rw [kind]; rfl) form other route
  exact ⟨_, rfl, queued, acts.store⟩

theorem loadPacket_malformed (hub : s.boot.hub = true) (form : p.rsv = true) (x : LineRead) :
    Gives (.loadPacket f p x) s (fun t => Raised 0x6001 s t ∧ t.store = s.store) := by
  have freed := freeSlot_acts (a0 := f.val) (a1 := (kindVc 1).getD 0) (Sub.refl _) (Acts.refl s)
  have counts : CountsOnly [] [] s (freeSlot f.val ((kindVc 1).getD 0) s) := .acts freed (.refl s)
  have fault := packetFault_acts (a0 := 0x6001) (a1 := p) (Sub.refl _) (Acts.refl (freeSlot f.val ((kindVc 1).getD 0) s))
  refine ⟨_, congrArg Host.Outcome.next (arrive_malformed hub form), ?_, ?_⟩
  · rw [packetFault]
    exact counts.then_raised (raiseWith_raised _ _ _ _)
  · exact fault.store.trans freed.store

/-! ### Loads (R246, R252) -/

theorem serveLoad_clean (some_ : p.len ≠ 0) (line : gaLocal p.addr.toNat % 128 + p.len ≤ 128) (space : gaSpace p.addr.toNat = 0)
    (idle : rowBusy s (gaLocal p.addr.toNat) = false) (within : gaLocal p.addr.toNat < capacity s)
    (clean : poisoned s (gaLocal p.addr.toNat / 128) = false) : serveLoad p {} s =
      (true, sendPacket { responseTo p 4 with data := storeBytes s (gaLocal p.addr.toNat) p.len, poison := false } s) := by
  have read := homeRead_clean p.len p.prio {} none (requester p) within clean
  have serve : ¬(p.len = 0 ∨ 128 < gaLocal p.addr.toNat % 128 + p.len) := by omega
  rw [serveLoad]
  dsimp only
  rw [if_neg serve, space]
  rw [if_neg (by rw [idle, lineTurn_held]; decide), read]
  rfl

/-! ### Stores (R246, R368) -/

theorem packetCells_length (p : Packet) : (packetCells p).length = 128 := by simp [packetCells]

/-- The write of a store packet at its home. -/
def packetWritten (p : Packet) (x : LineRead) (s : State) : State :=
  homeWrite p.prio x (gaLocal p.addr.toNat / 128 * 128) (packetCells p) s

theorem serveStore_written {x : LineRead} (space : gaSpace p.addr.toNat = 0)
    (open_ : writeDenied s (gaLocal p.addr.toNat / 128 * 128) 128 = none)
    (room : writeRoom s (gaLocal p.addr.toNat / 128 * 128) = true)
    (turn : wholeLine (packetCells p) = true ∨ lineTurn s p.prio (gaLocal p.addr.toNat / 128) x none = true) :
    serveStore p x s = (true, whenInvalidated (gaLocal p.addr.toNat / 128 * 128) none (some (responseTo p 5))
      (packetWritten p x s)) := by
  have go : ¬(wholeLine (packetCells p) = false ∧
      lineTurn s p.prio (gaLocal p.addr.toNat / 128 * 128 / 128) x none = false) := by
    rw [Nat.mul_div_cancel _ (by decide : 0 < 128)]
    rintro ⟨part, waits⟩
    rw [part, waits] at turn
    simp at turn
  simp only [serveStore, space, open_, room, Bool.true_eq_false, if_false]
  rw [if_neg go]
  rfl

theorem serveStore_denied {x : LineRead} {code : Nat} (space : gaSpace p.addr.toNat = 0)
    (denied : writeDenied s (gaLocal p.addr.toNat / 128 * 128) 128 = some code) :
    serveStore p x s = (true, addressFault code p s) := by
  simp only [serveStore, space, denied]

/-- Without a far copy the write is answered at once (R46). -/
theorem whenInvalidated_alone {a : Nat} {y : Packet} (alone : farDies s (ownGa s a) = []) :
    whenInvalidated a none (some y) s = sendPacket y s := if_pos alone

theorem storePacket_written {x : LineRead} (arrives : Arrives s 2 p) (w : Memory.wf s = true) (space : gaSpace p.addr.toNat = 0)
    (open_ : writeDenied s (gaLocal p.addr.toNat / 128 * 128) 128 = none)
    (room : writeRoom s (gaLocal p.addr.toNat / 128 * 128) = true)
    (turn : wholeLine (packetCells p) = true ∨ lineTurn s p.prio (gaLocal p.addr.toNat / 128) x none = true) :
    Gives (.storePacket f p x) s (fun t =>
      (∀ (i : Nat) (h : i < (packetCells p).length), storeByte t (gaLocal p.addr.toNat / 128 * 128 + i) =
        (storeByte s (gaLocal p.addr.toNat / 128 * 128 + i) &&& ~~~(packetCells p)[i].2) |||
          ((packetCells p)[i].1 &&& (packetCells p)[i].2)) ∧
      (∀ a, a / 128 ≠ gaLocal p.addr.toNat / 128 → storeByte t a = storeByte s a) ∧
      (farDies s (ownGa s (gaLocal p.addr.toNat / 128 * 128)) = [] → Routed s (responseTo p 5) → Queued (responseTo p 5) t)) := by
  have served := serveStore_written space open_ room turn
  set line := gaLocal p.addr.toNat / 128 with hline
  set u := packetWritten p x s with hu
  have answered := whenInvalidated_acts (a0 := line * 128) (a1 := none) (a2 := some (responseTo p 5)) (Sub.refl _) (Acts.refl u)
  have freed := freeSlot_acts (a0 := f.val) (a1 := (kindVc 2).getD 0) (Sub.refl _)
    (Acts.refl (whenInvalidated (line * 128) none (some (responseTo p 5)) u))
  have byte (a : Nat) : storeByte (freeSlot f.val ((kindVc 2).getD 0) (whenInvalidated (line * 128) none (some (responseTo p 5)) u))
      a = storeByte u a := congrArg (mget 0 · a) ((freed.part .storeBytes : _ = _).trans (answered.part .storeBytes : _ = _))
  refine ⟨_, congrArg Host.Outcome.next (arrive_served arrives served), fun i h => ?_, fun a other => ?_, fun alone route => ?_⟩
  · exact (byte _).trans (storeByte_homeWrite_inside p.prio x w h)
  · exact (byte a).trans (storeByte_homeWrite_outside p.prio x s (by rw [packetCells_length]; omega))
  · have fabric : u.fabric = s.fabric := homeWrite_fabric ..
    obtain ⟨-, dies⟩ := farDies_congr (line * 128) (congrArg Fabric.coord fabric) (homeWrite_copies p.prio x (line * 128) (packetCells p) s)
    rw [whenInvalidated_alone (dies.trans alone)]
    exact Queued.freeSlot (sendPacketGo_routed 1 none (Routed.of_fabric route fabric)).1 _ _

theorem storePacket_denied {x : LineRead} {code : Nat} (arrives : Arrives s 2 p) (space : gaSpace p.addr.toNat = 0)
    (denied : writeDenied s (gaLocal p.addr.toNat / 128 * 128) 128 = some code) :
    Gives (.storePacket f p x) s (fun t => t.store.cells = s.store.cells ∧ Raised code s t) := by
  have freed := freeSlot_acts (a0 := f.val) (a1 := (kindVc 2).getD 0) (Sub.refl _) (Acts.refl (addressFault code p s))
  have fault : Acts (Part.set faultParts) s (addressFault code p s) := raiseWith_acts (Sub.refl _) (.refl s)
  exact ⟨_, congrArg Host.Outcome.next (arrive_served arrives (serveStore_denied space denied)),
    (freed.part .storeBytes : _ = _).trans (fault.part .storeBytes), deniedFault_raised denied (.acts freed (.refl _))⟩

/-! ### Atomics (R261, R262) -/

/-- The word after the packet's operation (R262). -/
def packetWord (s : State) (p : Packet) : Nat :=
  atomicWord p.aop.toNat p.fmt.toNat (leNat (storeBytes s (gaLocal p.addr.toNat) 4)) p.word0.toNat p.word1.toNat

/-- The word is written and the operation is counted. -/
def wordWritten (s : State) (p : Packet) : State :=
  bump 0x500205 1 (homeWrite p.prio {} (gaLocal p.addr.toNat) (wholeBytes (leBytes 4 (packetWord s p))) s)

/-- The old word goes back. -/
def oldWord (s : State) (p : Packet) : Packet :=
  { responseTo p 6 with word0 := BitVec.ofNat 32 (leNat (storeBytes s (gaLocal p.addr.toNat) 4)), poison := false }

theorem serveAtomic_done (space : gaSpace p.addr.toNat = 0) (word : gaLocal p.addr.toNat % 4 = 0)
    (ok : atomicOk p.aop.toNat p.fmt.toNat = true) (open_ : writeDenied s (gaLocal p.addr.toNat) 4 = none)
    (room : writeRoom s (gaLocal p.addr.toNat) = true) (clean : poisoned s (gaLocal p.addr.toNat / 128) = false)
    (alone : farDies s (ownGa s (gaLocal p.addr.toNat)) = []) :
    serveAtomic p {} s = (true, sendPacket (oldWord s p) (wordWritten s p)) := by
  obtain ⟨-, dies⟩ := farDies_congr (s := s) (t := wordWritten s p) (gaLocal p.addr.toNat)
    (congrArg Fabric.coord (homeWrite_fabric ..)) (homeWrite_copies ..)
  simp only [serveAtomic, word, ok, space, open_, room, lineTurn_held, homeAtomic_held _ _ _ _ _ _ _ clean, ne_eq,
    not_true_eq_false, Bool.true_eq_false, or_self, if_false]
  exact congrArg (Prod.mk true) (whenInvalidated_alone (s := wordWritten s p) (y := oldWord s p) (dies.trans alone))

theorem atomicPacket_done (arrives : Arrives s 3 p) (w : Memory.wf s = true) (space : gaSpace p.addr.toNat = 0)
    (word : gaLocal p.addr.toNat % 4 = 0) (ok : atomicOk p.aop.toNat p.fmt.toNat = true)
    (open_ : writeDenied s (gaLocal p.addr.toNat) 4 = none) (room : writeRoom s (gaLocal p.addr.toNat) = true)
    (clean : poisoned s (gaLocal p.addr.toNat / 128) = false) (alone : farDies s (ownGa s (gaLocal p.addr.toNat)) = [])
    (route : Routed s (responseTo p 6)) : Gives (.atomicPacket f p {}) s (fun t =>
      storeBytes t (gaLocal p.addr.toNat) 4 = leBytes 4 (packetWord s p) ∧
      (∀ a, (a < gaLocal p.addr.toNat ∨ gaLocal p.addr.toNat + 4 ≤ a) → storeByte t a = storeByte s a) ∧
      cntOf t 0x500205 = cntOf s 0x500205 + 1 ∧ Queued (oldWord s p) t) := by
  have fabric : (wordWritten s p).fabric = s.fabric := homeWrite_fabric ..
  have way : Routed s (oldWord s p) := Routed.response route rfl rfl rfl
  obtain ⟨t, run, queued, acts⟩ := arrive_replied (f := f.val) arrives (serveAtomic_done space word ok open_ room clean alone)
    (Routed.of_fabric way fabric)
  have store := acts.store
  have length : (wholeBytes (leBytes 4 (packetWord s p))).length = 4 := by rw [wholeBytes, List.length_map, leBytes_length]
  refine ⟨t, congrArg Host.Outcome.next run, ?_, fun a far => ?_, ?_, queued⟩
  · have bytes := storeBytes_homeWrite_wholeBytes p.prio {} (gaLocal p.addr.toNat) (leBytes 4 (packetWord s p)) w
    rw [leBytes_length] at bytes
    simp only [storeBytes, storeByte, store]
    exact bytes
  · rw [storeByte, store]
    exact storeByte_homeWrite_outside _ _ s (by rwa [length])
  · rw [cntOf, acts.health]
    exact (cntOf_bump_self _ (by decide)).trans (by rw [(homeWrite_counts _ _ _ s).cnt 0x500205 (by decide) (by decide)])

/-! ### Releases (R372) -/

/-- The region's epoch goes up. -/
def epochRaised (p : Packet) (s : State) : State :=
  { s with store := { s.store with epochs := mmod 0 s.store.epochs p.region.toNat (fun e => e + 1) } }

/-- The acknowledgement of a release, with the new epoch. -/
def releaseAck (p : Packet) (s : State) : Packet :=
  { responseTo p 0x0D with region := p.region, epoch := mget 0 s.store.epochs p.region.toNat }

theorem releasePacket_done (arrives : Arrives s 0x0C p) (more : mget 0 s.store.epochs p.region.toNat + 1 ≠ 0)
    (route : Routed s (responseTo p 0x0D)) : Gives (.releasePacket f p) s (fun t =>
      mget 0 t.store.epochs p.region.toNat = mget 0 s.store.epochs p.region.toNat + 1 ∧
      Queued { responseTo p 0x0D with region := p.region, epoch := mget 0 s.store.epochs p.region.toNat + 1 } t) := by
  have raised : mget 0 (epochRaised p s).store.epochs p.region.toNat = mget 0 s.store.epochs p.region.toNat + 1 :=
    mget_mmod_self (d := 0) (f := fun e : U32 => e + 1) more
  have way : Routed (epochRaised p s) (releaseAck p (epochRaised p s)) :=
    Routed.of_fabric (Routed.response route rfl rfl rfl) rfl
  obtain ⟨t, run, queued, acts⟩ := arrive_replied (f := f.val)
    (serve := fun s => (true, sendPacket (releaseAck p (epochRaised p s)) (epochRaised p s))) arrives rfl way
  refine ⟨t, congrArg Host.Outcome.next run, ?_, ?_⟩
  · rw [acts.store, raised]
  · rwa [releaseAck, raised] at queued

/-! ### Transfer data and Transfer reads (R376, R377) -/

/-- The packet's bytes are written at its address. -/
def dataWritten (p : Packet) (reads : LineReads) (s : State) : State := homeFill p.prio reads (gaLocal p.addr.toNat) p.data s

/-- The acknowledgement of a piece. -/
def pieceAck (s : State) (p : Packet) : Packet :=
  { responseTo p 0x0A with
    piece := p.piece, addr := BitVec.ofNat 64 (gaMake (ownKey s) 0 (gaLocal p.addr.toNat)) }

/-- What the bytes of the packet leave of its piece, and whether they were its last. -/
def pieceCounted (dir : Nat) (p : Packet) (s : State) : Bool × State :=
  pieceBytes (p.src.toNat * 512 + p.srcTile.toNat) p.rtag.toNat p.piece p.pbytes p.len dir
    (Machine.pagesOf (gaLocal p.addr.toNat) p.len) s

/-- The whole piece is acknowledged, part of one waits open for the rest (R377, R379). -/
def pieceAnswered (dir : Nat) (p : Packet) (s : State) : State :=
  onlyIf (pieceCounted dir p s).1 (sendPacket (pieceAck (pieceCounted dir p s).2 p)) (pieceCounted dir p s).2

section

variable {dir : Nat} {reads : LineReads} (space : gaSpace p.addr.toNat = 0) (some_ : 0 < p.len) (small : p.len ≤ 220)
  (whole : p.data.length = p.len) (ready : putReady s (packetAccess p reads) 0 (gaLocal p.addr.toNat) p.len = true)

include space some_ small whole ready

theorem takeData_local : takeData dir p reads s =
    (let (code, u) := putLocal (packetAccess p reads) 0 (gaLocal p.addr.toNat) p.data s
     if code ≠ 0 then (true, u) else (true, pieceAnswered dir p u)) := by
  have data : p.data.take p.len = p.data := List.take_of_length_le (Nat.le_of_eq whole)
  have serve : ¬(p.data = [] ∨ 220 < p.len) := by
    rintro (none_ | big)
    · rw [none_] at whole
      exact Nat.ne_of_lt some_ whole
    · omega
  rw [takeData]
  dsimp only
  rw [data, if_neg serve, space, whole, ready]
  rfl

theorem takeData_written (open_ : writeDenied s (gaLocal p.addr.toNat) p.len = none) : takeData dir p reads s =
    (true, pieceAnswered dir p (dataWritten p reads s)) := by
  have put : putLocal (packetAccess p reads) 0 (gaLocal p.addr.toNat) p.data s = (0, dataWritten p reads s) := by
    simp only [putLocal, whole, open_]
    rfl
  rw [takeData_local space some_ small whole ready, put]
  rfl

theorem takeData_denied {code : Nat} (real : code ≠ 0) (denied : writeDenied s (gaLocal p.addr.toNat) p.len = some code) :
    takeData dir p reads s = (true, accessFault code (packetAccess p reads) 0 (gaLocal p.addr.toNat) s) := by
  have put : putLocal (packetAccess p reads) 0 (gaLocal p.addr.toNat) p.data s =
      (code, accessFault code (packetAccess p reads) 0 (gaLocal p.addr.toNat) s) := by
    simp only [putLocal, whole, denied]
  rw [takeData_local space some_ small whole ready, put]
  exact if_pos real

end

theorem ownKey_of_fabric {s u : State} (same : u.fabric = s.fabric) : ownKey u = ownKey s := by rw [ownKey, ownKey, same]

/-- The pieces that are open at this package. -/
def piecesOpen (l : List OpenPiece) (s : State) : State := { s with fabric := { s.fabric with openPieces := l } }

theorem ownKey_piecesOpen (l : List OpenPiece) (s : State) : ownKey (piecesOpen l s) = ownKey s := rfl

theorem Routed.piecesOpen {y : Packet} (h : Routed s y) (l : List OpenPiece) : Routed (piecesOpen l s) y := h

theorem pieceCounted_whole {dir : Nat} (first : s.fabric.openPieces = []) (full : p.pbytes = p.len) :
    pieceCounted dir p s = (true, piecesOpen [] s) := by
  rw [pieceCounted, pieceBytes, first, full]
  simp only [List.find?_nil, Option.getD_none, Nat.sub_self, decide_true, if_true, List.filter_nil]
  rfl

theorem pieceCounted_part {dir : Nat} (first : s.fabric.openPieces = []) (more : p.len < p.pbytes) :
    ∃ o : OpenPiece, o.piece = p.piece ∧ o.left = p.pbytes - p.len ∧ pieceCounted dir p s = (false, piecesOpen [o] s) := by
  have rest : p.pbytes - p.len ≠ 0 := by omega
  refine ⟨⟨p.src.toNat * 512 + p.srcTile.toNat, p.rtag.toNat, p.piece, p.pbytes - p.len, dir,
    (Machine.pagesOf (gaLocal p.addr.toNat) p.len).eraseDups⟩, rfl, rfl, ?_⟩
  rw [pieceCounted, pieceBytes, first]
  simp only [List.find?_nil, Option.getD_none, rest, decide_false, if_false, List.filter_nil, List.nil_append]
  rfl

theorem storeByte_pieceAnswered (dir a : Nat) (p : Packet) (s : State) : storeByte (pieceAnswered dir p s) a = storeByte s a := by
  have counted : Acts (Part.set [.fabric]) s (pieceCounted dir p s).2 := pieceBytes_acts (Sub.refl _) (.refl s)
  have sent : (pieceAnswered dir p s).store.cells = (pieceCounted dir p s).2.store.cells :=
    (onlyIf_acts (.refl _) fun _ h => sendPacket_acts (Sub.refl _) h).part .storeBytes
  exact congrArg (mget 0 · a) (sent.trans (counted.part .storeBytes))

theorem pieceAck_routed (route : Routed s (responseTo p 0x0A)) : Routed (piecesOpen [] s) (pieceAck s p) := by
  have way : Routed s (pieceAck s p) := Routed.response route rfl rfl rfl
  exact Routed.piecesOpen way []

theorem pieceAnswered_whole {dir : Nat} (first : s.fabric.openPieces = []) (full : p.pbytes = p.len)
    (route : Routed s (responseTo p 0x0A)) : Queued (pieceAck s p) (pieceAnswered dir p s) := by
  have own : pieceAck (piecesOpen [] s) p = pieceAck s p := by rw [pieceAck, ownKey_piecesOpen, pieceAck]
  rw [pieceAnswered, pieceCounted_whole first full, own]
  exact (sendPacketGo_routed 1 none (pieceAck_routed route)).1

theorem pieceAnswered_part {dir : Nat} (first : s.fabric.openPieces = []) (more : p.len < p.pbytes) :
    (pieceAnswered dir p s).fabric.openPieces.map (fun o => (o.piece, o.left)) = [(p.piece, p.pbytes - p.len)] := by
  obtain ⟨o, piece, left, counted⟩ := pieceCounted_part (dir := dir) first more
  rw [pieceAnswered, counted, ← piece, ← left]
  rfl

theorem transferData_written {reads : LineReads} (arrives : Arrives s 7 p) (w : Memory.wf s = true) (space : gaSpace p.addr.toNat = 0)
    (some_ : 0 < p.len) (small : p.len ≤ 220) (whole : p.data.length = p.len)
    (ready : putReady s (packetAccess p reads) 0 (gaLocal p.addr.toNat) p.len = true)
    (open_ : writeDenied s (gaLocal p.addr.toNat) p.len = none) : Gives (.transferData f p reads) s (fun t =>
      storeBytes t (gaLocal p.addr.toNat) p.len = p.data ∧
      (∀ a, (a < gaLocal p.addr.toNat ∨ gaLocal p.addr.toNat + p.len ≤ a) → storeByte t a = storeByte s a) ∧
      (s.fabric.openPieces = [] → p.pbytes = p.len → Routed s (responseTo p 0x0A) → Queued (pieceAck s p) t) ∧
      (s.fabric.openPieces = [] → p.len < p.pbytes → t.fabric.openPieces.map (fun o => (o.piece, o.left)) =
        [(p.piece, p.pbytes - p.len)])) := by
  have served := takeData_written (dir := dirOf f.val) space some_ small whole ready open_
  set u := dataWritten p reads s with hu
  have fabric : u.fabric = s.fabric := (homeFill_acts (Sub.refl _) (.refl s)).part .fabric
  have freed := freeSlot_acts (a0 := f.val) (a1 := (kindVc 7).getD 0) (Sub.refl _) (Acts.refl (pieceAnswered (dirOf f.val) p u))
  have byte (a : Nat) : storeByte (freeSlot f.val ((kindVc 7).getD 0) (pieceAnswered (dirOf f.val) p u)) a = storeByte u a :=
    (congrArg (mget 0 · a) (freed.part .storeBytes)).trans (storeByte_pieceAnswered ..)
  refine ⟨_, congrArg Host.Outcome.next (arrive_served arrives served), ?_, fun a far => ?_, fun first full route => ?_,
    fun first more => ?_⟩
  · have bytes := storeBytes_homeFill (critical := p.prio) (reads := reads) (gaLocal p.addr.toNat) p.data w
    rw [whole] at bytes
    simp only [storeBytes, byte]
    exact bytes
  · exact (byte a).trans (storeByte_homeFill_outside s (by rwa [whole]))
  · have own : pieceAck u p = pieceAck s p := by rw [pieceAck, ownKey_of_fabric fabric, pieceAck]
    rw [← own]
    exact Queued.freeSlot (pieceAnswered_whole (fabric ▸ first) full (Routed.of_fabric route fabric)) _ _
  · rw [(freed.part .fabric : _ = _)]
    exact pieceAnswered_part (fabric ▸ first) more

theorem transferData_denied {reads : LineReads} {code : Nat} (arrives : Arrives s 7 p) (space : gaSpace p.addr.toNat = 0)
    (some_ : 0 < p.len) (small : p.len ≤ 220) (whole : p.data.length = p.len)
    (ready : putReady s (packetAccess p reads) 0 (gaLocal p.addr.toNat) p.len = true) (real : code ≠ 0)
    (denied : writeDenied s (gaLocal p.addr.toNat) p.len = some code) : Gives (.transferData f p reads) s (fun t =>
      t.store.cells = s.store.cells ∧ Raised code s t) := by
  set u := accessFault code (packetAccess p reads) 0 (gaLocal p.addr.toNat) s with hu
  have fault : Acts (Part.set faultParts) s u := raiseWith_acts (Sub.refl _) (.refl s)
  have freed := freeSlot_acts (a0 := f.val) (a1 := (kindVc 7).getD 0) (Sub.refl _) (Acts.refl u)
  exact ⟨_, congrArg Host.Outcome.next (arrive_served arrives (takeData_denied space some_ small whole ready real denied)),
    (freed.part .storeBytes : _ = _).trans (fault.part .storeBytes), deniedFault_raised denied (.acts freed (.refl u))⟩

/-- The Transfer read data of a read that one packet holds. -/
def readReply (p : Packet) (data : List Byte) : Packet :=
  { responseTo p 9 with addr := p.aux, len := p.len, piece := p.piece, pbytes := p.len, data := data, poison := false }

theorem readReplies_single {data : List Byte} (length : data.length = p.len) (some_ : 0 < p.len) (small : p.len ≤ 220) :
    readReplies p data false = [readReply p data] := by
  have one : ceilDiv p.len 220 = 1 := by
    rw [ceilDiv]
    omega
  have part : slice data 0 p.len = data := by rw [slice, List.drop_zero, List.take_of_length_le (Nat.le_of_eq length)]
  simp only [readReplies, length, one, List.range_one, List.map_cons, List.map_nil, Nat.mul_zero, Nat.sub_zero,
    Nat.min_eq_right small, part, BitVec.add_zero]
  rfl

theorem serveRead_clean (space : gaSpace p.addr.toNat = 0) (some_ : 0 < p.len) (small : p.len ≤ 220)
    (within : gaLocal p.addr.toNat + p.len ≤ capacity s)
    (ready : readReady s (packetAccess p []) 0 (gaLocal p.addr.toNat) p.len = true)
    (clean : ∀ l ∈ linesOf (gaLocal p.addr.toNat) p.len, poisoned s l = false) :
    serveRead p [] s = (true, sendPacket (readReply p (readStore s (gaLocal p.addr.toNat) p.len)) s) := by
  have bytes : ∀ i < p.len, poisoned s ((gaLocal p.addr.toNat + i) / 128) = false := fun i h => clean _ (mem_linesOf h)
  have read : readLocal (packetAccess p []) 0 (gaLocal p.addr.toNat) p.len s =
      (storeBytes s (gaLocal p.addr.toNat) p.len, false, s) :=
    (if_neg (Nat.not_lt.mpr within)).trans (homeReadLines_clean (Nat.lt_succ_self _) within bytes)
  have serve : ¬(p.len = 0 ∨ 2 ≤ 0) := by omega
  rw [serveRead]
  dsimp only
  rw [space, if_neg serve, ready, read]
  dsimp only
  rw [readReplies_single (storeBytes_length _ _ _) some_ small, readStore_clean bytes]
  rfl

end

/-- Settles O49: each kind is served as its home serves it; what is sent waits in a queue, and nothing after that touches the Store. -/
theorem packetsAreForwardedOrServedAtTheirHome : Obligations.PacketsAreForwardedOrServedAtTheirHome := by
  intro s f p
  refine ⟨fun hub kind form other way x => loadPacket_forwarded hub kind form other way x,
    fun hub _ form x => loadPacket_malformed hub form x, ?_, ?_, ?_, ?_, ?_, ?_⟩
  · intro arrives some_ line space idle within clean route
    have way : Routed s { responseTo p 4 with data := storeBytes s (gaLocal p.addr.toNat) p.len, poison := false } :=
      Routed.response route rfl rfl rfl
    obtain ⟨t, run, queued, acts⟩ := arrive_replied (f := f.val) arrives (serveLoad_clean some_ line space idle within clean) way
    exact ⟨t, congrArg Host.Outcome.next run, acts.store, queued⟩
  · intro arrives w space
    exact ⟨fun open_ room x turn => storePacket_written arrives w space open_ room turn,
      fun code denied x => storePacket_denied arrives space denied⟩
  · intro arrives w space word ok open_ room clean alone route
    exact atomicPacket_done arrives w space word ok open_ room clean alone route
  · intro arrives more route
    exact releasePacket_done arrives more route
  · intro arrives w space some_ small whole reads ready
    exact ⟨fun open_ => transferData_written arrives w space some_ small whole ready open_,
      fun code real denied => transferData_denied arrives space some_ small whole ready real denied⟩
  · intro arrives space some_ small within ready clean route
    have way : Routed s (readReply p (readStore s (gaLocal p.addr.toNat) p.len)) := Routed.response route rfl rfl rfl
    obtain ⟨t, run, queued, acts⟩ := arrive_replied (f := f.val) arrives
      (serveRead_clean space some_ small within ready clean) way
    exact ⟨t, congrArg Host.Outcome.next run, acts.store, queued⟩

end Sys2Proof.Laws

/-!
PROOF. The end of a receive channel's calibration window (R282, R315), where the table of fibres lists a fibre twice.
-/

namespace Sys2Proof.Laws

set_option Elab.async false

open Machine

/-- A calibration that sets nothing. -/
def emptyCal : ItemCal := { rings := [], bias := 0, levels := [], trims := [] }

/-- The window of receive channel 0 is open on engine 0, and the table of fibres lists fibre 0 twice, out of service by R282 in both
entries: a table that no command builds. -/
def twiceOver : State :=
  { State.reset with
    boot := { State.reset.boot with hub := true }
    optics := { State.reset.optics with
      engs := [(0, { state := 0, icActive := true, icItem := 9 })]
      fibs := [(0, { fecOver := true }), (0, { fecOver := true, fecRetry := true })] } }

/-- The fibre restored reads as the default, which takes the first of its entries off the table; the second is still out of service. -/
theorem twiceOver_windowEnd : ∃ t, execIntercalaryWindowEnd 0 true 0 emptyCal twiceOver = .next t ∧ (fibOf t 0).fecOver = true :=
  ⟨_, rfl, by decide +kernel⟩

/-- Refutes O42: in a state whose table of fibres lists a fibre twice, the window that restores the fibre brings up the second entry.
No command builds such a table, and the statement does not ask for a canonical one. -/
theorem not_enginesComeUpAndServeTheirGroups : ¬ Obligations.EnginesComeUpAndServeTheirGroups := by
  intro h
  obtain ⟨-, -, -, served⟩ := h twiceOver 0 rfl
  obtain ⟨-, -, -, -, -, -, windowEnds⟩ := served rfl
  obtain ⟨-, -, receives⟩ := windowEnds rfl rfl 0 emptyCal
  obtain ⟨⟨u, run, -, -, -, restored, -⟩, -⟩ := receives (by decide) (by decide)
  obtain ⟨t, run', stillOut⟩ := twiceOver_windowEnd
  obtain rfl := Host.Outcome.next.inj (run'.symm.trans run)
  exact absurd (restored.symm.trans stillOut) Bool.false_ne_true

end Sys2Proof.Laws

/-!
PROOF. Light on a fibre whose pair has never trained (R329, R555), where the table of pairs lists that pair twice.
-/

namespace Sys2Proof.Laws

set_option Elab.async false

open Machine

/-- Start-up has reached step 7 with engine 1 in service, no group feeds its fibres, and the table of pairs lists pair 8 twice, first as
one that has never trained: a table that no command builds. -/
def twiceTrained : State :=
  { State.reset with
    boot := { State.reset.boot with hub := true, step := 7 }
    optics := { State.reset.optics with engs := [(1, { state := 0, src := [] })] }
    links := { State.reset.links with pairs := [(8, { withdrawn := false }), (8, { level := 2 })] } }

/-- As the table reads, the pair has no level. -/
theorem twiceTrained_level : decide ((pairOf twiceTrained 8).level ≠ 0) = false := rfl

/-- The pair withdrawn reads as the default, which takes the first of its entries off the table; the second has a level, so that the
training that begins waits for a Resume flit. -/
theorem twiceTrained_lit : ∃ t, execRxLightAppear 8 0 twiceTrained = .next t ∧ (pairOf t 8).needResume = true :=
  ⟨_, rfl, by decide +kernel⟩

/-- Refutes O44: in a state whose table of pairs lists a pair twice, the training that light begins takes its level from the second
entry. No command builds such a table, and the statement does not ask for a canonical one. -/
theorem not_fibresLockMeasureAndFailAsStated : ¬ Obligations.FibresLockMeasureAndFailAsStated := by
  intro h
  obtain ⟨dark, -⟩ := h twiceTrained 8 rfl rfl
  obtain ⟨trains, -⟩ := dark rfl
  obtain ⟨u, run, -, -, -, -, level⟩ := trains rfl (fun _ ring => absurd ring List.not_mem_nil)
  obtain ⟨t, run', resume⟩ := twiceTrained_lit
  obtain rfl := Host.Outcome.next.inj (run'.symm.trans run)
  exact absurd ((level.trans twiceTrained_level).symm.trans resume) Bool.false_ne_true

end Sys2Proof.Laws

/-!
PROOF. What the withdrawal, the return and the retraining of a pair count (R77, R291, R305, R329, R332).
-/

namespace Sys2Proof.Laws

set_option Elab.async false

open Machine

/-- The faults that a pair may bring as it leaves or returns: a member that its split's light no longer serves (R305), and the notice
bound past a `LEAD` (R77). -/
def pairCodes : List Nat := [0x4032, 0x1005]

section

variable {codes keys : List Nat} {s x : State} {f : Nat}

theorem CountsOnly.mono_keys {keys' : List Nat} (h : CountsOnly codes keys s x) (sub : keys ⊆ keys') : CountsOnly codes keys' s x :=
  ⟨h.evt, h.corr, fun k hs hk => h.cnt k hs fun mem => hk (sub mem)⟩

theorem optFault_counts {code n : Nat} {also : List Nat} (hc : code ∈ codes) (h : CountsOnly codes keys s x)
    (sev : sevOf code ≠ 1 := by decide) (bits : code < 65536 := by decide) : CountsOnly codes keys s (optFault code n also x) :=
  raiseWith_counts (.inr hc) h sev bits

theorem optFault_raised {code n : Nat} {also : List Nat} (s : State) (sev : sevOf code ≠ 1 := by decide)
    (bits : code < 65536 := by decide) (hs : code ∉ sideCodes := by decide) : Raised code s (optFault code n also s) :=
  raiseWith_raised none n also s sev bits hs

theorem updateBound_counts (sub : pairCodes ⊆ codes) (h : CountsOnly codes keys s x) : CountsOnly codes keys s (updateBound x) :=
  .onlyIf (c := (leadsHeld (computeBound x)).any (fun l => decide (l < (computeBound x).frames.bound)))
    (h.upd (y := computeBound x) rfl rfl rfl) fun k => raise_counts (.inr (sub (by decide))) k

theorem splitDrop_counts (sub : pairCodes ⊆ codes) (h : CountsOnly codes keys s x) : CountsOnly codes keys s (splitDrop f x) := by
  unfold splitDrop
  split
  · exact optFault_counts (sub (by decide)) (h.upd rfl rfl rfl)
  · exact h

theorem modPair_counts {g : Pair → Pair} (h : CountsOnly codes keys s x) : CountsOnly codes keys s (modPair f g x) := h.upd rfl rfl rfl

/-- A withdrawal is counted in OD 0x3003.06. -/
theorem withdrawQuiet_counts (sub : pairCodes ⊆ codes) (key : 0x300306 ∈ keys) (h : CountsOnly codes keys s x) :
    CountsOnly codes keys s (withdrawQuiet f x) := by
  unfold withdrawQuiet
  split
  · exact h
  · refine updateBound_counts sub (bump_counts (.inr key) (splitDrop_counts sub ?_))
    split
    · exact .forEach (modPair_counts h) fun _ _ k => modPair_counts k
    · exact modPair_counts h

theorem withdraw_counts (sub : pairCodes ⊆ codes) (key : 0x300306 ∈ keys) (h : CountsOnly codes keys s x) :
    CountsOnly codes keys s (withdraw f x) := by
  unfold withdraw
  split
  · exact h
  · exact withdrawQuiet_counts sub key (.acts (sendLinkNotice_acts (Sub.refl _) (.refl _)) h)

theorem returnPair_counts (sub : pairCodes ⊆ codes) (h : CountsOnly codes keys s x) : CountsOnly codes keys s (returnPair f x) := by
  unfold returnPair
  split
  · exact updateBound_counts sub (modPair_counts (.acts (sendLinkNotice_acts (Sub.refl _) (.refl _)) h))
  · exact h

/-- A retraining is counted in OD 0x4100.03. -/
theorem retrain_counts (sub : pairCodes ⊆ codes) (key : 0x300306 ∈ keys) (own : 0x410003 ∈ keys) (h : CountsOnly codes keys s x) :
    CountsOnly codes keys s (retrain f x) :=
  .acts (takeLevel_acts (Sub.refl _) (.refl _)) (bump_counts (.inr own) (modPair_counts (withdraw_counts sub key h)))

end

end Sys2Proof.Laws

/-!
PROOF. The laser inputs (R285 to R294): what the operations of the optics leave of an engine's pins, its input switch and its thresholds,
and what they count.
-/

namespace Sys2Proof.Laws

set_option Elab.async false

open Machine

/-- An engine that is not in bring-up reads as it was written. -/
theorem engOf_modEng_serving {n : Nat} {g : Eng → Eng} {s : State} (serving : (g (engOf s n)).state ≠ 3) :
    engOf (modEng n g s) n = g (engOf s n) :=
  engOf_modEng_self n g s fun e => serving (congrArg Eng.state e)

theorem engOf_of_optics {s t : State} (h : t.optics = s.optics) (n : Nat) : engOf t n = engOf s n := by rw [engOf, engOf, h]

/-! ### What the work on an engine's rings, fibres and monitors leaves (R297, R305, R310, R332) -/

/-- An engine's state, its pins, its input switch and the thresholds that its inputs have crossed. -/
abbrev switchView (e : Eng) :=
  (e.state, e.sel, e.reqP, e.reqS, e.switching, e.switchPend, e.noInput, e.pastAP, e.pastBS)

/-- The faults that this work may bring beside those of a pair: commissioned automatically (R288), a ring that fails (R297), a class that
changes (R284), a phase stream that never came (R308). -/
def engineCodes : List Nat := pairCodes ++ [0x4007, 0x4011, 0x4015, 0x4033]

/-- Engine `n` keeps its state, pins, switch and thresholds, and no other fault and no counter but that of the withdrawals moves. -/
structure EngineKept (n : Nat) (s t : State) : Prop where
  view : (engOf s n).state ≠ 3 → switchView (engOf t n) = switchView (engOf s n)
  counts : CountsOnly engineCodes [0x300306] s t

section

variable {s x y : State} {n k : Nat}

namespace EngineKept

theorem refl (s : State) : EngineKept n s s := ⟨fun _ => rfl, .refl s⟩

theorem state (h : EngineKept n s x) (serving : (engOf s n).state ≠ 3) : (engOf x n).state = (engOf s n).state :=
  congrArg Prod.fst (h.view serving)

theorem trans (h : EngineKept n s x) (k : EngineKept n x y) : EngineKept n s y :=
  ⟨fun serving => (k.view (by rwa [h.state serving])).trans (h.view serving), h.counts.trans k.counts⟩

/-- A change outside the engines and the counts. -/
theorem upd (h : EngineKept n s x) (engs : y.optics.engs = x.optics.engs) (evt : y.health.evt = x.health.evt)
    (corr : y.health.corr = x.health.corr) (cnt : y.health.cnt = x.health.cnt) : EngineKept n s y :=
  h.trans ⟨fun _ => by rw [engOf, engOf, engs], .upd (.refl x) evt corr cnt⟩

/-- An operation outside the optics that counts what it may. -/
theorem counted {L : Nat} (a : Acts L x y) (c : CountsOnly engineCodes [0x300306] x y) (h : EngineKept n s x)
    (out : L.testBit 21 = false := by decide) : EngineKept n s y :=
  h.trans ⟨fun _ => by rw [engOf_of_optics (a.part .optics out)], c⟩

theorem modEng {g : Eng → Eng} (h : EngineKept n s x) (same : ∀ e, switchView (g e) = switchView e) :
    EngineKept n s (modEng k g x) := by
  refine h.trans ⟨fun serving => ?_, .upd (.refl x) rfl rfl rfl⟩
  obtain rfl | other := eq_or_ne n k
  · have state : (g (engOf x n)).state = (engOf x n).state := congrArg Prod.fst (same _)
    rw [engOf_modEng_serving (by rwa [state]), same]
  · rw [engOf_modEng_other k g x n other]

theorem forEach {α : Type} {l : List α} {f : α → State → State} (h : EngineKept n s x)
    (hf : ∀ a y, EngineKept n s y → EngineKept n s (f a y)) : EngineKept n s (forEach l f x) := forEach_keeps h hf

theorem onlyIf {c : Bool} {f : State → State} (h : EngineKept n s x) (hf : EngineKept n s x → EngineKept n s (f x)) :
    EngineKept n s (onlyIf c f x) := by
  unfold Machine.onlyIf
  split
  · exact hf h
  · exact h

end EngineKept

theorem optFault_engineKept {code : Nat} {also : List Nat} (hc : code ∈ engineCodes) (h : EngineKept n s x)
    (sev : sevOf code ≠ 1 := by decide) (bits : code < 65536 := by decide) : EngineKept n s (optFault code k also x) :=
  h.counted (optFault_acts (Sub.refl _) (.refl x)) (optFault_counts hc (.refl x) sev bits)

theorem withdraw_engineKept {f : Nat} (h : EngineKept n s x) : EngineKept n s (withdraw f x) :=
  h.counted (withdraw_acts (Sub.refl _) (.refl x)) (withdraw_counts (by decide) (by decide) (.refl x))

theorem withdrawQuiet_engineKept {f : Nat} (h : EngineKept n s x) : EngineKept n s (withdrawQuiet f x) :=
  h.counted (withdrawQuiet_acts (Sub.refl _) (.refl x)) (withdrawQuiet_counts (by decide) (by decide) (.refl x))

theorem returnPair_engineKept {f : Nat} (h : EngineKept n s x) : EngineKept n s (returnPair f x) :=
  h.counted (returnPair_acts (Sub.refl _) (.refl x)) (returnPair_counts (by decide) (.refl x))

theorem splitDrop_engineKept {f : Nat} (h : EngineKept n s x) : EngineKept n s (splitDrop f x) :=
  h.counted (splitDrop_acts (Sub.refl _) (.refl x)) (splitDrop_counts (by decide) (.refl x))

theorem modFib_engineKept {f : Nat} {g : Fib → Fib} (h : EngineKept n s x) : EngineKept n s (modFib f g x) := h.upd rfl rfl rfl rfl

theorem modLine_engineKept {i : Nat} {g : Line → Line} (h : EngineKept n s x) : EngineKept n s (modLine i g x) :=
  h.upd rfl rfl rfl rfl

theorem modReso_engineKept {i : Nat} {g : Reso → Reso} (h : EngineKept n s x) : EngineKept n s (modReso k i g x) :=
  h.modEng fun _ => rfl

theorem lockRings_engineKept {failed ks : List Nat} (h : EngineKept n s x) : EngineKept n s (lockRings k failed ks x) := by
  refine h.forEach fun i y h => ?_
  split
  · exact optFault_engineKept (by decide) (modReso_engineKept h)
  · exact modReso_engineKept h

theorem settleRings_engineKept {f : Nat} (h : EngineKept n s x) : EngineKept n s (settleRings f x) := modFib_engineKept h

theorem setClass_engineKept {f : Nat} {margin : Int} (h : EngineKept n s x) : EngineKept n s (setClass f margin x) := by
  unfold setClass
  extract_lets fibre c measured told served
  have hm : EngineKept n s measured := modFib_engineKept h
  have ht : EngineKept n s told := hm.onlyIf fun k => optFault_engineKept (by decide) k
  have hs : EngineKept n s served := ht.onlyIf fun k => splitDrop_engineKept k
  split
  · exact withdraw_engineKept hs
  · exact returnPair_engineKept hs

theorem remeasure_engineKept {f : Nat} (h : EngineKept n s x) : EngineKept n s (remeasure f x) := by
  unfold remeasure
  split
  · exact setClass_engineKept h
  · exact h

theorem missingPhase_engineKept (h : EngineKept n s x) : EngineKept n s (missingPhase k x) :=
  h.forEach fun _ _ h => optFault_engineKept (by decide) h

theorem openSplit_engineKept {z : Setting} {g : Nat} (h : EngineKept n s x) : EngineKept n s (openSplit k z g x) := by
  unfold openSplit
  extract_lets members lit isIt fresh splits opened
  split
  · exact h
  · exact EngineKept.forEach (h.upd rfl rfl rfl rfl) fun _ _ h => optFault_engineKept (by decide) h

theorem applySetting_engineKept {z : Setting} (h : EngineKept n s x) : EngineKept n s (applySetting k z x) := by
  unfold applySetting
  extract_lets ended set_ cleared
  split
  · exact h
  · have he : EngineKept n s ended := (missingPhase_engineKept h).upd rfl rfl rfl rfl
    have hs : EngineKept n s set_ := he.modEng fun _ => rfl
    have hc : EngineKept n s cleared := hs.forEach fun _ _ h => modFib_engineKept h
    exact EngineKept.modEng (hc.forEach fun _ _ h => openSplit_engineKept h) fun _ => rfl

theorem applyHeld_engineKept (h : EngineKept n s x) : EngineKept n s (applyHeld k x) := by
  unfold applyHeld
  split
  · exact h
  · exact applySetting_engineKept (h.modEng fun _ => rfl)

theorem endWindow_engineKept (h : EngineKept n s x) : EngineKept n s (endWindow k x) := h.modEng fun e => by
  split
  · rfl
  · rfl

/-! ### A sample of the inputs (R287, R288, R294) -/

theorem sampleInput_engineKept {sp : Bool} {powers : List Int} (h : EngineKept n s x) : EngineKept n s (sampleInput k sp powers x) := by
  unfold sampleInput
  split
  · exact h.forEach fun _ _ h => modLine_engineKept h
  · exact h.forEach fun _ _ h => modLine_engineKept h

theorem setLight_engineKept {sp lit : Bool} (h : EngineKept n s x) : EngineKept n s (setLight k sp lit x) := h.modEng fun e => by
  cases sp <;> rfl

theorem journalPut_engineKept {r : JRec} (h : EngineKept n s x) : EngineKept n s (journalPut r x) :=
  h.counted (journalPut_acts (Sub.refl _) (.refl x)) (journalPut_counts (.refl x))

theorem recordBaseline_engineKept {sp : Bool} {audit : Option Audit} (h : EngineKept n s x) :
    EngineKept n s (recordBaseline k sp audit x) := by
  unfold recordBaseline
  extract_lets lines kept based mon read others
  have hk : EngineKept n s kept := h.forEach fun _ _ h => modLine_engineKept h
  have hb : EngineKept n s based := hk.forEach fun _ _ h => modFib_engineKept h
  have hr : EngineKept n s read := hb.modEng fun _ => rfl
  exact journalPut_engineKept (journalPut_engineKept (journalPut_engineKept hr))

theorem autoCommission_engineKept {sp : Bool} (h : EngineKept n s x) : EngineKept n s (autoCommission k sp x) := by
  unfold autoCommission
  split
  · exact optFault_engineKept (by decide) (recordBaseline_engineKept h)
  · exact h

theorem takeSample_engineKept {sp : Bool} {powers : List Int} (h : EngineKept n s x) : EngineKept n s (takeSample k sp powers x) := by
  unfold takeSample
  extract_lets lit sampled e due based
  have hs : EngineKept n s sampled := sampleInput_engineKept (setLight_engineKept h)
  have hb : EngineKept n s based := by
    dsimp only [based]
    split
    · exact recordBaseline_engineKept (hs.modEng fun e => by cases sp <;> rfl)
    · exact hs
  exact autoCommission_engineKept hb

theorem inputsSampled_engineKept (lp ls : List Int) : EngineKept n s (inputsSampled n lp ls s) :=
  takeSample_engineKept (takeSample_engineKept (.refl s))

end

end Sys2Proof.Laws

/-!
PROOF. Fade, switchover and return (R286 to R294): the thresholds, the switch of the input and its end, and the Installer's writes.
-/

namespace Sys2Proof.Laws

set_option Elab.async false

open Machine

/-! ### Thresholds (R289) -/

theorem dyLe_eq_not_dyLt (x y : Dy) : dyLe x y = !dyLt y x := by
  rw [dyLe, dyLt, min_comm y.e x.e, ← decide_not]
  exact decide_eq_decide.mpr not_lt.symm

section

variable {s : State} {n : Nat}

/-- An input that is asked for has reached a threshold where it is not below it. -/
theorem reach_eq_not_inputBelow {sp : Bool} (asked : inputAsked (engOf s n) sp = true) (thr : Nat) :
    (!inputLit (engOf s n) sp || dyLe (dyInt (10 * thr)) (inputDrop s n sp)) = !inputBelow s n sp thr := by
  rw [inputBelow, asked, dyLe_eq_not_dyLt, Bool.true_and, Bool.not_and]

/-- The selected input LP is judged against threshold A alone: it is past it where its drop is not below. -/
theorem judgeInput_selected (serves : (engOf s n).state = 0) (asked : (engOf s n).reqP = true) (selects : (engOf s n).sel = false)
    (fresh : (engOf s n).pastAP = false) :
    ∃ y, CountsOnly [] [] s y ∧ (engOf y n).pastAP = (!inputBelow s n false (fadeA s)) ∧
      judgeInput n false s = onlyIf (!inputBelow s n false (fadeA s)) (optFault 0x4001 n [0]) y := by
  unfold judgeInput
  extract_lets e lit d reach under clearA clearB pastA pastB selected crossA crossB plan judged faulted
  have yes : selected = true := decide_eq_true selects
  have past : pastA = false := by simp only [pastA, e, fresh, Bool.false_eq_true, if_false, Bool.false_and]
  have cross : crossA = !inputBelow s n false (fadeA s) := by
    rw [← reach_eq_not_inputBelow (sp := false) asked]
    simp only [crossA, yes, past, Bool.true_and, Bool.not_false, Bool.and_true, reach, lit, d, e]
  clear_value plan pastA crossA
  refine ⟨judged, .upd (.refl s) rfl rfl rfl, ?_, ?_⟩
  · dsimp only [judged]
    cases plan <;> rw [engOf_modEng_serving (by simp [serves]), ← cross] <;> simp [past]
  · rw [← cross, yes, Bool.not_true, Bool.and_false]
    rfl

/-- The input LS that is not selected is judged against threshold B alone. -/
theorem judgeInput_unselected (serves : (engOf s n).state = 0) (asked : (engOf s n).reqS = true)
    (selects : (engOf s n).sel = false) (fresh : (engOf s n).pastBS = false) :
    ∃ y, CountsOnly [] [] s y ∧ (engOf y n).pastBS = (!inputBelow s n true (fadeB s)) ∧
      judgeInput n true s = onlyIf (!inputBelow s n true (fadeB s)) (optFault 0x4004 n [1]) y := by
  unfold judgeInput
  extract_lets e lit d reach under clearA clearB pastA pastB selected crossA crossB plan judged faulted
  have no : selected = false := decide_eq_false (by simp [e, selects])
  have below : crossA = false := by rw [show crossA = (selected && reach (fadeA s) && !pastA) from rfl, no]; rfl
  have past : pastB = false := by simp only [pastB, e, fresh, if_true, Bool.false_and]
  have cross : crossB = !inputBelow s n true (fadeB s) := by
    rw [← reach_eq_not_inputBelow (sp := true) asked]
    simp only [crossB, past, Bool.not_false, Bool.and_true, reach, lit, d, e]
  clear_value plan pastA pastB crossA crossB
  refine ⟨judged, .upd (.refl s) rfl rfl rfl, ?_, ?_⟩
  · dsimp only [judged]
    cases plan <;> rw [engOf_modEng_serving (by simp [serves]), ← cross] <;> simp [past]
  · rw [← cross, no, Bool.not_false, Bool.and_true, show faulted = judged by dsimp only [faulted]; rw [below]; rfl]
    rfl

end

section

variable {s : State} {n : EngineNo}

/-- A sample finds the thresholds of the input LP alone crossed or not, where LS is not asked for. -/
theorem laserSample_primary (hub : s.boot.hub = true) (serves : (engOf s n.val).state = 0) (primary : (engOf s n.val).reqP = true)
    (spare : (engOf s n.val).reqS = false) (lp ls : List Int) :
    exec (.laserSample n lp ls) s = .next (judgeInput n.val false (inputsSampled n.val lp ls s)) := by
  show execLaserSample n lp ls s = _
  simp only [execLaserSample, hub, serves, primary, spare, if_true, Bool.false_eq_true, if_false, inputsSampled]

theorem laserSample_spare (hub : s.boot.hub = true) (serves : (engOf s n.val).state = 0) (primary : (engOf s n.val).reqP = false)
    (spare : (engOf s n.val).reqS = true) (lp ls : List Int) :
    exec (.laserSample n lp ls) s = .next (judgeInput n.val true (inputsSampled n.val lp ls s)) := by
  show execLaserSample n lp ls s = _
  simp only [execLaserSample, hub, serves, primary, spare, if_true, Bool.false_eq_true, if_false, inputsSampled]

/-- A sample leaves the values of the dictionary. -/
theorem odNum_inputsSampled (n : Nat) (lp ls : List Int) (key d : Nat) : odNum (inputsSampled n lp ls s) key d = odNum s key d := by
  have values : valuesOf (inputsSampled n lp ls s).mgmt = valuesOf s.mgmt :=
    (takeSample_acts (Sub.refl _) (takeSample_acts (Sub.refl _) (.refl s))).part .values
  simp only [valuesOf, Prod.mk.injEq] at values
  obtain ⟨latest, inForce⟩ := values
  rw [odNum, odNum, odLatest, odLatest, latest, inForce]

theorem laserSample_thresholdA (hub : s.boot.hub = true) (serves : (engOf s n.val).state = 0)
    (primary : (engOf s n.val).reqP = true) (spare : (engOf s n.val).reqS = false) (selects : (engOf s n.val).sel = false)
    (fresh : (engOf s n.val).pastAP = false) (lp ls : List Int) :
    (inputBelow (inputsSampled n.val lp ls s) n.val false (fadeA s) = false → Gives (.laserSample n lp ls) s (fun t =>
      Raised 0x4001 s t ∧ (engOf t n.val).pastAP = true)) ∧
    (inputBelow (inputsSampled n.val lp ls s) n.val false (fadeA s) = true → Gives (.laserSample n lp ls) s (fun t =>
      faultCount t 0x4001 = faultCount s 0x4001 ∧ (engOf t n.val).pastAP = false)) := by
  have kept := inputsSampled_engineKept (s := s) (n := n.val) lp ls
  have view := kept.view (by rw [serves]; decide)
  simp only [switchView, Prod.mk.injEq] at view
  obtain ⟨state, sel, reqP, -, -, -, -, pastAP, -⟩ := view
  obtain ⟨y, judged, past, run⟩ := judgeInput_selected (state.trans serves) (reqP.trans primary) (sel.trans selects)
    (pastAP.trans fresh)
  have counts := kept.counts.trans (judged.mono (List.nil_subset _) |>.mono_keys (List.nil_subset _))
  have thr : fadeA (inputsSampled n.val lp ls s) = fadeA s := odNum_inputsSampled ..
  rw [thr] at past run
  have ends := laserSample_primary hub serves primary spare lp ls
  rw [run] at ends
  refine ⟨fun reached => ⟨_, ends, ?_⟩, fun below => ⟨_, ends, ?_⟩⟩
  · rw [reached] at past ⊢
    have same : engOf (optFault 0x4001 n.val [0] y) n.val = engOf y n.val :=
      engOf_of_optics ((optFault_acts (Sub.refl _) (.refl y)).part .optics) _
    exact ⟨counts.then_raised (optFault_raised y), (congrArg Eng.pastAP same).trans past⟩
  · rw [below] at past ⊢
    exact ⟨counts.evt _ (by decide) (by decide), past⟩

theorem laserSample_thresholdB (hub : s.boot.hub = true) (serves : (engOf s n.val).state = 0)
    (primary : (engOf s n.val).reqP = false) (spare : (engOf s n.val).reqS = true) (selects : (engOf s n.val).sel = false)
    (fresh : (engOf s n.val).pastBS = false) (lp ls : List Int)
    (reached : inputBelow (inputsSampled n.val lp ls s) n.val true (fadeB s) = false) :
    Gives (.laserSample n lp ls) s (fun t => Raised 0x4004 s t ∧ (engOf t n.val).pastBS = true) := by
  have kept := inputsSampled_engineKept (s := s) (n := n.val) lp ls
  have view := kept.view (by rw [serves]; decide)
  simp only [switchView, Prod.mk.injEq] at view
  obtain ⟨state, sel, -, reqS, -, -, -, -, pastBS⟩ := view
  obtain ⟨y, judged, past, run⟩ := judgeInput_unselected (state.trans serves) (reqS.trans spare) (sel.trans selects)
    (pastBS.trans fresh)
  have counts := kept.counts.trans (judged.mono (List.nil_subset _) |>.mono_keys (List.nil_subset _))
  have thr : fadeB (inputsSampled n.val lp ls s) = fadeB s := odNum_inputsSampled ..
  rw [thr, reached] at past run
  have same : engOf (optFault 0x4004 n.val [1] y) n.val = engOf y n.val :=
    engOf_of_optics ((optFault_acts (Sub.refl _) (.refl y)).part .optics) _
  exact ⟨_, (laserSample_spare hub serves primary spare lp ls).trans (congrArg Host.Outcome.next run),
    counts.then_raised (optFault_raised y), (congrArg Eng.pastBS same).trans past⟩

/-! ### No light (R286) -/

theorem laserLightTimeout_dark (asked : (engOf s n.val).reqP = true) (dark : (engOf s n.val).lightP = false)
    (fresh : (engOf s n.val).noLightP = false) :
    Gives (.laserLightTimeout n false) s (fun t => Raised 0x4006 s t ∧ (engOf t n.val).noLightP = true) := by
  set x := modEng n.val (fun e => { e with noLightP := true }) s with hx
  have run : execLaserLightTimeout n false s = .next (optFault 0x4006 n.val [0] x) := by
    simp only [execLaserLightTimeout, asked, dark, fresh, Bool.false_eq_true, if_false, Bool.not_false, Bool.and_self, if_true, hx,
      flag]
  have noted : (engOf x n.val).noLightP = true := by
    rw [hx, engOf_modEng_self _ _ _ fun e => Bool.noConfusion (congrArg Eng.noLightP e)]
  have same : engOf (optFault 0x4006 n.val [0] x) n.val = engOf x n.val :=
    engOf_of_optics ((optFault_acts (Sub.refl _) (.refl x)).part .optics) _
  exact ⟨_, run, CountsOnly.then_raised (codes := []) (keys := []) (.upd (.refl s) rfl rfl rfl) (optFault_raised x),
    (congrArg Eng.noLightP same).trans noted⟩

theorem laserLightTimeout_lit (lit : (engOf s n.val).lightS = true) : Gives (.laserLightTimeout n true) s (fun t => t = s) := by
  refine ⟨s, ?_, rfl⟩
  show execLaserLightTimeout n true s = _
  simp only [execLaserLightTimeout, lit, if_true, Bool.not_true, Bool.and_false, Bool.false_and, Bool.false_eq_true, if_false]

/-! ### The switch of the input (R290, R292, R293) -/

/-- The switch moves: the engine is withdrawn and reads the other input. -/
structure Switching (n : Nat) (planned : Bool) (s t : State) : Prop where
  state : (engOf t n).state = 1
  sel : (engOf t n).sel = !(engOf s n).sel
  switching : (engOf t n).switching = some planned
  pending : (engOf t n).switchPend = false

theorem beginSwitch_switching {s x : State} {n : Nat} {planned quiet : Bool} (serves : (engOf s n).state = 0)
    (h : EngineKept n s x) : Switching n planned s (beginSwitch n planned quiet x) := by
  have serving : (engOf s n).state ≠ 3 := by rw [serves]; decide
  unfold beginSwitch
  extract_lets withdrawn moved dark
  have hw : EngineKept n s withdrawn := h.forEach fun m y k => by
    split
    · exact withdrawQuiet_engineKept k
    · exact withdraw_engineKept k
  have view := hw.view serving
  simp only [switchView, Prod.mk.injEq] at view
  obtain ⟨state, sel, -⟩ := view
  have engine : engOf moved n = _ := engOf_modEng_serving (by simp)
  have hd : EngineKept n moved dark := EngineKept.forEach (.refl moved) fun _ _ k => modFib_engineKept k
  have ho : EngineKept n moved (forEach (List.range 136) (openRing n) dark) := hd.forEach fun _ _ k => modReso_engineKept k
  have view' := ho.view (by rw [engine]; simp)
  simp only [switchView, Prod.mk.injEq, engine] at view'
  obtain ⟨state', sel', -, -, switching', pending', -⟩ := view'
  exact ⟨state', by rw [sel', sel], switching', pending'⟩

/-- No input is left: out of service, with 0x4005 where it has not been raised (R290). -/
theorem engineOut_engine {s : State} {n : Nat} (fresh : (engOf s n).noInput = false) :
    (engOf (engineOut n s) n).state = 2 ∧ (engOf (engineOut n s) n).noInput = true ∧ Raised 0x4005 s (engineOut n s) := by
  unfold engineOut
  extract_lets e ended out told
  have engine : engOf out n = _ := engOf_modEng_serving (by simp)
  have ht : told = optFault 0x4005 n [] out := by
    dsimp only [told, e]
    rw [fresh]
    rfl
  have same : engOf told n = engOf out n := ht ▸ engOf_of_optics ((optFault_acts (Sub.refl _) (.refl out)).part .optics) _
  have raised : Raised 0x4005 s told := ht ▸
    CountsOnly.then_raised (codes := []) (keys := []) (.upd (.refl s) rfl rfl rfl) (optFault_raised out)
  have kept : EngineKept n told (forEach (List.range 8) (fun m => withdraw (8 * n + m)) told) :=
    EngineKept.forEach (.refl told) fun _ _ k => withdraw_engineKept k
  have view := kept.view (by rw [same, engine]; simp)
  simp only [switchView, Prod.mk.injEq, same, engine] at view
  obtain ⟨state, -, -, -, -, -, noInput, -⟩ := view
  exact ⟨state, noInput, Raised.later raised kept.counts⟩

theorem laserFadeTrip_switches (hub : s.boot.hub = true) (serves : (engOf s n.val).state = 0)
    (other : inputBelow s n.val (!(engOf s n.val).sel) (fadeC s) = true) :
    Gives (.laserFadeTrip n) s (fun t => Switching n.val false s t) := by
  have run : execLaserFadeTrip n s = .next (beginSwitch n.val false false (endWindow n.val s)) := by
    simp only [execLaserFadeTrip, hub, serves, other, if_true, and_self]
  exact ⟨_, run, beginSwitch_switching serves (endWindow_engineKept (.refl s))⟩

theorem laserFadeTrip_out (hub : s.boot.hub = true) (serves : (engOf s n.val).state = 0)
    (other : inputBelow s n.val (!(engOf s n.val).sel) (fadeC s) = false) (fresh : (engOf s n.val).noInput = false) :
    Gives (.laserFadeTrip n) s (fun t => (engOf t n.val).state = 2 ∧ (engOf t n.val).noInput = true ∧ Raised 0x4005 s t) := by
  refine ⟨_, ?_, engineOut_engine fresh⟩
  show execLaserFadeTrip n s = _
  simp only [execLaserFadeTrip, hub, serves, other, if_true, and_self, Bool.false_eq_true, if_false]

theorem plannedSwitchover_switches (serves : (engOf s n.val).state = 0) (pending : (engOf s n.val).switchPend = true)
    (due : ((engOf s n.val).icActive = true ∧ (engOf s n.val).icSwitch = true) ∨
      (engOf s n.val).pendSince + 1000000000 ≤ lastCalend s)
    (below : inputBelow s n.val (!(engOf s n.val).sel) (fadeC s) = true)
    (alone : ∀ k, k < 8 → k ≠ n.val → (engOf s k).state ≠ 1) :
    Gives (.plannedSwitchover n) s (fun t => Switching n.val true s t) := by
  have others : (List.range 8).any (fun k => decide (k ≠ n.val) && decide ((engOf s k).state = 1)) = false := by
    refine List.any_eq_false.mpr fun k hk => ?_
    simp only [Bool.and_eq_true, decide_eq_true_eq, not_and]
    exact alone k (List.mem_range.mp hk)
  have run : execPlannedSwitchover n s = .next (beginSwitch n.val true ((engOf s n.val).icSwitch && (engOf s n.val).icSent)
      (onlyIf (!(engOf s n.val).icSwitch) (endWindow n.val) s)) := by
    rw [execPlannedSwitchover]
    dsimp only
    rw [others, if_pos ⟨pending, serves, due, below, by simp⟩]
  exact ⟨_, run, beginSwitch_switching serves (.onlyIf (.refl s) fun k => endWindow_engineKept k)⟩

/-! ### The switch ends (R293) -/

/-- The engine's switch is over, and a release drops its pin. -/
def switchEnded (n : Nat) (s : State) : State :=
  match (engOf s n).releaseAfter with
  | some sp => dropPin n sp (modEng n (fun e => { e with state := 0, switching := none, releaseAfter := none }) s)
  | none => modEng n (fun e => { e with state := 0, switching := none, releaseAfter := none }) s

/-- The engine's rings lock on the new input, its pairs return, and it takes a setting that was held. -/
def servesAgain (n : Nat) (failed : List RingNo) (s : State) : State :=
  applyHeld n (forEach (List.range 8)
    (fun m s => returnPair (8 * n + m) (remeasure (8 * n + m) (settleRings (8 * n + m) s)))
    (lockRings n (failed.map (fun k => k.val))
      (List.range' 64 72 ++ (List.range 64).filter (fun k => (fibOf s (8 * n + k / 8)).lit)) s))

theorem switchEnded_engine {s : State} (n : Nat) :
    (engOf (switchEnded n s) n).state = 0 ∧ (engOf (switchEnded n s) n).switching = none := by
  have after : engOf (modEng n (fun e => { e with state := 0, switching := none, releaseAfter := none }) s) n =
      { engOf s n with state := 0, switching := none, releaseAfter := none } := engOf_modEng_serving (by simp)
  unfold switchEnded
  split
  · next sp _ => cases sp <;> rw [dropPin, engOf_modEng_serving (by simp [after]), after] <;> exact ⟨rfl, rfl⟩
  · rw [after]
    exact ⟨rfl, rfl⟩

theorem switchEnded_counts {codes keys : List Nat} (n : Nat) (s : State) : CountsOnly codes keys s (switchEnded n s) := by
  unfold switchEnded
  split
  · exact .upd (.refl s) rfl rfl rfl
  · exact .upd (.refl s) rfl rfl rfl

theorem servesAgain_engineKept {n k : Nat} {failed : List RingNo} (s : State) : EngineKept k s (servesAgain n failed s) :=
  applyHeld_engineKept (EngineKept.forEach (lockRings_engineKept (.refl s)) fun _ _ h =>
    returnPair_engineKept (remeasure_engineKept (settleRings_engineKept h)))

theorem execSwitchoverComplete_eq {failed : List RingNo} {planned : Bool} (on : (engOf s n.val).switching = some planned) :
    execSwitchoverComplete n failed s = .next (optFault (if planned then 0x4002 else 0x4003) n.val []
      (bump 0x300304 1 (servesAgain n.val failed (switchEnded n.val s)))) := by
  rw [execSwitchoverComplete]
  dsimp only
  rw [on]
  rfl

/-- The end of a switch is counted and logged, and the engine serves. -/
theorem switchoverComplete_ends {failed : List RingNo} {planned : Bool} {code : Nat}
    (on : (engOf s n.val).switching = some planned) (hcode : code = if planned then 0x4002 else 0x4003)
    (sev : sevOf code ≠ 1 := by decide) (bits : code < 65536 := by decide) (side : code ∉ sideCodes := by decide)
    (own : code ∉ engineCodes := by decide) :
    Gives (.switchoverComplete n failed) s (fun t => (engOf t n.val).state = 0 ∧ (engOf t n.val).switching = none ∧
      cntOf t 0x300304 = cntOf s 0x300304 + 1 ∧ Raised code s t) := by
  have run : execSwitchoverComplete n failed s = .next (optFault code n.val []
      (bump 0x300304 1 (servesAgain n.val failed (switchEnded n.val s)))) := hcode ▸ execSwitchoverComplete_eq on
  have kept := servesAgain_engineKept (n := n.val) (k := n.val) (failed := failed) (switchEnded n.val s)
  generalize servesAgain n.val failed (switchEnded n.val s) = y at run kept
  obtain ⟨ended, off⟩ := switchEnded_engine (s := s) n.val
  have view := kept.view (by rw [ended]; decide)
  simp only [switchView, Prod.mk.injEq] at view
  obtain ⟨state, -, -, -, switching, -⟩ := view
  have counts : CountsOnly engineCodes [0x300306] s y := (switchEnded_counts n.val s).trans kept.counts
  have before : CountsOnly engineCodes [0x300304, 0x300306] s (bump 0x300304 1 y) :=
    bump_counts (.inr (by decide)) (counts.mono_keys (by decide))
  have engine : engOf (optFault code n.val [] (bump 0x300304 1 y)) n.val = engOf y n.val :=
    engOf_of_optics ((optFault_acts (Sub.refl _) (.refl (bump 0x300304 1 y))).part .optics) _
  have logged : CountsOnly [code] [] (bump 0x300304 1 y) (optFault code n.val [] (bump 0x300304 1 y)) :=
    optFault_counts (List.mem_singleton_self code) (.refl _) sev bits
  have counted : cntOf (optFault code n.val [] (bump 0x300304 1 y)) 0x300304 = cntOf s 0x300304 + 1 := by
    rw [logged.cnt 0x300304 (by decide) (by decide), cntOf_bump_self _ Nat.one_ne_zero, counts.cnt 0x300304 (by decide) (by decide)]
  exact ⟨_, run, by rw [engine, state, ended], by rw [engine, switching, off], counted,
    before.then_raised (optFault_raised _ sev bits side) side own⟩

end

end Sys2Proof.Laws

/-!
PROOF. The Installer's writes of the laser inputs (R288, R294), and the statement of the laser inputs.
-/

namespace Sys2Proof.Laws

set_option Elab.async false

open Machine

/-! ### The rows, and what their checks say -/

/-- `COMMISSION`, OD 0x3001.05. -/
def commissionRow : OdRow := ⟨0x3001, 0x05, 3, 2, .operator, some .installer, true, 0, 0, 0, 65535⟩

/-- `LASER_RETURN`, OD 0x3001.06. -/
def laserReturnRow : OdRow := ⟨0x3001, 0x06, 2, 1, .operator, some .installer, true, 0, 0, 0, 7⟩

/-- `LASER_RELEASE`, OD 0x3001.07. -/
def laserReleaseRow : OdRow := ⟨0x3001, 0x07, 2, 1, .operator, some .installer, true, 0, 0, 0, 15⟩

/-- `LASER_RESTORE`, OD 0x3001.08. -/
def laserRestoreRow : OdRow := ⟨0x3001, 0x08, 2, 1, .operator, some .installer, true, 0, 0, 0, 15⟩

theorem odRow_commission : odRow 0x3001 5 = some commissionRow := by decide
theorem odRow_laserReturn : odRow 0x3001 6 = some laserReturnRow := by decide
theorem odRow_laserRelease : odRow 0x3001 7 = some laserReleaseRow := by decide
theorem odRow_laserRestore : odRow 0x3001 8 = some laserRestoreRow := by decide

section

variable {s : State} {v : Nat}

theorem writeStatus_commission (v : U16) : writeStatus s commissionRow .maker 0 (leBytes 2 v.toNat) = odOk := by
  have value : leNat (leBytes 2 v.toNat) = v.toNat := leNat_leBytes v.isLt
  have range : rangeOk s commissionRow (leBytes 2 v.toNat) = true := rangeOk_of_bounds (k := 0x300105) rfl (by decide) rfl
    (Nat.zero_le _) (by rw [value]; exact Nat.le_of_lt_succ v.isLt)
  have free : stateRefuses s .maker 0x300105 (leBytes 2 v.toNat) = false := rfl
  rw [writeStatus_of_range rfl (leBytes_length 2 _) range, show commissionRow.key = 0x300105 from rfl, free]
  rfl

theorem writeStatus_laserReturn (hi : v ≤ 7) : writeStatus s laserReturnRow .maker 0 (leBytes 1 v) =
    if inputBelow s v (!(engOf s v).sel) (fadeA s) then odOk else odState := by
  have value : leNat (leBytes 1 v) = v := leNat_byte (by omega)
  have range : rangeOk s laserReturnRow (leBytes 1 v) = true := rangeOk_of_bounds (k := 0x300106) rfl (by decide) rfl
    (Nat.zero_le _) (by rw [value]; exact hi)
  have state : stateRefuses s .maker 0x300106 (leBytes 1 v) = !inputBelow s v (!(engOf s v).sel) (fadeA s) := by
    rw [stateRefuses, value]
  rw [writeStatus_of_range rfl (leBytes_length 1 v) range, show laserReturnRow.key = 0x300106 from rfl, state]
  cases inputBelow s v (!(engOf s v).sel) (fadeA s) <;> rfl

theorem writeStatus_laserRelease (hi : v ≤ 15) (may : (engOf s (laserOf v).1).sel = (laserOf v).2 →
      inputBelow s (laserOf v).1 (!(engOf s (laserOf v).1).sel) (fadeB s) = true) :
    writeStatus s laserReleaseRow .maker 0 (leBytes 1 v) = odOk := by
  have value : leNat (leBytes 1 v) = v := leNat_byte (by omega)
  have range : rangeOk s laserReleaseRow (leBytes 1 v) = true := rangeOk_of_bounds (k := 0x300107) rfl (by decide) rfl
    (Nat.zero_le _) (by rw [value]; exact hi)
  have free : stateRefuses s .maker 0x300107 (leBytes 1 v) = false := by
    rw [stateRefuses, value]
    simpa using may
  rw [writeStatus_of_range rfl (leBytes_length 1 v) range, show laserReleaseRow.key = 0x300107 from rfl, free]
  rfl

theorem writeStatus_laserRestore (hi : v ≤ 15) : writeStatus s laserRestoreRow .maker 0 (leBytes 1 v) = odOk := by
  have value : leNat (leBytes 1 v) = v := leNat_byte (by omega)
  have range : rangeOk s laserRestoreRow (leBytes 1 v) = true := rangeOk_of_bounds (k := 0x300108) rfl (by decide) rfl
    (Nat.zero_le _) (by rw [value]; exact hi)
  have free : stateRefuses s .maker 0x300108 (leBytes 1 v) = false := rfl
  rw [writeStatus_of_range rfl (leBytes_length 1 v) range, show laserRestoreRow.key = 0x300108 from rfl, free]
  rfl

end

/-! ### An accepted write of a write-only entry -/

/-- The optics, the Almanac and the answers stand. -/
structure OpticsStand (s t : State) : Prop where
  optics : t.optics = s.optics
  time : t.time = s.time
  answers : t.out.od = s.out.od

theorem OpticsStand.trans {s x y : State} (h : OpticsStand s x) (k : OpticsStand x y) : OpticsStand s y :=
  ⟨k.optics.trans h.optics, k.time.trans h.time, k.answers.trans h.answers⟩

theorem Acts.opticsStand {L : Nat} {s t : State} (a : Acts L s t) (optics : L.testBit 21 = false := by decide)
    (time : L.testBit 23 = false := by decide) (answers : L.testBit 34 = false := by decide) : OpticsStand s t :=
  ⟨a.part .optics optics, a.part .almanac time, a.part .answers answers⟩

section

variable {s : State} {q : OdReq} {r : OdRow}

/-- A Maker's audited write of a write-only entry that is accepted: its effect, on the optics as they stood, and its answer. -/
theorem odPut_effect_opticsStand (h : MakerWrites s q) {index sub size v : Nat} (hr : odRow index sub = some r) (audited : isAudited r = true)
    (other : r.key ≠ 0x120003) (wo : r.wo = true) (ok : writeStatus s r .maker 0 (leBytes size v) = odOk) :
    ∃ old y, OpticsStand s y ∧ odPut q index sub size v s = .next (respond q odOk [] (odEffect r.key (leBytes size v) old y)) := by
  obtain ⟨j, run⟩ := odPut_audited h hr audited other ok
  rw [takeValue_of_wo _ _ wo] at run
  exact ⟨_, _, OpticsStand.trans (journalPut_acts (Sub.refl _) (.refl s)).opticsStand
    (postEvent_acts (Sub.refl _) (.refl _)).opticsStand, run⟩

/-- A Maker's audited write that the state refuses: its answer, on the optics as they stood. -/
theorem odPut_refused_opticsStand (h : MakerWrites s q) {index sub size v : Nat} (hr : odRow index sub = some r) (audited : isAudited r = true)
    (refused : writeStatus s r .maker 0 (leBytes size v) = odState) :
    ∃ y, OpticsStand s y ∧ odPut q index sub size v s = .next (respond q odState [] y) := by
  obtain ⟨fp, run⟩ := odPut_of_maker h hr size v
  obtain ⟨audit, write⟩ := writeAs_refused (q := q) audited h.room fp refused
  exact ⟨_, (journalPut_acts (Sub.refl _) (.refl s)).opticsStand, by rw [run, write]⟩

end

/-! ### A laser is returned, released or restored (R294) -/

theorem odEffect_commission (data old : List Byte) (s : State) : odEffect 0x300105 data old s = commissionInputs (leNat data) s := rfl

theorem odEffect_laserReturn (data old : List Byte) (s : State) : odEffect 0x300106 data old s = planSwitch (leNat data) none s := rfl

theorem odEffect_laserRelease (data old : List Byte) (s : State) :
    odEffect 0x300107 data old s = releaseLaser (laserOf (leNat data)).1 (laserOf (leNat data)).2 s := rfl

theorem odEffect_laserRestore (data old : List Byte) (s : State) :
    odEffect 0x300108 data old s = restoreLaser (laserOf (leNat data)).1 (laserOf (leNat data)).2 s := rfl

theorem engineByte_toNat (n : EngineNo) : (BitVec.ofNat 8 n.val).toNat = n.val := by
  rw [BitVec.toNat_ofNat, Nat.mod_eq_of_lt (by omega)]

theorem spareByte_toNat (n : EngineNo) : (BitVec.ofNat 8 (8 + n.val)).toNat = 8 + n.val := by
  rw [BitVec.toNat_ofNat, Nat.mod_eq_of_lt (by omega)]

theorem laserOf_primary (n : EngineNo) : laserOf n.val = (n.val, false) := by
  rw [laserOf, Nat.mod_eq_of_lt n.isLt, Nat.div_eq_of_lt n.isLt]
  rfl

theorem laserOf_spare (n : EngineNo) : laserOf (8 + n.val) = (n.val, true) := by
  rw [laserOf, Nat.add_mod_left, Nat.mod_eq_of_lt n.isLt, Nat.add_div_left _ (by decide), Nat.div_eq_of_lt n.isLt]
  rfl

section

variable {s : State} {q : OdReq} {n : EngineNo}

/-- A switchover that is planned waits for its window from now on. -/
theorem planSwitch_engine {x : State} (h : OpticsStand s x) (serves : (engOf s n.val).state = 0) (release : Option Bool) :
    (engOf (planSwitch n.val release x) n.val).switchPend = true ∧ (engOf (planSwitch n.val release x) n.val).pendSince = now s ∧
      (engOf (planSwitch n.val release x) n.val).releaseAfter = release := by
  have state : (engOf x n.val).state ≠ 3 := by rw [engOf_of_optics h.optics, serves]; decide
  rw [planSwitch, engOf_modEng_serving state]
  exact ⟨rfl, by rw [now, now, h.time], rfl⟩

theorem laserReturn_planned (h : MakerWrites s q) (serves : (engOf s n.val).state = 0)
    (below : inputBelow s n.val (!(engOf s n.val).sel) (fadeA s) = true) :
    Gives (.laserReturn q (BitVec.ofNat 8 n.val)) s (fun t => Answers q odOk [] s t ∧ (engOf t n.val).switchPend = true ∧
      (engOf t n.val).pendSince = now s ∧ (engOf t n.val).releaseAfter = none) := by
  have ok : writeStatus s laserReturnRow .maker 0 (leBytes 1 n.val) = odOk := by
    rw [writeStatus_laserReturn (by omega), below, if_pos rfl]
  obtain ⟨old, y, stands, run⟩ := odPut_effect_opticsStand h odRow_laserReturn rfl (by decide) rfl ok
  have effect : odEffect laserReturnRow.key (leBytes 1 n.val) old y = planSwitch n.val none y := by
    rw [show laserReturnRow.key = 0x300106 from rfl, odEffect_laserReturn, leNat_byte (by omega)]
  rw [effect] at run
  refine ⟨_, ?_, respond_answers odOk [] (x := planSwitch n.val none y) stands.answers, planSwitch_engine stands serves none⟩
  show odPut q 0x3001 6 1 (BitVec.ofNat 8 n.val).toNat s = _
  rw [engineByte_toNat, run]

theorem laserReturn_refused (h : MakerWrites s q) (reached : inputBelow s n.val (!(engOf s n.val).sel) (fadeA s) = false) :
    Gives (.laserReturn q (BitVec.ofNat 8 n.val)) s (fun t => Answers q odState [] s t ∧ t.optics = s.optics) := by
  have refused : writeStatus s laserReturnRow .maker 0 (leBytes 1 n.val) = odState := by
    rw [writeStatus_laserReturn (by omega), reached, if_neg Bool.false_ne_true]
  obtain ⟨y, stands, run⟩ := odPut_refused_opticsStand h odRow_laserReturn rfl refused
  refine ⟨_, ?_, respond_answers odState [] stands.answers, stands.optics⟩
  show odPut q 0x3001 6 1 (BitVec.ofNat 8 n.val).toNat s = _
  rw [engineByte_toNat, run]

/-- A Maker's release of the input LP, where the state allows it. -/
theorem laserRelease_runs (h : MakerWrites s q) (may : (engOf s n.val).sel = false →
      inputBelow s n.val (!(engOf s n.val).sel) (fadeB s) = true) :
    ∃ y, OpticsStand s y ∧ exec (.laserRelease q (BitVec.ofNat 8 n.val)) s = .next (respond q odOk [] (releaseLaser n.val false y)) := by
  have ok : writeStatus s laserReleaseRow .maker 0 (leBytes 1 n.val) = odOk :=
    writeStatus_laserRelease (by omega) (by rw [laserOf_primary]; exact may)
  obtain ⟨old, y, stands, run⟩ := odPut_effect_opticsStand h odRow_laserRelease rfl (by decide) rfl ok
  have effect : odEffect laserReleaseRow.key (leBytes 1 n.val) old y = releaseLaser n.val false y := by
    rw [show laserReleaseRow.key = 0x300107 from rfl, odEffect_laserRelease, leNat_byte (by omega), laserOf_primary]
  refine ⟨y, stands, ?_⟩
  show odPut q 0x3001 7 1 (BitVec.ofNat 8 n.val).toNat s = _
  rw [engineByte_toNat, run, effect]

theorem laserRelease_drops (h : MakerWrites s q) (serves : (engOf s n.val).state = 0) (spare : (engOf s n.val).sel = true) :
    Gives (.laserRelease q (BitVec.ofNat 8 n.val)) s (fun t =>
      Answers q odOk [] s t ∧ (engOf t n.val).reqP = false ∧ (engOf t n.val).switchPend = (engOf s n.val).switchPend) := by
  obtain ⟨y, stands, run⟩ := laserRelease_runs h (n := n) (by simp [spare])
  have same : engOf y n.val = engOf s n.val := engOf_of_optics stands.optics _
  have released : releaseLaser n.val false y = dropPin n.val false y := by rw [releaseLaser, same, spare, if_neg (by decide)]
  rw [released] at run
  refine ⟨_, run, respond_answers odOk [] (x := dropPin n.val false y) stands.answers, ?_⟩
  show (engOf (dropPin n.val false y) n.val).reqP = false ∧ (engOf (dropPin n.val false y) n.val).switchPend = _
  rw [dropPin, engOf_modEng_serving (by simp [same, serves]), same]
  exact ⟨rfl, rfl⟩

theorem laserRelease_planned (h : MakerWrites s q) (serves : (engOf s n.val).state = 0) (primary : (engOf s n.val).sel = false)
    (below : inputBelow s n.val true (fadeB s) = true) :
    Gives (.laserRelease q (BitVec.ofNat 8 n.val)) s (fun t => Answers q odOk [] s t ∧
      (engOf t n.val).switchPend = true ∧ (engOf t n.val).releaseAfter = some false) := by
  obtain ⟨y, stands, run⟩ := laserRelease_runs h (n := n) fun _ => by rw [primary]; exact below
  have released : releaseLaser n.val false y = planSwitch n.val (some false) y := by
    rw [releaseLaser, engOf_of_optics stands.optics, primary, if_pos rfl]
  rw [released] at run
  obtain ⟨pending, -, release⟩ := planSwitch_engine stands serves (some false)
  exact ⟨_, run, respond_answers odOk [] (x := planSwitch n.val (some false) y) stands.answers, pending, release⟩

theorem laserRestore_raises (h : MakerWrites s q) (serves : (engOf s n.val).state = 0) :
    Gives (.laserRestore q (BitVec.ofNat 8 (8 + n.val))) s (fun t => Answers q odOk [] s t ∧
      (engOf t n.val).reqS = true ∧ (engOf t n.val).rebaseS = true) := by
  obtain ⟨old, y, stands, run⟩ := odPut_effect_opticsStand h odRow_laserRestore rfl (by decide) rfl
    (writeStatus_laserRestore (v := 8 + n.val) (by omega))
  have effect : odEffect laserRestoreRow.key (leBytes 1 (8 + n.val)) old y = restoreLaser n.val true y := by
    rw [show laserRestoreRow.key = 0x300108 from rfl, odEffect_laserRestore, leNat_byte (by omega), laserOf_spare]
  rw [effect] at run
  have based : engOf (modEng n.val (fun e => { e with rebaseS := true }) y) n.val = { engOf s n.val with rebaseS := true } := by
    rw [engOf_modEng_serving (by simp [engOf_of_optics stands.optics, serves]), engOf_of_optics stands.optics]
  have raised : engOf (restoreLaser n.val true y) n.val =
      { engOf s n.val with rebaseS := true, noLightS := (engOf s n.val).noLightS && (engOf s n.val).reqS, reqS := true } := by
    show engOf (modEng n.val _ (modEng n.val (fun e => { e with rebaseS := true }) y)) n.val = _
    rw [engOf_modEng_serving (by simp [based, serves]), based]
    rfl
  refine ⟨_, ?_, respond_answers odOk [] (x := restoreLaser n.val true y) stands.answers, ?_⟩
  · show odPut q 0x3001 8 1 (BitVec.ofNat 8 (8 + n.val)).toNat s = _
    rw [spareByte_toNat, run]
  · show (engOf (restoreLaser n.val true y) n.val).reqS = true ∧ (engOf (restoreLaser n.val true y) n.val).rebaseS = true
    rw [raised]
    exact ⟨rfl, rfl⟩

end

/-! ### Commissioning (R288) -/

theorem lineOf_modLine_other {k i : Nat} (g : Line → Line) (s : State) (h : i ≠ k) : lineOf (modLine k g s) i = lineOf s i :=
  mget_mmod_other h

theorem lineOf_modLine_self (k : Nat) (g : Line → Line) (s : State) (h : g (lineOf s k) ≠ {}) :
    lineOf (modLine k g s) k = g (lineOf s k) := mget_mmod_self h

theorem lineOf_of_optics {s t : State} (h : t.optics = s.optics) (k : Nat) : lineOf t k = lineOf s k := by rw [lineOf, lineOf, h]

/-- The lines of the sixteen inputs have numbers of their own. -/
theorem lineKey_inj {i i' j j' : Nat} (hj : j < 8) (hj' : j' < 8)
    (h : lineKey (i / 2) (decide (i % 2 = 1)) j = lineKey (i' / 2) (decide (i' % 2 = 1)) j') : i = i' := by
  have side (i : Nat) : flag (decide (i % 2 = 1)) = i % 2 := by
    obtain e | e := Nat.mod_two_eq_zero_or_one i <;> rw [e] <;> rfl
  rw [lineKey, lineKey, side, side] at h
  omega

theorem forEach_keeps_mem {α : Type} {Q : State → Prop} {f : α → State → State} {l : List α} {x : State} (h : Q x)
    (stays : ∀ b ∈ l, ∀ y, Q y → Q (f b y)) : Q (forEach l f x) := by
  induction l generalizing x with
  | nil => exact h
  | cons b l ih =>
    obtain ⟨first, rest⟩ := List.forall_mem_cons.mp stays
    exact ih (first x h) rest

/-- What one step of a loop brings about, and every step of it keeps, holds when the loop has ended. -/
theorem forEach_reaches {α : Type} {P Q : State → Prop} {f : α → State → State} {a : α} {l : List α} {x : State} (mem : a ∈ l)
    (h : P x) (keeps : ∀ b ∈ l, ∀ y, P y → P (f b y)) (brings : ∀ y, P y → Q (f a y)) (stays : ∀ b ∈ l, ∀ y, Q y → Q (f b y)) :
    Q (forEach l f x) := by
  induction l generalizing x with
  | nil => exact absurd mem List.not_mem_nil
  | cons b l ih =>
    obtain ⟨-, keeps'⟩ := List.forall_mem_cons.mp keeps
    obtain ⟨-, stays'⟩ := List.forall_mem_cons.mp stays
    obtain rfl | later := List.mem_cons.mp mem
    · exact forEach_keeps_mem (x := f a x) (brings x h) stays'
    · exact ih later (keeps b (List.mem_cons_self ..) x h) keeps' stays'

/-- The line's filter has readings, and its baseline is `b`. -/
structure Based (k : Nat) (f : Filter) (b : Option Int) (s : State) : Prop where
  filter : (lineOf s k).f = f
  baseline : (lineOf s k).baseline = b

section

variable {s : State} {k : Nat} {f : Filter}

/-- A line that is read keeps its readings when baselines are set. -/
theorem filter_setBaseline (read : f.raw ≠ []) (h : (lineOf s k).f = f) (i : Nat) (b : Option Int) :
    (lineOf (modLine i (fun l => { l with baseline := b }) s) k).f = f := by
  obtain rfl | other := eq_or_ne k i
  · rw [lineOf_modLine_self]
    · exact h
    · exact fun e => read (by rw [← h]; exact congrArg (fun l => l.f.raw) e)
  · rwa [lineOf_modLine_other _ _ other]

theorem based_setBaseline (read : f.raw ≠ []) (h : (lineOf s k).f = f) (b : Option Int) :
    Based k f b (modLine k (fun l => { l with baseline := b }) s) := by
  refine ⟨filter_setBaseline read h k b, ?_⟩
  rw [lineOf_modLine_self]
  exact fun e => read (by rw [← h]; exact congrArg (fun l => l.f.raw) e)

variable {n : Nat} {sp : Bool}

/-- What the record of an input's baselines takes of line `j`: its filtered reading, where it has readings. -/
def readBaseline (n : Nat) (sp : Bool) (s : State) (j : Nat) : Option Int :=
  if (lineOf s (lineKey n sp j)).f.raw = [] then none else some (dyFloor (lineOf s (lineKey n sp j)).f.y)

/-- The baselines of an input's lines are set. -/
def setBaselines (n : Nat) (sp : Bool) (lines : List (Option Int)) (s : State) : State :=
  forEach lines.zipIdx (fun x => modLine (lineKey n sp x.2) (fun l => { l with baseline := x.1 })) s

theorem lineOf_journalPut (r : JRec) (s : State) (k : Nat) : lineOf (journalPut r s) k = lineOf s k :=
  lineOf_of_optics ((journalPut_acts (Sub.refl _) (.refl s)).part .optics) k

/-- The record of an input's baselines changes lines in `setBaselines` only. -/
theorem lineOf_recordBaseline (audit : Option Audit) (s : State) (k : Nat) :
    lineOf (recordBaseline n sp audit s) k = lineOf (setBaselines n sp ((List.range 8).map (readBaseline n sp s)) s) k := by
  unfold recordBaseline
  extract_lets lines kept based mon read others
  have fibres : lineOf based k = lineOf kept k := forEach_keeps (P := fun y => lineOf y k = lineOf kept k) rfl fun _ _ h => h
  have settled : kept = setBaselines n sp ((List.range 8).map (readBaseline n sp s)) s := rfl
  clear_value based
  have engine : lineOf read k = lineOf based k := rfl
  clear_value read
  rw [lineOf_journalPut, lineOf_journalPut, lineOf_journalPut, engine, fibres, settled]

theorem setBaselines_based (read : f.raw ≠ []) (h : (lineOf s k).f = f) {lines : List (Option Int)} {j : Nat} {b : Option Int}
    (line : lines[j]? = some b) (own : k = lineKey n sp j) : Based k f b (setBaselines n sp lines s) := by
  refine forEach_reaches (P := fun y => (lineOf y k).f = f) (a := (b, j)) (List.mk_mem_zipIdx_iff_getElem?.mpr line) h
    (fun x _ y hy => filter_setBaseline read hy _ _) (fun y hy => own ▸ based_setBaseline read (own ▸ hy) b) fun x hx y hy => ?_
  obtain same | other := eq_or_ne k (lineKey n sp x.2)
  · have place : x.2 = j := Nat.add_left_cancel (same.symm.trans own)
    have value : x.1 = b := Option.some.inj ((List.mk_mem_zipIdx_iff_getElem?.mp hx).symm.trans (place ▸ line))
    rw [← value, ← same]
    exact based_setBaseline read hy.filter x.1
  · exact ⟨filter_setBaseline read hy.filter _ _, by rw [lineOf_modLine_other _ _ other, hy.baseline]⟩

theorem lineOf_setBaselines_other {lines : List (Option Int)} (other : ∀ j < lines.length, k ≠ lineKey n sp j) :
    lineOf (setBaselines n sp lines s) k = lineOf s k := by
  refine forEach_keeps_mem (Q := fun y => lineOf y k = lineOf s k) rfl fun x hx y hy => ?_
  rw [lineOf_modLine_other _ _ (other x.2 (List.snd_lt_of_mem_zipIdx hx)), hy]

theorem recordBaseline_keeps_filter (read : f.raw ≠ []) (h : (lineOf s k).f = f) (audit : Option Audit) :
    (lineOf (recordBaseline n sp audit s) k).f = f := by
  rw [lineOf_recordBaseline]
  exact forEach_keeps (P := fun y => (lineOf y k).f = f) h fun _ _ hy => filter_setBaseline read hy _ _

theorem recordBaseline_based (read : f.raw ≠ []) (h : (lineOf s k).f = f) (audit : Option Audit) {j : Nat} (hj : j < 8)
    (own : k = lineKey n sp j) : Based k f (some (dyFloor f.y)) (recordBaseline n sp audit s) := by
  have value : readBaseline n sp s j = some (dyFloor f.y) := by rw [readBaseline, ← own, h, if_neg read]
  have line : ((List.range 8).map (readBaseline n sp s))[j]? = some (some (dyFloor f.y)) := by
    rw [List.getElem?_map, List.getElem?_range hj, Option.map_some, value]
  have settled := setBaselines_based read h line own
  exact ⟨by rw [lineOf_recordBaseline, settled.filter], by rw [lineOf_recordBaseline, settled.baseline]⟩

theorem recordBaseline_other (audit : Option Audit) (other : ∀ j < 8, k ≠ lineKey n sp j) :
    lineOf (recordBaseline n sp audit s) k = lineOf s k := by
  rw [lineOf_recordBaseline, lineOf_setBaselines_other fun j hj => other j (by simpa using hj)]

/-- Each line that has readings of an input that is named has their value as its baseline. -/
theorem commissionInputs_based {v i j : Nat} (hi : i < 16) (hj : j < 8) (named : bit v i = true)
    (own : k = lineKey (i / 2) (decide (i % 2 = 1)) j) (read : f.raw ≠ []) (h : (lineOf s k).f = f) :
    Based k f (some (dyFloor f.y)) (commissionInputs v s) := by
  refine forEach_reaches (P := fun y => (lineOf y k).f = f) (a := i) (List.mem_filter.mpr ⟨List.mem_range.mpr hi, named⟩) h
    (fun _ _ y hy => recordBaseline_keeps_filter read hy none) (fun y hy => recordBaseline_based read hy none hj own)
    fun i' _ y hy => ?_
  obtain rfl | other := eq_or_ne i' i
  · exact recordBaseline_based read hy.filter none hj own
  · have apart : ∀ j' < 8, k ≠ lineKey (i' / 2) (decide (i' % 2 = 1)) j' := fun j' hj' e =>
      other (lineKey_inj hj hj' (own.symm.trans e)).symm
    have same := recordBaseline_other (s := y) none apart
    exact ⟨by rw [same, hy.filter], by rw [same, hy.baseline]⟩

theorem commission_based {q : OdReq} (h : MakerWrites s q) (v : U16) {i j : Nat} (hi : i < 16) (hj : j < 8)
    (named : bit v.toNat i = true) (read : (lineOf s (lineKey (i / 2) (decide (i % 2 = 1)) j)).f.raw ≠ []) :
    Gives (.commission q v) s (fun t => Answers q odOk [] s t ∧ (lineOf t (lineKey (i / 2) (decide (i % 2 = 1)) j)).baseline =
      some (dyFloor (lineOf s (lineKey (i / 2) (decide (i % 2 = 1)) j)).f.y)) := by
  obtain ⟨old, y, stands, run⟩ := odPut_effect_opticsStand h odRow_commission rfl (by decide) rfl (writeStatus_commission v)
  rw [show commissionRow.key = 0x300105 from rfl, odEffect_commission, leNat_leBytes v.isLt] at run
  have answers : (commissionInputs v.toNat y).out.od = s.out.od :=
    ((commissionInputs_acts (Sub.refl _) (.refl y)).part .answers).trans stands.answers
  have based := commissionInputs_based hi hj named rfl read (s := y) (by rw [lineOf_of_optics stands.optics])
  exact ⟨_, run, respond_answers odOk [] answers, based.baseline⟩

end

/-- Settles O43: an engine's inputs. A sample's threshold is judged on the readings as `inputsSampled` leaves them; a switch of the
input (`Switching`) and its end (`switchoverComplete_ends`) are read off the engine, which the work on its rings, fibres and pairs
leaves (`EngineKept`); and each of the Installer's writes answers, and acts on the optics as they stood. -/
theorem laserInputsFadeSwitchAndReturn : Obligations.LaserInputsFadeSwitchAndReturn := by
  unfold Obligations.LaserInputsFadeSwitchAndReturn
  intro s n hub serves
  refine ⟨fun lp ls primary spare selects fresh => laserSample_thresholdA hub serves primary spare selects fresh lp ls,
    fun lp ls primary spare selects fresh => laserSample_thresholdB hub serves primary spare selects fresh lp ls,
    laserLightTimeout_dark, laserLightTimeout_lit, fun other => ?_, laserFadeTrip_out hub serves, fun pending due below alone => ?_,
    fun failed on => switchoverComplete_ends on rfl, fun failed on => switchoverComplete_ends on rfl, fun q h =>
    ⟨fun v i j hi hj named read => commission_based h v hi hj named read, laserReturn_planned h serves, laserReturn_refused h,
      laserRelease_drops h serves, laserRelease_planned h serves, laserRestore_raises h serves⟩⟩
  · obtain ⟨t, run, switching⟩ := laserFadeTrip_switches hub serves other
    exact ⟨t, run, switching.state, switching.sel, switching.switching⟩
  · obtain ⟨t, run, switching⟩ := plannedSwitchover_switches serves pending due below alone
    exact ⟨t, run, switching.state, switching.sel, switching.switching, switching.pending⟩

end Sys2Proof.Laws

/-!
PROOF. Faults, packets, mirror writes and writes of the Store queue payloads on the pairs, and leave their counters and their training
(R80, R368, R377, R395, R407).
-/

namespace Sys2Proof.Laws

set_option Elab.async false

open Machine

/-- Every pair keeps all but its queues. -/
def OnlyQueues (s t : State) : Prop := ∀ f, ∃ q, pairOf t f = { pairOf s f with q := q }

section

variable {s x y : State}

namespace OnlyQueues

theorem refl (s : State) : OnlyQueues s s := fun f => ⟨(pairOf s f).q, rfl⟩

theorem trans (h : OnlyQueues s x) (k : OnlyQueues x y) : OnlyQueues s y := fun f => by
  obtain ⟨q, hq⟩ := h f
  obtain ⟨q', hq'⟩ := k f
  exact ⟨q', by rw [hq', hq]⟩

/-- A change outside the pairs. -/
theorem upd (h : OnlyQueues s x) (pairs : y.links.pairs = x.links.pairs) : OnlyQueues s y :=
  h.trans fun f => ⟨(pairOf x f).q, by rw [pairOf, pairOf, pairs]⟩

theorem acts {L : Nat} (a : Acts L x y) (h : OnlyQueues s x) (out : L.testBit 22 = false := by decide) : OnlyQueues s y :=
  h.upd (congrArg Links.pairs (a.part .links out))

theorem forEach {α : Type} {l : List α} {f : α → State → State} (h : OnlyQueues s x)
    (hf : ∀ a y, OnlyQueues s y → OnlyQueues s (f a y)) : OnlyQueues s (forEach l f x) := forEach_keeps h hf

theorem onlyIf {c : Bool} {f : State → State} (h : OnlyQueues s x) (hf : OnlyQueues s x → OnlyQueues s (f x)) :
    OnlyQueues s (onlyIf c f x) := by
  unfold Machine.onlyIf
  split
  · exact hf h
  · exact h

/-- A queue that something is put in. -/
theorem queued {f vc : Nat} {g : List (Bool × Payload) → List (Bool × Payload)} (h : OnlyQueues s x) (some_ : ∀ l, g l ≠ []) :
    OnlyQueues s (modPair f (fun p => { p with q := mmod [] p.q vc g }) x) := by
  refine h.trans fun k => ?_
  obtain rfl | other := eq_or_ne k f
  · refine ⟨mmod [] (pairOf x k).q vc g, pairOf_modPair_self k _ x fun e => ?_⟩
    have queue : mget [] (mmod [] (pairOf x k).q vc g) vc = g (mget [] (pairOf x k).q vc) := mget_mmod_self (some_ _)
    rw [show mmod [] (pairOf x k).q vc g = [] from congrArg Pair.q e] at queue
    exact some_ _ queue.symm
  · exact ⟨(pairOf x k).q, pairOf_modPair_other f _ x k other⟩

end OnlyQueues

/-! ### Notices and faults (R80, R528, R531) -/

theorem enqueue_onlyQueues {f vc : Nat} {p : Payload} (h : OnlyQueues s x) : OnlyQueues s (enqueue f vc p x) :=
  h.queued fun l => by simp

theorem queueNotice_onlyQueues {d : Nat} {n : Notice} (h : OnlyQueues s x) : OnlyQueues s (queueNotice d n x) :=
  h.queued fun l => by simp

theorem sendOwn_onlyQueues {n : Notice} (h : OnlyQueues s x) : OnlyQueues s (sendOwn n x) :=
  OnlyQueues.forEach (h.upd rfl) fun _ _ k => queueNotice_onlyQueues k

theorem departTwin_onlyQueues (h : OnlyQueues s x) : OnlyQueues s (departTwin x) := h.forEach fun _ _ k => enqueue_onlyQueues k

theorem failHeld_onlyQueues {status code d0 typ : Nat} (h : OnlyQueues s x) : OnlyQueues s (failHeld status code d0 typ x) := by
  unfold failHeld
  split
  · exact h
  · exact (sendOwn_onlyQueues h).acts (dropHeld_acts (Sub.refl _) (.refl _))

theorem raiseHalt_onlyQueues {code : Nat} {tile : Option Nat} (h : OnlyQueues s x) : OnlyQueues s (raiseHalt code tile x) := by
  unfold raiseHalt
  split
  · split
    · dsimp only
      refine sendOwn_onlyQueues (h.upd ?_)
      split
      · rfl
      · rfl
    · exact failHeld_onlyQueues h
  · exact failHeld_onlyQueues h

theorem leaveService_onlyQueues {code : Nat} (h : OnlyQueues s x) : OnlyQueues s (leaveService code x) := by
  unfold leaveService
  split
  · exact h
  · exact departTwin_onlyQueues (h.upd rfl)

theorem deviceFatal_onlyQueues {code ctx : Nat} {tile : Option Nat} {also : List Nat} (h : OnlyQueues s x) :
    OnlyQueues s (deviceFatal code tile ctx also x) := by
  have halted {r : JRec} : OnlyQueues s (raiseHalt code tile (journalPut r x)) :=
    raiseHalt_onlyQueues (h.acts (journalPut_acts (Sub.refl _) (.refl x)))
  unfold deviceFatal
  dsimp only
  split
  · exact leaveService_onlyQueues halted
  · exact halted.upd rfl

theorem logWith_onlyQueues {code ctx : Nat} {tile : Option Nat} {also : List Nat} (h : OnlyQueues s x) :
    OnlyQueues s (logWith code tile ctx also x) := h.acts (logWith_acts (Sub.refl _) (.refl x))

theorem raiseWith_onlyQueues {code ctx : Nat} {tile : Option Nat} {also : List Nat} (h : OnlyQueues s x) :
    OnlyQueues s (raiseWith code tile ctx also x) := by
  unfold raiseWith
  split
  · exact logWith_onlyQueues h
  · exact h.acts (correctedWith_acts (Sub.refl _) (.refl x))
  · exact raiseHalt_onlyQueues (logWith_onlyQueues h)
  · exact deviceFatal_onlyQueues (logWith_onlyQueues h)
  · exact (deviceFatal_onlyQueues (logWith_onlyQueues h)).upd rfl

theorem raise_onlyQueues {code ctx : Nat} (h : OnlyQueues s x) : OnlyQueues s (raise code ctx x) := raiseWith_onlyQueues h

theorem packetFault_onlyQueues {code : Nat} {p : Packet} (h : OnlyQueues s x) : OnlyQueues s (packetFault code p x) :=
  raiseWith_onlyQueues h

theorem sendLinkNotice_onlyQueues {k : LinkNoticeKind} {vc f at_ : Nat} (h : OnlyQueues s x) :
    OnlyQueues s (sendLinkNotice k vc f at_ x) := enqueue_onlyQueues h

theorem splitDrop_onlyQueues {f : Nat} (h : OnlyQueues s x) : OnlyQueues s (splitDrop f x) := by
  unfold splitDrop
  split
  · exact raiseWith_onlyQueues (h.upd rfl)
  · exact h

theorem updateBound_onlyQueues (h : OnlyQueues s x) : OnlyQueues s (updateBound x) :=
  OnlyQueues.onlyIf (x := computeBound x) (h.upd rfl) fun k => raise_onlyQueues k

/-! ### Packets (R368) -/

theorem queuePacket_onlyQueues {d vc : Nat} {enters : Bool} {p : Packet} (h : OnlyQueues s x) :
    OnlyQueues s (queuePacket d vc enters p x) := h.queued fun l => by simp

theorem sendPacketGo_onlyQueues {fuel : Nat} {from_ : Option Nat} {p : Packet} (h : OnlyQueues s x) :
    OnlyQueues s (sendPacketGo fuel from_ p x) := by
  induction fuel generalizing from_ p x with
  | zero => exact h
  | succ fuel ih =>
    unfold sendPacketGo
    split
    · split
      · exact queuePacket_onlyQueues h
      · dsimp only
        split
        · exact packetFault_onlyQueues h
        · exact ih (packetFault_onlyQueues h)
    · exact h

theorem sendPacket_onlyQueues {p : Packet} (h : OnlyQueues s x) : OnlyQueues s (sendPacket p x) := sendPacketGo_onlyQueues h

/-! ### Writes of the Store (R250, R252, R256, R400) -/

theorem enqueueTwin_onlyQueues {f : Nat} {p : TwinPkt} (h : OnlyQueues s x) : OnlyQueues s (enqueueTwin f p x) := by
  unfold enqueueTwin
  split
  · exact enqueue_onlyQueues h
  · exact h.queued fun l => by simp

theorem mirrorLine_onlyQueues {line mask : Nat} (h : OnlyQueues s x) : OnlyQueues s (mirrorLine line mask x) := by
  unfold mirrorLine
  split
  · exact h
  · split
    · exact h.upd rfl
    · exact (enqueueTwin_onlyQueues (h.acts (unstallKeep_acts (Sub.refl _) (.refl x)))).upd rfl

theorem cacheCorrected_onlyQueues {slice : Nat} (h : OnlyQueues s x) : OnlyQueues s (cacheCorrected slice x) :=
  raise_onlyQueues (h.upd rfl)

theorem markSegment_onlyQueues {row : Nat} (h : OnlyQueues s x) : OnlyQueues s (markSegment row x) := by
  unfold markSegment
  extract_lets q
  split
  · exact h
  · split
    · exact raise_onlyQueues h
    · split
      · exact raise_onlyQueues h
      · exact raise_onlyQueues (h.upd rfl)

theorem remapRow_onlyQueues {row : Nat} {copy : Bool} (h : OnlyQueues s x) : OnlyQueues s (remapRow row copy x) :=
  h.acts (remapRow_acts (Sub.refl _) (.refl x))

theorem rowFailure_onlyQueues {row : Nat} {copy : Bool} (h : OnlyQueues s x) : OnlyQueues s (rowFailure row copy x) := by
  unfold rowFailure
  extract_lets c free marked
  have hm : OnlyQueues s marked := markSegment_onlyQueues h
  split
  · exact remapRow_onlyQueues (raise_onlyQueues h)
  · split
    · exact remapRow_onlyQueues hm
    · exact hm

theorem wordFound_onlyQueues {a : Nat} {w : WordRead} (h : OnlyQueues s x) : OnlyQueues s (wordFound a w x).2 :=
  h.acts (wordFound_acts (Sub.refl _) (.refl x))

theorem lineWords_onlyQueues {line : Nat} {r : LineRead} (h : OnlyQueues s x) : OnlyQueues s (lineWords line r x) :=
  OnlyQueues.onlyIf (wordFound_onlyQueues (wordFound_onlyQueues h)) fun k => rowFailure_onlyQueues k

theorem channelRead_onlyQueues {critical : Bool} {line : Nat} {r : LineRead} (h : OnlyQueues s x) :
    OnlyQueues s (channelRead critical line r x) :=
  lineWords_onlyQueues (OnlyQueues.acts (takeSlot_acts (Sub.refl _) (.refl _)) (OnlyQueues.acts (takeSlot_acts (Sub.refl _) (.refl _))
    (h.acts (writeBack_acts (Sub.refl _) (.refl x)))))

theorem lineFound_onlyQueues {critical : Bool} {line : Nat} {r : LineRead} (h : OnlyQueues s x) :
    OnlyQueues s (lineFound critical line r x) := by
  unfold lineFound
  split
  · exact h
  · exact cacheCorrected_onlyQueues h
  · exact channelRead_onlyQueues h
  · split
    · exact raise_onlyQueues (h.upd rfl)
    · exact channelRead_onlyQueues (cacheCorrected_onlyQueues h)

theorem homeWrite_onlyQueues {critical : Bool} {r : LineRead} {a : Nat} {cells : List (Byte × Byte)} (h : OnlyQueues s x) :
    OnlyQueues s (homeWrite critical r a cells x) := by
  unfold homeWrite
  extract_lets line found written marked
  have hf : OnlyQueues s found := h.onlyIf fun k => lineFound_onlyQueues k
  have hw : OnlyQueues s written := OnlyQueues.upd (hf.acts (storeWriteMasked_acts (Sub.refl _) (.refl _))) rfl
  exact mirrorLine_onlyQueues (hw.onlyIf fun k => k.upd rfl)

theorem homeWriteLines_onlyQueues {critical : Bool} {reads : LineReads} {n a : Nat} {l : List (Byte × Byte)} (h : OnlyQueues s x) :
    OnlyQueues s (homeWriteLines critical reads n a l x) := by
  induction n generalizing a l x with
  | zero => exact h
  | succ n ih =>
    unfold homeWriteLines
    split
    · exact h
    · exact ih (homeWrite_onlyQueues h)

theorem homeFill_onlyQueues {critical : Bool} {reads : LineReads} {a : Nat} {l : List Byte} (h : OnlyQueues s x) :
    OnlyQueues s (homeFill critical reads a l x) := (homeWriteLines_onlyQueues h).forEach fun _ _ k => k.upd rfl

/-! ### Data of a Transfer (R377) -/

theorem accessFault_onlyQueues {code space a : Nat} {d : Access} (h : OnlyQueues s x) : OnlyQueues s (accessFault code d space a x) :=
  raiseWith_onlyQueues h

theorem putLocal_onlyQueues {d : Access} {space a : Nat} {data : List Byte} (h : OnlyQueues s x) :
    OnlyQueues s (putLocal d space a data x).2 := by
  unfold putLocal
  split
  · split
    · exact accessFault_onlyQueues h
    · exact homeFill_onlyQueues h
  · split
    · split
      · exact h.upd rfl
      · exact accessFault_onlyQueues h
    · exact accessFault_onlyQueues h
  · exact accessFault_onlyQueues h

theorem takeData_onlyQueues {dir : Nat} {p : Packet} {reads : LineReads} (h : OnlyQueues s x) :
    OnlyQueues s (takeData dir p reads x).2 := by
  unfold takeData
  extract_lets d space a data
  split
  · exact packetFault_onlyQueues h
  · split
    · exact h.acts (fillWaits_acts (Sub.refl _) (.refl x))
    · have hp := putLocal_onlyQueues (d := d) (space := space) (a := a) (data := data) h
      split
      next code put e =>
      rw [e] at hp
      dsimp only
      split
      · exact hp
      · exact OnlyQueues.onlyIf (OnlyQueues.upd hp rfl) fun k => sendPacket_onlyQueues k

end

end Sys2Proof.Laws

/-!
PROOF. The receiving of flits (R326 to R328): what an acknowledgement, an accepted flit and a Nak leave of the pairs.
-/

namespace Sys2Proof.Laws

set_option Elab.async false

open Machine

/-! ### Pairs in service read as they are written -/

section

variable {s x y : State} {f : Nat} {c : Pair → Pair}

theorem pairOf_modPair_trained (level : ∀ p, (c p).level = p.level) (trained : (pairOf s f).level ≠ 0) :
    pairOf (modPair f c s) f = c (pairOf s f) :=
  pairOf_modPair_self f c s fun e => trained ((level _).symm.trans (congrArg Pair.level e))

/-- What a change of a pair in service leaves of every pair, it leaves there. -/
theorem pairOf_modPair_view {α : Type} (φ : Pair → α) (same : ∀ p, φ (c p) = φ p) (level : ∀ p, (c p).level = p.level)
    (trained : (pairOf s f).level ≠ 0) (k : Nat) : φ (pairOf (modPair f c s) k) = φ (pairOf s k) := by
  obtain rfl | other := eq_or_ne k f
  · rw [pairOf_modPair_trained level trained, same]
  · rw [pairOf_modPair_other f c s k other]

/-- The pairs keep their slots and their levels. -/
def Placed (s t : State) : Prop := ∀ f, ((pairOf t f).slot, (pairOf t f).level) = ((pairOf s f).slot, (pairOf s f).level)

namespace Placed

theorem refl (s : State) : Placed s s := fun _ => rfl

theorem trans (h : Placed s x) (k : Placed x y) : Placed s y := fun f => (k f).trans (h f)

theorem level (h : Placed s x) (f : Nat) : (pairOf x f).level = (pairOf s f).level := congrArg Prod.snd (h f)

theorem trained (h : Placed s x) (trained : (pairOf s f).level ≠ 0) : (pairOf x f).level ≠ 0 := by rwa [h.level]

theorem modPair (h : Placed s x) (same : ∀ p, ((c p).slot, (c p).level) = (p.slot, p.level)) (trained : (pairOf s f).level ≠ 0) :
    Placed s (modPair f c x) :=
  h.trans (pairOf_modPair_view (fun p => (p.slot, p.level)) same (fun p => congrArg Prod.snd (same p)) (h.trained trained))

theorem queues (h : Placed s x) (k : OnlyQueues x y) : Placed s y := h.trans fun f => by
  obtain ⟨q, hq⟩ := k f
  rw [hq]

theorem slotPair (h : Placed s x) (d k : Nat) : slotPair x d k = slotPair s d k := by
  have slots : slotOf x = slotOf s := funext fun f =>
    congrArg (fun o : Option Nat × Nat => o.1.getD (ownSlot f)) (h f)
  rw [Machine.slotPair, Machine.slotPair, slots]

theorem spacePair (h : Placed s x) (hdr : FlitHdr) : spacePair x hdr = spacePair s hdr := by
  rw [Machine.spacePair, Machine.spacePair, h.slotPair]

theorem reversePair (h : Placed s x) (hdr : FlitHdr) : reversePair x hdr = reversePair s hdr := by
  rw [Machine.reversePair, Machine.reversePair, h.slotPair]

end Placed

end

/-! ### Acknowledgements (R327) -/

/-- A pair without what an acknowledgement of its own space moves. -/
def spaceView (p : Pair) : Pair := { p with u := 0, replay := [], resend := 0, stuckReplays := 0, returning := false }

/-- The first `adv` flits of the replay buffer have arrived. -/
def ackedBy (adv : Nat) (p : Pair) : Pair :=
  if adv ≠ 0 ∧ adv ≤ p.replay.length then
    { p with u := p.u + adv, replay := p.replay.drop adv, resend := min p.resend (p.replay.drop adv).length, stuckReplays := 0
             returning := p.returning && !(p.replay.drop adv).isEmpty }
  else p

/-- How far an acknowledgement lies ahead of U. -/
def ackAdvance (ack u : Nat) : Nat := (ack + 1 + 65536 - u % 65536) % 65536

theorem applyAck_eq (ack : Nat) (p : Pair) : applyAck ack p = ackedBy (ackAdvance ack p.u) p := rfl

theorem spaceView_ackedBy (adv : Nat) (p : Pair) : spaceView (ackedBy adv p) = spaceView p := by
  unfold ackedBy
  split
  · rfl
  · rfl

theorem spaceView_applyAck (ack : Nat) (p : Pair) : spaceView (applyAck ack p) = spaceView p := by
  rw [applyAck_eq, spaceView_ackedBy]

theorem eq_of_spaceView {α : Type} (φ : Pair → α) (own : ∀ p, φ (spaceView p) = φ p) {p q : Pair} (h : spaceView p = spaceView q) :
    φ p = φ q := by rw [← own p, h, own q]

theorem applyAck_level (ack : Nat) (p : Pair) : (applyAck ack p).level = p.level :=
  eq_of_spaceView Pair.level (fun _ => rfl) (spaceView_applyAck ack p)

/-- The acknowledgement of the last flit of the first `k` in the replay buffer takes them from it. -/
theorem applyAck_ahead {ack k : Nat} {p : Pair} (pos : 1 ≤ k) (held : k ≤ p.replay.length) (depth : p.replay.length ≤ 1024)
    (last : ack = (p.u + k - 1) % 65536) :
    (applyAck ack p).u = p.u + k ∧ (applyAck ack p).replay = p.replay.drop k := by
  have adv : ackAdvance ack p.u = k := by
    rw [ackAdvance]
    omega
  rw [applyAck_eq, adv, ackedBy, if_pos ⟨by omega, held⟩]
  exact ⟨rfl, rfl⟩

/-- The acknowledgement that stands leaves the pair. -/
theorem applyAck_standing {ack : Nat} {p : Pair} (last : ack = (p.u + 65535) % 65536) : applyAck ack p = p := by
  have adv : ackAdvance ack p.u = 0 := by
    rw [ackAdvance]
    omega
  rw [applyAck_eq, adv, ackedBy, if_neg fun h => h.1 rfl]

section

variable {s : State} {h : FlitHdr} {g r : Nat}

theorem takeAck_of_space (s : State) (space : h.rphase = false) :
    takeAck h s = modPair (reversePair s h) (applyAck h.ack.toNat) s := if_neg (by simp [space])

theorem takeAck_of_phase (s : State) (phase : h.rphase = true) : takeAck h s = ackPhase (reversePair s h) h.ack.toNat s :=
  if_pos phase

theorem ackPhase_pair (g ack : Nat) (s : State) (f : Nat) : pairOf (ackPhase g ack s) f = pairOf s f := rfl

theorem ackPhase_out (g ack : Nat) (s : State) : (ackPhase g ack s).out = s.out := rfl

theorem modPair_out (f : Nat) (c : Pair → Pair) (s : State) : (modPair f c s).out = s.out := rfl

/-- An acknowledgement leaves every pair but for its `spaceView`. -/
theorem takeAck_view (hr : reversePair s h = r) (trained : (pairOf s r).level ≠ 0) (f : Nat) :
    spaceView (pairOf (takeAck h s) f) = spaceView (pairOf s f) := by
  cases e : h.rphase with
  | false =>
    rw [takeAck_of_space s e, hr, pairOf_modPair_view spaceView (spaceView_applyAck _) (applyAck_level _) trained f]
  | true => rw [takeAck_of_phase s e, ackPhase_pair]

theorem takeAck_placed (hr : reversePair s h = r) (trained : (pairOf s r).level ≠ 0) : Placed s (takeAck h s) := fun f =>
  eq_of_spaceView (fun p => (p.slot, p.level)) (fun _ => rfl) (takeAck_view hr trained f)

theorem takeAck_pair (hr : reversePair s h = r) (trained : (pairOf s r).level ≠ 0) (space : h.rphase = false) :
    pairOf (takeAck h s) r = applyAck h.ack.toNat (pairOf s r) := by
  rw [takeAck_of_space s space, hr, pairOf_modPair_trained (applyAck_level _) trained]

theorem takeAck_health (h : FlitHdr) (s : State) : (takeAck h s).health = s.health :=
  (takeAck_acts (Sub.refl _) (.refl s)).health

theorem takeAck_out (h : FlitHdr) (s : State) : (takeAck h s).out = s.out := by
  cases e : h.rphase with
  | false => rw [takeAck_of_space s e, modPair_out]
  | true => rw [takeAck_of_phase s e, ackPhase_out]

theorem takeAck_optics (h : FlitHdr) (s : State) : (takeAck h s).optics = s.optics :=
  (takeAck_acts (Sub.refl _) (.refl s)).part .optics

/-! ### An accepted flit (R326) -/

theorem applyCredit_k (v n : Nat) (p : Pair) : (applyCredit v n p).k = mmod 0 p.k v (fun k => k + n) := rfl

/-- The space moves on: E advances and the flit is to be acknowledged. -/
def acceptFlit (p : Pair) : Pair := { p with e := p.e + 1, ackDue := true, nakFor := none }

/-- A flit that was next is accepted: what it brought is done, E advances and its credit return is applied. -/
structure Accepted (h : FlitHdr) (g r : Nat) (x t : State) : Prop where
  next : (pairOf t g).e = (pairOf x g).e + 1
  due : (pairOf t g).ackDue = true
  kept : ((pairOf t g).a, (pairOf t g).b, (pairOf t g).latched, (pairOf t g).parked) =
    ((pairOf x g).a, (pairOf x g).b, (pairOf x g).latched, (pairOf x g).parked)
  credit : (pairOf t r).k = mmod 0 (pairOf x r).k h.crVc.val (fun k => k + h.crCount.toNat)
  health : t.health = x.health
  out : t.out = x.out

theorem twinHeard_links (f : Nat) (s : State) : (twinHeard f s).links = s.links := by
  unfold twinHeard
  split
  · rfl
  · rfl

theorem twinHeard_out (f : Nat) (s : State) : (twinHeard f s).out = s.out := by
  unfold twinHeard
  split
  · rfl
  · rfl

theorem accepted_of_placed {x : State} (hr : reversePair s h = r) (trainedG : (pairOf s g).level ≠ 0)
    (trainedR : (pairOf s r).level ≠ 0) (placed : Placed s x) :
    Accepted h g r x (takeCredit h (twinHeard g (modPair g acceptFlit x))) := by
  have accepts : Placed s (modPair g acceptFlit x) := placed.modPair (fun _ => rfl) trainedG
  have heard (f : Nat) : pairOf (twinHeard g (modPair g acceptFlit x)) f = pairOf (modPair g acceptFlit x) f := by
    rw [pairOf, pairOf, twinHeard_links]
  have hears : Placed s (twinHeard g (modPair g acceptFlit x)) := accepts.trans fun f => by rw [heard]
  have own : pairOf (modPair g acceptFlit x) g = acceptFlit (pairOf x g) :=
    pairOf_modPair_trained (fun _ => rfl) (placed.trained trainedG)
  have credits {α : Type} (φ : Pair → α) (same : ∀ p, φ (applyCredit h.crVc.val h.crCount.toNat p) = φ p) :
      φ (pairOf (takeCredit h (twinHeard g (modPair g acceptFlit x))) g) = φ (acceptFlit (pairOf x g)) := by
    rw [takeCredit, hears.reversePair, hr, pairOf_modPair_view φ same (fun _ => rfl) (hears.trained trainedR), heard, own]
  refine ⟨credits Pair.e fun _ => rfl, credits Pair.ackDue fun _ => rfl,
    credits (fun p => (p.a, p.b, p.latched, p.parked)) fun _ => rfl, ?_, ?_, ?_⟩
  · rw [takeCredit, hears.reversePair, hr, pairOf_modPair_trained (c := applyCredit h.crVc.val h.crCount.toNat) (fun _ => rfl)
      (hears.trained trainedR), heard,
      applyCredit_k, pairOf_modPair_view (c := acceptFlit) Pair.k (fun _ => rfl) (fun _ => rfl) (placed.trained trainedG)]
  · exact ((twinHeard_acts (Sub.refl _) (.refl (modPair g acceptFlit x))).health)
  · exact twinHeard_out g _

/-- A pair that receives flits is in service. -/
theorem receives_trained {f : Nat} (on : receives s f = true) : (pairOf s f).level ≠ 0 ∧ (pairOf s f).training = false := by
  simp only [receives, Bool.and_eq_true, decide_eq_true_eq, Bool.not_eq_true'] at on
  obtain ⟨⟨⟨⟨-, level⟩, -⟩, -⟩, training⟩ := on
  exact ⟨level, training⟩

variable {take : Nat → State → State}

theorem seqPlace_acked (hr : reversePair s h = r) (trained : (pairOf s r).level ≠ 0) (g : Nat) :
    (pairOf (takeAck h s) g).e = (pairOf s g).e :=
  eq_of_spaceView Pair.e (fun _ => rfl) (takeAck_view hr trained g)

/-- What becomes of a sequenced flit of pair `g` at its place. -/
def takenAt (h : FlitHdr) (take : Nat → State → State) (g : Nat) (x : State) : SeqPlace → State
  | .next => takeCredit h (twinHeard g (modPair g acceptFlit (take g x)))
  | .duplicate => modPair g (fun p => { p with ackDue := true }) x
  | .ahead => sendNak g x

theorem takeSeq_of_receives (on : receives s h.pair.val = true) :
    takeSeq h take s = takenAt h take (spacePair (takeAck h s) h) (takeAck h s)
      (seqPlace (pairOf (takeAck h s) (spacePair (takeAck h s) h)).e h.seq.toNat) := by
  refine (if_pos on).trans ?_
  generalize takeAck h s = x
  dsimp only
  cases seqPlace (pairOf x (spacePair x h)).e h.seq.toNat <;> rfl

/-- A sequenced flit is taken at its place, its acknowledgement applied. -/
theorem takeSeq_at (on : receives s h.pair.val = true) (hg : spacePair s h = g) (hr : reversePair s h = r)
    (trained : (pairOf s r).level ≠ 0) {place : SeqPlace} (at_ : seqPlace (pairOf s g).e h.seq.toNat = place) :
    takeSeq h take s = takenAt h take g (takeAck h s) place := by
  rw [takeSeq_of_receives on, (takeAck_placed hr trained).spacePair, hg, seqPlace_acked hr trained, at_]

theorem seqPlace_next {e seq : Nat} (h : seq = e % 65536) : seqPlace e seq = .next := by rw [seqPlace, if_pos (by omega)]

/-- A Nak of a pair's space names the last flit that was accepted. -/
theorem sendNak_sends {x : State} (trained : (pairOf x g).level ≠ 0) :
    (pairOf (sendNak g x) g).e = (pairOf x g).e ∧ (pairOf (sendNak g x) g).nakFor = some (pairOf x g).e ∧
      ∃ y, (sendNak g x).out.wire = x.out.wire ++ [y] ∧ y.typ = 4 ∧ y.ack = ((pairOf x g).e + 65535) % 65536 := by
  have pair : pairOf (sendNak g x) g = { ackSent false (pairOf x g) with nakFor := some (pairOf x g).e } := by
    show pairOf (modPair g (fun p => { ackSent false p with nakFor := some p.e }) x) g = _
    exact pairOf_modPair_trained (fun _ => rfl) trained
  rw [pair]
  exact ⟨rfl, rfl, _, rfl, rfl, rfl⟩

end

end Sys2Proof.Laws

/-!
PROOF. The statement of the receiving of flits (R325 to R329, R334, R337, R338).
-/

namespace Sys2Proof.Laws

set_option Elab.async false

open Machine

/-- What the queues do not show, they leave. -/
theorem OnlyQueues.view {s t : State} {α : Type} (φ : Pair → α) (same : ∀ p q, φ { p with q := q } = φ p) (h : OnlyQueues s t) (f : Nat) :
    φ (pairOf t f) = φ (pairOf s f) := by
  obtain ⟨q, hq⟩ := h f
  rw [hq, same]

section

variable {s x : State} {h : FlitHdr} {g r : Nat}

/-! ### Payloads (R326, R330, R368) -/

/-- An accepted flit counts on its virtual channel and takes a slot of the receive buffer. -/
def countFlit (vc : Nat) (p : Pair) : Pair := { p with a := mmod 0 p.a vc (fun k => k + 1), b := mmod 0 p.b vc (fun k => k + 1) }

theorem countFlit_counts (vc : Nat) (p : Pair) :
    mget 0 (countFlit vc p).a vc = mget 0 p.a vc + 1 ∧ mget 0 (countFlit vc p).b vc = mget 0 p.b vc + 1 :=
  ⟨mget_mmod_self (f := fun k => k + 1) (Nat.succ_ne_zero _), mget_mmod_self (f := fun k => k + 1) (Nat.succ_ne_zero _)⟩

/-- What a payload of a flit of pair `g` does. -/
def takePayload (vc : Nat) (p : Payload) (g : Nat) (x : State) : State :=
  match strayPayload vc p (modPair g (countFlit vc) x) with
  | some t => freeSlot g vc t
  | none => modPair g (countFlit vc) x

theorem dataFlit_takes (h : FlitHdr) (vc : Fin 6) (p : Payload) (s : State) :
    exec (.dataFlit h vc p) s = .next (takeSeq h (takePayload vc.val p) s) := rfl

theorem freeSlot_view {α : Type} (φ : Pair → α) (same : ∀ p b d, φ { p with b := b, d := d, ackDue := true } = φ p) {v : Nat}
    (trained : (pairOf x g).level ≠ 0) (f : Nat) : φ (pairOf (freeSlot g v x) f) = φ (pairOf x f) := by
  unfold freeSlot
  split
  · rfl
  · exact pairOf_modPair_view φ (fun p => same p _ _) (fun _ => rfl) trained f

theorem freeSlot_placed {v : Nat} (trained : (pairOf x g).level ≠ 0) : Placed x (freeSlot g v x) :=
  freeSlot_view (fun p => (p.slot, p.level)) (fun _ _ _ => rfl) trained

/-- What no upper layer takes is the payload's own. -/
theorem strayPayload_none {vc : Nat} {p : Payload} (t : State) (h : strayPayload vc p s = none) : strayPayload vc p t = none := by
  cases p with
  | packet p =>
    simp only [strayPayload] at h ⊢
    split at h
    · next own => rw [if_pos own]
    · cases h
  | twin p =>
    simp only [strayPayload] at h ⊢
    split at h
    · next own => rw [if_pos own]
    · cases h
  | malformed => cases h
  | _ => rfl

end

/-! ### Credit returns (R327, R341) -/

/-- The counts of a credit flit are returned. -/
def returnCounts (counts : List U16) (p : Pair) : Pair :=
  ((counts.take 6).zipIdx).foldl (fun p x => applyCredit x.2 x.1.toNat p) p

theorem applyCredit_k_other {v w n : Nat} (p : Pair) (other : w ≠ v) : mget 0 (applyCredit v n p).k w = mget 0 p.k w := by
  rw [applyCredit_k, mget_mmod_other other]

theorem applyCredit_k_self {v n : Nat} (p : Pair) (some_ : n ≠ 0) : mget 0 (applyCredit v n p).k v = mget 0 p.k v + n :=
  mget_mmod_self (f := fun k => k + n) (by omega)

theorem foldl_applyCredit_view {α : Type} (φ : Pair → α) (same : ∀ v n p, φ (applyCredit v n p) = φ p) (l : List (U16 × Nat)) (p : Pair) :
    φ (l.foldl (fun p x => applyCredit x.2 x.1.toNat p) p) = φ p := by
  induction l generalizing p with
  | nil => rfl
  | cons x l ih => rw [List.foldl_cons, ih, same]

theorem foldl_applyCredit_below {v n : Nat} {l : List U16} (p : Pair) (below : v < n) :
    mget 0 ((l.zipIdx n).foldl (fun p x => applyCredit x.2 x.1.toNat p) p).k v = mget 0 p.k v := by
  induction l generalizing n p with
  | nil => rfl
  | cons x l ih =>
    rw [List.zipIdx_cons, List.foldl_cons, ih _ (by omega), applyCredit_k_other _ (by omega)]

theorem foldl_applyCredit_at {i n : Nat} {l : List U16} {c : U16} (p : Pair) (count : l[i]? = some c) (some_ : c ≠ 0) :
    mget 0 ((l.zipIdx n).foldl (fun p x => applyCredit x.2 x.1.toNat p) p).k (n + i) = mget 0 p.k (n + i) + c.toNat := by
  induction l generalizing i n p with
  | nil => cases count
  | cons x l ih =>
    rw [List.zipIdx_cons, List.foldl_cons]
    cases i with
    | zero =>
      obtain rfl : x = c := Option.some.inj count
      rw [Nat.add_zero n, foldl_applyCredit_below _ (show n < n + 1 by omega), applyCredit_k_self _ fun e => some_ (BitVec.eq_of_toNat_eq e)]
    | succ i =>
      rw [show n + (i + 1) = n + 1 + i by omega, ih _ count, applyCredit_k_other _ (by omega)]

theorem returnCounts_k {v : Nat} {l : List U16} {c : U16} (p : Pair) (length : l.length = 6) (count : l[v]? = some c) (some_ : c ≠ 0) :
    mget 0 (returnCounts l p).k v = mget 0 p.k v + c.toNat := by
  have all : l.take 6 = l := List.take_of_length_le length.le
  rw [returnCounts, all]
  simpa using foldl_applyCredit_at (n := 0) p count some_

/-- What the counts of a credit flit do, at level 3. -/
def takeCounts (h : FlitHdr) (l : List U16) (_ : Nat) (x : State) : State :=
  if (pairOf x h.pair.val).level = 3 then modPair (reversePair x h) (returnCounts l) x else x

theorem creditFlit_takes (h : FlitHdr) (l : List U16) (s : State) : exec (.creditFlit h l) s = .next (takeSeq h (takeCounts h l) s) := rfl

/-! ### A flit in its space -/

section

variable {s : State} {h : FlitHdr} {g r : Nat} (on : receives s h.pair.val = true) (hg : spacePair s h = g)
  (hr : reversePair s h = r) (trainedG : (pairOf s g).level ≠ 0) (trainedR : (pairOf s r).level ≠ 0)

include hr trainedR

theorem takeAck_kept {α : Type} (φ : Pair → α) (own : ∀ p, φ (spaceView p) = φ p) (f : Nat) :
    φ (pairOf (takeAck h s) f) = φ (pairOf s f) := eq_of_spaceView φ own (takeAck_view hr trainedR f)

theorem idleFlit_acknowledges (on : receives s h.pair.val = true) (space : h.rphase = false) {k : Nat} (pos : 1 ≤ k)
    (held : k ≤ (pairOf s r).replay.length) (depth : (pairOf s r).replay.length ≤ 1024)
    (last : h.ack.toNat = ((pairOf s r).u + k - 1) % 65536) :
    Gives (.idleFlit h) s (fun t => (pairOf t r).u = (pairOf s r).u + k ∧
      (pairOf t r).replay = (pairOf s r).replay.drop k ∧ t.out = s.out) := by
  have run : exec (.idleFlit h) s = .next (takeAck h s) := congrArg Host.Outcome.next (if_pos on)
  obtain ⟨u, replay⟩ := applyAck_ahead pos held depth last
  have pair := takeAck_pair hr trainedR space
  exact ⟨_, run, by rw [pair, u], by rw [pair, replay], takeAck_out h s⟩

include on hg trainedG

/-- A flit that is next is accepted, after what `take` does. -/
theorem takeSeq_accepts {take : Nat → State → State} (next : h.seq.toNat = (pairOf s g).e % 65536)
    (placed : Placed (takeAck h s) (take g (takeAck h s))) :
    Accepted h g r (take g (takeAck h s)) (takeSeq h take s) := by
  rw [takeSeq_at on hg hr trainedR (seqPlace_next next)]
  exact accepted_of_placed hr trainedG trainedR ((takeAck_placed hr trainedR).trans placed)

theorem dataFlit_malformed (next : h.seq.toNat = (pairOf s g).e % 65536) (vc : Fin 6) :
    Gives (.dataFlit h vc .malformed) s (fun t => (pairOf t g).e = (pairOf s g).e + 1 ∧ (pairOf t g).ackDue = true ∧
      Raised 0x6001 s t) := by
  set x := takeAck h s with hx
  have trained : (pairOf x g).level ≠ 0 := (takeAck_placed hr trainedR).trained trainedG
  set y := modPair g (countFlit vc.val) x with hy
  set z := raise 0x6001 vc.val y with hz
  have take : takePayload vc.val .malformed g x = freeSlot g vc.val z := rfl
  have counted : Placed x y := (Placed.refl x).modPair (fun _ => rfl) trained
  have queues : OnlyQueues y z := raise_onlyQueues (.refl y)
  have placed : Placed x z := counted.queues queues
  have freed : Placed x (takePayload vc.val .malformed g x) := placed.trans (freeSlot_placed (placed.trained trained))
  have accepted := takeSeq_accepts on hg hr trainedG trainedR next freed
  have e : (pairOf (freeSlot g vc.val z) g).e = (pairOf s g).e := by
    rw [freeSlot_view Pair.e (fun _ _ _ => rfl) (placed.trained trained), queues.view Pair.e (fun _ _ => rfl),
      pairOf_modPair_view (c := countFlit vc.val) Pair.e (fun _ => rfl) (fun _ => rfl) trained,
      takeAck_kept hr trainedR Pair.e fun _ => rfl]
  have raised : Raised 0x6001 y z := raise_raised _ y
  refine ⟨_, dataFlit_takes h vc .malformed s, by rw [accepted.next, take, e], accepted.due, ?_⟩
  rw [Raised, faultCount, accepted.health, take, freeSlot_health]
  have before : y.health = s.health := takeAck_health h s
  rw [faultCount, ← before]
  exact raised

theorem dataFlit_accepted (next : h.seq.toNat = (pairOf s g).e % 65536) (vc : Fin 6) (p : Payload)
    (own : strayPayload vc.val p s = none) :
    Gives (.dataFlit h vc p) s (fun t => (pairOf t g).e = (pairOf s g).e + 1 ∧ (pairOf t g).ackDue = true ∧
      mget 0 (pairOf t g).a vc.val = mget 0 (pairOf s g).a vc.val + 1 ∧
      mget 0 (pairOf t g).b vc.val = mget 0 (pairOf s g).b vc.val + 1 ∧ t.out = s.out ∧
      (h.crCount ≠ 0 → mget 0 (pairOf t r).k h.crVc.val = mget 0 (pairOf s r).k h.crVc.val + h.crCount.toNat)) := by
  set x := takeAck h s with hx
  have trained : (pairOf x g).level ≠ 0 := (takeAck_placed hr trainedR).trained trainedG
  have take : takePayload vc.val p g x = modPair g (countFlit vc.val) x := by
    rw [takePayload, strayPayload_none _ own]
  have placed : Placed x (takePayload vc.val p g x) := take ▸ (Placed.refl x).modPair (fun _ => rfl) trained
  have accepted := takeSeq_accepts on hg hr trainedG trainedR next placed
  rw [← hx, take] at accepted
  have pair : pairOf (modPair g (countFlit vc.val) x) g = countFlit vc.val (pairOf x g) :=
    pairOf_modPair_trained (fun _ => rfl) trained
  have kept := accepted.kept
  rw [pair] at kept
  simp only [Prod.mk.injEq] at kept
  obtain ⟨a, b, -, -⟩ := kept
  obtain ⟨ca, cb⟩ := countFlit_counts vc.val (pairOf x g)
  have keptX {α : Type} (φ : Pair → α) (same : ∀ p, φ (spaceView p) = φ p) (f : Nat) : φ (pairOf x f) = φ (pairOf s f) :=
    takeAck_kept hr trainedR φ same f
  refine ⟨_, dataFlit_takes h vc p s, ?_, accepted.due, ?_, ?_, ?_, fun some_ => ?_⟩
  · rw [accepted.next, pair]
    exact congrArg (· + 1) (keptX Pair.e (fun _ => rfl) g)
  · rw [a, ca, keptX Pair.a fun _ => rfl]
  · rw [b, cb, keptX Pair.b fun _ => rfl]
  · rw [accepted.out, modPair_out, hx, takeAck_out]
  · rw [accepted.credit, mget_mmod_self (f := fun k => k + h.crCount.toNat) (by
        have : h.crCount.toNat ≠ 0 := fun e => some_ (BitVec.eq_of_toNat_eq e)
        omega),
      pairOf_modPair_view (c := countFlit vc.val) Pair.k (fun _ => rfl) (fun _ => rfl) trained, keptX Pair.k fun _ => rfl]

theorem creditFlit_returned (next : h.seq.toNat = (pairOf s g).e % 65536) {l : List U16} {v : Nat} {c : U16}
    (level : (pairOf s h.pair.val).level = 3) (length : l.length = 6) (count : l[v]? = some c) (some_ : c ≠ 0)
    (bare : h.crCount = 0) :
    Gives (.creditFlit h l) s (fun t => (pairOf t g).e = (pairOf s g).e + 1 ∧
      mget 0 (pairOf t r).k v = mget 0 (pairOf s r).k v + c.toNat) := by
  have acked := takeAck_placed hr trainedR
  set x := takeAck h s with hx
  have trained : (pairOf x r).level ≠ 0 := acked.trained trainedR
  have kept {α : Type} (φ : Pair → α) (same : ∀ v n p, φ (applyCredit v n p) = φ p) (p : Pair) : φ (returnCounts l p) = φ p :=
    foldl_applyCredit_view φ same _ p
  have place (p : Pair) := kept (fun p => (p.slot, p.level)) (fun _ _ _ => rfl) p
  have take : takeCounts h l g x = modPair r (returnCounts l) x := by
    rw [takeCounts, acked.level, acked.reversePair, hr, if_pos level]
  have placed : Placed x (takeCounts h l g x) := take ▸ (Placed.refl x).modPair place trained
  have accepted := takeSeq_accepts on hg hr trainedG trainedR next placed
  rw [← hx, take] at accepted
  have pair : pairOf (modPair r (returnCounts l) x) r = returnCounts l (pairOf x r) :=
    pairOf_modPair_trained (kept Pair.level fun _ _ _ => rfl) trained
  have credited : mget 0 (returnCounts l (pairOf x r)).k v = mget 0 (pairOf s r).k v + c.toNat := by
    rw [returnCounts_k _ length count some_, takeAck_kept hr trainedR Pair.k fun _ => rfl]
  have positive : c.toNat ≠ 0 := fun e => some_ (BitVec.eq_of_toNat_eq e)
  refine ⟨_, creditFlit_takes h l s, ?_, ?_⟩
  · rw [accepted.next, pairOf_modPair_view (c := returnCounts l) Pair.e (kept Pair.e fun _ _ _ => rfl)
      (kept Pair.level fun _ _ _ => rfl) trained, takeAck_kept hr trainedR Pair.e fun _ => rfl]
  · rw [accepted.credit, pair, bare]
    obtain same | other := eq_or_ne v h.crVc.val
    · rw [← same, mget_mmod_self (f := fun k => k + (0 : BitVec 8).toNat) (by rw [credited]; simp; omega), credited]
      rfl
    · rw [mget_mmod_other other, credited]

theorem dataFlit_duplicate (place : seqPlace (pairOf s g).e h.seq.toNat = .duplicate) (vc : Fin 6) (p : Payload) :
    Gives (.dataFlit h vc p) s (fun t => (pairOf t g).e = (pairOf s g).e ∧ (pairOf t g).ackDue = true ∧
      (pairOf t g).a = (pairOf s g).a ∧ t.out = s.out) := by
  have run : exec (.dataFlit h vc p) s = .next (modPair g (fun p => { p with ackDue := true }) (takeAck h s)) :=
    (dataFlit_takes h vc p s).trans (congrArg Host.Outcome.next (takeSeq_at on hg hr trainedR place))
  have pair : pairOf (modPair g (fun p => { p with ackDue := true }) (takeAck h s)) g = { pairOf (takeAck h s) g with ackDue := true } :=
    pairOf_modPair_trained (fun _ => rfl) ((takeAck_placed hr trainedR).trained trainedG)
  refine ⟨_, run, ?_, ?_, ?_, ?_⟩
  · rw [pair]
    exact takeAck_kept hr trainedR Pair.e (fun _ => rfl) g
  · rw [pair]
  · rw [pair]
    exact takeAck_kept hr trainedR Pair.a (fun _ => rfl) g
  · rw [modPair_out, takeAck_out]

theorem dataFlit_ahead (place : seqPlace (pairOf s g).e h.seq.toNat = .ahead) (vc : Fin 6) (p : Payload) :
    Gives (.dataFlit h vc p) s (fun t => (pairOf t g).e = (pairOf s g).e ∧ (pairOf t g).nakFor = some (pairOf s g).e ∧
      ∃ x, t.out.wire = s.out.wire ++ [x] ∧ x.typ = 4 ∧ x.ack = ((pairOf s g).e + 65535) % 65536) := by
  have run : exec (.dataFlit h vc p) s = .next (sendNak g (takeAck h s)) :=
    (dataFlit_takes h vc p s).trans (congrArg Host.Outcome.next (takeSeq_at on hg hr trainedR place))
  have naks := sendNak_sends ((takeAck_placed hr trainedR).trained trainedG)
  rw [seqPlace_acked hr trainedR, takeAck_out] at naks
  exact ⟨_, run, naks⟩

end

end Sys2Proof.Laws

/-!
PROOF. Ledgers, phase streams and Naks of the receiving side (R308, R328, R329, R334 to R339), and the statement of receiving.
-/

namespace Sys2Proof.Laws

set_option Elab.async false

open Machine

/-! ### Ledgers (R336 to R339) -/

section

variable {s x : State} {h : FlitHdr} {g r : Nat} {b : LedgerBody}

/-- What an accepted Ledger of pair `g` does. -/
def takeLedger (b : LedgerBody) (g : Nat) (x : State) : State :=
  onlyIf (ledgerBreaks (pairOf x g) b)
    (conservation g (worstVc (ledgerVc (pairOf x g) b)) (ledgerValues (pairOf x g) b (worstVc (ledgerVc (pairOf x g) b))))
    (bump 0x410004 1 x)

theorem ledgerFlit_takes (hg : spacePair s h = g) (single : b.phaseId = 0) (epoch : b.epoch = (pairOf s g).epoch) :
    exec (.ledgerFlit h b) s = .next (takeSeq h (takeLedger b) s) := by
  show execLedgerFlit h b s = _
  rw [execLedgerFlit]
  dsimp only
  rw [if_neg (not_not_intro single), hg, if_neg (not_not_intro epoch)]
  rfl

theorem ledgerFlit_closed (hg : spacePair s h = g) (single : b.phaseId = 0) (epoch : b.epoch ≠ (pairOf s g).epoch) :
    Gives (.ledgerFlit h b) s (fun t => t = s) := by
  refine ⟨s, ?_, rfl⟩
  show execLedgerFlit h b s = _
  rw [execLedgerFlit]
  dsimp only
  rw [if_neg (not_not_intro single), hg, if_pos epoch]

/-- A pair whose conservation is broken. -/
def breachPair (p : Pair) : Pair := { p with latched := true, parked := true }

/-- A breach of conservation parks the pair and is Latched. -/
theorem conservation_breaks {v : Nat} {values : List Nat} (trained : (pairOf x g).level ≠ 0) (fresh : (pairOf x g).latched = false) :
    Placed x (conservation g v values x) ∧ (pairOf (conservation g v values x) g).latched = true ∧
      (pairOf (conservation g v values x) g).parked = true ∧ Raised 0x5F00 x (conservation g v values x) := by
  have parks : conservation g v values x = raiseWith 0x5F00 none (256 * g + v) values (modPair g breachPair x) := by
    rw [conservation, fresh, if_neg Bool.false_ne_true]
    rfl
  have queues : OnlyQueues (modPair g breachPair x) (conservation g v values x) := parks ▸ raiseWith_onlyQueues (.refl _)
  have pair : pairOf (modPair g breachPair x) g = breachPair (pairOf x g) := pairOf_modPair_trained (fun _ => rfl) trained
  refine ⟨((Placed.refl x).modPair (c := breachPair) (fun _ => rfl) trained).queues queues, ?_, ?_, ?_⟩
  · rw [queues.view Pair.latched fun _ _ => rfl, pair, breachPair]
  · rw [queues.view Pair.parked fun _ _ => rfl, pair, breachPair]
  · rw [parks]
    exact raiseWith_raised none _ values (modPair g breachPair x)

variable (on : receives s h.pair.val = true) (hg : spacePair s h = g)
  (hr : reversePair s h = r) (trainedG : (pairOf s g).level ≠ 0) (trainedR : (pairOf s r).level ≠ 0)

include on hg hr trainedG trainedR

theorem ledgerFlit_holds (next : h.seq.toNat = (pairOf s g).e % 65536) (single : b.phaseId = 0)
    (epoch : b.epoch = (pairOf s g).epoch) (fresh : (pairOf s g).latched = false) (holds : ledgerBreaks (pairOf s g) b = false) :
    Gives (.ledgerFlit h b) s (fun t => (pairOf t g).e = (pairOf s g).e + 1 ∧ cntOf t 0x410004 = cntOf s 0x410004 + 1 ∧
      (pairOf t g).latched = false) := by
  have checked : ledgerBreaks (pairOf (takeAck h s) g) b = false :=
    (takeAck_kept hr trainedR (fun p => ledgerBreaks p b) (fun _ => rfl) g).trans holds
  have take : takeLedger b g (takeAck h s) = bump 0x410004 1 (takeAck h s) := by
    rw [takeLedger, checked]
    rfl
  have placed : Placed (takeAck h s) (takeLedger b g (takeAck h s)) := take ▸ .refl _
  have accepted := takeSeq_accepts on hg hr trainedG trainedR next placed
  rw [take] at accepted
  have kept := accepted.kept
  simp only [pairOf_bump, Prod.mk.injEq] at kept
  obtain ⟨-, -, latched, -⟩ := kept
  refine ⟨_, ledgerFlit_takes hg single epoch, ?_, ?_, ?_⟩
  · rw [accepted.next, pairOf_bump, takeAck_kept hr trainedR Pair.e fun _ => rfl]
  · rw [cntOf, accepted.health, ← cntOf, cntOf_bump_self _ Nat.one_ne_zero, cntOf, takeAck_health, cntOf]
  · rw [latched, takeAck_kept hr trainedR Pair.latched (fun _ => rfl), fresh]

theorem ledgerFlit_breaks (next : h.seq.toNat = (pairOf s g).e % 65536) (single : b.phaseId = 0)
    (epoch : b.epoch = (pairOf s g).epoch) (fresh : (pairOf s g).latched = false) (breaks : ledgerBreaks (pairOf s g) b = true) :
    Gives (.ledgerFlit h b) s (fun t => (pairOf t g).latched = true ∧ (pairOf t g).parked = true ∧ Raised 0x5F00 s t) := by
  have checked : ledgerBreaks (pairOf (takeAck h s) g) b = true :=
    (takeAck_kept hr trainedR (fun p => ledgerBreaks p b) (fun _ => rfl) g).trans breaks
  have unlatched : (pairOf (bump 0x410004 1 (takeAck h s)) g).latched = false :=
    (takeAck_kept hr trainedR Pair.latched (fun _ => rfl) g).trans fresh
  have trained : (pairOf (bump 0x410004 1 (takeAck h s)) g).level ≠ 0 := (takeAck_placed hr trainedR).trained trainedG
  obtain ⟨v, values, take⟩ : ∃ v values, takeLedger b g (takeAck h s) = conservation g v values (bump 0x410004 1 (takeAck h s)) := by
    rw [takeLedger, checked]
    exact ⟨_, _, rfl⟩
  obtain ⟨placed, latched, parked, raised⟩ := conservation_breaks (v := v) (values := values) trained unlatched
  have accepted := takeSeq_accepts (take := takeLedger b) on hg hr trainedG trainedR next (by rw [take]; exact placed)
  rw [take] at accepted
  have kept := accepted.kept
  rw [latched, parked] at kept
  simp only [Prod.mk.injEq] at kept
  obtain ⟨-, -, latched', parked'⟩ := kept
  refine ⟨_, ledgerFlit_takes hg single epoch, latched', parked', ?_⟩
  have counted : faultCount (bump 0x410004 1 (takeAck h s)) 0x5F00 = faultCount s 0x5F00 := by
    show faultCount (takeAck h s) 0x5F00 = _
    rw [faultCount, takeAck_health, faultCount]
  rw [Raised, faultCount, accepted.health, ← counted]
  exact raised

end

/-! ### Damaged flits (R326) -/

theorem flitCrcFailure_naks {s : State} {f : PairNo} (on : receives s f.val = true) :
    Gives (.flitCrcFailure f) s (fun t => (pairOf t f.val).nakFor = some (pairOf s f.val).e ∧
      ∃ x, t.out.wire = s.out.wire ++ [x] ∧ x.typ = 4 ∧ x.ack = ((pairOf s f.val).e + 65535) % 65536) := by
  obtain ⟨trained, settled⟩ := receives_trained on
  have run : execFlitCrcFailure f s = .next (sendNak f.val s) := by
    rw [execFlitCrcFailure, settled, if_neg Bool.false_ne_true, if_pos on]
  obtain ⟨-, naks⟩ := sendNak_sends trained
  exact ⟨_, run, naks⟩

/-! ### Phase streams (R308, R334, R386) -/

section

variable {s x : State} {h : FlitHdr} {g r : Nat} {id : U32} {p : Packet} {reads : LineReads}

/-- A flit of a phase space is accepted. -/
def acceptPhase (id e : Nat) (p : Pair) : Pair :=
  { p with rxPhase := mset 0 p.rxPhase id (e + 1), rphaseId := id, rphaseDue := true, nakPhase := none }

/-- A data flit of a phase stream is seen on its fibre and counted on virtual channel 2. -/
def phaseCounted (g : Nat) (x : State) : State := modPair g (countFlit 2) (modFib g (fun f => { f with phaseSeen := true }) x)

/-- Its data is written, or refused. -/
def phaseWritten (p : Packet) (reads : LineReads) (g : Nat) (y : State) : State :=
  if p.kind ≠ 7 ∨ p.rsv then packetFault 0x6001 p y else (takeData (dirOf g) p reads y).2

/-- What a data flit of a phase stream does. -/
def takePhaseData (p : Packet) (reads : LineReads) (g : Nat) (x : State) : State :=
  freeSlot g 2 (phaseWritten p reads g (phaseCounted g x))

/-- The phase spaces received on a pair, and what it owes them. -/
abbrev phaseView (p : Pair) := (p.rxPhase, p.rphaseId, p.rphaseDue)

theorem phaseWritten_queues (y : State) : OnlyQueues y (phaseWritten p reads g y) := by
  unfold phaseWritten
  split
  · exact packetFault_onlyQueues (.refl y)
  · exact takeData_onlyQueues (.refl y)

theorem phaseWritten_optics (y : State) : (phaseWritten p reads g y).optics = y.optics := by
  unfold phaseWritten
  split
  · exact (packetFault_acts (Sub.refl _) (.refl y)).part .optics
  · exact (takeData_acts (Sub.refl _) (.refl y)).part .optics

theorem phaseCounted_view {α : Type} (φ : Pair → α) (same : ∀ p, φ (countFlit 2 p) = φ p) (trained : (pairOf x g).level ≠ 0) (f : Nat) :
    φ (pairOf (phaseCounted g x) f) = φ (pairOf x f) :=
  pairOf_modPair_view (s := modFib g (fun f => { f with phaseSeen := true }) x) φ same (fun _ => rfl) trained f

theorem phaseWritten_placed (trained : (pairOf x g).level ≠ 0) : Placed x (phaseWritten p reads g (phaseCounted g x)) :=
  Placed.queues (phaseCounted_view (fun p => (p.slot, p.level)) (fun _ => rfl) trained) (phaseWritten_queues _)

theorem takePhaseData_placed (trained : (pairOf x g).level ≠ 0) : Placed x (takePhaseData p reads g x) :=
  (phaseWritten_placed trained).trans (freeSlot_placed ((phaseWritten_placed trained).trained trained))

theorem takePhaseData_phases (trained : (pairOf x g).level ≠ 0) :
    phaseView (pairOf (takePhaseData p reads g x) g) = phaseView (pairOf x g) := by
  have written := (phaseWritten_queues (p := p) (reads := reads) (g := g) (phaseCounted g x)).view phaseView (fun _ _ => rfl) g
  rw [takePhaseData, freeSlot_view phaseView (fun _ _ _ => rfl) ((phaseWritten_placed trained).trained trained), written,
    phaseCounted_view phaseView (fun _ => rfl) trained]

/-- The fibre goes on with its phase stream. -/
theorem takePhaseData_open (opened : (fibOf x g).phaseOpen = true) : (fibOf (takePhaseData p reads g x) g).phaseOpen = true := by
  have freed : (takePhaseData p reads g x).optics = (phaseWritten p reads g (phaseCounted g x)).optics :=
    (freeSlot_acts (Sub.refl _) (.refl (phaseWritten p reads g (phaseCounted g x)))).part .optics
  rw [fibOf, freed, phaseWritten_optics]
  show (fibOf (modFib g (fun f => { f with phaseSeen := true }) x) g).phaseOpen = true
  rw [fibOf_modFib_self _ _ _ fun e => Bool.noConfusion (congrArg Fib.phaseSeen e)]
  exact opened

theorem fibOf_takeCredit (h : FlitHdr) (x : State) (f : Nat) : fibOf (takeCredit h x) f = fibOf x f := rfl

theorem phaseNext_acked (hr : reversePair s h = r) (trained : (pairOf s r).level ≠ 0) (g id seq : Nat) :
    phaseNext (takeAck h s) g id seq = phaseNext s g id seq := by
  have fibre : fibOf (takeAck h s) g = fibOf s g := by rw [fibOf, fibOf, takeAck_optics]
  rw [phaseNext, phaseNext, fibre, takeAck_kept hr trained Pair.rxPhase fun _ => rfl]

/-- What becomes of a flit of a phase space at its place. -/
def phaseTakenAt (h : FlitHdr) (id : U32) (take : Nat → State → State) (g e : Nat) (x : State) : SeqPlace → State
  | .next => takeCredit h (take g (modFib g (fun f => { f with phaseOpen := true }) (modPair g (acceptPhase id.toNat e) x)))
  | .duplicate => modPair g (fun p => { p with rphaseId := id.toNat, rphaseDue := true }) x
  | .ahead => sendPhaseNak g id.toNat e x

theorem takePhase_of_receives {take : Nat → State → State} (on : receives s h.pair.val = true) :
    takePhase h id take s = phaseTakenAt h id take (spacePair (takeAck h s) h)
      (phaseNext (takeAck h s) (spacePair (takeAck h s) h) id.toNat h.seq.toNat) (takeAck h s)
      (seqPlace (phaseNext (takeAck h s) (spacePair (takeAck h s) h) id.toNat h.seq.toNat) h.seq.toNat) := by
  refine (if_pos on).trans ?_
  generalize takeAck h s = x
  dsimp only
  cases seqPlace (phaseNext x (spacePair x h) id.toNat h.seq.toNat) h.seq.toNat <;> rfl

variable (on : receives s h.pair.val = true) (hg : spacePair s h = g) (hr : reversePair s h = r)
  (trainedR : (pairOf s r).level ≠ 0)

include on hg in
theorem phaseFlit_stray (single : h.carry = false) (unmarked : bit (engOf s (g / 8)).mcastRx.toNat (g % 8) = false) :
    Gives (.phaseFlit h id p reads) s (fun t => Raised 0x4033 s t) := by
  have stray : strayPhase s h = true := by
    rw [strayPhase, hg, on, single, unmarked]
    rfl
  have run : execPhaseFlit h id p reads s = .next (optFault 0x4033 (g / 8) [g % 8] (takeAck h s)) := by
    rw [execPhaseFlit]
    dsimp only
    rw [if_pos stray, hg]
  have raised : Raised 0x4033 (takeAck h s) (optFault 0x4033 (g / 8) [g % 8] (takeAck h s)) := optFault_raised _
  have same : faultCount (takeAck h s) 0x4033 = faultCount s 0x4033 := by rw [faultCount, faultCount, takeAck_health]
  exact ⟨_, run, raised.trans (congrArg (· + 1) same)⟩

include on hg hr trainedR in
/-- A flit that is next in its phase space is accepted there. -/
theorem takePhase_next {take : Nat → State → State} {e : Nat} (number : phaseNext s g id.toNat h.seq.toNat = e)
    (next : h.seq.toNat = e % 65536) :
    takePhase h id take s = takeCredit h (take g (modFib g (fun f => { f with phaseOpen := true })
      (modPair g (acceptPhase id.toNat e) (takeAck h s)))) := by
  rw [takePhase_of_receives on, (takeAck_placed hr trainedR).spacePair, hg, phaseNext_acked hr trainedR, number, seqPlace_next next]
  rfl

include on hg hr trainedR in
theorem phaseFlit_accepted (trainedG : (pairOf s g).level ≠ 0)
    (marked : bit (engOf s (g / 8)).mcastRx.toNat (g % 8) = true)
    (ready : putReady s (packetAccess p reads) (gaSpace p.addr.toNat) (gaLocal p.addr.toNat) p.len = true) {e : Nat}
    (number : phaseNext s g id.toNat h.seq.toNat = e) (next : h.seq.toNat = e % 65536) :
    Gives (.phaseFlit h id p reads) s (fun t => (fibOf t g).phaseOpen = true ∧ (pairOf t g).rphaseDue = true ∧
      (pairOf t g).rphaseId = id.toNat ∧ mget 0 (pairOf t g).rxPhase id.toNat = e + 1) := by
  have own : strayPhase s h = false := by
    rw [strayPhase, hg, marked, Bool.not_true, Bool.and_false]
  have run : exec (.phaseFlit h id p reads) s = .next (takePhase h id (takePhaseData p reads) s) := by
    show execPhaseFlit h id p reads s = _
    rw [execPhaseFlit]
    dsimp only
    rw [own, ready, if_neg Bool.false_ne_true, if_neg (by simp)]
    rfl
  rw [takePhase_next on hg hr trainedR number next] at run
  have acked := takeAck_placed hr trainedR
  set x := modPair g (acceptPhase id.toNat e) (takeAck h s) with hx
  have accepts : Placed s x := acked.modPair (c := acceptPhase id.toNat e) (fun _ => rfl) trainedG
  have pair : pairOf x g = acceptPhase id.toNat e (pairOf (takeAck h s) g) :=
    pairOf_modPair_trained (fun _ => rfl) (acked.trained trainedG)
  set y := modFib g (fun f => { f with phaseOpen := true }) x with hy
  have opened : (fibOf y g).phaseOpen = true := by
    rw [hy, fibOf_modFib_self _ _ _ fun e => Bool.noConfusion (congrArg Fib.phaseOpen e)]
  have data : Placed s (takePhaseData p reads g y) := accepts.trans (takePhaseData_placed (x := y) (accepts.trained trainedG))
  have phases := takePhaseData_phases (p := p) (reads := reads) (x := y) (accepts.trained trainedG)
  have credited : phaseView (pairOf (takeCredit h (takePhaseData p reads g y)) g) = phaseView (pairOf x g) := by
    rw [takeCredit, data.reversePair, hr, pairOf_modPair_view (c := applyCredit h.crVc.val h.crCount.toNat) phaseView
      (fun _ => rfl) (fun _ => rfl) (data.trained trainedR), phases]
    rfl
  rw [pair] at credited
  simp only [phaseView, acceptPhase, Prod.mk.injEq] at credited
  obtain ⟨rx, number', due⟩ := credited
  refine ⟨_, run, ?_, due, number', ?_⟩
  · rw [fibOf_takeCredit]
    exact takePhaseData_open opened
  · rw [rx, mget_mset_self (Nat.succ_ne_zero e)]

end

/-! ### Naks (R328, R329) -/

/-- The pair has all that its replay buffer holds to send again. -/
structure Resent (r : Nat) (l : List TxFlit) (t : State) : Prop where
  trained : (pairOf t r).level ≠ 0
  replay : (pairOf t r).replay = l
  resend : (pairOf t r).resend = l.length

section

variable {s x y : State} {h : FlitHdr} {r : Nat} {l : List TxFlit}

namespace Resent

theorem queues (h : Resent r l x) (k : OnlyQueues x y) : Resent r l y :=
  ⟨by rw [k.view Pair.level fun _ _ => rfl]; exact h.trained, by rw [k.view Pair.replay fun _ _ => rfl, h.replay],
    by rw [k.view Pair.resend fun _ _ => rfl, h.resend]⟩

theorem modPair {f : Nat} {c : Pair → Pair} (h : Resent r l x)
    (same : ∀ p, ((c p).level, (c p).replay, (c p).resend) = (p.level, p.replay, p.resend)) : Resent r l (modPair f c x) := by
  obtain ⟨trained, replay, resend⟩ := h
  obtain rfl | other := eq_or_ne r f
  · have pair : pairOf (Machine.modPair r c x) r = c (pairOf x r) := pairOf_modPair_trained (fun p => congrArg Prod.fst (same p)) trained
    have own := same (pairOf x r)
    simp only [Prod.mk.injEq] at own
    obtain ⟨level', replay', resend'⟩ := own
    exact ⟨by rwa [pair, level'], by rw [pair, replay', replay], by rw [pair, resend', resend]⟩
  · have pair := pairOf_modPair_other f c x r other
    exact ⟨by rwa [pair], by rw [pair, replay], by rw [pair, resend]⟩

/-- A change that has all sent again. -/
theorem resendAll {c : Pair → Pair} (trained : (pairOf x r).level ≠ 0) (replay : (pairOf x r).replay = l)
    (level : ∀ p, (c p).level = p.level) (same : ∀ p, ((c p).replay, (c p).resend) = (p.replay, p.replay.length)) :
    Resent r l (Machine.modPair r c x) := by
  have pair : pairOf (Machine.modPair r c x) r = c (pairOf x r) := pairOf_modPair_trained level trained
  have own := same (pairOf x r)
  simp only [Prod.mk.injEq] at own
  obtain ⟨replay', resend'⟩ := own
  exact ⟨by rwa [pair, level], by rw [pair, replay', replay], by rw [pair, resend', replay]⟩

theorem withdrawQuiet (h : Resent r l x) : Resent r l (withdrawQuiet r x) := by
  unfold Machine.withdrawQuiet
  split
  · exact h
  · have begun : Resent r l (Machine.modPair r (fun p => Machine.resendAll { p with withdrawn := true, returning := false }) x) :=
      resendAll h.trained h.replay (fun _ => rfl) fun _ => rfl
    refine queues ?_ (updateBound_onlyQueues (OnlyQueues.upd (splitDrop_onlyQueues (.refl _)) rfl))
    split
    · exact forEach_keeps begun fun _ _ k => k.modPair fun _ => rfl
    · exact begun

theorem withdraw (h : Resent r l x) : Resent r l (withdraw r x) := by
  unfold Machine.withdraw
  split
  · exact h
  · exact (h.queues (sendLinkNotice_onlyQueues (.refl x))).withdrawQuiet

end Resent

/-- A pair that retrains. -/
def retrainPair (p : Pair) : Pair := { p with training := true, trainGood := 0, needResume := true, trainFrom := p.epoch }

theorem retrain_resent (h : Resent r l x) : Resent r l (retrain r x) ∧ (pairOf (retrain r x) r).training = true := by
  have withdrawn : Resent r l (withdraw r x) := h.withdraw
  have pair : pairOf (retrain r x) r = retrainPair (pairOf (withdraw r x) r) :=
    pairOf_modPair_trained (c := retrainPair) (fun _ => rfl) withdrawn.trained
  have again : Resent r l (modPair r retrainPair (withdraw r x)) := withdrawn.modPair fun _ => rfl
  exact ⟨again.queues (OnlyQueues.upd (.refl _) rfl), by rw [pair, retrainPair]⟩

/-- One more replay of a pair's space. -/
def replayPair (p : Pair) : Pair := { p with replays := min 0xFFFF (p.replays + 1), stuckReplays := p.stuckReplays + 1 }

/-- A replay that is counted and logged. -/
def replayCounted (r : Nat) (x : State) : State := raise 0x5001 r (bump 0x410002 1 (modPair r replayPair x))

/-- A space that is stuck retrains its pair. -/
def stuckRetrains (r : Nat) (x : State) : State := retrain r (raise 0x5003 r (modPair r (fun p => { p with stuckReplays := 0 }) x))

theorem countReplay_eq (r : Nat) (x : State) : countReplay r x =
    if 16 ≤ (pairOf (replayCounted r x) r).stuckReplays then stuckRetrains r (replayCounted r x) else replayCounted r x := rfl

theorem replayCounted_queues : OnlyQueues (modPair r replayPair x) (replayCounted r x) := raise_onlyQueues (OnlyQueues.upd (.refl _) rfl)

theorem replayCounted_resent (h : Resent r l x) : Resent r l (replayCounted r x) :=
  Resent.queues (h.modPair (f := r) (c := replayPair) fun _ => rfl) replayCounted_queues

theorem replayCounted_stuck (h : Resent r l x) : (pairOf (replayCounted r x) r).stuckReplays = (pairOf x r).stuckReplays + 1 := by
  rw [replayCounted_queues.view Pair.stuckReplays (fun _ _ => rfl), pairOf_modPair_trained (c := replayPair) (fun _ => rfl) h.trained,
    replayPair]

theorem replayCounted_counts : CountsCorrected 0x5001 (bump 0x410002 1 (modPair r replayPair x)) (replayCounted r x) :=
  correctedWith_counts none r [] _

theorem replayCounted_counted :
    corrOf (replayCounted r x) 0x5001 = corrOf x 0x5001 + 1 ∧ cntOf (replayCounted r x) 0x410002 = cntOf x 0x410002 + 1 ∧
      faultCount (replayCounted r x) 0x5003 = faultCount x 0x5003 := by
  have counted := replayCounted_counts (r := r) (x := x)
  exact ⟨counted.self, (counted.cnt _ (by decide)).trans (cntOf_bump_self (modPair r replayPair x) Nat.one_ne_zero),
    counted.evt _ (by decide) (by decide)⟩

theorem stuckRetrains_resent (h : Resent r l x) :
    Resent r l (stuckRetrains r x) ∧ (pairOf (stuckRetrains r x) r).training = true := by
  have cleared : Resent r l (modPair r (fun p => { p with stuckReplays := 0 }) x) := h.modPair fun _ => rfl
  exact retrain_resent (cleared.queues (raise_onlyQueues (.refl _)))

theorem stuckRetrains_counts :
    Raised 0x5003 x (stuckRetrains r x) ∧ CountsOnly (0x5003 :: pairCodes) [0x300306, 0x410003] x (stuckRetrains r x) := by
  set y := modPair r (fun p => { p with stuckReplays := 0 }) x
  have raised : Raised 0x5003 x (raise 0x5003 r y) := raise_raised r y
  have told : CountsOnly (0x5003 :: pairCodes) [0x300306, 0x410003] x (raise 0x5003 r y) :=
    raise_counts (.inr (List.mem_cons_self ..)) (modPair_counts (.refl x))
  have again {codes : List Nat} (sub : pairCodes ⊆ codes) :
      CountsOnly codes [0x300306, 0x410003] (raise 0x5003 r y) (stuckRetrains r x) :=
    retrain_counts sub (by decide) (by decide) (.refl _)
  exact ⟨Raised.later raised (again (List.Subset.refl _)), told.trans (again (List.subset_cons_self _ _))⟩

/-- A replay is counted, and the sixteenth in a row retrains the pair. -/
theorem countReplay_counts (h : Resent r l x) : Resent r l (countReplay r x) ∧
    corrOf (countReplay r x) 0x5001 = corrOf x 0x5001 + 1 ∧ cntOf (countReplay r x) 0x410002 = cntOf x 0x410002 + 1 ∧
    (15 ≤ (pairOf x r).stuckReplays → (pairOf (countReplay r x) r).training = true ∧ Raised 0x5003 x (countReplay r x)) := by
  obtain ⟨corr, cnt, evt⟩ := replayCounted_counted (r := r) (x := x)
  have counted := replayCounted_resent h
  rw [countReplay_eq, replayCounted_stuck h]
  split
  · obtain ⟨resent, training⟩ := stuckRetrains_resent counted
    obtain ⟨raised, counts⟩ := stuckRetrains_counts (r := r) (x := replayCounted r x)
    refine ⟨resent, ?_, ?_, fun _ => ⟨training, raised.trans (congrArg (· + 1) evt)⟩⟩
    · rw [corrOf, counts.corr, ← corrOf, corr]
    · rw [counts.cnt _ (by decide) (by decide), cnt]
  · exact ⟨counted, corr, cnt, fun stuck => by omega⟩

variable (on : receives s h.pair.val = true) (hr : reversePair s h = r) (trainedR : (pairOf s r).level ≠ 0)
  (space : h.rphase = false) (standing : h.ack.toNat = ((pairOf s r).u + 65535) % 65536)

include hr trainedR space standing

theorem takeAck_standing : pairOf (takeAck h s) r = pairOf s r := by
  rw [takeAck_pair hr trainedR space, applyAck_standing standing]

include on

theorem nakFlit_replays (some_ : (pairOf s r).replay ≠ []) (idle : (pairOf s r).resend = 0) :
    Gives (.nakFlit h) s (fun t => (pairOf t r).resend = (pairOf s r).replay.length ∧ corrOf t 0x5001 = corrOf s 0x5001 + 1 ∧
      cntOf t 0x410002 = cntOf s 0x410002 + 1 ∧
      (15 ≤ (pairOf s r).stuckReplays → (pairOf t r).training = true ∧ Raised 0x5003 s t)) := by
  have pair := takeAck_standing hr trainedR space standing
  have acked := takeAck_placed hr trainedR
  have run : execNakFlit h s = .next (countReplay r (modPair r resendAll (takeAck h s))) := by
    rw [execNakFlit, if_pos on]
    dsimp only
    rw [acked.reversePair, hr, space, if_neg Bool.false_ne_true, pair, if_pos ⟨idle, some_⟩]
  set x := modPair r resendAll (takeAck h s)
  have resent : Resent r (pairOf s r).replay x :=
    Resent.resendAll (acked.trained trainedR) (congrArg Pair.replay pair) (fun _ => rfl) fun _ => rfl
  obtain ⟨again, corr, cnt, stuck⟩ := countReplay_counts resent
  have health : x.health = s.health := takeAck_health h s
  have stuckReplays : (pairOf x r).stuckReplays = (pairOf s r).stuckReplays := by
    rw [show pairOf x r = resendAll (pairOf (takeAck h s) r) from pairOf_modPair_trained (fun _ => rfl) (acked.trained trainedR), pair,
      resendAll]
  rw [corrOf, corrOf, health] at corr
  rw [cntOf, cntOf, health] at cnt
  rw [stuckReplays] at stuck
  refine ⟨_, run, again.resend, corr, cnt, fun many => ?_⟩
  obtain ⟨training, raised⟩ := stuck many
  refine ⟨training, ?_⟩
  have same : faultCount x 0x5003 = faultCount s 0x5003 := by rw [faultCount, faultCount, health]
  exact raised.trans (congrArg (· + 1) same)

theorem nakFlit_covered (going : (pairOf s r).resend ≠ 0) :
    Gives (.nakFlit h) s (fun t => pairOf t r = pairOf s r ∧ t.health = s.health) := by
  have pair := takeAck_standing hr trainedR space standing
  have run : execNakFlit h s = .next (takeAck h s) := by
    rw [execNakFlit, if_pos on]
    dsimp only
    rw [(takeAck_placed hr trainedR).reversePair, hr, space, if_neg Bool.false_ne_true, pair, if_neg fun e => going e.1]
  exact ⟨_, run, pair, takeAck_health h s⟩

end

/-- Settles O46: a flit finds its place in its space (`takeSeq_at`, `takePhase_next`). An acknowledgement leaves all of a pair but its
`spaceView`, a fault or a write of the Store but its queues (`OnlyQueues`), so that the pairs keep their slots and levels (`Placed`)
up to the acceptance of the flit; a replay is counted by `countReplay_counts`. -/
theorem flitsAreAcceptedAcknowledgedAndReplayed : Obligations.FlitsAreAcceptedAcknowledgedAndReplayed := by
  unfold Obligations.FlitsAreAcceptedAcknowledgedAndReplayed
  intro s h g r on hg hr trainedG trainedR
  refine ⟨fun space k pos held depth last => idleFlit_acknowledges hr trainedR on space pos held depth last, fun next =>
      ⟨dataFlit_malformed on hg hr trainedG trainedR next, dataFlit_accepted on hg hr trainedG trainedR next,
        fun l v c level length count some_ bare => creditFlit_returned on hg hr trainedG trainedR next level length count some_ bare,
        fun b single epoch fresh => ⟨ledgerFlit_holds on hg hr trainedG trainedR next single epoch fresh,
          ledgerFlit_breaks on hg hr trainedG trainedR next single epoch fresh⟩⟩,
    fun b single epoch => ledgerFlit_closed hg single epoch, dataFlit_duplicate on hg hr trainedG trainedR,
    dataFlit_ahead on hg hr trainedG trainedR, flitCrcFailure_naks on, fun id p reads single =>
      ⟨phaseFlit_stray on hg single, fun marked ready => ⟨fun opened next => ?_, fun closed first => ?_⟩⟩,
    fun space standing _ => ⟨nakFlit_replays on hr trainedR space standing, nakFlit_covered on hr trainedR space standing⟩⟩
  · have number : phaseNext s g id.toNat h.seq.toNat = mget 0 (pairOf s g).rxPhase id.toNat := by
      rw [phaseNext, opened]
      rfl
    obtain ⟨t, run, -, due, name, e⟩ := phaseFlit_accepted on hg hr trainedR trainedG marked ready number next
    exact ⟨t, run, due, name, e⟩
  · have zero : h.seq.toNat = 0 := by rw [first]; rfl
    have number : phaseNext s g id.toNat h.seq.toNat = 0 := by
      rw [phaseNext, closed, zero]
      rfl
    exact phaseFlit_accepted on hg hr trainedR trainedG marked ready number zero

end Sys2Proof.Laws

/-!
PROOF. Sending (R327, R330, R332, R340): what a first sending, a replay and an Idle flit leave of the pair that sends, what leaves on its
fibre, and the service order of a fibre that carries nothing for others.
-/

namespace Sys2Proof.Laws

set_option Elab.async false

open Machine

/-! ### Pairs that another change passes by -/

section

variable {α : Type} {s : State} {f r : Nat} {c : Pair → Pair}

/-- What a change leaves of a pair in service, it leaves wherever it is made. -/
theorem pairOf_modPair_kept (φ : Pair → α) (same : ∀ p, φ (c p) = φ p) (level : ∀ p, (c p).level = p.level)
    (trained : (pairOf s f).level ≠ 0) : φ (pairOf (modPair r c s) f) = φ (pairOf s f) := by
  obtain rfl | other := eq_or_ne f r
  · rw [pairOf_modPair_trained level trained, same]
  · rw [pairOf_modPair_other r c s f other]

/-- A pair without the acknowledgements that it owes. -/
def ackView (p : Pair) : Pair := { p with ackDue := false, rphaseDue := false }

theorem ackView_ackSent (rphase : Bool) (p : Pair) : ackView (ackSent rphase p) = ackView p := by
  cases rphase with
  | false => rfl
  | true => rfl

theorem eq_of_ackView {α : Type} (φ : Pair → α) (own : ∀ p, φ (ackView p) = φ p) {p q : Pair} (h : ackView p = ackView q) :
    φ p = φ q := by rw [← own p, h, own q]

theorem ackSent_level (rphase : Bool) (p : Pair) : (ackSent rphase p).level = p.level :=
  eq_of_ackView Pair.level (fun _ => rfl) (ackView_ackSent rphase p)

/-- The acknowledgement that a flit takes along leaves all of a pair but what it owes. -/
theorem ackView_sent (rphase : Bool) (trained : (pairOf s f).level ≠ 0) :
    ackView (pairOf (modPair r (ackSent rphase) s) f) = ackView (pairOf s f) :=
  pairOf_modPair_kept ackView (ackView_ackSent rphase) (ackSent_level rphase) trained

end

/-! ### Flits on the fibre (R322, R323) -/

/-- The header takes an acknowledgement, and the slot that it is of. -/
def headed (rhome : Nat) (ack : Bool × Nat) (x : Sent) : Sent := { x with rhome := rhome, rphase := ack.1, ack := ack.2 }

section

variable {s : State} {f g seq : Nat} {x : TxFlit}

theorem emit_sends (y : Sent) (trained : (pairOf s f).level ≠ 0) :
    ackView (pairOf (emit f y s) f) = ackView (pairOf s f) ∧ ∃ r a, (emit f y s).out.wire = s.out.wire ++ [headed r a y] :=
  ⟨ackView_sent (ackFields (pairOf s (ackPair s f))).1 trained, _, _, rfl⟩

theorem emitSeq_sends (trained : (pairOf s g).level ≠ 0) : ackView (pairOf (emitSeq f g seq x s) g) = ackView (pairOf s g) ∧
    ∃ r a, (emitSeq f g seq x s).out.wire = s.out.wire ++ [headed r a (sentOf s f g seq x)] :=
  ⟨ackView_sent (ackFields (pairOf s x.rhome)).1 trained, _, _, rfl⟩

theorem sentOf_own (s : State) (f seq : Nat) (x : TxFlit) :
    (sentOf s f f seq x).pair = f ∧ (sentOf s f f seq x).carry = false ∧ (sentOf s f f seq x).seq = seq % 65536 := by
  have own : decide (f ≠ f) = false := decide_eq_false (not_not_intro rfl)
  unfold sentOf
  cases x.body with
  | data v p => exact ⟨rfl, own, rfl⟩
  | credit l => exact ⟨rfl, own, rfl⟩
  | ledger b => exact ⟨rfl, own, rfl⟩

theorem sentOf_data {v : Nat} {p : Payload} (body : x.body = .data v p) : (sentOf s f g seq x).typ = 1 ∧
    (sentOf s f g seq x).vc = v ∧ (sentOf s f g seq x).payload = some p := by
  rw [sentOf, body]
  exact ⟨rfl, rfl, rfl⟩

theorem sentOf_credit {l : List Nat} (body : x.body = .credit l) :
    (sentOf s f g seq x).typ = 2 ∧ (sentOf s f g seq x).counts = l := by
  rw [sentOf, body]
  exact ⟨rfl, rfl⟩

theorem sentOf_ledger {b : LedgerBody} (body : x.body = .ledger b) :
    (sentOf s f g seq x).typ = 3 ∧ (sentOf s f g seq x).ledger = some b := by
  rw [sentOf, body]
  exact ⟨rfl, rfl⟩

end

/-! ### A first sending (R325, R327) -/

/-- The credits that a flit returns count as placed. -/
def placeCredit (c : Nat × Nat) (p : Pair) : Pair := { p with g := mmod 0 p.g c.1 (fun k => k + c.2) }

/-- A body takes the next `SEQ` and a place in the replay buffer. -/
def firstSent (x : TxFlit) (p : Pair) : Pair := { p with n := p.n + 1, replay := p.replay ++ [x] }

section

variable {s : State} {f : Nat} {body : TxBody}

/-- The state in which the credits that the next flit of `f` returns are placed. -/
def creditPlaced (f : Nat) (s : State) : State := modPair (ackPair s f) (placeCredit (creditReturn (pairOf s (ackPair s f)))) s

/-- All of a pair but the credits it has placed. -/
def unplaced (p : Pair) : Pair := { p with g := [] }

theorem creditPlaced_unplaced (trained : (pairOf s f).level ≠ 0) : unplaced (pairOf (creditPlaced f s) f) = unplaced (pairOf s f) :=
  pairOf_modPair_kept unplaced (fun _ => rfl) (fun _ => rfl) trained

theorem creditPlaced_kept {α : Type} (φ : Pair → α) (same : ∀ p, φ (unplaced p) = φ p) (trained : (pairOf s f).level ≠ 0) :
    φ (pairOf (creditPlaced f s) f) = φ (pairOf s f) := by
  rw [← same, creditPlaced_unplaced trained, same]

theorem sendFirst_sends (trained : (pairOf s f).level ≠ 0) : ∃ x : TxFlit, x.body = body ∧
    ackView (pairOf (sendFirst f f body s) f) = ackView (firstSent x (pairOf (creditPlaced f s) f)) ∧
    ∃ y r a, (sendFirst f f body s).out.wire = s.out.wire ++ [headed r a (sentOf y f f (pairOf s f).n x)] := by
  set r := ackPair s f
  set c := creditReturn (pairOf s r)
  set x : TxFlit := ⟨body, r, c.1, c.2⟩
  have placed : (pairOf (creditPlaced f s) f).level ≠ 0 := by rwa [creditPlaced_kept Pair.level (fun _ => rfl) trained]
  have pair : pairOf (modPair f (firstSent x) (creditPlaced f s)) f = firstSent x (pairOf (creditPlaced f s) f) :=
    pairOf_modPair_trained (fun _ => rfl) placed
  have sent : (pairOf (modPair f (firstSent x) (creditPlaced f s)) f).level ≠ 0 := by
    rw [pair]
    exact placed
  have run : sendFirst f f body s =
      emitSeq f f (pairOf (creditPlaced f s) f).n x (modPair f (firstSent x) (creditPlaced f s)) := rfl
  obtain ⟨view, wire⟩ := emitSeq_sends (f := f) (seq := (pairOf (creditPlaced f s) f).n) (x := x) sent
  rw [pair, ← run] at view
  rw [← run, creditPlaced_kept Pair.n (fun _ => rfl) trained] at wire
  exact ⟨x, rfl, view, _, wire⟩

/-- What a first sending does not move. -/
theorem sendFirst_kept {α : Type} (φ : Pair → α)
    (same : ∀ p n l g, φ (ackView { p with n := n, replay := l, g := g }) = φ p) (trained : (pairOf s f).level ≠ 0) :
    φ (pairOf (sendFirst f f body s) f) = φ (pairOf s f) := by
  obtain ⟨x, -, view, -⟩ := sendFirst_sends (body := body) trained
  have own (p : Pair) : φ (ackView p) = φ p := same p p.n p.replay p.g
  have placed : φ (pairOf (creditPlaced f s) f) = φ (pairOf s f) := creditPlaced_kept φ (fun p => by
    rw [← own (unplaced p)]
    exact same p p.n p.replay []) trained
  rw [← own, view, ← placed]
  exact same _ _ _ _

/-- A first sending takes the next `SEQ`, and stands in the replay buffer. -/
theorem sendFirst_counts (trained : (pairOf s f).level ≠ 0) : (pairOf (sendFirst f f body s) f).n = (pairOf s f).n + 1 ∧
    (pairOf (sendFirst f f body s) f).replay.length = (pairOf s f).replay.length + 1 := by
  obtain ⟨x, -, view, -⟩ := sendFirst_sends (body := body) trained
  have n : (pairOf (sendFirst f f body s) f).n = (pairOf (creditPlaced f s) f).n + 1 := eq_of_ackView Pair.n (fun _ => rfl) view
  have replay : (pairOf (sendFirst f f body s) f).replay = (pairOf (creditPlaced f s) f).replay ++ [x] :=
    eq_of_ackView Pair.replay (fun _ => rfl) view
  rw [n, replay, List.length_append, creditPlaced_kept Pair.n (fun _ => rfl) trained,
    creditPlaced_kept Pair.replay (fun _ => rfl) trained]
  exact ⟨rfl, rfl⟩

end

/-! ### The service order (R330) -/

section

variable {s : State} {f : PairNo}

theorem sends_trained (up : txUp s f.val = true) : (pairOf s f.val).level ≠ 0 ∧ fibreUp s f.val = true ∧ fibDark s f.val = false := by
  simp only [txUp, suspended, Bool.and_eq_true, Bool.not_eq_true', Bool.or_eq_false_iff] at up
  obtain ⟨fibre, -, light⟩ := up
  refine ⟨?_, fibre, light⟩
  simp only [fibreUp, Bool.and_eq_true, decide_eq_true_eq] at fibre
  obtain ⟨⟨⟨⟨trained, -⟩, -⟩, -⟩, -⟩ := fibre
  exact trained

/-- The turn of a fibre that carries nothing for others: what it has to send again, a phase copy, its own next flit, and its split's. -/
theorem turn_own (up : txUp s f.val = true) (stays : (pairOf s f.val).returning = false) (bare : carriedHere s f.val = []) :
    turn f.val s = if (pairOf s f.val).resend ≠ 0 then some (sendReplay f.val f.val s)
      else firstSome [phaseCopies f.val s, sendNew f.val f.val s, phaseOwn f.val s] := by
  unfold turn
  simp only [up, stays, bare, if_true, Bool.false_eq_true, if_false, List.append_nil, List.map_nil, List.nil_append, List.filter_cons,
    List.filter_nil, decide_eq_true_eq]
  by_cases again : (pairOf s f.val).resend ≠ 0
  · rw [if_pos again, if_pos again]
  · rw [if_neg again, if_neg again]

theorem flitSend_idles (off : s.boot.hub = false ∨ (fibOf s f.val).lit = false ∨ (fibOf s f.val).locked = false) :
    Gives (.flitSend f) s (fun t => t = s) := by
  have stands : s.boot.hub = false ∨ (fibOf s f.val).lit = false ∨ (fibOf s f.val).locked = false ∨
      (engOf s (f.val / 8)).paused = true ∨ (engOf s (f.val / 8)).state ≠ 0 := by
    obtain h | h | h := off
    · exact .inl h
    · exact .inr (.inl h)
    · exact .inr (.inr (.inl h))
  exact ⟨s, congrArg Host.Outcome.next (if_pos stands), rfl⟩

end

/-- Light and a lock on a fibre whose engine serves: what its flits need. -/
structure FibreServes (s : State) (f : Nat) : Prop where
  hub : s.boot.hub = true
  lit : (fibOf s f).lit = true
  locked : (fibOf s f).locked = true
  goes : (engOf s (f / 8)).paused = false
  serves : (engOf s (f / 8)).state = 0

section

/-- The next flit of a replay goes. -/
def replayOne (p : Pair) : Pair := { p with resend := p.resend - 1 }

/-- The Ledger that is due goes. -/
def ledgerTaken (p : Pair) : Pair := { p with ledgerDue := none, ledgerSeq := some p.n }

/-- The next payload of a virtual channel goes. -/
def served (v : Nat) (rest : List (Bool × Payload)) (p : Pair) : Pair :=
  { p with
    q := mset [] p.q v rest, t := mmod 0 p.t v (fun k => k + 1), spent := mmod 0 p.spent v (fun k => k + 1), rr := rrAfter v p.rr }

variable {s : State} {f : PairNo} (on : FibreServes s f.val)

include on

/-- A fibre with light that is locked sends. -/
theorem FibreServes.not_idle : ¬(s.boot.hub = false ∨ (fibOf s f.val).lit = false ∨ (fibOf s f.val).locked = false ∨
    (engOf s (f.val / 8)).paused = true ∨ (engOf s (f.val / 8)).state ≠ 0) := by
  simp [on.hub, on.lit, on.locked, on.goes, on.serves]

theorem flitSend_trains (training : trains (pairOf s f.val) = true) : Gives (.flitSend f) s (fun t => ∃ x,
    t.out.wire = s.out.wire ++ [x] ∧ x.pair = f.val ∧ x.typ = 6 ∧ x.train = some (ownTrain s f.val) ∧ t.links = s.links) := by
  have run : execFlitSend f s = .next
      (wire { bareFlit s f.val 6 0 (slotOf s f.val) with train := some (ownTrain s f.val) } s) := by
    rw [execFlitSend]
    dsimp only
    rw [if_neg on.not_idle, if_pos training]
  exact ⟨_, run, _, rfl, rfl, rfl, rfl, rfl⟩

variable (trained : trains (pairOf s f.val) = false) (up : txUp s f.val = true)

include trained up

theorem flitSend_eq : exec (.flitSend f) s = .next ((turn f.val s).getD (emit f.val (bareFlit s f.val 0 0 0) s)) := by
  obtain ⟨-, fibre, light⟩ := sends_trained up
  show execFlitSend f s = _
  rw [execFlitSend]
  dsimp only
  rw [if_neg on.not_idle, trained, if_neg Bool.false_ne_true, if_pos (.inl ⟨fibre, light⟩)]

variable (stays : (pairOf s f.val).returning = false) (bare : carriedHere s f.val = [])

include stays bare

theorem flitSend_replays {y : TxFlit} (again : (pairOf s f.val).resend ≠ 0)
    (due : (pairOf s f.val).replay[(pairOf s f.val).replay.length - (pairOf s f.val).resend]? = some y) :
    Gives (.flitSend f) s (fun t => (pairOf t f.val).n = (pairOf s f.val).n ∧
      (pairOf t f.val).resend = (pairOf s f.val).resend - 1 ∧ ∃ x, t.out.wire = s.out.wire ++ [x] ∧ x.pair = f.val ∧
      x.carry = false ∧ x.seq = ((pairOf s f.val).u + ((pairOf s f.val).replay.length - (pairOf s f.val).resend)) % 65536 ∧
      (∀ v p, y.body = .data v p → x.typ = 1 ∧ x.vc = v ∧ x.payload = some p)) := by
  obtain ⟨level, -⟩ := sends_trained up
  set i := (pairOf s f.val).replay.length - (pairOf s f.val).resend with hi
  set z := modPair f.val replayOne s
  have pair : pairOf z f.val = replayOne (pairOf s f.val) :=
    pairOf_modPair_trained (fun _ => rfl) level
  have replay : sendReplay f.val f.val s = emitSeq f.val f.val ((pairOf s f.val).u + i) y z := by
    unfold sendReplay
    dsimp only
    rw [← hi, due]
    rfl
  have run : exec (.flitSend f) s = .next (emitSeq f.val f.val ((pairOf s f.val).u + i) y z) := by
    rw [flitSend_eq on trained up, turn_own up stays bare, if_pos again, replay]
    rfl
  obtain ⟨view, r, a, wire⟩ := emitSeq_sends (s := z) (f := f.val) (seq := (pairOf s f.val).u + i) (x := y)
    (by rw [pair]; exact level)
  rw [pair] at view
  obtain ⟨own, carry, seq⟩ := sentOf_own z f.val ((pairOf s f.val).u + i) y
  exact ⟨_, run, (eq_of_ackView Pair.n (fun _ => rfl) view :), (eq_of_ackView Pair.resend (fun _ => rfl) view :), _, wire, own, carry,
    seq, fun v p body => sentOf_data body⟩

variable (fresh : (pairOf s f.val).resend = 0) (room : (pairOf s f.val).replay.length < 1024)
  (single : phaseCopies f.val s = none)

include fresh single

/-- With nothing to send again and no phase copy, the fibre's own next flit goes, then its split's, and else an Idle flit. -/
theorem flitSend_own : exec (.flitSend f) s = .next ((firstSome [none, sendNew f.val f.val s, phaseOwn f.val s]).getD
    (emit f.val (bareFlit s f.val 0 0 0) s)) := by
  rw [flitSend_eq on trained up, turn_own up stays bare, if_neg (not_not_intro fresh), single]

include room in
theorem flitSend_ledger {c : Nat} (due : (pairOf s f.val).ledgerDue = some c) : Gives (.flitSend f) s (fun t =>
    (pairOf t f.val).n = (pairOf s f.val).n + 1 ∧ (pairOf t f.val).ledgerDue = none ∧
    ∃ x, t.out.wire = s.out.wire ++ [x] ∧ x.typ = 3 ∧ x.seq = (pairOf s f.val).n % 65536 ∧
      x.ledger.map (fun b => (b.calend, b.n, b.u)) =
        some (BitVec.ofNat 64 c, BitVec.ofNat 64 (pairOf s f.val).n, BitVec.ofNat 64 (pairOf s f.val).u)) := by
  obtain ⟨level, -⟩ := sends_trained up
  set z := modPair f.val ledgerTaken s
  have pair : pairOf z f.val = ledgerTaken (pairOf s f.val) :=
    pairOf_modPair_trained (fun _ => rfl) level
  have level' : (pairOf z f.val).level ≠ 0 := by
    rw [pair]
    exact level
  have number : (pairOf z f.val).n = (pairOf s f.val).n := by
    rw [pair]
    rfl
  have new : sendNew f.val f.val s = some (sendFirst f.val f.val (.ledger (ledgerOf (pairOf s f.val) c)) z) := by
    unfold sendNew
    dsimp only
    rw [due]
    exact if_neg (by omega)
  have run : exec (.flitSend f) s = .next (sendFirst f.val f.val (.ledger (ledgerOf (pairOf s f.val) c)) z) := by
    rw [flitSend_own on trained up stays bare fresh single, new]
    rfl
  obtain ⟨n, -⟩ := sendFirst_counts (body := .ledger (ledgerOf (pairOf s f.val) c)) level'
  have due' := sendFirst_kept (body := .ledger (ledgerOf (pairOf s f.val) c)) Pair.ledgerDue (fun _ _ _ _ => rfl) level'
  obtain ⟨x, body, -, y, r, a, wire⟩ := sendFirst_sends (body := .ledger (ledgerOf (pairOf s f.val) c)) level'
  obtain ⟨typ, ledger⟩ := sentOf_ledger (s := y) (f := f.val) (g := f.val) (seq := (pairOf s f.val).n) body
  obtain ⟨-, -, seq⟩ := sentOf_own y f.val (pairOf s f.val).n x
  rw [number] at n wire
  rw [pair] at due'
  exact ⟨_, run, n, due', _, wire, typ, seq, congrArg (Option.map fun b => (b.calend, b.n, b.u)) ledger⟩

theorem flitSend_data {v : Nat} {two : Bool} {p : Payload} {rest : List (Bool × Payload)}
    (none_ : (pairOf s f.val).ledgerDue = none) (next : pickVc (pairOf s f.val) = some v)
    (waits : mget [] (pairOf s f.val).q v = (two, p) :: rest) : Gives (.flitSend f) s (fun t =>
      (pairOf t f.val).n = (pairOf s f.val).n + 1 ∧ (pairOf t f.val).replay.length = (pairOf s f.val).replay.length + 1 ∧
      mget 0 (pairOf t f.val).t v = mget 0 (pairOf s f.val).t v + 1 ∧
      mget 0 (pairOf t f.val).spent v = mget 0 (pairOf s f.val).spent v + 1 ∧
      ∃ x, t.out.wire = s.out.wire ++ [x] ∧ x.typ = 1 ∧ x.vc = v ∧ x.seq = (pairOf s f.val).n % 65536 ∧
        x.carry = false ∧ x.payload = some p) := by
  obtain ⟨level, -⟩ := sends_trained up
  set z := modPair f.val (served v rest) s
  have pair : pairOf z f.val = served v rest (pairOf s f.val) :=
    pairOf_modPair_trained (fun _ => rfl) level
  have level' : (pairOf z f.val).level ≠ 0 := by
    rw [pair]
    exact level
  have number : (pairOf z f.val).n = (pairOf s f.val).n := by
    rw [pair]
    rfl
  have new : sendNew f.val f.val s = some (sendFirst f.val f.val (.data v p) z) := by
    unfold sendNew
    dsimp only
    rw [none_, next]
    dsimp only
    rw [waits]
    rfl
  have run : exec (.flitSend f) s = .next (sendFirst f.val f.val (.data v p) z) := by
    rw [flitSend_own on trained up stays bare fresh single, new]
    rfl
  obtain ⟨n, held⟩ := sendFirst_counts (body := .data v p) level'
  have counted := sendFirst_kept (body := .data v p) (fun x => (mget 0 x.t v, mget 0 x.spent v)) (fun _ _ _ _ => rfl) level'
  obtain ⟨x, body, -, y, r, a, wire⟩ := sendFirst_sends (body := .data v p) level'
  obtain ⟨typ, vc, payload⟩ := sentOf_data (s := y) (f := f.val) (g := f.val) (seq := (pairOf s f.val).n) body
  obtain ⟨-, carry, seq⟩ := sentOf_own y f.val (pairOf s f.val).n x
  rw [number] at n wire
  rw [pair] at held counted
  dsimp only [served] at counted
  rw [mget_mmod_self (f := fun k => k + 1) (Nat.succ_ne_zero _), mget_mmod_self (f := fun k => k + 1) (Nat.succ_ne_zero _),
    Prod.mk.injEq] at counted
  obtain ⟨first, spent⟩ := counted
  exact ⟨_, run, n, held, first, spent, _, wire, typ, vc, seq, carry, payload⟩

theorem flitSend_idle (none_ : (pairOf s f.val).ledgerDue = none) (empty : pickVc (pairOf s f.val) = none)
    (whole : s.links.splits = []) : Gives (.flitSend f) s (fun t => (pairOf t f.val).n = (pairOf s f.val).n ∧
      ∃ x, t.out.wire = s.out.wire ++ [x] ∧ x.pair = f.val ∧ x.typ = 0) := by
  obtain ⟨level, -⟩ := sends_trained up
  have new : sendNew f.val f.val s = none := by
    unfold sendNew
    dsimp only
    rw [none_, empty]
  have split : phaseOwn f.val s = none := by
    rw [phaseOwn, splitList, whole]
    rfl
  have run : exec (.flitSend f) s = .next (emit f.val (bareFlit s f.val 0 0 0) s) := by
    rw [flitSend_own on trained up stays bare fresh single, new, split]
    rfl
  obtain ⟨view, r, a, wire⟩ := emit_sends (bareFlit s f.val 0 0 0) level
  exact ⟨_, run, eq_of_ackView Pair.n (fun _ => rfl) view, _, wire, rfl, rfl⟩

end

/-! ### Credit flits (R327, R336) -/

/-- The counts of a Credit flit are placed. -/
def placeCounts (counts : List Nat) (p : Pair) : Pair :=
  { p with g := counts.zipIdx.foldl (fun m x => mmod 0 m x.2 (fun k => k + x.1)) p.g }

theorem foldl_place_below {v n : Nat} {l : List Nat} (m : SMap Nat) (below : v < n) :
    mget 0 ((l.zipIdx n).foldl (fun m x => mmod 0 m x.2 (fun k => k + x.1)) m) v = mget 0 m v := by
  induction l generalizing n m with
  | nil => rfl
  | cons x l ih =>
    rw [List.zipIdx_cons, List.foldl_cons, ih _ (by omega)]
    exact mget_mmod_other (f := fun k => k + x) (by omega)

theorem foldl_place_at {i n c : Nat} {l : List Nat} (m : SMap Nat) (count : l[i]? = some c) (some_ : c ≠ 0 ∨ mget 0 m (n + i) ≠ 0) :
    mget 0 ((l.zipIdx n).foldl (fun m x => mmod 0 m x.2 (fun k => k + x.1)) m) (n + i) = mget 0 m (n + i) + c := by
  induction l generalizing i n m with
  | nil => cases count
  | cons x l ih =>
    rw [List.zipIdx_cons, List.foldl_cons]
    cases i with
    | zero =>
      obtain rfl : x = c := Option.some.inj count
      rw [Nat.add_zero n] at some_ ⊢
      rw [foldl_place_below _ (show n < n + 1 by omega)]
      refine mget_mmod_self (f := fun k => k + x) ?_
      show mget 0 m n + x ≠ 0
      omega
    | succ i =>
      have stands : mget 0 (mmod 0 m n (fun k => k + x)) (n + (i + 1)) = mget 0 m (n + (i + 1)) :=
        mget_mmod_other (f := fun k => k + x) (by omega)
      rw [← stands] at some_ ⊢
      rw [show n + (i + 1) = n + 1 + i by omega] at some_ ⊢
      exact ih _ count some_

/-- Once the counts are placed, every slot freed on a virtual channel is. -/
theorem placeCounts_freed {v : Nat} (p : Pair) (small : v < 6) (freed : mget 0 p.d v ≠ 0) :
    mget 0 (placeCounts (creditCounts p) p).g v = max (mget 0 p.g v) (mget 0 p.d v) := by
  have count : (creditCounts p)[v]? = some (mget 0 p.d v - mget 0 p.g v) := by simp [creditCounts, small]
  have placed := foldl_place_at (n := 0) p.g count (by rw [Nat.zero_add]; omega)
  rw [Nat.zero_add] at placed
  rw [placeCounts, placed]
  omega

theorem creditReturn_placed (p : Pair) : creditReturn (placeCounts (creditCounts p) p) = (0, 0) := by
  have all : (List.range 6).find? (fun v => decide (mget 0 (placeCounts (creditCounts p) p).g v <
      mget 0 (placeCounts (creditCounts p) p).d v)) = none := by
    rw [List.find?_eq_none]
    intro v small
    rw [decide_eq_true_eq, not_lt]
    show mget 0 p.d v ≤ _
    by_cases freed : mget 0 p.d v = 0
    · rw [freed]
      exact Nat.zero_le _
    · rw [placeCounts_freed p (List.mem_range.mp small) freed]
      exact le_max_right _ _
  rw [creditReturn, all]

/-- A return of nothing leaves what is placed. -/
theorem placeCredit_zero {v : Nat} {p : Pair} (placed : mget 0 p.g v ≠ 0) : mget 0 (placeCredit (0, 0) p).g v = mget 0 p.g v := by
  obtain rfl | other := eq_or_ne v 0
  · exact mget_mmod_self (f := fun k => k + 0) placed
  · exact mget_mmod_other (f := fun k => k + 0) other

section

variable {s : State} {f : PairNo} (due : (pairOf s f.val).ackDue = true)

include due

theorem ackPair_due : ackPair s f.val = f.val := if_pos (by simp [due])

theorem creditFlitDue_eq (up : txUp s f.val = true) (own : carried s f.val = false) : exec (.creditFlitDue f) s = .next (
    if s.boot.hub = true ∧ (pairOf s f.val).replay.length < 1024 ∧ (turn f.val s).isNone = true then
      if (pairOf s f.val).level = 3 then
        sendFirst f.val f.val (.credit (creditCounts (pairOf s f.val))) (modPair f.val (placeCounts (creditCounts (pairOf s f.val))) s)
      else sendFirst f.val f.val (.credit (List.replicate 6 0)) s
    else s) := by
  show execCreditFlitDue f s = _
  rw [execCreditFlitDue]
  simp only [ackPair_due due, own, up, due, Bool.false_eq_true, if_false, if_true, Bool.true_or, true_and]
  rfl

variable (hub : s.boot.hub = true) (up : txUp s f.val = true) (own : carried s f.val = false)

include up own

theorem creditFlitDue_waits (busy : (turn f.val s).isSome = true) : Gives (.creditFlitDue f) s (fun t => t = s) := by
  have some_ : (turn f.val s).isNone ≠ true := by
    rw [← Option.not_isSome, busy]
    exact Bool.false_ne_true
  refine ⟨s, ?_, rfl⟩
  rw [creditFlitDue_eq due up own, if_neg fun h => some_ h.2.2]

variable (room : (pairOf s f.val).replay.length < 1024) (free : turn f.val s = none)

include hub room free

theorem creditFlitDue_counts (level : (pairOf s f.val).level = 3) : Gives (.creditFlitDue f) s (fun t =>
    (pairOf t f.val).n = (pairOf s f.val).n + 1 ∧
    (∀ v, v < 6 → mget 0 (pairOf s f.val).g v < mget 0 (pairOf s f.val).d v →
      mget 0 (pairOf t f.val).g v = mget 0 (pairOf s f.val).d v) ∧
    ∃ x, t.out.wire = s.out.wire ++ [x] ∧ x.typ = 2 ∧ x.seq = (pairOf s f.val).n % 65536 ∧
      x.counts = creditCounts (pairOf s f.val)) := by
  obtain ⟨trained, -⟩ := sends_trained up
  set counts := creditCounts (pairOf s f.val) with hcounts
  set z := modPair f.val (placeCounts counts) s
  have pair : pairOf z f.val = placeCounts counts (pairOf s f.val) := pairOf_modPair_trained (fun _ => rfl) trained
  have level' : (pairOf z f.val).level ≠ 0 := by
    rw [pair]
    exact trained
  have still : ackPair z f.val = f.val := ackPair_due (by rw [pair]; exact due)
  have returned : creditPlaced f.val z = modPair f.val (placeCredit (0, 0)) z := by
    rw [creditPlaced, still, pair, creditReturn_placed]
  have placed : pairOf (creditPlaced f.val z) f.val = placeCredit (0, 0) (placeCounts counts (pairOf s f.val)) := by
    rw [returned, pairOf_modPair_trained (c := placeCredit (0, 0)) (fun _ => rfl) level', pair]
  have run : exec (.creditFlitDue f) s = .next (sendFirst f.val f.val (.credit counts) z) := by
    rw [creditFlitDue_eq due up own, if_pos ⟨hub, room, by rw [free]; rfl⟩, if_pos level]
  obtain ⟨n, -⟩ := sendFirst_counts (body := .credit counts) level'
  obtain ⟨x, body, view, y, r, a, wire⟩ := sendFirst_sends (body := .credit counts) level'
  obtain ⟨typ, list⟩ := sentOf_credit (s := y) (f := f.val) (g := f.val) (seq := (pairOf s f.val).n) body
  obtain ⟨-, -, seq⟩ := sentOf_own y f.val (pairOf s f.val).n x
  have number : (pairOf z f.val).n = (pairOf s f.val).n := by
    rw [pair]
    rfl
  rw [number] at n wire
  have g : (pairOf (sendFirst f.val f.val (.credit counts) z) f.val).g =
      (placeCredit (0, 0) (placeCounts counts (pairOf s f.val))).g := by
    rw [← placed]
    exact (eq_of_ackView Pair.g (fun _ => rfl) view :)
  refine ⟨_, run, n, fun v small behind => ?_, _, wire, typ, seq, list⟩
  have freed := placeCounts_freed (pairOf s f.val) small (by omega)
  rw [← hcounts, max_eq_right behind.le] at freed
  rw [g, placeCredit_zero (by rw [freed]; omega), freed]

theorem creditFlitDue_bare (level : (pairOf s f.val).level = 2) : Gives (.creditFlitDue f) s (fun t =>
    (pairOf t f.val).n = (pairOf s f.val).n + 1 ∧
    ∃ x, t.out.wire = s.out.wire ++ [x] ∧ x.typ = 2 ∧ x.counts = List.replicate 6 0) := by
  obtain ⟨trained, -⟩ := sends_trained up
  have run : exec (.creditFlitDue f) s = .next (sendFirst f.val f.val (.credit (List.replicate 6 0)) s) := by
    rw [creditFlitDue_eq due up own, if_pos ⟨hub, room, by rw [free]; rfl⟩, if_neg (by omega)]
  obtain ⟨n, -⟩ := sendFirst_counts (body := .credit (List.replicate 6 0)) trained
  obtain ⟨x, body, -, y, r, a, wire⟩ := sendFirst_sends (body := .credit (List.replicate 6 0)) trained
  obtain ⟨typ, list⟩ := sentOf_credit (s := y) (f := f.val) (g := f.val) (seq := (pairOf s f.val).n) body
  exact ⟨_, run, n, _, wire, typ, list⟩

end

/-- Settles O45: a fibre that carries nothing for others takes its turns as `turn_own` lists them. What leaves is the `sentOf` of the body
with a header of its own (`headed`), and of the pair a first sending moves N, the replay buffer and the credits placed
(`sendFirst_sends`), an acknowledgement what the pair owes (`ackView`); a Credit flit returns all that is freed, so that its header
returns nothing more (`creditReturn_placed`). -/
theorem flitsLeaveInTheServiceOrder : Obligations.FlitsLeaveInTheServiceOrder := by
  unfold Obligations.FlitsLeaveInTheServiceOrder
  refine fun s f => ⟨flitSend_idles, fun hub lit locked goes serves => ?_, fun hub up own due room => ⟨creditFlitDue_waits due up own,
    creditFlitDue_counts due hub up own room, creditFlitDue_bare due hub up own room⟩⟩
  have on : FibreServes s f.val := ⟨hub, lit, locked, goes, serves⟩
  exact ⟨flitSend_trains on, fun trained up stays bare =>
    ⟨fun y again due => flitSend_replays on trained up stays bare again due, fun fresh room single =>
      ⟨fun c due => flitSend_ledger on trained up stays bare fresh room single due,
        fun v two p rest none_ next waits => flitSend_data on trained up stays bare fresh single none_ next waits,
        flitSend_idle on trained up stays bare fresh single⟩⟩⟩

end Sys2Proof.Laws

/-!
PROOF. Time messages (R343, R344): how they wait on their pair, and which pairs a direction uses after one has been sent or taken.
-/

namespace Sys2Proof.Laws

set_option Elab.async false

open Machine

/-! ### Queues (R330, R343) -/

/-- The payload waits on the virtual channel of the pair. -/
def Waits (f vc : Nat) (y : Bool × Payload) (t : State) : Prop := y ∈ mget [] (pairOf t f).q vc

/-- A payload goes behind the others of its virtual channel. -/
def behind (vc : Nat) (p : Payload) (x : Pair) : Pair := { x with q := mmod [] x.q vc (fun l => l ++ [(false, p)]) }

section

variable {s x : State} {f g vc w : Nat} {p : Payload} {y : Bool × Payload}

theorem behind_queue (vc : Nat) (p : Payload) (x : Pair) : mget [] (behind vc p x).q vc = mget [] x.q vc ++ [(false, p)] :=
  mget_mmod_self (d := []) (f := fun l => l ++ [(false, p)]) (by simp)

theorem mem_behind {x : Pair} (h : y ∈ mget [] x.q w) : y ∈ mget [] (behind vc p x).q w := by
  obtain rfl | other := eq_or_ne w vc
  · rw [behind_queue]
    exact List.mem_append_left _ h
  · rw [show (behind vc p x).q = mmod [] x.q vc (fun l => l ++ [(false, p)]) from rfl, mget_mmod_other other]
    exact h

theorem enqueue_pair (f vc : Nat) (p : Payload) (s : State) : pairOf (enqueue f vc p s) f = behind vc p (pairOf s f) :=
  pairOf_modPair_self f (behind vc p) s fun e => by
    have queue := behind_queue vc p (pairOf s f)
    rw [e] at queue
    exact List.append_ne_nil_of_right_ne_nil _ (List.cons_ne_nil _ _) queue.symm

theorem enqueue_waits (f vc : Nat) (p : Payload) (s : State) : Waits f vc (false, p) (enqueue f vc p s) := by
  rw [Waits, enqueue_pair, behind_queue]
  exact List.mem_append_right _ (List.mem_singleton_self _)

theorem Waits.enqueue (h : Waits f w y s) : Waits f w y (enqueue g vc p s) := by
  obtain rfl | other := eq_or_ne f g
  · rw [Waits, enqueue_pair]
    exact mem_behind h
  · rw [Waits, show pairOf (Machine.enqueue g vc p s) f = pairOf s f from pairOf_modPair_other g (behind vc p) s f other]
    exact h

end

/-! ### The pairs of a direction (R325, R332) -/

/-- What of a pair decides whether its fibre is in service, and in which slot. -/
abbrev serviceView (p : Pair) := (p.slot, p.level, p.withdrawn, p.parked, p.outOfService, p.training)

/-- The pairs stand in their slots and in service as they did. -/
def ServiceKept (s t : State) : Prop := ∀ f, serviceView (pairOf t f) = serviceView (pairOf s f)

section

variable {s t : State}

theorem ServiceKept.upPairs (h : ServiceKept s t) : upPairs t = upPairs s := by
  have slots : slotOf t = slotOf s := funext fun f => by
    rw [slotOf, slotOf, show (pairOf t f).slot = (pairOf s f).slot from congrArg Prod.fst (h f)]
  have fibres : fibreUp t = fibreUp s := funext fun f => by
    have same := h f
    simp only [Prod.mk.injEq] at same
    obtain ⟨-, level, withdrawn, parked, out, training⟩ := same
    rw [fibreUp, fibreUp, level, withdrawn, parked, out, training]
  funext d
  unfold Machine.upPairs Machine.slotPair
  rw [slots, fibres]

theorem ServiceKept.leadPair (h : ServiceKept s t) (d : Nat) : leadPair t d = leadPair s d := by
  have slots : slotOf t = slotOf s := funext fun f => by
    rw [slotOf, slotOf, show (pairOf t f).slot = (pairOf s f).slot from congrArg Prod.fst (h f)]
  rw [Machine.leadPair, Machine.leadPair, h.upPairs, Machine.slotPair, Machine.slotPair, slots]

theorem OnlyQueues.serviceKept (h : OnlyQueues s t) : ServiceKept s t := h.view serviceView fun _ _ => rfl

/-- A slot of the receive buffer that is freed leaves the pairs in service as they were. -/
theorem freeSlot_serviceKept (f v : Nat) (s : State) : ServiceKept s (freeSlot f v s) := fun k => by
  unfold freeSlot
  split
  · rfl
  · obtain rfl | other := eq_or_ne k f
    · rw [pairOf_modPair_self k _ s fun e => Bool.noConfusion (congrArg Pair.ackDue e)]
    · rw [pairOf_modPair_other f _ s k other]

/-- A slot of the receive buffer that is freed shows in the link spaces alone. -/
theorem freeSlot_eq (f v : Nat) (s : State) : freeSlot f v s = { s with links := (freeSlot f v s).links } := by
  unfold freeSlot
  split
  · rfl
  · rfl

/-- A package has eleven directions (R340). -/
theorem dirOf_lt : ∀ f : PairNo, dirOf f.val < 11 := by decide

theorem mem_liveDirs {f : PairNo} (up : upPairs s (dirOf f.val) ≠ []) : dirOf f.val ∈ liveDirs s := by
  rw [liveDirs, List.mem_filter, List.mem_range, Bool.not_eq_true', List.isEmpty_eq_false_iff]
  exact ⟨dirOf_lt f, up⟩

end

/-! ### Messages on every direction (R343) -/

section

variable {s x : State} {m : TimeMsg} {d : Nat} {l : List Nat}

theorem sendTime_onlyQueues {y : State} (h : OnlyQueues s y) : OnlyQueues s (sendTime m d y) := enqueue_onlyQueues h

/-- A time message that goes out on some directions waits on the lead pair of each. -/
theorem sendTimes_wait (mem : d ∈ l) (kept : OnlyQueues s x) :
    Waits (leadPair s d) 5 (false, .time m) (forEach l (sendTime m) x) := by
  refine forEach_reaches (P := OnlyQueues s) (Q := Waits (leadPair s d) 5 (false, .time m)) mem kept
    (fun b _ y h => sendTime_onlyQueues h) (fun y h => ?_) (fun b _ y h => Waits.enqueue h)
  rw [sendTime, sendDir, h.serviceKept.leadPair]
  exact enqueue_waits _ _ _ _

theorem sendTimes_time (m : TimeMsg) (l : List Nat) (x : State) : (forEach l (sendTime m) x).time = x.time :=
  forEach_keeps (P := fun y => y.time = x.time) rfl fun _ _ h => h

theorem sendTimes_health (m : TimeMsg) (l : List Nat) (x : State) : (forEach l (sendTime m) x).health = x.health :=
  forEach_keeps (P := fun y => y.health = x.health) rfl fun _ _ h => h

end

end Sys2Proof.Laws

/-!
PROOF. The Almanac (R342 to R347, R357): what an exchange with the parent, a beacon and a claim make of it, faults and all.
-/

namespace Sys2Proof.Laws

set_option Elab.async false

open Machine

/-! ### Faults leave the Almanac (R531) -/

section

variable {s x t : State} {code : Nat}

theorem raiseWith_time (code : Nat) (tile : Option Nat) (ctx : Nat) (also : List Nat) (s : State) :
    (raiseWith code tile ctx also s).time = s.time := (raiseWith_acts (Sub.refl _) (.refl s)).part .almanac

theorem raiseWhen_time (c : Bool) (code : Nat) (tile : Option Nat) (ctx : Nat) (also : List Nat) (s : State) :
    (onlyIf c (raiseWith code tile ctx also) s).time = s.time := by
  cases c with
  | false => rfl
  | true => exact raiseWith_time code tile ctx also s

/-- What has the same log has the fault counted as often. -/
theorem Raised.same_log (h : Raised code s x) (log : t.health = x.health) : Raised code s t := by
  rw [Raised, faultCount, log]
  exact h

end

/-! ### Exchanges with the parent (R344, R345) -/

/-- How many exchanges in a row have been within 1 ns. -/
def goodsAfter (θ : Int) (goods : Nat) : Nat := if decide (θ.natAbs ≤ thetaNs.natAbs) then min 16 (goods + 1) else 0

/-- The Almanac after an exchange: locked once 16 in a row have been good. -/
def judged (θ : Int) (y : Time) : Time :=
  { y with
    goods := goodsAfter θ y.goods, thetas := (θ :: y.thetas).take 8
    state := if 16 ≤ goodsAfter θ y.goods ∧ (y.state = 1 ∨ y.state = 3) then 2 else y.state }

/-- The offset is beyond `k` ns. -/
def beyond (k : Nat) (θ : Int) : Bool := decide (k * thetaNs.natAbs < θ.natAbs)

/-- A locked package notes whether its offset is beyond the limits. -/
def limitsNoted (θ : Int) (s : State) : State :=
  { s with time := { judged θ s.time with offAdvised := beyond 4 θ, offFatal := beyond 8 θ } }

/-- The advice on an offset beyond 4 ns, once per episode. -/
def offsetAdvised (d : Nat) (θ : Int) (s : State) : State :=
  onlyIf (beyond 4 θ && !s.time.offAdvised) (raiseWith 0xC004 none d [θ.natAbs]) (limitsNoted θ s)

/-- A locked package's limits. -/
def limitsJudged (d : Nat) (θ : Int) (s : State) : State :=
  onlyIf (beyond 8 θ && !s.time.offFatal) (raiseWith 0xC005 none d [θ.natAbs]) (offsetAdvised d θ s)

section

variable {s : State} {d : Nat} {θ : Int}

theorem judgeTheta_eq (d : Nat) (θ : Int) (s : State) : judgeTheta d θ s =
    if (judged θ s.time).state = 2 then limitsJudged d θ s else { s with time := judged θ s.time } := rfl

theorem limitsJudged_time (d : Nat) (θ : Int) (s : State) : (limitsJudged d θ s).time = (limitsNoted θ s).time := by
  rw [limitsJudged, raiseWhen_time, offsetAdvised, raiseWhen_time]

/-- The limits show in the model's own record of their episodes alone. -/
theorem judgeTheta_time (d : Nat) (θ : Int) (s : State) :
    ∃ a b, (judgeTheta d θ s).time = { judged θ s.time with offAdvised := a, offFatal := b } := by
  rw [judgeTheta_eq]
  split
  · exact ⟨_, _, limitsJudged_time d θ s⟩
  · exact ⟨_, _, rfl⟩

theorem judged_locked (locked : s.time.state = 2) : (judged θ s.time).state = 2 := by
  show (if _ then 2 else s.time.state) = 2
  split
  · rfl
  · exact locked

theorem judgeTheta_advised (locked : s.time.state = 2) (first : s.time.offAdvised = false) (wide : 4 * thetaNs.natAbs < θ.natAbs) :
    Raised 0xC004 s (judgeTheta d θ s) := by
  have advised : offsetAdvised d θ s = raiseWith 0xC004 none d [θ.natAbs] (limitsNoted θ s) := by
    rw [offsetAdvised, first, beyond, decide_eq_true wide]
    rfl
  have raised : Raised 0xC004 s (offsetAdvised d θ s) := by
    rw [advised]
    exact raiseWith_raised none d [θ.natAbs] (limitsNoted θ s)
  rw [judgeTheta_eq, if_pos (judged_locked locked)]
  exact Raised.later (codes := [0xC005]) (keys := []) raised ((CountsOnly.refl _).onlyIf fun h => raiseWith_counts (.inr (by simp)) h)

theorem judgeTheta_fatal (locked : s.time.state = 2) (first : s.time.offFatal = false) (far : 8 * thetaNs.natAbs < θ.natAbs) :
    Raised 0xC005 s (judgeTheta d θ s) := by
  have advised : CountsOnly [0xC004] [] s (offsetAdvised d θ s) :=
    CountsOnly.onlyIf (x := limitsNoted θ s) ((CountsOnly.refl s).upd rfl rfl rfl) fun h => raiseWith_counts (.inr (by simp)) h
  have fatal : limitsJudged d θ s = raiseWith 0xC005 none d [θ.natAbs] (offsetAdvised d θ s) := by
    rw [limitsJudged, first, beyond, decide_eq_true far]
    rfl
  rw [judgeTheta_eq, if_pos (judged_locked locked), fatal]
  exact advised.then_raised (raiseWith_raised none d [θ.natAbs] _)

end

/-! ### The answer of a neighbour (R342, R344) -/

/-- The delay of the direction, on the links as they are after the message. -/
def delayKept (f : Nat) (m : TimeMsg) (arrived : Nat) (s : State) : State :=
  { s with
    links := (freeSlot f 5 s).links
    time := { s.time with delays := mset 0 s.time.delays (dirOf f) (delayOf s f m arrived) } }

/-- The parent has answered: a package in holdover acquires again. -/
def parentHeard (s : State) : State :=
  { s with time := { s.time with lastResp := now s, state := if s.time.state = 3 then 1 else s.time.state, holdRaised := false } }

/-- The Almanac is stepped, once before Ready, or judged. -/
def steered (d : Nat) (θ : Int) (s : State) : State :=
  if s.time.state = 1 ∧ s.time.stepped = false ∧ s.boot.ready = false then
    resumeCalends { s with time := { s.time with
      alm := s.time.alm + BitVec.ofInt 64 (θ.fdiv thetaNs), stepped := true, thetas := [], goods := 0
      lastResp := (s.time.alm + BitVec.ofInt 64 (θ.fdiv thetaNs)).toNat
      lastBeacon := (s.time.alm + BitVec.ofInt 64 (θ.fdiv thetaNs)).toNat } }
  else if s.time.state = 1 ∨ s.time.state = 2 then judgeTheta d θ s else s

section

variable {s : State} {f : PairNo} {m : TimeMsg} {arrived : Nat}

theorem steered_delays (d : Nat) (θ : Int) (s : State) : (steered d θ s).time.delays = s.time.delays := by
  unfold steered
  split
  · rfl
  · split
    · obtain ⟨a, b, time⟩ := judgeTheta_time d θ s
      rw [time]
      rfl
    · rfl

/-- A package that has been stepped, or is no longer acquiring, is judged. -/
theorem steered_judges {d : Nat} {θ : Int} (follows : s.time.state = 1 ∨ s.time.state = 2)
    (once : ¬(s.time.state = 1 ∧ s.time.stepped = false ∧ s.boot.ready = false)) : steered d θ s = judgeTheta d θ s := by
  rw [steered, if_neg once, if_pos follows]

theorem timeResponse_eq (hub : s.boot.hub = true) : exec (.timeResponse f m arrived) s = .next (
    if s.time.parent = some (dirOf f.val) ∧ m.gen = s.time.gen then
      steered (dirOf f.val) (thetaOf s f.val m arrived) (parentHeard (delayKept f.val m arrived s))
    else delayKept f.val m arrived s) := by
  show execTimeResponse f m arrived s = _
  rw [execTimeResponse, if_pos hub, freeSlot_eq]
  rfl

theorem timeResponse_delay (hub : s.boot.hub = true) (positive : 0 < delayOf s f.val m arrived) :
    Gives (.timeResponse f m arrived) s (fun t => mget 0 t.time.delays (dirOf f.val) = delayOf s f.val m arrived) := by
  have kept : mget 0 (delayKept f.val m arrived s).time.delays (dirOf f.val) = delayOf s f.val m arrived :=
    mget_mset_self positive.ne'
  refine ⟨_, timeResponse_eq hub, ?_⟩
  split
  · rw [steered_delays]
    exact kept
  · exact kept

variable (hub : s.boot.hub = true) (parent : s.time.parent = some (dirOf f.val)) (gen : m.gen = s.time.gen)

include hub parent gen

theorem timeResponse_steers : exec (.timeResponse f m arrived) s = .next
    (steered (dirOf f.val) (thetaOf s f.val m arrived) (parentHeard (delayKept f.val m arrived s))) := by
  rw [timeResponse_eq hub, if_pos ⟨parent, gen⟩]

theorem timeResponse_steps (acquires : s.time.state = 1) (first : s.time.stepped = false) (early : s.boot.ready = false) :
    Gives (.timeResponse f m arrived) s (fun t =>
      t.time.alm = s.time.alm + BitVec.ofInt 64 ((thetaOf s f.val m arrived).fdiv thetaNs) ∧ t.time.stepped = true) := by
  have state : (parentHeard (delayKept f.val m arrived s)).time.state = 1 := by
    show (if s.time.state = 3 then 1 else s.time.state) = 1
    rw [acquires]
    rfl
  refine ⟨_, timeResponse_steers hub parent gen, ?_⟩
  rw [steered, if_pos ⟨state, first, early⟩]
  exact ⟨rfl, rfl⟩

theorem timeResponse_locks (follows : s.time.state = 1 ∨ s.time.state = 3) (stepped : s.time.stepped = true)
    (many : 15 ≤ s.time.goods) (good : (thetaOf s f.val m arrived).natAbs ≤ thetaNs.natAbs) :
    Gives (.timeResponse f m arrived) s (fun t => t.time.state = 2 ∧ t.time.alm = s.time.alm ∧ t.time.lastResp = now s) := by
  set x := parentHeard (delayKept f.val m arrived s) with hx
  have state : x.time.state = 1 := by
    show (if s.time.state = 3 then 1 else s.time.state) = 1
    obtain acquires | holds := follows
    · rw [acquires]
      rfl
    · rw [if_pos holds]
  have once : x.time.stepped ≠ false := by
    show s.time.stepped ≠ false
    rw [stepped]
    exact Bool.noConfusion
  have goods : goodsAfter (thetaOf s f.val m arrived) x.time.goods = 16 := by
    rw [goodsAfter, decide_eq_true good, if_pos rfl]
    exact min_eq_left (Nat.succ_le_succ many)
  have run := timeResponse_steers (arrived := arrived) hub parent gen
  rw [← hx, steered_judges (.inl state) fun h => once h.2.1] at run
  obtain ⟨a, b, time⟩ := judgeTheta_time (dirOf f.val) (thetaOf s f.val m arrived) x
  refine ⟨_, run, ?_⟩
  beta_reduce
  rw [time]
  refine ⟨?_, rfl, rfl⟩
  show (if 16 ≤ goodsAfter _ x.time.goods ∧ (x.time.state = 1 ∨ x.time.state = 3) then 2 else x.time.state) = 2
  rw [if_pos ⟨goods.ge, .inl state⟩]

theorem timeResponse_limits (locked : s.time.state = 2) : Gives (.timeResponse f m arrived) s (fun t =>
    t.time.lastResp = now s ∧ t.time.state = 2 ∧
    (s.time.offAdvised = false → 4 * thetaNs.natAbs < (thetaOf s f.val m arrived).natAbs → Raised 0xC004 s t) ∧
    (s.time.offFatal = false → 8 * thetaNs.natAbs < (thetaOf s f.val m arrived).natAbs → Raised 0xC005 s t)) := by
  set x := parentHeard (delayKept f.val m arrived s) with hx
  have state : x.time.state = 2 := by
    show (if s.time.state = 3 then 1 else s.time.state) = 2
    rw [locked]
    rfl
  have run := timeResponse_steers (arrived := arrived) hub parent gen
  rw [← hx, steered_judges (.inr state) fun h => absurd (state.symm.trans h.1) (by decide)] at run
  obtain ⟨a, b, time⟩ := judgeTheta_time (dirOf f.val) (thetaOf s f.val m arrived) x
  have health : x.health = s.health := rfl
  refine ⟨_, run, ?_, ?_, fun first wide => Raised.of_health health (judgeTheta_advised state first wide),
    fun first far => Raised.of_health health (judgeTheta_fatal state first far)⟩
  · rw [time]
    rfl
  · rw [time]
    exact judged_locked state

end

/-! ### Roots (R347) -/

/-- The Almanac under another root. -/
def underRoot (gen : U32) (root : U16) (y : Time) : Time :=
  { y with
    gen := gen, root := root, lostRoot := if gen = y.gen then y.lostRoot else y.root, heard := [], parent := none, myRank := none
    state := if y.state = 4 then 1 else y.state, stepped := y.stepped || decide (y.state = 4), goods := 0 }

section

variable {s : State} {f : PairNo} {m : TimeMsg} {d : Nat} {gen : U32} {root : U16}

theorem underRoot_state (gen : U32) (root : U16) (y : Time) : (underRoot gen root y).state ≠ 4 := by
  show (if y.state = 4 then 1 else y.state) ≠ 4
  split
  · decide
  · assumption

theorem adoptRoot_time (d : Nat) (gen : U32) (root : U16) (s : State) :
    (adoptRoot d gen root s).time = underRoot gen root s.time := raiseWhen_time _ _ _ _ _ _

theorem adoptRoot_raised (known : s.time.gen ≠ 0) : Raised 0xC001 s (adoptRoot d gen root s) := by
  have succeeds : adoptRoot d gen root s =
      raiseWith 0xC001 none d [root.toNat] { s with time := underRoot gen root s.time } :=
    if_pos (by rw [decide_eq_true known, Bool.or_true])
  rw [succeeds]
  exact raiseWith_raised none d [root.toNat] { s with time := underRoot gen root s.time }

/-- A higher generation prevails. -/
theorem prevails_higher (higher : s.time.gen.toNat < m.gen.toNat) : prevails s m = true := by
  rw [prevails, decide_eq_true higher, Bool.true_or]

theorem prevails_lower (lower : m.gen.toNat < s.time.gen.toNat) : prevails s m = false := by
  have other : m.gen ≠ s.time.gen := fun e => by
    rw [e] at lower
    exact lt_irrefl _ lower
  rw [prevails, decide_eq_false lower.not_gt, decide_eq_false other]
  rfl

/-- What is followed already does not prevail. -/
theorem prevails_followed (same : m.gen = s.time.gen) (root : m.root = s.time.root) : prevails s m = false := by
  rw [prevails, same, root, decide_eq_false (lt_irrefl _), decide_eq_false (not_not_intro rfl), Bool.and_false, Bool.false_and]
  rfl

end

/-! ### Claims (R347) -/

/-- A message of the root has been heard now. -/
def rootHeard (s : State) : State := { s with time := { s.time with lastBeacon := now s } }

/-- A claim that prevails is adopted, and passed on in every other direction. -/
def claimAdopted (d : Nat) (m : TimeMsg) (s : State) : State :=
  forEach ((liveDirs (rootHeard (adoptRoot d m.gen m.root s))).filter (fun e => decide (e ≠ d))) (sendTime m)
    (rootHeard (adoptRoot d m.gen m.root s))

section

variable {s : State} {f : PairNo} {m : TimeMsg} {d : Nat}

theorem claim_eq (hub : s.boot.hub = true) : exec (.claim f m) s = .next (
    if prevails s m then claimAdopted (dirOf f.val) m (freeSlot f.val 5 s) else freeSlot f.val 5 s) := by
  have same : prevails (freeSlot f.val 5 s) m = prevails s m := by
    rw [freeSlot_eq]
    rfl
  show execClaim f m s = _
  rw [execClaim, if_pos hub, ← same]
  rfl

theorem claimAdopted_time (d : Nat) (m : TimeMsg) (s : State) :
    (claimAdopted d m s).time = { underRoot m.gen m.root s.time with lastBeacon := now s } := by
  rw [claimAdopted, sendTimes_time, rootHeard, now, adoptRoot_time]
  rfl

theorem claimAdopted_raised (known : s.time.gen ≠ 0) : Raised 0xC001 s (claimAdopted d m s) :=
  Raised.same_log (adoptRoot_raised known) (sendTimes_health m _ (rootHeard (adoptRoot d m.gen m.root s)))

theorem claim_prevails (hub : s.boot.hub = true) (higher : s.time.gen.toNat < m.gen.toNat) (known : s.time.gen ≠ 0) :
    Gives (.claim f m) s (fun t => t.time.gen = m.gen ∧ t.time.root = m.root ∧ t.time.state ≠ 4 ∧ t.time.lastBeacon = now s ∧
      Raised 0xC001 s t) := by
  have run := claim_eq (f := f) (m := m) hub
  rw [prevails_higher higher, if_pos rfl, freeSlot_eq] at run
  set x : State := { s with links := (freeSlot f.val 5 s).links }
  have raised : Raised 0xC001 x (claimAdopted (dirOf f.val) m x) := claimAdopted_raised known
  refine ⟨_, run, ?_, ?_, ?_, ?_, Raised.of_health rfl raised⟩
  · rw [claimAdopted_time]
    rfl
  · rw [claimAdopted_time]
    rfl
  · rw [claimAdopted_time]
    exact underRoot_state m.gen m.root s.time
  · rw [claimAdopted_time]
    rfl

theorem claim_fails (hub : s.boot.hub = true) (lower : m.gen.toNat < s.time.gen.toNat) :
    Gives (.claim f m) s (fun t => t.time = s.time ∧ t.health = s.health) := by
  refine ⟨_, claim_eq hub, ?_⟩
  rw [prevails_lower lower, if_neg Bool.false_ne_true, freeSlot_eq]
  exact ⟨rfl, rfl⟩

end

/-! ### Beacons (R343) -/

/-- A beacon of the root in force has come on a direction. -/
def beaconHeard (d : Nat) (m : TimeMsg) (s : State) : State :=
  { s with time := { s.time with heard := mset 0 s.time.heard d (m.depth.toNat + 1), lastBeacon := now s } }

/-- The depth under the parent of least depth. -/
def depthHeard (s : State) : Nat :=
  match chooseParent s with
  | some d => mget 0 s.time.heard d
  | none => s.time.depth

/-- The parent of least depth is followed. -/
def parentSet (s : State) : State :=
  { s with time := { s.time with
    parent := chooseParent s, depth := depthHeard s, deepAdvised := decide (44 < depthHeard s)
    thetas := if decide (chooseParent s ≠ s.time.parent) then [] else s.time.thetas
    lastResp := if decide (chooseParent s ≠ s.time.parent) then now s else s.time.lastResp } }

/-- The advice on a deep tree, once per episode. -/
def depthAdvised (d : Nat) (s : State) : State :=
  onlyIf (decide (44 < depthHeard s) && !s.time.deepAdvised) (raiseWith 0xC006 none d [depthHeard s]) (parentSet s)

/-- A beacon that is taken sets or renews the parent, and goes on when the parent sent it. -/
def beaconTaken (d : Nat) (m : TimeMsg) (s : State) : State :=
  if chooseParent (beaconHeard d m s) = some d then
    forEach ((liveDirs (depthAdvised d (beaconHeard d m s))).filter (fun e => decide (e ≠ d)))
      (sendTime (timeMsg (depthAdvised d (beaconHeard d m s)) 3)) (depthAdvised d (beaconHeard d m s))
  else depthAdvised d (beaconHeard d m s)

/-- The package takes beacons of this root. -/
def Follows (s : State) (m : TimeMsg) : Prop := m.gen = s.time.gen ∧ m.root = s.time.root ∧ s.time.state ≠ 4

section

variable {s : State} {f : PairNo} {m : TimeMsg} {d : Nat}

theorem beacon_of_followed (hub : s.boot.hub = true) (follows : Follows s m) :
    exec (.beacon f m) s = .next (beaconTaken (dirOf f.val) m { s with links := (freeSlot f.val 5 s).links }) := by
  obtain ⟨gen, root, state⟩ := follows
  have stays : prevails { s with links := (freeSlot f.val 5 s).links } m = false := prevails_followed gen root
  show execBeacon f m s = _
  rw [execBeacon, if_pos hub, freeSlot_eq]
  dsimp only
  rw [stays, if_neg Bool.false_ne_true, if_pos ⟨gen, root, state⟩]
  rfl

theorem beacon_of_prevailing (hub : s.boot.hub = true) (higher : s.time.gen.toNat < m.gen.toNat) :
    exec (.beacon f m) s = .next (beaconTaken (dirOf f.val) m
      (adoptRoot (dirOf f.val) m.gen m.root { s with links := (freeSlot f.val 5 s).links })) := by
  set x : State := { s with links := (freeSlot f.val 5 s).links } with hx
  have wins : prevails x m = true := prevails_higher higher
  obtain ⟨gen, root, state⟩ : Follows (adoptRoot (dirOf f.val) m.gen m.root x) m := by
    rw [Follows, adoptRoot_time]
    exact ⟨rfl, rfl, underRoot_state m.gen m.root x.time⟩
  show execBeacon f m s = _
  rw [execBeacon, if_pos hub, freeSlot_eq, ← hx]
  dsimp only
  rw [wins, if_pos rfl, if_pos ⟨gen, root, state⟩]
  rfl

theorem depthAdvised_time (d : Nat) (s : State) : (depthAdvised d s).time = (parentSet s).time := raiseWhen_time _ _ _ _ _ _

theorem beaconTaken_rest (d : Nat) (m : TimeMsg) (s : State) :
    (beaconTaken d m s).time = (parentSet (beaconHeard d m s)).time ∧
      (beaconTaken d m s).health = (depthAdvised d (beaconHeard d m s)).health := by
  unfold beaconTaken
  split
  · rw [sendTimes_time, sendTimes_health, depthAdvised_time]
    exact ⟨rfl, rfl⟩
  · exact ⟨depthAdvised_time d _, rfl⟩

theorem beaconTaken_counts : CountsOnly [0xC006] [] s (beaconTaken d m s) := by
  have advised : CountsOnly [0xC006] [] s (depthAdvised d (beaconHeard d m s)) :=
    CountsOnly.onlyIf (x := parentSet (beaconHeard d m s)) ((CountsOnly.refl s).upd rfl rfl rfl) fun h =>
      raiseWith_counts (.inr (by simp)) h
  obtain ⟨-, health⟩ := beaconTaken_rest d m s
  exact advised.upd (by rw [health]) (by rw [health]) (by rw [health])

theorem beaconTaken_advised (first : s.time.deepAdvised = false) (deep : 44 < depthHeard (beaconHeard d m s)) :
    Raised 0xC006 s (beaconTaken d m s) := by
  set x := beaconHeard d m s with hx
  have advised : depthAdvised d x = raiseWith 0xC006 none d [depthHeard x] (parentSet x) :=
    if_pos (by rw [decide_eq_true deep, show x.time.deepAdvised = false from first]; rfl)
  have raised : Raised 0xC006 s (depthAdvised d x) := by
    rw [advised]
    exact raiseWith_raised none d [depthHeard x] (parentSet x)
  exact Raised.same_log raised (beaconTaken_rest d m s).2

/-- The only direction on which a beacon has been heard is the parent's. -/
theorem chooseParent_only {k : Nat} (live : d ∈ liveDirs s) (heard : s.time.heard = [(d, k + 1)]) : chooseParent s = some d := by
  have once : (liveDirs s).count d = 1 := List.count_eq_one_of_mem (List.Nodup.filter _ List.nodup_range) live
  have only : (liveDirs s).filter (fun e => decide (mget 0 s.time.heard e ≠ 0)) = [d] := by
    have same : (fun e => decide (mget 0 s.time.heard e ≠ 0)) = fun e => decide (e = d) := by
      funext e
      rw [heard]
      by_cases own : e = d
      · simp [mget, own]
      · simp [mget, own]
    rw [same, List.filter_eq, once]
    rfl
  rw [chooseParent, only]
  rfl

theorem beacon_sets (hub : s.boot.hub = true) (follows : Follows s m) (first : s.time.heard = [])
    (up : upPairs s (dirOf f.val) ≠ []) : Gives (.beacon f m) s (fun t => t.time.parent = some (dirOf f.val) ∧
      t.time.depth = m.depth.toNat + 1 ∧ t.time.lastBeacon = now s ∧
      (s.time.deepAdvised = false → 44 ≤ m.depth.toNat → Raised 0xC006 s t)) := by
  have run := beacon_of_followed (f := f) hub follows
  have kept := freeSlot_serviceKept f.val 5 s
  rw [freeSlot_eq] at kept
  set x : State := { s with links := (freeSlot f.val 5 s).links } with hx
  set y := beaconHeard (dirOf f.val) m x with hy
  have live : dirOf f.val ∈ liveDirs y := mem_liveDirs (by
    show upPairs x (dirOf f.val) ≠ []
    rwa [kept.upPairs])
  have heard : y.time.heard = [(dirOf f.val, m.depth.toNat + 1)] := by
    show mset 0 s.time.heard (dirOf f.val) (m.depth.toNat + 1) = _
    rw [first]
    rfl
  have parent : chooseParent y = some (dirOf f.val) := chooseParent_only live heard
  have depth : depthHeard y = m.depth.toNat + 1 := by
    rw [depthHeard, parent, heard]
    exact if_pos rfl
  obtain ⟨time, -⟩ := beaconTaken_rest (dirOf f.val) m x
  rw [← hy] at time
  refine ⟨_, run, ?_, ?_, ?_, fun fresh deep => Raised.of_health rfl (beaconTaken_advised (s := x) fresh (by rw [← hy, depth]; omega))⟩
  · rw [time]
    exact parent
  · rw [time]
    exact depth
  · rw [time]
    rfl

theorem beacon_prevails (hub : s.boot.hub = true) (higher : s.time.gen.toNat < m.gen.toNat) (known : s.time.gen ≠ 0) :
    Gives (.beacon f m) s (fun t => t.time.gen = m.gen ∧ t.time.root = m.root ∧ t.time.state ≠ 4 ∧ Raised 0xC001 s t) := by
  have run := beacon_of_prevailing (f := f) hub higher
  set x : State := { s with links := (freeSlot f.val 5 s).links }
  set y := adoptRoot (dirOf f.val) m.gen m.root x with hy
  obtain ⟨time, -⟩ := beaconTaken_rest (dirOf f.val) m y
  have adopted : y.time = underRoot m.gen m.root s.time := adoptRoot_time _ _ _ x
  have raised : Raised 0xC001 x y := adoptRoot_raised known
  refine ⟨_, run, ?_, ?_, ?_, Raised.of_health (x := x) rfl (Raised.later (codes := [0xC006]) (keys := []) raised beaconTaken_counts)⟩
  · rw [time]
    show y.time.gen = m.gen
    rw [adopted]
    rfl
  · rw [time]
    show y.time.root = m.root
    rw [adopted]
    rfl
  · rw [time]
    show y.time.state ≠ 4
    rw [adopted]
    exact underRoot_state _ _ _

end

end Sys2Proof.Laws

/-!
PROOF. The root, holdover, the write of the Almanac and slice records (R342 to R347, R357), and the statement of the Almanac.
-/

namespace Sys2Proof.Laws

set_option Elab.async false

open Machine

/-! ### Messages that go out (R343, R344) -/

section

variable {s : State} (hub : s.boot.hub = true)

include hub

theorem timeRequestTick_sends {d : Nat} (live : d ∈ liveDirs s) : Gives .timeRequestTick s (fun t =>
    Waits (leadPair s d) 5 (false, .time { timeMsg s 1 with t1 := now s * 65536 }) t) :=
  ⟨_, congrArg Host.Outcome.next (if_pos hub), sendTimes_wait live (.refl s)⟩

theorem beaconTick_sends {d : Nat} (live : d ∈ liveDirs s) (root : s.time.state = 4) : Gives .beaconTick s (fun t =>
    t.time.lastBeacon = now s ∧ Waits (leadPair s d) 5 (false, .time (timeMsg s 3)) t) := by
  refine ⟨_, congrArg Host.Outcome.next (if_pos ⟨hub, root⟩), ?_, sendTimes_wait live ((OnlyQueues.refl s).upd rfl)⟩
  rw [sendTimes_time]

theorem timeRequest_answers (f : PairNo) (m : TimeMsg) (arrived sent : Nat) : Gives (.timeRequest f m arrived sent) s (fun t =>
    Waits f.val 5 (false, .time { timeMsg s 2 with t1 := m.t1, t2 := arrived, t3 := sent }) t) :=
  ⟨_, congrArg Host.Outcome.next (if_pos hub), enqueue_waits _ _ _ _⟩

end

/-! ### Succession of the root (R347, R557) -/

/-- The Almanac of a package that has claimed rootship. -/
def asRoot (own : U16) (y : Time) (now : Nat) : Time :=
  { y with
    lostRoot := y.root, gen := y.gen + 1, root := own, state := 4, parent := none, depth := 0, heard := []
    myRank := some (rankOf y.root.toNat own.toNat), stepped := true, lastBeacon := now, goods := 0, thetas := [] }

/-- The succession is raised, but for the first root. -/
def successionRaised (s : State) : State :=
  onlyIf (!(decide (s.time.gen = 0) && s.time.heard.isEmpty)) (raiseWith 0xC001 none 0 [(BitVec.ofNat 16 (ownKey s)).toNat])
    { s with time := asRoot (BitVec.ofNat 16 (ownKey s)) s.time (now s) }

section

variable {s : State}

theorem claimRoot_eq (s : State) : claimRoot s =
    forEach (liveDirs (successionRaised s)) (sendTime (timeMsg (successionRaised s) 4)) (successionRaised s) := rfl

theorem claimRoot_time (s : State) : (claimRoot s).time = asRoot (BitVec.ofNat 16 (ownKey s)) s.time (now s) := by
  rw [claimRoot_eq, sendTimes_time, successionRaised, raiseWhen_time]

theorem claimRoot_raised (known : s.time.gen ≠ 0) : Raised 0xC001 s (claimRoot s) := by
  have succeeds : successionRaised s = raiseWith 0xC001 none 0 [(BitVec.ofNat 16 (ownKey s)).toNat]
      { s with time := asRoot (BitVec.ofNat 16 (ownKey s)) s.time (now s) } :=
    if_pos (by rw [decide_eq_false known]; rfl)
  have raised : Raised 0xC001 s (successionRaised s) := by
    rw [succeeds]
    exact raiseWith_raised none 0 _ { s with time := asRoot (BitVec.ofNat 16 (ownKey s)) s.time (now s) }
  rw [claimRoot_eq]
  exact Raised.same_log raised (sendTimes_health _ _ _)

theorem rootClaim_claims (hub : s.boot.hub = true) (running : s.time.state ≠ 0) (other : s.time.state ≠ 4)
    (placed : s.fabric.coord.isSome = true)
    (silent : s.time.lastBeacon + 1000000 + 100000 * rankOf s.time.root.toNat (ownKey s) ≤ now s) :
    Gives .rootClaim s (fun t => t.time.state = 4 ∧ t.time.gen = s.time.gen + 1 ∧
      t.time.root = BitVec.ofNat 16 (ownKey s) ∧ t.time.depth = 0 ∧ t.time.parent = none ∧ t.time.alm = s.time.alm ∧
      (s.time.gen ≠ 0 → Raised 0xC001 s t)) := by
  refine ⟨claimRoot s, congrArg Host.Outcome.next (if_pos ⟨hub, running, other, placed, silent⟩), ?_⟩
  beta_reduce
  rw [claimRoot_time]
  exact ⟨rfl, rfl, rfl, rfl, rfl, rfl, claimRoot_raised⟩

theorem rootClaim_waits (early : now s < s.time.lastBeacon + 1000000 + 100000 * rankOf s.time.root.toNat (ownKey s)) :
    Gives .rootClaim s (fun t => t = s) :=
  ⟨s, congrArg Host.Outcome.next (if_neg fun h => absurd h.2.2.2.2 early.not_ge), rfl⟩

/-! ### Holdover (R346) -/

/-- The Almanac in holdover. -/
def inHoldover (d : Nat) (s : State) : State :=
  { s with time := { s.time with
    state := 3, holdSince := now s, parent := none, heard := mset 0 s.time.heard d 0, goods := 0, thetas := [], holdRaised := false } }

theorem holdoverEntry_eq {d : Nat} (parent : s.time.parent = some d) : exec .holdoverEntry s = .next (
    if (s.time.state = 1 ∨ s.time.state = 2) ∧ s.time.lastResp + 256000 ≤ now s then raise 0xC002 d (inHoldover d s) else s) := by
  show execHoldoverEntry s = _
  rw [execHoldoverEntry, parent]
  rfl

theorem holdoverEntry_enters {d : Nat} (parent : s.time.parent = some d) (follows : s.time.state = 1 ∨ s.time.state = 2)
    (silent : s.time.lastResp + 256000 ≤ now s) : Gives .holdoverEntry s (fun t => t.time.state = 3 ∧ t.time.parent = none ∧
      t.time.holdSince = now s ∧ t.time.alm = s.time.alm ∧ Raised 0xC002 s t) := by
  have run := holdoverEntry_eq parent
  rw [if_pos ⟨follows, silent⟩] at run
  have raised : Raised 0xC002 (inHoldover d s) (raise 0xC002 d (inHoldover d s)) := raise_raised d _
  refine ⟨_, run, ?_⟩
  beta_reduce
  rw [show (raise 0xC002 d (inHoldover d s)).time = (inHoldover d s).time from raiseWith_time _ _ _ _ _]
  exact ⟨rfl, rfl, rfl, rfl, raised⟩

theorem holdoverEntry_waits {d : Nat} (parent : s.time.parent = some d) (early : now s < s.time.lastResp + 256000) :
    Gives .holdoverEntry s (fun t => t = s) := by
  refine ⟨s, ?_, rfl⟩
  rw [holdoverEntry_eq parent, if_neg fun h => absurd h.2 early.not_ge]

theorem holdoverTimeout_raises (holds : s.time.state = 3) (first : s.time.holdRaised = false)
    (long : s.time.holdSince + 1000000 * odNum s 0xA0000A 20 < now s) :
    Gives .holdoverTimeout s (fun t => t.time.holdRaised = true ∧ Raised 0xC003 s t) := by
  set x : State := { s with time := { s.time with holdRaised := true } } with hx
  have raised : Raised 0xC003 x (raise 0xC003 0 x) := raise_raised 0 x
  refine ⟨raise 0xC003 0 x, congrArg Host.Outcome.next (if_pos ⟨holds, first, long⟩), ?_, raised⟩
  rw [show (raise 0xC003 0 x).time = x.time from raiseWith_time _ _ _ _ _]

theorem holdoverTimeout_waits (early : now s ≤ s.time.holdSince + 1000000 * odNum s 0xA0000A 20) :
    Gives .holdoverTimeout s (fun t => t = s) :=
  ⟨s, congrArg Host.Outcome.next (if_neg fun h => absurd h.2.2 early.not_gt), rfl⟩

end

/-! ### The Almanac is written (R342) -/

/-- `ALMANAC`, OD 0xA000.0C. -/
def almanacRow : OdRow := ⟨0xA000, 0x0C, 5, 8, .operator, some .installer, true, 0, 0, 0, 18446744073709551615⟩

theorem odRow_almanac : odRow 0xA000 0x0C = some almanacRow := by decide

section

variable {s : State} {q : OdReq}

theorem writeStatus_almanac (v : U64) : writeStatus s almanacRow .maker 0 (leBytes 8 v.toNat) =
    if decide (s.time.state ≠ 0) then odState else odOk := by
  have value : leNat (leBytes 8 v.toNat) = v.toNat := leNat_leBytes v.isLt
  have range : rangeOk s almanacRow (leBytes 8 v.toNat) = true := rangeOk_of_bounds (k := 0xA0000C) rfl (by decide) rfl
    (Nat.zero_le _) (by rw [value]; exact Nat.le_of_lt_succ v.isLt)
  have state : stateRefuses s .maker 0xA0000C (leBytes 8 v.toNat) = decide (s.time.state ≠ 0) := rfl
  rw [writeStatus_of_range rfl (leBytes_length 8 _) range, show almanacRow.key = 0xA0000C from rfl, state]

theorem odEffect_almanac (data old : List Byte) (s : State) : odEffect 0xA0000C data old s =
    resumeCalends { s with time := { s.time with alm := BitVec.ofNat 64 (leNat data) } } := rfl

theorem almanacSet_takes (h : MakerWrites s q) (v : U64) (free : s.time.state = 0) :
    Gives (.almanacSet q v) s (fun t => t.time.alm = v ∧ Answers q odOk [] s t) := by
  have ok : writeStatus s almanacRow .maker 0 (leBytes 8 v.toNat) = odOk := by
    rw [writeStatus_almanac, free]
    rfl
  obtain ⟨old, y, stand, run⟩ := odPut_effect_opticsStand (size := 8) h odRow_almanac (by decide) (by decide) rfl ok
  have value : leNat (leBytes 8 v.toNat) = v.toNat := leNat_leBytes v.isLt
  rw [show almanacRow.key = 0xA0000C from rfl, odEffect_almanac, value, BitVec.ofNat_toNat, BitVec.setWidth_eq] at run
  exact ⟨_, run, rfl, respond_answers odOk []
    (x := resumeCalends { y with time := { y.time with alm := v } }) stand.answers⟩

theorem almanacSet_refused (h : MakerWrites s q) (v : U64) (synchronised : s.time.state ≠ 0) :
    Gives (.almanacSet q v) s (fun t => t.time.alm = s.time.alm ∧ Answers q odState [] s t) := by
  have refused : writeStatus s almanacRow .maker 0 (leBytes 8 v.toNat) = odState := by
    rw [writeStatus_almanac, decide_eq_true synchronised]
    rfl
  obtain ⟨y, stand, run⟩ := odPut_refused_opticsStand (size := 8) h odRow_almanac (by decide) refused
  exact ⟨_, run, congrArg Time.alm stand.time, respond_answers odState [] stand.answers⟩

end

/-! ### Slice records (R357, R528) -/

section

variable {s : State} {f : PairNo} {rc : SliceRec}

/-- A halt leaves the refusal of launches as it is. -/
theorem raiseHalt_refuse (code : Nat) (tile : Option Nat) (s : State) : (raiseHalt code tile s).frames.refuse = s.frames.refuse := by
  have failed : (failHeld 2 code 0 2 s).frames.refuse = s.frames.refuse := by
    obtain ⟨seen, frames⟩ := failHeld_frames 2 code 0 2 s
    rw [frames]
  unfold raiseHalt
  split
  · split
    · dsimp only
      obtain ⟨seen, frames⟩ := sendOwn_frames _ _
      rw [frames]
      split
      · rfl
      · rfl
    · exact failed
  · exact failed

/-- A Job-fatal fault leaves the refusal of launches as it is. -/
theorem raise_refuse {code : Nat} (ctx : Nat) (s : State) (job : sevOf code = 2) : (raise code ctx s).frames.refuse = s.frames.refuse := by
  have halts : raise code ctx s = raiseHalt code none (logWith code none ctx [] s) := by
    simp only [raise, raiseFault, raiseWith, job]
  rw [halts, raiseHalt_refuse, (logWith_acts (Sub.refl _) (.refl s)).part .frames]

theorem sliceRecord_eq (hub : s.boot.hub = true) (inside : dirInside s (dirOf f.val) = true) : exec (.sliceRecord f rc) s = .next (
    if rc.seasonId ≠ s.fabric.seasonId ∨ rc.origin ≠ (ownSlice s).origin ∨ rc.size ≠ s.fabric.size ∨ rc.splice ≠ s.fabric.splice ∨
      rc.outOfService = true then sliceDisagrees (dirOf f.val) { s with links := (freeSlot f.val 5 s).links }
    else { s with links := (freeSlot f.val 5 s).links }) := by
  show execSliceRecord f rc s = _
  rw [execSliceRecord, if_pos hub, freeSlot_eq]
  have same : dirInside { s with links := (freeSlot f.val 5 s).links } (dirOf f.val) = true := inside
  simp only [same, true_and]
  rfl

theorem sliceRecord_disagrees (hub : s.boot.hub = true) (inside : dirInside s (dirOf f.val) = true)
    (other : rc.seasonId ≠ s.fabric.seasonId ∨ rc.size ≠ s.fabric.size ∨ rc.splice ≠ s.fabric.splice ∨ rc.outOfService = true) :
    Gives (.sliceRecord f rc) s (fun t => Raised 0x6014 s t ∧ (s.frames.refuse = none → t.frames.refuse = some 0x6014) ∧
      (∀ c, s.frames.refuse = some c → t.frames.refuse = some c)) := by
  have differs : rc.seasonId ≠ s.fabric.seasonId ∨ rc.origin ≠ (ownSlice s).origin ∨ rc.size ≠ s.fabric.size ∨
      rc.splice ≠ s.fabric.splice ∨ rc.outOfService = true := by
    obtain h | h := other
    · exact .inl h
    · exact .inr (.inr h)
  have run := sliceRecord_eq (rc := rc) hub inside
  rw [if_pos differs] at run
  set x : State := { s with links := (freeSlot f.val 5 s).links }
  have health : (refuseLaunches 0x6014 x).health = s.health := by
    unfold refuseLaunches
    split
    · rfl
    · rfl
  have raised : Raised 0x6014 (refuseLaunches 0x6014 x) (sliceDisagrees (dirOf f.val) x) := raise_raised _ _
  have refuse : (sliceDisagrees (dirOf f.val) x).frames.refuse = (refuseLaunches 0x6014 x).frames.refuse :=
    raise_refuse _ _ (by decide)
  refine ⟨_, run, Raised.of_health health raised, fun open_ => ?_, fun c refused => ?_⟩
  · rw [refuse, refuseLaunches, show x.frames.refuse = none from open_]
    rfl
  · rw [refuse, refuseLaunches, show x.frames.refuse = some c from refused]
    exact refused

theorem sliceRecord_agrees (hub : s.boot.hub = true) (inside : dirInside s (dirOf f.val) = true)
    (same : rc = { ownSlice s with outOfService := false }) :
    Gives (.sliceRecord f rc) s (fun t => t.frames = s.frames ∧ t.health = s.health) := by
  refine ⟨_, sliceRecord_eq hub inside, ?_⟩
  rw [if_neg (by subst same; simp [ownSlice])]
  exact ⟨rfl, rfl⟩

end

/-- Settles O48: a message that is taken shows in the link spaces alone (`freeSlot_eq`), one that is sent waits on its lead pair
(`sendTimes_wait`), and a fault leaves the Almanac (`raiseWith_time`); what an answer, a beacon and a claim make of the Almanac is said by
`timeResponse_eq`, `beaconTaken_rest`, `claimAdopted_time` and `claimRoot_time`. A slice record's fault is Job-fatal, so that the refusal
in force stays (`raise_refuse`). -/
theorem theAlmanacFollowsParentRootAndHoldover : Obligations.TheAlmanacFollowsParentRootAndHoldover := by
  unfold Obligations.TheAlmanacFollowsParentRootAndHoldover
  refine fun s hub => ⟨fun d live => ⟨timeRequestTick_sends hub live, beaconTick_sends hub live⟩,
    fun other => ⟨s, congrArg Host.Outcome.next (if_neg fun h => other h.2), rfl⟩, timeRequest_answers hub,
    fun f m arrived => ⟨timeResponse_delay hub, fun parent gen => ⟨timeResponse_steps hub parent gen,
      timeResponse_locks hub parent gen, timeResponse_limits hub parent gen⟩⟩,
    fun f m => ⟨fun gen root state first up => beacon_sets hub ⟨gen, root, state⟩ first up,
      fun higher known => ⟨beacon_prevails hub higher known, claim_prevails hub higher known⟩, claim_fails hub⟩,
    fun running other placed => ⟨rootClaim_claims hub running other placed, rootClaim_waits⟩,
    fun d parent follows => ⟨holdoverEntry_enters parent follows, holdoverEntry_waits parent⟩,
    fun holds first => ⟨holdoverTimeout_raises holds first, holdoverTimeout_waits⟩,
    fun q v h => ⟨almanacSet_takes h v, almanacSet_refused h v⟩,
    fun f rc inside => ⟨sliceRecord_disagrees hub inside, sliceRecord_agrees hub inside⟩⟩

end Sys2Proof.Laws

/-!
PROOF. The acknowledgement of a piece of no bytes (R377), where the table of counters lists a counter twice.
-/

namespace Sys2Proof.Laws

set_option Elab.async false

open Machine

/-- The request of the one piece of tile 0's Transfer of tag 5. -/
def emptyPieceReq : Req :=
  { kind := .piece, tile := 0, unit := 5, dest := 0, die := 0, remote := true, addr := 0, len := 0, prio := false, nofar := false
    n0 := 0, cnt := 1, piece := 0, wr := [], aop := 0, fmt := 0, word0 := 0, word1 := 0, token := none, sent := 0, answered := false
    poison := false, undeliverable := false, data := [] }

/-- A Transfer of no bytes waits for the acknowledgement of its piece, and the table of counters lists 0x400403 twice, first with no
count: a table that no command builds. -/
def countedTwice : State :=
  { State.reset with
    boot := { State.reset.boot with hub := true }
    fabric := { State.reset.fabric with coord := some 0, reqs := [(5, some emptyPieceReq)] }
    health := { State.reset.health with cnt := [(0x400403, 0), (0x400403, 7)] }
    tiles := [(0, { xfers := [{ pos := 0, tag := 5, way := 0, bytes := 0, pshift := 12, status := 0, pieces := [], need := 1
                                code := 0 }] })] }

/-- The acknowledgement of that piece. -/
def emptyPieceAck : Packet := { kind := 0x0A, rtag := 5 }

/-- A count of nothing takes the first of the counter's entries off the table; the second reads 7. -/
theorem countedTwice_acknowledged : ∃ t, execPieceAcknowledgement 0 emptyPieceAck countedTwice = .next t ∧ cntOf t 0x400403 = 7 :=
  ⟨_, rfl, by decide +kernel⟩

/-- Refutes O50: in a state whose table of counters lists a counter twice, the acknowledgement of a piece of no bytes changes what the
counter reads. No command builds such a table, and the statement asks neither for a canonical one nor for a piece with bytes. -/
theorem not_responsesResolveWhatWaitsForThem : ¬ Obligations.ResponsesResolveWhatWaitsForThem := by
  intro h
  obtain ⟨-, packets, -⟩ := h countedTwice
  obtain ⟨-, pieces⟩ := packets 0 emptyPieceAck
  obtain ⟨-, acknowledged⟩ := pieces _ 5 emptyPieceReq rfl rfl
  obtain ⟨u, run, x, -, -, done⟩ := acknowledged ⟨rfl, rfl, rfl, rfl, rfl⟩ rfl
  obtain ⟨-, counted⟩ := done (by decide)
  obtain ⟨t, run', reads⟩ := countedTwice_acknowledged
  obtain rfl := Host.Outcome.next.inj (run'.symm.trans run)
  exact absurd (counted.symm.trans reads) (by decide)

end Sys2Proof.Laws

/-!
PROOF. Fences and requests (R268, R371, R383): what a Fence of a tile and a request read as after the operations that change them, and
what an entry's issue and its end leave of the tile.
-/

namespace Sys2Proof.Laws

set_option Elab.async false

open Machine

/-! ### Fences of a tile (R382, R383) -/

/-- What a tile lists stays under a change that leaves that list alone. -/
theorem list_modTile {α : Type} (φ : Tile → List α) (bare : φ {} = []) {t i : Nat} {g : Tile → Tile} {s : State}
    (same : ∀ x, φ (g x) = φ x) (listed : φ (tileOf s t) ≠ []) : φ (tileOf (modTile i g s) t) = φ (tileOf s t) := by
  by_cases own : t = i
  · subst own
    rw [tileOf_modTile_self t g s fun e => listed (by rw [← same, e, bare]), same]
  · rw [tileOf_modTile_other i g s t own]

/-- A change of the entries with a property that keeps the property finds the first of them changed. -/
theorem find?_map_changed {α : Type} {P : α → Prop} [DecidablePred P] {f : α → α} (kept : ∀ x, P (f x) ↔ P x)
    {l : List α} {x : α} (found : l.find? (fun y => decide (P y)) = some x) :
    (l.map (fun y => if P y then f y else y)).find? (fun y => decide (P y)) = some (f x) := by
  induction l with
  | nil => exact absurd found (Option.some_ne_none x).symm
  | cons y l ih =>
    by_cases here : P y
    · rw [List.find?_cons_of_pos (by simpa using here)] at found
      rw [List.map_cons, if_pos here, List.find?_cons_of_pos (by simpa [kept] using here), Option.some.inj found]
    · rw [List.find?_cons_of_neg (by simpa using here)] at found
      rw [List.map_cons, if_neg here, List.find?_cons_of_neg (by simpa using here)]
      exact ih found

section

variable {s u : State} {t pos : Nat} {y : FenceRun}

theorem fences_ne_nil_of_fenceAt (h : fenceAt s t pos = some y) : (tileOf s t).fences ≠ [] :=
  List.ne_nil_of_mem (List.mem_of_find?_eq_some h)

theorem fenceAt_of_tiles (same : u.tiles = s.tiles) (t pos : Nat) : fenceAt u t pos = fenceAt s t pos := by
  rw [fenceAt, fenceAt, tileOf_of_tiles same]

theorem fenceAt_modTile {i : Nat} {g : Tile → Tile} (same : ∀ x, (g x).fences = x.fences) (h : fenceAt s t pos = some y) :
    fenceAt (modTile i g s) t pos = some y := by
  rw [fenceAt, list_modTile Tile.fences rfl same (fences_ne_nil_of_fenceAt h)]
  exact h

theorem fenceAt_modFence {f : FenceRun → FenceRun} (kept : ∀ z, (f z).pos = z.pos) (h : fenceAt s t pos = some y) :
    fenceAt (modFence t pos f s) t pos = some (f y) := by
  have tile := tileOf_modTile_self t (fun x => { x with fences := x.fences.map (fun z => if z.pos = pos then f z else z) }) s
    fun e => fences_ne_nil_of_fenceAt h (List.map_eq_nil_iff.mp (congrArg Tile.fences e))
  rw [fenceAt, modFence, tile]
  exact find?_map_changed (P := fun z : FenceRun => z.pos = pos) (fun z => by rw [kept]) h

theorem pos_of_fenceAt (h : fenceAt s t pos = some y) : y.pos = pos := by simpa using List.find?_some h

end

/-! ### Write tokens (R383) -/

/-- A tile that has issued a write token to a destination. -/
def tokened (dest : Nat) (x : Tile) : Tile :=
  { x with nextOrd := x.nextOrd + 1, toks := mmod {} x.toks dest (fun k => { k with i := k.i + 1, o := k.o + 1 }) }

theorem tokenIssue_tiles (t dest : Nat) (s : State) : (tokenIssue t dest s).2.tiles = (modTile t (tokened dest) s).tiles := rfl

/-! ### Requests (R268, R371) -/

section

variable {s u : State}

theorem reqOf_of_fabric (same : u.fabric = s.fabric) (r : Nat) : reqOf u r = reqOf s r := by rw [reqOf, reqOf, same]

theorem reqOf_addReq_self (q : Req) (s : State) : reqOf (addReq q s).2 s.fabric.nextReq = some q :=
  mget_mset_self (d := none) (m := s.fabric.reqs) (Option.some_ne_none q)

theorem reqOf_addReq_older {r : Nat} (q : Req) (older : r < s.fabric.nextReq) : reqOf (addReq q s).2 r = reqOf s r :=
  mget_mset_other (d := none) (m := s.fabric.reqs) (v := some q) older.ne

/-- A request refused at its sender raises 0x6010 and is counted (R362). -/
theorem refuseRequest_spec (t ga : Nat) (s : State) : Raised 0x6010 s (refuseRequest t ga s) ∧
    cntOf (refuseRequest t ga s) 0x400407 = cntOf s 0x400407 + 1 := by
  have quiet : CountsOnly [0x6010] [] s (raiseWith 0x6010 (some t) ga [gaKey ga] s) :=
    raiseWith_counts (code := 0x6010) (.inr (by decide)) (.refl s)
  refine ⟨Raised.later (codes := []) (keys := [0x400407]) (raiseWith_raised _ _ _ s) (bump_counts (.inr (by decide)) (.refl _)), ?_⟩
  rw [refuseRequest, cntOf_bump_self _ (by decide), quiet.cnt _ (by decide) List.not_mem_nil]

end

/-! ### Packets (R358, R364) -/

theorem sendPacketGo_counts {fuel : Nat} {from_ : Option Nat} {p : Packet} {s x : State} (h : CountsOnly [0x6013] [] s x) :
    CountsOnly [0x6013] [] s (sendPacketGo fuel from_ p x) := by
  induction fuel generalizing from_ p x with
  | zero => exact h
  | succ fuel ih =>
    have faulted : CountsOnly [0x6013] [] s (packetFault 0x6013 p x) := raiseWith_counts (code := 0x6013) (.inr (by decide)) h
    unfold sendPacketGo
    split
    · split
      · exact h.upd rfl rfl rfl
      · dsimp only
        split
        · exact faulted
        · exact ih faulted
    · exact h

/-- A packet of this package raises no fault but 0x6013. -/
theorem sendPacket_counts (p : Packet) (s : State) : CountsOnly [0x6013] [] s (sendPacket p s) := sendPacketGo_counts (.refl s)

theorem sendPacket_tiles (p : Packet) (s : State) : (sendPacket p s).tiles = s.tiles :=
  (sendPacket_acts (Sub.refl _) (.refl s)).part .tiles

theorem sendPacket_fabric (p : Packet) (s : State) : (sendPacket p s).fabric = s.fabric :=
  (sendPacket_acts (Sub.refl _) (.refl s)).part .fabric

/-! ### The issue of an entry and its end (R64, R66) -/

section

variable {s : State} {t : Nat}

/-- An entry that has issued leaves the Transfers and the Fences of its tile. -/
theorem issued_tile (e : Entry) (st : (tileOf s t).st ≠ 0) : (tileOf (issued t e s) t).pos = (tileOf s t).pos + 1 ∧
    (tileOf (issued t e s) t).xfers = (tileOf s t).xfers ∧ (tileOf (issued t e s) t).fences = (tileOf s t).fences := by
  have issue := tileOf_issue e st
  obtain ⟨_, _, _, projected⟩ := evaluate_projected (s := Machine.issue t e s) (t := t) (by rw [issue]; exact st)
  rw [issued, projected, issue]
  exact ⟨rfl, rfl, rfl⟩

/-- The issue of an entry counts the faults of the projection and no others. -/
theorem issued_counts (t : Nat) (e : Entry) (s : State) : CountsOnly projectionCodes [] s (issued t e s) :=
  CountsOnly.trans (x := issue t e s) (.upd (.refl s) rfl rfl rfl) (evaluate_counts t (issue t e s))

/-- What an entry writes into its tile's buffer as it ends, after a change of the tile that leaves its slots, stands there when it has
completed, and its slot is free. -/
theorem complete_written {g : Tile → Tile} (same : ∀ x, (g x).st = x.st ∧ (g x).board = x.board) (st : (tileOf s t).st ≠ 0)
    (a pos : Nat) (l : List Byte) : bufBytes (complete t pos (modTile t g (bufWrite t a l s))) t a l.length = l ∧
      ∀ b ∈ (tileOf (complete t pos (modTile t g (bufWrite t a l s))) t).board, b.pos ≠ pos := by
  obtain ⟨alive, -⟩ := tileOf_modTile_slots (t := t) (s := bufWrite t a l s) same st
  have acts := complete_acts (a0 := t) (a1 := pos) (Sub.refl _) (.refl (modTile t g (bufWrite t a l s)))
  have bytes := bufByte_of_keep (s := bufWrite t a l s) (acts.part .buffers) acts.store t
  constructor
  · rw [bufBytes, bytes]
    exact bufBytes_bufWrite t a l s
  · intro b mem
    rw [board_complete pos (by rw [alive]; exact st)] at mem
    simpa using (List.mem_filter.mp mem).2

end

end Sys2Proof.Laws

/-!
PROOF. Fences (R372, R373, R382, R383): their issue, their release or acquire, and their end.
-/

namespace Sys2Proof.Laws

set_option Elab.async false

open Machine

section

variable {s : State} {t : TileNo}

/-! ### Issue (R383) -/

/-- The Fence that an entry issues. -/
def fenceRunOf (s : State) (t : Nat) (e : Entry) : FenceRun :=
  { pos := (tileOf s t).pos, op := fieldAt (descBytes s e 16) 1 1 % 4, scope := bit (fieldAt (descBytes s e 16) 1 1) 2
    target := BitVec.ofNat 14 (fieldAt (descBytes s e 16) 2 2), region := fieldAt (descBytes s e 16) 4 1
    status := fieldAt (descBytes s e 16) 8 4, ordinal := (tileOf s t).nextOrd, undelivered := 0, sent := false, answered := false
    epoch := 0 }

theorem execFence_eq {e : Entry} (entry : issuable s t.val 6 = some e) : execFence t s = .next (issued t.val e
    (modTile t.val (fun y => { y with fences := y.fences ++ [fenceRunOf s t.val e] }) s)) := by
  rw [execFence, entry]
  rfl

theorem fence_issues {e : Entry} (entry : issuable s t.val 6 = some e) :
    Gives (.fence t) s (fun u => (tileOf u t.val).pos = (tileOf s t.val).pos + 1 ∧ fenceRunOf s t.val e ∈ (tileOf u t.val).fences) := by
  have st : (tileOf s t.val).st ≠ 0 := by rw [st_of_issuable entry]; decide
  have held := tileOf_modTile_self t.val (fun y => { y with fences := y.fences ++ [fenceRunOf s t.val e] }) s (tile_ne_default st)
  obtain ⟨pos, -, fences⟩ := issued_tile e (s := modTile t.val (fun y => { y with fences := y.fences ++ [fenceRunOf s t.val e] }) s)
    (by rw [held]; exact st)
  refine ⟨_, execFence_eq entry, ?_, ?_⟩
  · rw [pos, held]
  · rw [fences, held]
    exact List.mem_append_right _ (List.mem_singleton_self _)

/-! ### Release (R372) -/

section

variable {pos : BitVec 12} {y : FenceRun}

/-- The global address of a region's first byte. -/
def regionGa (y : FenceRun) : Nat := gaMake y.target.toNat 0 (y.region * 2 ^ 26)

/-- The region's epoch raised at its home. -/
def regionRaised (y : FenceRun) (s : State) : State :=
  { s with store := { s.store with epochs := mmod 0 s.store.epochs y.region (fun e => e + 1) } }

/-- A release holds a write token, and its request waits. -/
def releaseAsked (t : Nat) (y : FenceRun) (s : State) : State :=
  (addReq (fenceReq (tokenIssue t y.target.toNat s).2 t y .release (some (tileOf s t).nextOrd) (regionGa y) (2 ^ 26))
    (tokenIssue t y.target.toNat s).2).2

theorem fenceAt_releaseAsked (fence : fenceAt s t.val pos.toNat = some y) :
    fenceAt (releaseAsked t.val y s) t.val pos.toNat = some y :=
  (fenceAt_of_tiles (tokenIssue_tiles t.val y.target.toNat s) t.val pos.toNat).trans
    (fenceAt_modTile (g := tokened y.target.toNat) (fun _ => rfl) fence)

theorem reqOf_releaseAsked (t : Nat) (y : FenceRun) (s : State) : reqOf (releaseAsked t y s) s.fabric.nextReq = some
    (fenceReq (tokenIssue t y.target.toNat s).2 t y .release (some (tileOf s t).nextOrd) (regionGa y) (2 ^ 26)) :=
  reqOf_addReq_self _ (tokenIssue t y.target.toNat s).2

/-- A release is to be sent. -/
structure ReleaseDue (s : State) (t : TileNo) (pos : BitVec 12) (y : FenceRun) : Prop where
  fence : fenceAt s t.val pos.toNat = some y
  op : y.op = 1
  unsent : y.sent = false
  clear : fenceClear s t.val y = true

theorem execRelease_home (due : ReleaseDue s t pos y) (own : y.target.toNat = ownKey s) : execRelease t pos s =
    .next (modFence t.val pos.toNat (fun z => { z with
      sent := true, answered := true, epoch := mget 0 (regionRaised y s).store.epochs y.region }) (regionRaised y s)) := by
  simp only [execRelease, due.fence, due.op, due.unsent, due.clear, own, pos_of_fenceAt due.fence, ne_eq, not_true, Bool.false_eq_true,
    Bool.true_eq_false, or_self, if_false, if_true]
  rfl

theorem execRelease_refused (due : ReleaseDue s t pos y) (other : y.target.toNat ≠ ownKey s)
    (barred : rightsOk s y.target.toNat 0 (y.region * 2 ^ 26) ((y.region + 1) * 2 ^ 26) 1 = false) : execRelease t pos s =
    .next (modFence t.val pos.toNat (fun z => { z with sent := true, answered := true }) (refuseRequest t.val (regionGa y) s)) := by
  simp only [execRelease, due.fence, due.op, due.unsent, due.clear, other, barred, pos_of_fenceAt due.fence, ne_eq, not_true,
    Bool.false_eq_true, Bool.true_eq_false, or_self, if_false, if_true]
  rfl

theorem execRelease_sent (due : ReleaseDue s t pos y) (other : y.target.toNat ≠ ownKey s)
    (may : rightsOk s y.target.toNat 0 (y.region * 2 ^ 26) ((y.region + 1) * 2 ^ 26) 1 = true) : ∃ p, execRelease t pos s =
    .next (modFence t.val pos.toNat (fun z => { z with sent := true }) (sendPacket p (releaseAsked t.val y s))) := by
  simp only [execRelease, due.fence, due.op, due.unsent, due.clear, other, may, pos_of_fenceAt due.fence, ne_eq, not_true,
    Bool.false_eq_true, Bool.true_eq_false, or_self, if_false]
  exact ⟨_, rfl⟩

theorem release_home (due : ReleaseDue s t pos y) (own : y.target.toNat = ownKey s)
    (some_ : mget 0 s.store.epochs y.region + 1 ≠ 0) :
    Gives (.release t pos) s (fun u => mget 0 u.store.epochs y.region = mget 0 s.store.epochs y.region + 1 ∧
      fenceAt u t.val pos.toNat = some { y with sent := true, answered := true, epoch := mget 0 s.store.epochs y.region + 1 }) := by
  have epoch : mget 0 (regionRaised y s).store.epochs y.region = mget 0 s.store.epochs y.region + 1 :=
    mget_mmod_self (d := 0) (m := s.store.epochs) (f := fun e => e + 1) some_
  refine ⟨_, execRelease_home due own, epoch, ?_⟩
  rw [← epoch]
  exact fenceAt_modFence (fun _ => rfl) due.fence

theorem release_refused (due : ReleaseDue s t pos y) (other : y.target.toNat ≠ ownKey s)
    (barred : rightsOk s y.target.toNat 0 (y.region * 2 ^ 26) ((y.region + 1) * 2 ^ 26) 1 = false) :
    Gives (.release t pos) s (fun u => Raised 0x6010 s u ∧
      fenceAt u t.val pos.toNat = some { y with sent := true, answered := true }) := by
  obtain ⟨raised, -⟩ := refuseRequest_spec t.val (regionGa y) s
  have tiles : (refuseRequest t.val (regionGa y) s).tiles = s.tiles := (refuseRequest_acts (Sub.refl _) (.refl s)).part .tiles
  exact ⟨_, execRelease_refused due other barred, Raised.same_log raised rfl,
    fenceAt_modFence (fun _ => rfl) ((fenceAt_of_tiles tiles _ _).trans due.fence)⟩

theorem release_sent (due : ReleaseDue s t pos y) (other : y.target.toNat ≠ ownKey s)
    (may : rightsOk s y.target.toNat 0 (y.region * 2 ^ 26) ((y.region + 1) * 2 ^ 26) 1 = true) :
    Gives (.release t pos) s (fun u => fenceAt u t.val pos.toNat = some { y with sent := true } ∧
      ∃ q, reqOf u s.fabric.nextReq = some q ∧ q.kind = .release ∧ q.dest = y.target ∧ q.token = some (tileOf s t.val).nextOrd) := by
  obtain ⟨p, run⟩ := execRelease_sent due other may
  have fence := (fenceAt_of_tiles (sendPacket_tiles p _) t.val pos.toNat).trans (fenceAt_releaseAsked due.fence)
  have req := (reqOf_of_fabric (sendPacket_fabric p _) _).trans (reqOf_releaseAsked t.val y s)
  exact ⟨_, run, fenceAt_modFence (fun _ => rfl) fence, _, req, rfl, rfl, rfl⟩

/-! ### Acquire (R373) -/

/-- A far copy is of a line of the Fence's region. -/
def farOfRegion (y : FenceRun) (k : Nat) : Bool :=
  decide (gaKey (k / 8 * 128) = y.target.toNat) && decide (gaSpace (k / 8 * 128) = 0) &&
    decide (field (gaLocal (k / 8 * 128)) 33 26 = y.region)

/-- The far copies of the Fence's region are dropped. -/
def regionDropped (y : FenceRun) (s : State) : State :=
  { s with store := { s.store with far := s.store.far.filter (fun c => !farOfRegion y c.1) } }

/-- The read of the region's epoch waits for its answer. -/
def epochAsked (t : Nat) (y : FenceRun) (s : State) : State :=
  (addReq (fenceReq (regionDropped y s) t y .epochRead none (gaMake y.target.toNat 2 (0x50000 + 4 * y.region)) 4) (regionDropped y s)).2

/-- An acquire is to be made. -/
structure AcquireDue (s : State) (t : TileNo) (pos : BitVec 12) (y : FenceRun) : Prop where
  fence : fenceAt s t.val pos.toNat = some y
  op : y.op = 2
  unsent : y.sent = false

theorem execAcquire_home (due : AcquireDue s t pos y) (own : y.target.toNat = ownKey s) : execAcquire t pos s =
    .next (modFence t.val pos.toNat
      (fun z => { z with sent := true, answered := true, epoch := mget 0 s.store.epochs y.region }) (regionDropped y s)) := by
  have kept (far : _) : ownKey { s with store := { s.store with far := far } } = ownKey s := rfl
  simp only [execAcquire, due.fence, due.op, due.unsent, own, kept, pos_of_fenceAt due.fence, regionDropped, farOfRegion, ne_eq, not_true,
    Bool.false_eq_true, or_self, if_false, if_true]

theorem execAcquire_sent (due : AcquireDue s t pos y) (other : y.target.toNat ≠ ownKey s)
    (may : rightsOk s y.target.toNat 0 (y.region * 2 ^ 26) ((y.region + 1) * 2 ^ 26) 0 = true) : ∃ p, execAcquire t pos s =
    .next (modFence t.val pos.toNat (fun z => { z with sent := true }) (sendPacket p (bump 0x400401 1 (epochAsked t.val y s)))) := by
  have kept (far : _) : ownKey { s with store := { s.store with far := far } } = ownKey s := rfl
  have may' (far : _) : rightsOk { s with store := { s.store with far := far } } y.target.toNat 0 (y.region * 2 ^ 26)
    ((y.region + 1) * 2 ^ 26) 0 = true := may
  simp only [execAcquire, due.fence, due.op, due.unsent, kept, other, may', pos_of_fenceAt due.fence, ne_eq, not_true,
    Bool.false_eq_true, Bool.true_eq_false, or_self, if_false]
  exact ⟨_, rfl⟩

theorem acquire_home (due : AcquireDue s t pos y) (own : y.target.toNat = ownKey s) : Gives (.acquire t pos) s (fun u =>
      fenceAt u t.val pos.toNat = some { y with sent := true, answered := true, epoch := mget 0 s.store.epochs y.region } ∧
      (∀ c ∈ u.store.far, farOfRegion y c.1 = false) ∧ u.store.epochs = s.store.epochs) :=
  ⟨_, execAcquire_home due own, fenceAt_modFence (fun _ => rfl) due.fence,
    fun _ mem => by simpa using (List.mem_filter.mp mem).2, rfl⟩

theorem acquire_sent (due : AcquireDue s t pos y) (other : y.target.toNat ≠ ownKey s)
    (may : rightsOk s y.target.toNat 0 (y.region * 2 ^ 26) ((y.region + 1) * 2 ^ 26) 0 = true) :
    Gives (.acquire t pos) s (fun u => fenceAt u t.val pos.toNat = some { y with sent := true } ∧
      cntOf u 0x400401 = cntOf s 0x400401 + 1 ∧
      ∃ q, reqOf u s.fabric.nextReq = some q ∧ q.kind = .epochRead ∧ q.dest = y.target) := by
  obtain ⟨p, run⟩ := execAcquire_sent due other may
  have counted : cntOf (bump 0x400401 1 (epochAsked t.val y s)) 0x400401 = cntOf s 0x400401 + 1 := cntOf_bump_self _ (by decide)
  have req := (reqOf_of_fabric (sendPacket_fabric p (bump 0x400401 1 (epochAsked t.val y s))) s.fabric.nextReq).trans
    (reqOf_addReq_self _ (regionDropped y s))
  exact ⟨_, run, fenceAt_modFence (fun _ => rfl) ((fenceAt_of_tiles (sendPacket_tiles p _) _ _).trans due.fence),
    ((sendPacket_counts p _).cnt _ (by decide) List.not_mem_nil).trans counted, _, req, rfl, rfl⟩

/-! ### The end of a Fence (R382, R383) -/

theorem execFenceComplete_ends (fence : fenceAt s t.val pos.toNat = some y)
    (ends : (y.op = 0 ∧ fenceClear s t.val y = true) ∨ (y.op ≠ 0 ∧ y.answered = true)) :
    execFenceComplete t pos s = .next (endFence t.val y false s) := by
  rw [execFenceComplete, fence]
  exact congrArg Host.Outcome.next (if_pos ends)

theorem execFenceComplete_waits (fence : fenceAt s t.val pos.toNat = some y) (op : y.op ≠ 0) (waits : y.answered = false) :
    execFenceComplete t pos s = .next s := by
  simp only [execFenceComplete, fence, op, waits, Bool.false_eq_true, false_and, and_false, or_self, if_false]

/-- The status of a Fence that was not interrupted (R382). -/
def fenceStatus (y : FenceRun) : List Byte :=
  leBytes 4 (y.undelivered % 2 ^ 31) ++ leBytes 4 (if y.op = 0 then 0 else y.epoch.toNat)

theorem fence_completes (st : (tileOf s t.val).st ≠ 0) (fence : fenceAt s t.val pos.toNat = some y) (told : y.status ≠ 0xFFFFFFFF)
    (ends : (y.op = 0 ∧ fenceClear s t.val y = true) ∨ (y.op ≠ 0 ∧ y.answered = true)) :
    Gives (.fenceComplete t pos) s (fun u => bufBytes u t.val y.status 8 = fenceStatus y ∧
      ∀ b ∈ (tileOf u t.val).board, b.pos ≠ y.pos) := by
  have run := execFenceComplete_ends fence ends
  rw [endFence, if_neg told] at run
  have written := complete_written (s := s) (t := t.val)
    (g := fun x => { x with fences := x.fences.filter (fun z => decide (z.pos ≠ y.pos)) }) (fun _ => ⟨rfl, rfl⟩) st y.status y.pos
    (fenceStatus y)
  have eight : (fenceStatus y).length = 8 := by simp [fenceStatus, leBytes_length]
  rw [eight] at written
  exact ⟨_, run, written⟩

end

end

end Sys2Proof.Laws

/-!
PROOF. Transfers (R362, R376 to R378): their issue to another package, from another package, within the package and refused, and their
end.
-/

namespace Sys2Proof.Laws

set_option Elab.async false

open Machine

/-! ### What becomes of a Transfer of a running tile -/

/-- Tile `t` runs, its next entry is at position `p`, and among its Transfers is one with the property. -/
structure Flies (t p : Nat) (X : Xfer → Prop) (y : State) : Prop where
  st : (tileOf y t).st ≠ 0
  pos : (tileOf y t).pos = p
  xfer : ∃ x ∈ (tileOf y t).xfers, X x

section

variable {t p tag : Nat} {X Y : Xfer → Prop} {y z : State}

namespace Flies

theorem mono (h : Flies t p X y) (weaker : ∀ x, X x → Y x) : Flies t p Y y := by
  obtain ⟨x, mem, holds⟩ := h.xfer
  exact ⟨h.st, h.pos, x, mem, weaker x holds⟩

theorem tiles (h : Flies t p X y) (same : z.tiles = y.tiles) : Flies t p X z := by
  have tile := tileOf_of_tiles same t
  exact ⟨by rw [tile]; exact h.st, by rw [tile]; exact h.pos, by rw [tile]; exact h.xfer⟩

theorem modTile {g : Tile → Tile} (h : Flies t p X y) (same : ∀ x, (g x).st = x.st ∧ (g x).pos = x.pos)
    (kept : ∀ l, (∃ x ∈ l.xfers, X x) → ∃ x ∈ (g l).xfers, Y x) : Flies t p Y (modTile t g y) := by
  obtain ⟨hst, hpos⟩ := same (tileOf y t)
  have tile := tileOf_modTile_self t g y (tile_ne_default (by rw [hst]; exact h.st))
  exact ⟨by rw [tile, hst]; exact h.st, by rw [tile, hpos]; exact h.pos, by rw [tile]; exact kept _ h.xfer⟩

theorem modXfer {f : Xfer → Xfer} (h : Flies t p X y) (step : ∀ x, X x → x.tag = tag ∧ Y (f x)) :
    Flies t p Y (modXfer t tag f y) := by
  refine h.modTile (fun _ => ⟨rfl, rfl⟩) fun l ⟨x, mem, holds⟩ => ?_
  obtain ⟨named, changed⟩ := step x holds
  exact ⟨f x, List.mem_map.mpr ⟨x, mem, if_pos named⟩, changed⟩

/-- The entry has issued. -/
theorem issued {e : Entry} (h : Flies t p X y) : (tileOf (issued t e y) t).pos = p + 1 ∧
    ∃ x ∈ (tileOf (Machine.issued t e y) t).xfers, X x := by
  obtain ⟨pos, xfers, -⟩ := issued_tile e h.st
  exact ⟨by rw [pos, h.pos], by rw [xfers]; exact h.xfer⟩

end Flies

end

/-! ### The requests of a Transfer (R376, R377, R383) -/

section

variable {t p tag dest k r : Nat} {X : Xfer → Prop} {d : XferD} {pull : Bool} {y : State} {q : Req}

theorem addPiece_flies (h : Flies t p X y) : Flies t p X (addPiece t tag d pull k dest y) := by
  cases pull
  · have token : Flies t p X (tokenIssue t dest y).2 :=
      (h.modTile (g := tokened dest) (fun _ => ⟨rfl, rfl⟩) fun _ => id).tiles (tokenIssue_tiles t dest y)
    exact token.tiles rfl
  · exact h.tiles rfl

/-- What the request of a Transfer's piece asks for: a push's with the write token `tok`. -/
structure AsksPiece (pull : Bool) (tag k dest tok : Nat) (q : Req) : Prop where
  kind : q.kind = if pull then .pull else .piece
  unit : q.unit = tag
  piece : q.piece = k
  dest : q.dest = BitVec.ofNat 14 dest
  token : q.token = if pull then none else some tok

/-- Request `r` has been made and stands as it was made. -/
structure Made (r : Nat) (q : Req) (y : State) : Prop where
  req : reqOf y r = some q
  older : r < y.fabric.nextReq

theorem Made.fabric {z : State} (h : Made r q y) (same : z.fabric = y.fabric) : Made r q z :=
  ⟨(reqOf_of_fabric same r).trans h.req, by rw [same]; exact h.older⟩

theorem Made.addReq {n : Req} (h : Made r q y) : Made r q (addReq n y).2 :=
  ⟨(reqOf_addReq_older n h.older).trans h.req, Nat.lt_succ_of_lt h.older⟩

theorem addPiece_keeps_made (h : Made r q y) : Made r q (addPiece t tag d pull k dest y) := by
  cases pull
  · exact Made.addReq (y := (tokenIssue t dest y).2) (h.fabric rfl)
  · exact Made.addReq h

theorem addPiece_makes (t tag k dest : Nat) (d : XferD) (pull : Bool) (y : State) :
    ∃ q, AsksPiece pull tag k dest (tileOf y t).nextOrd q ∧ Made y.fabric.nextReq q (addPiece t tag d pull k dest y) := by
  cases pull
  · exact ⟨_, ⟨rfl, rfl, rfl, rfl, rfl⟩, reqOf_addReq_self _ (tokenIssue t dest y).2, Nat.lt_succ_self _⟩
  · exact ⟨_, ⟨rfl, rfl, rfl, rfl, rfl⟩, reqOf_addReq_self _ y, Nat.lt_succ_self _⟩

/-- The requests of all the pieces of a Transfer, in order. -/
def piecesAsked (t tag dest : Nat) (d : XferD) (pull : Bool) (s : State) : State :=
  forEach (List.range (xferPieces d)) (fun p => addPiece t tag d pull p dest) s

theorem piecesAsked_flies (h : Flies t p X y) : Flies t p X (piecesAsked t tag dest d pull y) :=
  forEach_keeps h fun _ _ => addPiece_flies

/-- The first piece's request is the first that is made, and those of the later pieces leave it. -/
theorem piecesAsked_first (t tag dest : Nat) (pull : Bool) (y : State) (some_ : 1 ≤ xferPieces d) :
    ∃ q, AsksPiece pull tag 0 dest (tileOf y t).nextOrd q ∧ Made y.fabric.nextReq q (piecesAsked t tag dest d pull y) := by
  obtain ⟨n, pieces⟩ := Nat.exists_eq_succ_of_ne_zero (Nat.one_le_iff_ne_zero.mp some_)
  obtain ⟨q, asks, made⟩ := addPiece_makes t tag 0 dest d pull y
  refine ⟨q, asks, ?_⟩
  rw [piecesAsked, pieces, List.range_succ_eq_map]
  exact forEach_keeps (x := addPiece t tag d pull 0 dest y) made fun _ _ => addPiece_keeps_made

end

/-! ### Its data (R376) -/

section

variable {s : State} {t p tag : Nat} {X : Xfer → Prop}

theorem sendChunk_parts (t tag : Nat) (a : Access) (d : XferD) (c : Chunk) (s : State) :
    Acts 11413827797 s (sendChunk t tag a d sendPacket c s) :=
  sendChunk_acts (Sub.refl _) (.refl s) fun _ _ h => sendPacket_acts ((Sub.refl _).mono (by decide)) h

/-- The Transfer data packets of a push. -/
def dataSent (t tag : Nat) (a : Access) (d : XferD) (s : State) : State :=
  forEach (chunksOf d 220) (sendChunk t tag a d sendPacket) s

theorem dataSent_acts (t tag : Nat) (a : Access) (d : XferD) (s : State) : Acts 11413827797 s (dataSent t tag a d s) :=
  forEach_acts (.refl s) fun c y h => h.trans (sendChunk_parts t tag a d c y)

/-- The Transfer reads of a pull. -/
def readsSent (t tag : Nat) (d : XferD) (s : State) : State :=
  forEach (chunksOf d 220) (fun c y => sendPacket { xferPacket y t tag d 8 c.piece with
    addr := BitVec.ofNat 64 (chunkSrc d c), len := c.len, aux := BitVec.ofNat 64 (chunkDst d c) } y) s

theorem readsSent_acts (t tag : Nat) (d : XferD) (s : State) : Acts 11413762261 s (readsSent t tag d s) :=
  forEach_acts (.refl s) fun _ _ h => sendPacket_acts (Sub.refl _) h

/-! ### The copy of a Transfer within the package (R376, R377) -/

/-- The Transfer of tag `tag` within the package that issued at position `p`, with the pieces of `D` done or failed. -/
structure Copies (p tag : Nat) (D : Nat → Prop) (x : Xfer) : Prop where
  pos : x.pos = p
  tag : x.tag = tag
  way : x.way = 2
  settled : ∀ k, D k → (mget {} x.pieces k).done = true ∨ (mget {} x.pieces k).failed = true

theorem failPiece_copies {k code : Nat} (h : Flies t p (Copies p tag fun _ => False) s) :
    Flies t p (Copies p tag fun _ => False) (failPiece t tag k code s) :=
  h.modXfer fun _ c => ⟨c.tag, c.pos, c.tag, c.way, fun _ no => no.elim⟩

theorem copyChunk_copies {a : Access} {d : XferD} {c : Chunk} (h : Flies t p (Copies p tag fun _ => False) s) :
    Flies t p (Copies p tag fun _ => False) (copyChunk t tag a d c s) := by
  unfold copyChunk
  extract_lets src dst
  split
  next data bad read e =>
  split
  next code put e' =>
  have hread : Acts 11413827797 s read := .pair2 e (readLocal_acts (Sub.refl _) (.refl s))
  have hput : Acts 11447677141 read put := .pair e' (putLocal_acts (Sub.refl _) (.refl read))
  have held := (h.tiles (hread.part .tiles)).tiles (hput.part .tiles)
  split
  · exact held
  · exact failPiece_copies held

/-- The marking of a piece as done. -/
def donePiece (y : Piece) : Piece := if y.failed then y else { y with done := true }

theorem donePiece_settled (y : Piece) : (donePiece y).done = true ∨ (donePiece y).failed = true := by
  unfold donePiece
  split
  next failed => exact .inr failed
  next => exact .inl rfl

theorem pieceDone_copies {D : Nat → Prop} {k : Nat} (h : Flies t p (Copies p tag D) s) :
    Flies t p (Copies p tag fun j => D j ∨ j = k) (pieceDone t tag k s) := by
  refine Flies.tiles (y := modXfer t tag (fun x => { x with pieces := mmod {} x.pieces k donePiece }) s)
    (h.modXfer fun x c => ⟨c.tag, c.pos, c.tag, c.way, fun j settled => ?_⟩) rfl
  by_cases here : j = k
  · subst here
    have settles := donePiece_settled (mget {} x.pieces j)
    have reads : mget {} (mmod {} x.pieces j donePiece) j = donePiece (mget {} x.pieces j) :=
      mget_mmod_self fun e => by simp [e] at settles
    rw [reads]
    exact settles
  · rw [mget_mmod_other here]
    exact c.settled j (settled.resolve_right here)

theorem forEach_pieceDone_copies {D : Nat → Prop} {l : List Nat} (h : Flies t p (Copies p tag D) s) :
    Flies t p (Copies p tag fun j => D j ∨ j ∈ l) (forEach l (pieceDone t tag) s) := by
  induction l generalizing D s with
  | nil => exact h.mono fun x c => ⟨c.pos, c.tag, c.way, fun j d => c.settled j (d.resolve_right List.not_mem_nil)⟩
  | cons k l ih =>
    exact (ih (pieceDone_copies (k := k) h)).mono fun x c =>
      ⟨c.pos, c.tag, c.way, fun j d => c.settled j (or_assoc.mpr (d.imp_right List.mem_cons.mp))⟩

/-- The copy of a Transfer's bytes, and the marking of its pieces. -/
def copied (t tag : Nat) (a : Access) (d : XferD) (s : State) : State :=
  forEach (List.range (xferPieces d)) (pieceDone t tag) (forEach (chunksOf d 220) (copyChunk t tag a d) s)

theorem copied_settles {a : Access} {d : XferD} (h : Flies t p (Copies p tag fun _ => False) s) :
    Flies t p (Copies p tag (· < xferPieces d)) (copied t tag a d s) :=
  (forEach_pieceDone_copies (forEach_keeps h fun _ _ => copyChunk_copies)).mono fun _ c =>
    ⟨c.pos, c.tag, c.way, fun j below => c.settled j (.inr (List.mem_range.mpr below))⟩

theorem copied_acts (t tag : Nat) (a : Access) (d : XferD) (s : State) : Acts 11447808213 s (copied t tag a d s) :=
  forEach_acts (forEach_acts (.refl s) fun _ _ h => copyChunk_acts (Sub.refl _) h) fun _ _ h =>
    pieceDone_acts ((Sub.refl _).mono (by decide)) h

end

/-! ### Issue (R362, R376) -/

/-- The Transfer of a descriptor, by the way it goes: 0 a push, 1 a pull, 2 within the package, 3 refused. -/
def xferIssued (s : State) (t : Nat) (d : XferD) (way : Nat) : Xfer :=
  { pos := (tileOf s t).pos, tag := s.fabric.nextTag % 65536, way := way, bytes := xferBytes d, pshift := d.pshift
    status := d.status, pieces := [], need := 1, code := if way = 3 then 0x6010 else 0 }

/-- The Transfer has its tag and is listed. -/
def xferListed (t : Nat) (d : XferD) (way : Nat) (s : State) : State :=
  modTile t (fun y => { y with xfers := y.xfers ++ [xferIssued s t d way] })
    { s with fabric := { s.fabric with nextTag := s.fabric.nextTag + 1 } }

/-- A Transfer entry that is no phase can issue. -/
structure XferTaken (s : State) (t : TileNo) (e : Entry) (d : XferD) (l : LineReads) : Prop where
  entry : issuable s t.val 5 = some e
  room : (tileOf s t.val).xfers.length < 4
  desc : xferDesc (descBytes s e 64) = d
  free : xferFree s (ownAccess t.val d.prio l) d = true
  unicast : d.phase = false

section

variable {s : State} {t : TileNo} {e : Entry} {d : XferD} {l : LineReads}

theorem XferTaken.st (h : XferTaken s t e d l) : (tileOf s t.val).st ≠ 0 := by rw [st_of_issuable h.entry]; decide

theorem XferTaken.listed (h : XferTaken s t e d l) (way : Nat) : tileOf (xferListed t.val d way s) t.val =
    { tileOf s t.val with xfers := (tileOf s t.val).xfers ++ [xferIssued s t.val d way] } :=
  tileOf_modTile_self t.val _ _ (tile_ne_default (x := { tileOf s t.val with xfers := _ }) h.st)

theorem XferTaken.flies (h : XferTaken s t e d l) (way : Nat) :
    Flies t.val (tileOf s t.val).pos (· = xferIssued s t.val d way) (xferListed t.val d way s) := by
  have tile := h.listed way
  exact ⟨by rw [tile]; exact h.st, by rw [tile], by rw [tile]; exact ⟨_, List.mem_append_right _ (List.mem_singleton_self _), rfl⟩⟩

/-- The way of a Transfer that is no phase (R376). -/
def wayOf (s : State) (d : XferD) : Nat := if gaKey d.dst ≠ ownKey s then 0 else if gaKey d.src ≠ ownKey s then 1 else 2

theorem wayOf_cases (s : State) (d : XferD) : wayOf s d = 0 ∨ wayOf s d = 1 ∨ wayOf s d = 2 := by
  unfold wayOf
  split
  · exact .inl rfl
  · split
    · exact .inr (.inl rfl)
    · exact .inr (.inr rfl)

/-- The coordinate whose rights a Transfer needs, by its way: that of a pull's source, and else that of its target. -/
def xferKey (d : XferD) (way : Nat) : Nat := if way = 1 then gaKey d.src else gaKey d.dst

/-- What a Transfer that may be made does at its issue, by its way. -/
def xferMade (t : Nat) (a : Access) (d : XferD) (s : State) : Nat → State
  | 0 => dataSent t (s.fabric.nextTag % 65536) a d
    (piecesAsked t (s.fabric.nextTag % 65536) (gaKey d.dst) d false (xferListed t d 0 s))
  | 1 => readsSent t (s.fabric.nextTag % 65536) d
    (piecesAsked t (s.fabric.nextTag % 65536) (gaKey d.src) d true (xferListed t d 1 s))
  | _ => copied t (s.fabric.nextTag % 65536) a d (xferListed t d 2 s)

/-- The Transfer is refused at its sender (R362). -/
def xferRefused (t : Nat) (d : XferD) (s : State) : State := refuseRequest t d.dst (xferListed t d 3 s)

/-- A Transfer is made or refused by the rights to the coordinate that it names. -/
theorem execTransfer_taken (h : XferTaken s t e d l) {way : Nat} {may : Bool} (goes : wayOf s d = way)
    (rights : xferRights s d (decide (way = 1)) (xferKey d way) = may) : execTransfer t l s = .next (issued t.val e
      (if may = false then xferRefused t.val d s else xferMade t.val (ownAccess t.val d.prio l) d s way)) := by
  obtain ⟨entry, room, rfl, free, unicast⟩ := h
  have ways := wayOf_cases s (xferDesc (descBytes s e 64))
  rw [goes] at ways
  rw [wayOf] at goes
  simp only [execTransfer, entry, unicast, free, Nat.not_le.mpr room, Bool.false_eq_true, Bool.true_eq_false, or_self, if_false, goes]
  obtain rfl | rfl | rfl := ways
  all_goals
    simp only [xferKey, Nat.zero_ne_one, OfNat.ofNat_ne_one, decide_true, decide_false, if_true, if_false] at rights ⊢
    simp only [List.all_cons, List.all_nil, Bool.and_true, rights]
    cases may
    · simp only [Bool.false_eq_true, if_true, if_false]
      rfl
    · simp only [Bool.true_eq_false, if_true, if_false]
      rfl

theorem wayOf_push (far : gaKey d.dst ≠ ownKey s) : wayOf s d = 0 := if_pos far

theorem wayOf_pull (own : gaKey d.dst = ownKey s) (far : gaKey d.src ≠ ownKey s) : wayOf s d = 1 :=
  (if_neg (not_not.mpr own)).trans (if_pos far)

theorem wayOf_within (own : gaKey d.dst = ownKey s) (near : gaKey d.src = ownKey s) : wayOf s d = 2 :=
  (if_neg (not_not.mpr own)).trans (if_neg (not_not.mpr near))

/-- What a Transfer to or from another package has made when its entry has issued: the Transfer, and the request of its first piece. -/
structure Requests (s : State) (t : TileNo) (d : XferD) (pull : Bool) (dest : Nat) (u : State) : Prop where
  pos : (tileOf u t.val).pos = (tileOf s t.val).pos + 1
  listed : xferIssued s t.val d (if pull then 1 else 0) ∈ (tileOf u t.val).xfers
  asks : ∃ q, reqOf u s.fabric.nextReq = some q ∧
    AsksPiece pull (s.fabric.nextTag % 65536) 0 dest (tileOf s t.val).nextOrd q

/-- Packets that leave the tiles and the fabric leave what has been asked for. -/
theorem XferTaken.requests (h : XferTaken s t e d l) (pull : Bool) (dest : Nat) (some_ : 1 ≤ xferPieces d) {x : State}
    (tiles : x.tiles = (piecesAsked t.val (s.fabric.nextTag % 65536) dest d pull
      (xferListed t.val d (if pull then 1 else 0) s)).tiles)
    (fabric : x.fabric = (piecesAsked t.val (s.fabric.nextTag % 65536) dest d pull
      (xferListed t.val d (if pull then 1 else 0) s)).fabric) : Requests s t d pull dest (issued t.val e x) := by
  obtain ⟨pos, y, mem, rfl⟩ := ((piecesAsked_flies (h.flies (if pull then 1 else 0))).tiles tiles).issued (e := e)
  obtain ⟨q, asks, made⟩ := piecesAsked_first t.val (s.fabric.nextTag % 65536) dest pull
    (xferListed t.val d (if pull then 1 else 0) s) some_
  rw [h.listed] at asks
  have issues : (issued t.val e x).fabric = x.fabric := (issued_acts (Sub.refl _) (.refl x)).part .fabric
  exact ⟨pos, mem, q, ((made.fabric fabric).fabric issues).req, asks⟩

theorem transfer_pushes (h : XferTaken s t e d l) (far : gaKey d.dst ≠ ownKey s) (some_ : 1 ≤ xferPieces d)
    (may : xferRights s d false (gaKey d.dst) = true) : Gives (.transfer t l) s (Requests s t d false (gaKey d.dst)) := by
  have acts := dataSent_acts t.val (s.fabric.nextTag % 65536) (ownAccess t.val d.prio l) d
    (piecesAsked t.val (s.fabric.nextTag % 65536) (gaKey d.dst) d false (xferListed t.val d 0 s))
  exact ⟨_, execTransfer_taken h (wayOf_push far) may, h.requests false _ some_ (acts.part .tiles) (acts.part .fabric)⟩

theorem transfer_pulls (h : XferTaken s t e d l) (own : gaKey d.dst = ownKey s) (far : gaKey d.src ≠ ownKey s)
    (some_ : 1 ≤ xferPieces d) (may : xferRights s d true (gaKey d.src) = true) :
    Gives (.transfer t l) s (Requests s t d true (gaKey d.src)) := by
  have acts := readsSent_acts t.val (s.fabric.nextTag % 65536) d
    (piecesAsked t.val (s.fabric.nextTag % 65536) (gaKey d.src) d true (xferListed t.val d 1 s))
  exact ⟨_, execTransfer_taken h (wayOf_pull own far) may, h.requests true _ some_ (acts.part .tiles) (acts.part .fabric)⟩

/-- A Transfer within the package is copied at once: it makes no request, and each of its pieces is done or has failed. -/
theorem transfer_copies (h : XferTaken s t e d l) (own : gaKey d.dst = ownKey s) (near : gaKey d.src = ownKey s)
    (may : xferRights s d false (ownKey s) = true) : Gives (.transfer t l) s (fun u =>
      (tileOf u t.val).pos = (tileOf s t.val).pos + 1 ∧ u.fabric.reqs = s.fabric.reqs ∧ ∃ x ∈ (tileOf u t.val).xfers,
        Copies (tileOf s t.val).pos (s.fabric.nextTag % 65536) (· < xferPieces d) x) := by
  have listed : Flies t.val (tileOf s t.val).pos (Copies (tileOf s t.val).pos (s.fabric.nextTag % 65536) fun _ => False)
      (xferListed t.val d 2 s) := (h.flies 2).mono fun _ same => same ▸ ⟨rfl, rfl, rfl, fun _ no => no.elim⟩
  obtain ⟨pos, xfer⟩ := (copied_settles (a := ownAccess t.val d.prio l) (d := d) listed).issued (e := e)
  have fabric : (issued t.val e (copied t.val (s.fabric.nextTag % 65536) (ownAccess t.val d.prio l) d
      (xferListed t.val d 2 s))).fabric = (xferListed t.val d 2 s).fabric :=
    (issued_acts ((Sub.refl _).mono (by decide)) (copied_acts ..)).part .fabric
  exact ⟨_, execTransfer_taken h (wayOf_within own near) ((congrArg (xferRights s d false) own).trans may), pos,
    (congrArg Fabric.reqs fabric).trans rfl, xfer⟩

/-- A refused Transfer takes its place on the board, raises 0x6010 and makes no request. -/
theorem XferTaken.refused (h : XferTaken s t e d l) {way : Nat} (goes : wayOf s d = way)
    (barred : xferRights s d (decide (way = 1)) (xferKey d way) = false) :
    Gives (.transfer t l) s (fun u => (tileOf u t.val).pos = (tileOf s t.val).pos + 1 ∧ Raised 0x6010 s u ∧
      cntOf u 0x400407 = cntOf s 0x400407 + 1 ∧ u.fabric.reqs = s.fabric.reqs) := by
  have refusal : Acts 11413762261 (xferListed t.val d 3 s) (xferRefused t.val d s) := refuseRequest_acts (Sub.refl _) (.refl _)
  obtain ⟨pos, -⟩ := ((h.flies 3).tiles (refusal.part .tiles)).issued (e := e)
  obtain ⟨raised, counted⟩ := refuseRequest_spec t.val d.dst (xferListed t.val d 3 s)
  have quiet := issued_counts t.val e (xferRefused t.val d s)
  have fabric : (issued t.val e (xferRefused t.val d s)).fabric = (xferListed t.val d 3 s).fabric :=
    (issued_acts (Sub.refl _) (refuseRequest_acts ((Sub.refl _).mono (by decide)) (.refl _))).part .fabric
  exact ⟨_, execTransfer_taken h goes barred, pos, Raised.later (Raised.of_health rfl raised) quiet,
    (quiet.cnt _ (by decide) List.not_mem_nil).trans counted, (congrArg Fabric.reqs fabric).trans rfl⟩

/-! ### The end of a Transfer (R378) -/

section

variable {pos : BitVec 12} {x : Xfer}

/-- The pieces of a Transfer (R377). -/
def pieceCount (x : Xfer) : Nat := ceilDiv x.bytes (2 ^ x.pshift)

/-- The status of a Transfer that ends with `result` (R378). -/
def xferStatus (x : Xfer) (result : Nat) : List Byte :=
  leBytes 8 (doneMap x) ++ leBytes 1 result ++ leBytes 1 0 ++ leBytes 2 x.code.toNat ++ leBytes 4 0

/-- The Transfer that issued at a position of tile `t`, and was not refused. -/
structure XferAt (s : State) (t : TileNo) (pos : BitVec 12) (x : Xfer) : Prop where
  found : (tileOf s t.val).xfers.find? (fun y => decide (y.pos = pos.toNat)) = some x
  way : x.way ≠ 3

theorem execTransferComplete_final (h : XferAt s t pos x)
    (final : ∀ k < pieceCount x, (mget {} x.pieces k).done = true ∨ (mget {} x.pieces k).failed = true) :
    execTransferComplete t pos s = .next (endXfer t.val x
      (if (List.range (pieceCount x)).all (fun k => (mget {} x.pieces k).done) then 0 else 1) s) := by
  have all : (List.range (ceilDiv x.bytes (2 ^ x.pshift))).all
      (fun k => (mget {} x.pieces k).done || (mget {} x.pieces k).failed) = true := by
    simpa [pieceCount] using final
  simp only [execTransferComplete, h.found, h.way, all, if_false, if_true]
  rfl

theorem execTransferComplete_waits (h : XferAt s t pos x) {k : Nat} (below : k < pieceCount x)
    (undone : (mget {} x.pieces k).done = false) (flying : (mget {} x.pieces k).failed = false) :
    execTransferComplete t pos s = .next s := by
  have all : (List.range (ceilDiv x.bytes (2 ^ x.pshift))).all
      (fun k => (mget {} x.pieces k).done || (mget {} x.pieces k).failed) = false :=
    List.all_eq_false.mpr ⟨k, List.mem_range.mpr below, by simp [undone, flying]⟩
  simp only [execTransferComplete, h.found, h.way, all, Bool.false_eq_true, if_false]

/-- The end of a Transfer writes its status and frees its entry's slot. -/
theorem endXfer_written (st : (tileOf s t.val).st ≠ 0) (x : Xfer) (result : Nat) :
    bufBytes (endXfer t.val x result s) t.val x.status 16 = xferStatus x result ∧
      ∀ b ∈ (tileOf (endXfer t.val x result s) t.val).board, b.pos ≠ x.pos := by
  have written := complete_written (s := s) (t := t.val)
    (g := fun y => { y with xfers := y.xfers.filter (fun z => decide (z.tag ≠ x.tag)) }) (fun _ => ⟨rfl, rfl⟩) st x.status x.pos
    (xferStatus x result)
  have sixteen : (xferStatus x result).length = 16 := by simp [xferStatus, leBytes_length]
  rw [sixteen] at written
  exact written

theorem transferComplete_done (st : (tileOf s t.val).st ≠ 0) (h : XferAt s t pos x)
    (done : ∀ k < pieceCount x, (mget {} x.pieces k).done = true) : Gives (.transferComplete t pos) s (fun u =>
      bufBytes u t.val x.status 16 = xferStatus x 0 ∧ ∀ b ∈ (tileOf u t.val).board, b.pos ≠ x.pos) := by
  have run := execTransferComplete_final h fun k below => .inl (done k below)
  rw [if_pos (by simpa using done)] at run
  exact ⟨_, run, endXfer_written st x 0⟩

theorem transferComplete_failed (st : (tileOf s t.val).st ≠ 0) (h : XferAt s t pos x) {k : Nat} (below : k < pieceCount x)
    (undone : (mget {} x.pieces k).done = false)
    (final : ∀ j < pieceCount x, (mget {} x.pieces j).done = true ∨ (mget {} x.pieces j).failed = true) :
    Gives (.transferComplete t pos) s (fun u => bufBytes u t.val x.status 16 = xferStatus x 1) := by
  have run := execTransferComplete_final h final
  rw [if_neg (by simpa using ⟨k, below, undone⟩)] at run
  obtain ⟨status, -⟩ := endXfer_written st x 1
  exact ⟨_, run, status⟩

end

end

end Sys2Proof.Laws

/-!
PROOF. Transfers and Fences issue and complete (R362, R372, R373, R376 to R378, R382, R383).
-/

namespace Sys2Proof.Laws

set_option Elab.async false

open Machine

/-- Settles O51: a Transfer by the way it goes, a Fence from its issue by its release or acquire to its end, and a Transfer's end by what
has become of its pieces. -/
theorem transfersAndFencesIssueAndComplete : Obligations.TransfersAndFencesIssueAndComplete := by
  intro s t e pos
  refine ⟨?transfer, ?fence, ?runs, ?ends⟩
  case transfer =>
    intro entry room d l desc free unicast
    have h : XferTaken s t e d l := ⟨entry, room, desc, free, unicast⟩
    refine ⟨fun far some_ may => ?push, fun own far some_ may => ?pull, fun own near may => ?within,
      fun far barred => h.refused (wayOf_push far) barred,
      fun own far barred => h.refused (wayOf_pull own far) barred⟩
    case push =>
      obtain ⟨u, run, pos, listed, q, req, asks⟩ := transfer_pushes h far some_ may
      exact ⟨u, run, pos, ⟨_, listed, rfl, rfl, rfl, rfl, rfl⟩, q, req, asks.kind, asks.unit, asks.piece, asks.dest, asks.token⟩
    case pull =>
      obtain ⟨u, run, pos, listed, q, req, asks⟩ := transfer_pulls h own far some_ may
      exact ⟨u, run, pos, ⟨_, listed, rfl, rfl, rfl, rfl, rfl⟩, q, req, asks.kind, asks.unit, asks.piece, asks.dest, asks.token⟩
    case within =>
      obtain ⟨u, run, pos, reqs, x, mem, copies⟩ := transfer_copies h own near may
      exact ⟨u, run, pos, reqs, x, mem, copies.pos, copies.way, copies.settled⟩
  case fence =>
    intro entry
    obtain ⟨u, run, pos, listed⟩ := fence_issues entry
    exact ⟨u, run, pos, _, listed, rfl, rfl, rfl, rfl, rfl⟩
  case runs =>
    intro st y fence
    have alive : (tileOf s t.val).st ≠ 0 := by rw [st]; decide
    refine ⟨fun op unsent clear => ?release, fun op unsent own => ?home,
      fun op unsent other may => acquire_sent ⟨fence, op, unsent⟩ other may, fun told op clear => ?waited, fun told op answered => ?answered,
      fun op waits => ⟨s, execFenceComplete_waits fence op waits, rfl⟩⟩
    case release =>
      have due : ReleaseDue s t pos y := ⟨fence, op, unsent, clear⟩
      exact ⟨release_home due, release_sent due, release_refused due⟩
    case home =>
      obtain ⟨u, run, marked, dropped, epochs⟩ := acquire_home ⟨fence, op, unsent⟩ own
      refine ⟨u, run, marked, fun c mem => ?_, epochs⟩
      have outside := dropped c mem
      rw [farOfRegion, own] at outside
      simpa [and_assoc] using outside
    case waited =>
      obtain ⟨u, run, written⟩ := fence_completes alive fence told (.inl ⟨op, clear⟩)
      rw [fenceStatus, if_pos op] at written
      exact ⟨u, run, written⟩
    case answered =>
      obtain ⟨u, run, written⟩ := fence_completes alive fence told (.inr ⟨op, answered⟩)
      rw [fenceStatus, if_neg op] at written
      exact ⟨u, run, written⟩
  case ends =>
    intro st x found way
    have alive : (tileOf s t.val).st ≠ 0 := by rw [st]; decide
    have h : XferAt s t pos x := ⟨found, way⟩
    exact ⟨transferComplete_done alive h,
      fun k below undone flying => ⟨s, execTransferComplete_waits h below undone flying, rfl⟩,
      fun k below undone final => transferComplete_failed alive h below undone final⟩

end Sys2Proof.Laws
